-- ==== Sys2Proof/Word.lean ====
section
/-! DEFINITION. The words of the part: bytes, 32-bit identities, check words and the lists of characters.

Page numbers, editions, counts and indexes are plain numbers in the manual and are `Nat` in the model;
where the manual wraps or saturates one, the operation that changes it says so. -/

namespace Sys2Proof

/-- One byte of a record, a raster or a text. -/
abbrev Byte := BitVec 8

/-- A 32-bit value the part only compares and carries: a portrait id, a plan identity (R2, R7). -/
abbrev Id32 := BitVec 32

/-- A text field: one byte a character (R8). -/
abbrev Text := List Byte

/-- The present set: bit s stands for station s (R24, R179). -/
abbrev StationSet := BitVec 16

/-- A timer: stopped, or running and last started at so many milliseconds. The count-down itself is left
out of the model; running out is a command. -/
abbrev Timer := Option Nat

end Sys2Proof
end

