-- ==== Sys2Proof/Config.lean ====
section
/-! DEFINITION. The numbers the manual fixes for every NC416: capacities, limits and intervals; and the one value
it states nowhere. -/

namespace Sys2Proof.Config

/-- R14: the capacities of the four plan tables. -/
abbrev templateCap : Nat := 16
abbrev sectionCap : Nat := 128
abbrev pageCap : Nat := 1024
abbrev subjectCap : Nat := 4096
/-- R14: where a received count and the out-of-order position saturate. -/
abbrev receivedMax : Nat := 4097
abbrev positionMax : Nat := 4095

/-- R4, R116: lines in a band. -/
abbrev bandLines : Nat := 64

/-- R22: the lapse count at which a page fails, and where the reprint count saturates. -/
abbrev lapseLimit : Nat := 3
abbrev reprintMax : Nat := 15

/-- R49, R56: records of the Amendment Store, batches and records of the Launch Queue. -/
abbrev poolCap : Nat := 64
abbrev batchCount : Nat := 4
abbrev launchCap : Nat := 4
abbrev launchRecords : Nat := 64
/-- R54: the last edition. -/
abbrev editionMax : Nat := 65535

/-- R100: tile slots, and the size of one slot's region of the DRAM (16 MiB). -/
abbrev slotCount : Nat := 64
abbrev slotBytes : Nat := 2 ^ 24
/-- R100, R109: the largest portrait. -/
abbrev widthMax : Nat := 2048
abbrev heightMax : Nat := 2560
/-- R109: the smallest portrait edge. -/
abbrev edgeMin : Nat := 64
/-- R107: where the byte count of an answer saturates. -/
abbrev answerMax : Nat := 15728640
/-- R102, R105: entries of the fetch list, and the cap on new prefetch slots. -/
abbrev fetchCap : Nat := 8
abbrev prefetchCap : Nat := 24

/-- R115, R124: sheets outstanding, and the head timer's 30 s. -/
abbrev sheetCap : Nat := 4
abbrev headMs : Nat := 30000

/-- R136: entries of the transmit queue. -/
abbrev queueCap : Nat := 16
/-- R139: frames of a run. -/
abbrev runMax : Nat := 256
/-- R141: the count that confines a port; R144: the good frames that free it. -/
abbrev countLimit : Nat := 32
abbrev goodLimit : Nat := 128

/-- R153, R154: abandoned collections and re-asks. -/
abbrev abandonLimit : Nat := 3
abbrev reaskLimit : Nat := 3

/-- R168: the report timer's interval. -/
abbrev reportMs : Nat := 1000

/-- R170, R172, R177: the longest record, the silence interval, the outbound list. -/
abbrev recordMax : Nat := 4096
abbrev silenceMs : Nat := 100
abbrev outboundCap : Nat := 64

/-- The modulus of the cumulative counters (R115, R141, R170). -/
abbrev counterMod : Nat := 2 ^ 32

/-- Section 10.3 states the detail of a CLAIM_LOST for the phase of a work-list entry alone. For a page that is
in no entry the detail is a free value: the n-th such loss has this one, of which nothing is known (log 14). -/
opaque lostDetail : Nat → BitVec 16

end Sys2Proof.Config
end

