-- ==== Sys2Proof/Syntax.lean ====
section
/-! DEFINITION. The commands of the part: one constructor per row of spec/opcode_table.json, with the
fields the row's record, frame or event carries. Enumerations that a receiver may find out of range are
carried as the code received (R1: plan records are stored as received and judged at PLAN_END). -/

namespace Sys2Proof

/-- R2: the six values of the plan head. -/
structure PlanHead where
  identity  : Id32
  edition   : Nat
  templates : Nat
  sections  : Nat
  pages     : Nat
  subjects  : Nat
  deriving DecidableEq, Repr

/-- R3: a template as received. `facing` 0 NONE, 1 GUTTER, 2 CENTRE; `caption` 0 PER_CELL, 1 PER_ROW;
`tone` 0 on, 1 off (R181: positions in the rule's list). -/
structure Template where
  columns : Nat
  rows    : Nat
  cellW   : Nat
  cellH   : Nat
  hGutter : Nat
  vGutter : Nat
  captionH : Nat
  titleH  : Nat
  pageW   : Nat
  pageH   : Nat
  facing  : Nat
  caption : Nat
  weights : List Nat
  tone    : Nat
  deriving DecidableEq, Repr

/-- R5: a section as received. -/
structure Section where
  first   : Nat
  count   : Nat
  title   : Text
  target  : Nat
  inner   : Nat
  outer   : Nat
  ceiling : Nat
  deriving DecidableEq, Repr

/-- R6: a page record as received. `kind` 0 GRID, 1 PANEL; `slice` is the slice start place, 0 for a PANEL. -/
structure PageRec where
  number    : Nat
  kind      : Nat
  template  : Nat
  sectionIx : Nat
  slice     : Nat
  title     : Option Text
  deriving DecidableEq, Repr

/-- R7: a crop window in portrait pixels, ends exclusive. -/
structure Crop where
  x0 : Nat
  y0 : Nat
  x1 : Nat
  y1 : Nat
  deriving DecidableEq, Repr

/-- R7: a subject as received. `pose` 0 LEFT, 1 RIGHT, 2 FRONT. -/
structure Subject where
  sectionIx : Nat
  portrait  : Option Id32
  crop      : Crop
  pose      : Nat
  line1     : Text
  line2     : Option Text
  withdrawn : Bool
  deriving DecidableEq, Repr

/-- R179: the body an AMEND, an AMEND_IN and a SNAP_AMEND carry, as its bytes arrange it.
`kind` 0 RETAKE, 1 CAPTION, 2 WITHDRAW, 3 RESTORE; the payload is judged by R51. -/
structure AmendBody where
  batch   : Nat
  subject : Nat
  kind    : Nat
  payload : List Byte
  deriving DecidableEq, Repr

/-- When a frame's start bit came: since this station's last move to full part (R145), before that move, or before
its last reset (R146). The bus is not the station's state, so the command of the frame's end says it (log 40). -/
inductive FrameBegan where
  | sinceMove | beforeMove | beforeReset
  deriving DecidableEq, Repr

/-- What every hall frame carries beside its payload: the sender's station number in the arbitration
field and the HOLD mark (R131); and when it began. -/
structure FrameHdr where
  sender : Nat
  hold   : Bool
  began  : FrameBegan
  deriving DecidableEq, Repr

/-- A frame on the bus as this station read it: its bits, class to CRC-16 (true is the idle level, 1), and when it
began. -/
structure Heard where
  bits  : List Bool
  began : FrameBegan
  deriving DecidableEq, Repr

/-- R121: the engine's result for a sheet. -/
inductive EngineOutcome where
  | delivered | spoiled | withdrawn
  deriving DecidableEq, Repr

/-- The commands, in the order of spec/opcode_table.json. -/
inductive Instr where
  /-- RSTN or power-on; the station and rate straps are sampled (R147, R130). -/
  | coldReset (station rate : Nat)
  | restart
  /-- Lease interval and fetch timeout in ms, claim depth, as sent (R174). -/
  | setup (lease depth fetch : Nat)
  | planHead (head : PlanHead)
  | planTemplate (t : Template)
  | planSection (x : Section)
  | planPage (p : PageRec)
  | planSubject (j : Subject)
  | planEnd
  /-- R106. -/
  | portraitHead (tag : Nat) (portrait : Id32) (width height : Nat)
  | portraitData (tag : Nat) (raster : List Byte)
  | portraitEnd (tag : Nat) (crc : BitVec 32)
  | portraitAbsent (tag : Nat) (portrait : Id32)
  | amendIn (body : AmendBody)
  | launchIn (batch : Nat)
  | dropIn (batch : Nat)
  | faultAck (serial : Nat)
  | statusAsk (request : Nat)
  /-- The bytes on the library link, taken one by one by the parser of R171. -/
  | badInboundRecord (bytes : List Byte)
  /-- A record with a good check whose kind is an outbound one (R173). -/
  | outboundKindRecord (kind : Nat)
  | silenceTimerExpiry
  | outboundRecordSent
  /-- The station sends its start bit; `others` are the arbitration values of the stations that send
  theirs in the same bit time (R132). -/
  | frameStart (others : List Nat)
  | runNextFrame (others : List Nat)
  /-- A frame whose veto slot read driven; `x` is another station's frame as this station read it. -/
  | frameVetoed (x : Heard)
  | runIdleEnd
  | claim (h : FrameHdr) (page claimant : Nat)
  | renew (h : FrameHdr) (page : Nat)
  | lapse (h : FrameHdr) (page holder mark : Nat)
  | done (h : FrameHdr) (page edition : Nat)
  | release (h : FrameHdr) (page : Nat)
  | fail (h : FrameHdr) (page cause : Nat)
  | join (h : FrameHdr) (station : Nat) (identity : Id32)
  | leave (h : FrameHdr) (station : Nat)
  | amend (h : FrameHdr) (body : AmendBody)
  | launch (h : FrameHdr) (batch : Nat)
  | drop (h : FrameHdr) (batch : Nat)
  | ask (h : FrameHdr) (identity : Id32)
  | snapHead (h : FrameHdr) (requester responder : Nat) (identity : Id32)
      (pages lastLaunched : Nat) (present : StationSet) (batchStates records : Nat)
  /-- `entries` are the page entries, 7 bytes each (R180). -/
  | snapPages (h : FrameHdr) (requester index : Nat) (entries : List Byte)
  | snapAmend (h : FrameHdr) (requester index : Nat) (body : AmendBody)
  | syncTimerExpiry
  | portEntersSilent
  /-- A frame read by a SILENT port: its bits, and whether another station vetoed it (R144). -/
  | silentFrameRead (bits : List Bool) (vetoed : Bool)
  | portLeavesSilent
  | queuePlaceGranted
  | leaseExpiry (page : Nat)
  | renewalDue (page : Nat)
  | boundary
  | trainPacketSent
  | pageOpenSent
  | pageMetaSent
  | titleSent
  | bandSent
  | captionSent
  | pageCloseSent
  | cutCarriedOut
  | fetchWantRequest
  | prefetchWalk
  | fetchTimerExpiry
  | outcomeRecord (page : Nat) (outcome : EngineOutcome)
  /-- The bytes on the return channel (R121, R181). -/
  | badOutcomeRecord (bytes : List Byte)
  | headTimerExpiry
  | sheetReadyAsserted
  | sheetReadyDeasserted
  | engineOfflineAsserted
  | engineOfflineDeasserted
  | reportTimerExpiry
  | inboundIdleFill
  deriving DecidableEq, Repr

end Sys2Proof
end

