-- ==== Sys2Proof/WellFormed.lean ====
section
/-! DEFINITION. When a command's fields fit the places the wire formats give them (R131, R178 to R181).
The chapters judge contents; these checks are about widths alone, so a page number beyond the plan or an
unknown amendment kind is well formed. -/

namespace Sys2Proof

/-- A value of one byte. -/
abbrev isByte (n : Nat) : Bool := decide (n < 256)

/-- A value of two bytes. -/
abbrev isHalf (n : Nat) : Bool := decide (n < 65536)

/-- A text a length byte can announce. -/
abbrev isText (t : Text) : Bool := decide (t.length < 256)

/-- An optional text: length 0 marks absence, so a present one has a character (R181). -/
def isOptText : Option Text → Bool
  | none => true
  | some t => decide (0 < t.length) && isText t

def FrameHdr.wf (h : FrameHdr) : Bool := decide (h.sender < 16)

def PlanHead.wf (p : PlanHead) : Bool :=
  isHalf p.edition && isByte p.templates && isByte p.sections && isHalf p.pages && isHalf p.subjects

def Template.wf (t : Template) : Bool :=
  isByte t.columns && isByte t.rows && isHalf t.cellW && isHalf t.cellH && isByte t.hGutter &&
  isByte t.vGutter && isHalf t.captionH && isHalf t.titleH && isHalf t.pageW && isHalf t.pageH &&
  isByte t.facing && isByte t.caption && decide (t.weights.length = 16) && t.weights.all isByte &&
  isByte t.tone

def Section.wf (x : Section) : Bool :=
  isHalf x.first && isHalf x.count && isText x.title && isByte x.target && isByte x.inner &&
  isByte x.outer && isByte x.ceiling

def PageRec.wf (p : PageRec) : Bool :=
  isHalf p.number && isByte p.kind && isByte p.template && isByte p.sectionIx && isHalf p.slice &&
  isOptText p.title

def Crop.wf (c : Crop) : Bool := isHalf c.x0 && isHalf c.y0 && isHalf c.x1 && isHalf c.y1

def Subject.wf (j : Subject) : Bool :=
  isByte j.sectionIx && j.crop.wf && isByte j.pose && isText j.line1 && isOptText j.line2

/-- R179: an amendment body has 4 to 54 bytes, four of them fixed. -/
def AmendBody.wf (b : AmendBody) : Bool :=
  isByte b.batch && isHalf b.subject && isByte b.kind && decide (b.payload.length ≤ 50)

/-- R179: 1 to 8 page entries of 7 bytes. -/
def entriesWf (bs : List Byte) : Bool :=
  decide (bs.length % 7 = 0) && decide (0 < bs.length) && decide (bs.length ≤ 56)

/-- A station number and a rate the straps can give. -/
def strapsWf (station rate : Nat) : Bool := decide (station < 16) && decide (rate < 4)

/-- The fields of a command fit their places. -/
def Instr.wf : Instr → Bool
  | .coldReset st rate => strapsWf st rate
  | .restart => true
  | .setup l d f => isHalf l && isByte d && isHalf f
  | .planHead p => p.wf
  | .planTemplate t => t.wf
  | .planSection x => x.wf
  | .planPage p => p.wf
  | .planSubject j => j.wf
  | .planEnd => true
  | .portraitHead tag _ w h => isByte tag && isHalf w && isHalf h
  | .portraitData tag bs => isByte tag && decide (0 < bs.length) && decide (bs.length ≤ 4095)
  | .portraitEnd tag _ => isByte tag
  | .portraitAbsent tag _ => isByte tag
  | .amendIn b => b.wf
  | .launchIn b => isByte b
  | .dropIn b => isByte b
  | .faultAck n => isByte n
  | .statusAsk n => isByte n
  | .badInboundRecord _ => true
  | .outboundKindRecord k => decide (0x81 ≤ k) && decide (k ≤ 0x87)
  | .silenceTimerExpiry => true
  | .outboundRecordSent => true
  | .frameStart os => os.all (fun v => decide (v < 64))
  | .runNextFrame os => os.all (fun v => decide (v < 64))
  | .frameVetoed _ => true
  | .runIdleEnd => true
  | .claim h p c => h.wf && isHalf p && isByte c
  | .renew h p => h.wf && isHalf p
  | .lapse h p st m => h.wf && isHalf p && isByte st && isByte m
  | .done h p e => h.wf && isHalf p && isHalf e
  | .release h p => h.wf && isHalf p
  | .fail h p c => h.wf && isHalf p && isByte c
  | .join h st _ => h.wf && isByte st
  | .leave h st => h.wf && isByte st
  | .amend h b => h.wf && b.wf
  | .launch h b => h.wf && isByte b
  | .drop h b => h.wf && isByte b
  | .ask h _ => h.wf
  | .snapHead h rq rs _ pages last _ states n =>
      h.wf && isByte rq && isByte rs && isHalf pages && isHalf last && isByte states && isByte n
  | .snapPages h rq ix bs => h.wf && isByte rq && isByte ix && entriesWf bs
  | .snapAmend h rq ix b => h.wf && isByte rq && isByte ix && b.wf
  | .syncTimerExpiry => true
  | .portEntersSilent => true
  | .silentFrameRead _ _ => true
  | .portLeavesSilent => true
  | .queuePlaceGranted => true
  | .leaseExpiry p => decide (p < 1024)
  | .renewalDue p => decide (p < 1024)
  | .boundary => true
  | .trainPacketSent => true
  | .pageOpenSent => true
  | .pageMetaSent => true
  | .titleSent => true
  | .bandSent => true
  | .captionSent => true
  | .pageCloseSent => true
  | .cutCarriedOut => true
  | .fetchWantRequest => true
  | .prefetchWalk => true
  | .fetchTimerExpiry => true
  | .outcomeRecord p _ => isHalf p
  | .badOutcomeRecord _ => true
  | .headTimerExpiry => true
  | .sheetReadyAsserted => true
  | .sheetReadyDeasserted => true
  | .engineOfflineAsserted => true
  | .engineOfflineDeasserted => true
  | .reportTimerExpiry => true
  | .inboundIdleFill => true

end Sys2Proof
end

