-- ==== Sys2Proof/Decode.lean ====
section
/-! DEFINITION. The decoder over the opcode table's bits. The part is a block: no row of
spec/opcode_table.json gives bits, so no word spells a command. The wire formats of the three ports are
in Machine/Wire.lean. -/

namespace Sys2Proof

/-- The command that a word of `nbits` bits spells by the table's bits: none, for the table gives none. -/
def decodeTableWord (_nbits _w : Nat) : Option Instr := none

end Sys2Proof
end

