-- ==== Sys2Proof/Machine/State.lean ====
section
/-! DEFINITION. The whole state of one station, block by block, and its values after cold reset.
Every field names the rule that gives it; INVENTORY.md lists them with their reset values. -/

namespace Sys2Proof.Machine

/-! ## Why a step may stop -/

/-- Faults of the model: none. The part's own fault causes (R160 to R169) are state. No command of this
part stops the machine, so nothing raises a fault and nothing rests on one. -/
inductive Fault where
  deriving DecidableEq, Repr

/-- Refusals of the model. -/
inductive Refusal where
  /-- A command that has no meaning yet, by its row's mnemonic. Raised by no arm of `exec`; safe. -/
  | notModelled (mnemonic : String)
  deriving DecidableEq, Repr

/-! ## Amendments (chapter 3) -/

/-- R50: the payload of an amendment record. -/
inductive Payload where
  | retake (portrait : Id32) (crop : Crop) (pose : Nat)
  | caption (line1 : Text) (line2 : Option Text)
  | withdraw
  | restore
  deriving DecidableEq, Repr

/-- R50: an amendment record of the pool. -/
structure Amendment where
  batch   : Nat
  subject : Nat
  payload : Payload
  deriving DecidableEq, Repr

/-- R56: a launched batch waiting to be applied. -/
structure Batch where
  edition : Nat
  records : List Amendment
  deriving DecidableEq, Repr

/-- R56, R62: the Launch Queue, and the batches of a pending forced boundary, the new one first.
The forced boundary is pending exactly while that list is not empty. -/
structure Launch where
  queue  : List Batch
  forced : List Batch
  deriving DecidableEq, Repr

/-! ## The Roster Store (chapter 1) -/

inductive RosterStatus where
  | empty | loading | loaded
  deriving DecidableEq, Repr

/-- R13: the load tracking state. `expected` is 0 PLAN_TEMPLATE, 1 PLAN_SECTION, 2 PLAN_PAGE, 3 PLAN_SUBJECT. -/
structure Track where
  expected : Nat
  gotTemplates : Nat
  gotSections  : Nat
  gotPages     : Nat
  gotSubjects  : Nat
  disorder : Bool
  firstOut : Option Nat
  position : Nat
  deriving DecidableEq, Repr

/-- R1: the Roster Store. -/
structure Roster where
  status    : RosterStatus
  head      : Option PlanHead
  templates : List Template
  sections  : List Section
  pages     : List PageRec
  subjects  : List Subject
  edition   : Nat
  track     : Option Track
  deriving DecidableEq, Repr

/-! ## The Page Board (chapter 2) -/

/-- R22, R30: why a page is FAILED. -/
inductive FailCause where
  | lapsed | spoiled | unfetchable
  deriving DecidableEq, Repr

/-- R22: the state of a page with the fields the state makes present. -/
inductive PageStatus where
  | opened
  | claimed (holder : Nat)
  | printed (holder edition : Nat)
  | failed (holder : Nat) (cause : FailCause)
  deriving DecidableEq, Repr

/-- R22: a board entry. -/
structure Entry where
  status   : PageStatus
  mark     : Nat
  need     : Nat
  lapses   : Nat
  reprints : Nat
  deriving DecidableEq, Repr

/-- R21: what a HELD replica consists of. -/
structure Replica where
  entries  : List Entry
  present  : StationSet
  complete : Bool
  deriving DecidableEq, Repr

/-- R33: the state of a lease timer. -/
inductive Lease where
  | running | expired | offered
  deriving DecidableEq, Repr

/-- R21, R33, R37: the Page Board. The replica is `none` when ABSENT. `leases` has one place per page. -/
structure Board where
  replica      : Option Replica
  leases       : List (Option Lease)
  lastLaunched : Nat
  completions  : Nat
  deriving DecidableEq, Repr

/-! ## The Claim Unit (chapter 2) -/

/-- R80: the notice kinds, in the order of R177. -/
inductive Notice where
  | noPortrait | portraitAbsent | oversize | lowResolution | cropClamped | upscaled | toneLimited
  deriving DecidableEq, Repr

/-- R67, R177: one count per notice kind. -/
structure Notices where
  noPortrait : Nat
  portraitAbsent : Nat
  oversize : Nat
  lowResolution : Nat
  cropClamped : Nat
  upscaled : Nat
  toneLimited : Nat
  deriving DecidableEq, Repr

inductive WorkPhase where
  | queued | composing | inEngine
  deriving DecidableEq, Repr

/-- R38: an entry of the work list. -/
structure WorkEntry where
  page    : Nat
  phase   : WorkPhase
  spoils  : Nat
  edition : Option Nat
  notices : Option Notices
  deriving DecidableEq, Repr

/-! ## Hall frames and the Hall Port (chapter 8) -/

/-- R131, R179: a frame's kind and payload. -/
inductive Frame where
  | snapHead (requester responder : Nat) (identity : Id32) (pages lastLaunched : Nat)
      (present : StationSet) (batchStates records : Nat)
  | snapPages (requester index : Nat) (entries : List Byte)
  | snapAmend (requester index : Nat) (body : AmendBody)
  | lapse (page holder mark : Nat)
  | done (page edition : Nat)
  | fail (page cause : Nat)
  | release (page : Nat)
  | launch (batch : Nat)
  | drop (batch : Nat)
  | claim (page claimant : Nat)
  | renew (page : Nat)
  | amend (body : AmendBody)
  | ask (identity : Id32)
  | join (station : Nat) (identity : Id32)
  | leave (station : Nat)
  deriving DecidableEq, Repr

/-- R136: what a transmit-queue entry sends: one frame, or a snapshot run for a requester, full or short. -/
inductive TxBody where
  | frame (f : Frame)
  | run (requester : Nat) (full : Bool)
  deriving DecidableEq, Repr

/-- R136: an entry of the transmit queue. `onBus` is the phase ON_BUS, else WAITING. -/
structure TxEntry where
  body  : TxBody
  hold  : Bool
  seq   : Nat
  onBus : Bool
  deriving DecidableEq, Repr

/-- R139: the run state: `none`, or held by a station with the count of its frames that have passed. -/
structure RunHeld where
  holder : Nat
  count  : Nat
  deriving DecidableEq, Repr

/-- R136, R139, R141, R144 to R146: the Hall Port. `sending` is this station's frame on the bus with its HOLD
mark; `runRest` the frames of its snapshot run that have not been begun; `awaitsStart` says that no start bit is
known since the port's move to full part (R145), and `abandons` that none is known since the last reset, so that a
frame which was on the bus then is abandoned (R146). `ignores` says that the rest of the run under way is ignored
(R152); it means nothing while no run is held. -/
structure Port where
  silent  : Bool
  awaitsStart : Bool
  abandons : Bool
  ignores : Bool
  tx      : Nat
  rx      : Nat
  queue   : List TxEntry
  seq     : Nat
  sending : Option (Bool × Frame)
  runRest : List (Bool × Frame)
  run     : Option RunHeld
  good    : Nat
  quiet   : Timer
  framesSent   : Nat
  framesVetoed : Nat
  deriving DecidableEq, Repr

/-- R39, R47: the Claim Unit. `pending` is the pending-claim flag with the pending page. -/
structure Claims where
  work    : List WorkEntry
  pending : Option Nat
  waiting : List Frame
  deriving DecidableEq, Repr

/-! ## The Station Controller (chapter 9) -/

inductive StationState where
  | setupWait | planLoad | syncing | active | silent | halted
  deriving DecidableEq, Repr

/-- R152: the run being collected. `entries` and `records` are what has been kept; `pageFrames` and
`amendFrames` count the frames kept of each kind. -/
structure Collection where
  responder    : Nat
  identity     : Id32
  pages        : Nat
  lastLaunched : Nat
  present      : StationSet
  batchStates  : Nat
  records      : Nat
  pageFrames   : Nat
  amendFrames  : Nat
  entries      : List Entry
  kept         : List Amendment
  deriving DecidableEq, Repr

/-- R137: what may wait in the Station Controller for a place in the queue. -/
inductive CtlItem where
  | ask | join | leave
  | run (requester : Nat) (full : Bool)
  deriving DecidableEq, Repr

/-- R147: the station state, the sync record and what waits for a place. -/
structure Ctl where
  state      : StationState
  syncTimer  : Timer
  collection : Option Collection
  abandoned  : Nat
  reask      : Nat
  volumeSeen : Bool
  waiting    : List CtlItem
  deriving DecidableEq, Repr

/-- R174: the clamped SETUP values and their clamp flags. -/
structure Setup where
  lease : Nat
  depth : Nat
  fetch : Nat
  leaseClamped : Bool
  depthClamped : Bool
  fetchClamped : Bool
  deriving DecidableEq, Repr

/-! ## The Compositor (chapters 4 and 5) -/

inductive CompState where
  | idle | boundary | training | streaming | waitingTile | closing
  deriving DecidableEq, Repr

/-- R74. -/
inductive CellClass where
  | empty | vacant | placeholder | portrait
  deriving DecidableEq, Repr

/-- R67, R112: an answer the Fetch Unit has reported for a cell's reference. -/
inductive FetchAnswer where
  | portraitAbsent | oversize
  deriving DecidableEq, Repr

/-- R77: a window of a portrait: top left corner, width, height. -/
structure Window where
  left   : Nat
  top    : Nat
  width  : Nat
  height : Nat
  deriving DecidableEq, Repr

/-- R80: a PORTRAIT cell's placement; the gain is in sixteenths. -/
structure Placement where
  window : Window
  mirror : Bool
  gain   : Nat
  deriving DecidableEq, Repr

/-- R67: an entry of the cell table. `taken` records that the reference flag has been set in this pass (R72). `last` is
the last line of the cell's image area (R4), noted with its resolution at BOUNDARY, so that R84 needs no read of the
Roster Store once the plan has gone (R13, R20; log 46). -/
structure Cell where
  subject : Option Nat
  last    : Nat
  cls     : Option CellClass
  ref     : Bool
  taken   : Bool
  answer  : Option FetchAnswer
  place   : Option Placement
  deriving DecidableEq, Repr

/-- R82, R83: a caption packet due: of a cell, or of a row. -/
inductive CaptionDue where
  | cell (index : Nat)
  | row (index : Nat)
  deriving DecidableEq, Repr

/-- R67: the held-page record. `opened` says PAGE_OPEN has been sent in this pass (R86). -/
structure Held where
  page     : Nat
  kind     : Nat
  template : Nat
  sectionIx : Nat
  edition  : Nat
  bandCount : Nat
  bandsSent : Nat
  band     : Nat
  reach    : Nat
  late     : Bool
  tallies  : Notices
  cells    : List Cell
  opened   : Bool
  captions : List CaptionDue
  deriving DecidableEq, Repr

/-- R67: the learned-placeholder record. -/
structure Learned where
  page    : Nat
  edition : Nat
  cells   : List (Nat × Notice)
  deriving DecidableEq, Repr

/-- R93. -/
inductive Tracker where
  | steady | correcting
  deriving DecidableEq, Repr

/-- R67, R93: the Compositor with its tone tracker. -/
structure Comp where
  state   : CompState
  held    : Option Held
  learned : Option Learned
  cut     : Bool
  tracker : Tracker
  deriving DecidableEq, Repr

/-! ## The Tile Store and the Fetch Unit (chapter 6) -/

/-- R101: a reference: of a cell of the held page, or of a cell of a QUEUED or COMPOSING work-list page. -/
inductive Ref where
  | composing (cell : Nat)
  | prefetch (page cell : Nat)
  deriving DecidableEq, Repr

/-- R100: a tile slot. The references stand in the order they were counted; the reference count is their
number and the owner class follows from them. -/
inductive Slot where
  | free
  | filling (portrait : Id32) (refs : List Ref)
  | ready (portrait : Id32) (width height : Nat) (refs : List Ref)
  deriving DecidableEq, Repr

/-- R100: the Tile Store. `fillOrder` holds the READY slots in the order they became READY. -/
structure Tiles where
  slots     : List Slot
  fillOrder : List Nat
  dram      : List Host.Cell
  deriving DecidableEq, Repr

/-- R102: an entry of the fetch list. -/
structure FetchEntry where
  tag      : Nat
  portrait : Id32
  slot     : Nat
  stale    : Bool
  retry    : Bool
  deriving DecidableEq, Repr

/-- R107: the answer being received for the head entry. -/
structure Answer where
  width    : Nat
  height   : Nat
  count    : Nat
  crc      : BitVec 32
  bad      : Bool
  oversize : Bool
  deriving DecidableEq, Repr

/-- R103: a want: a portrait id and the cells that ask for it. -/
structure Want where
  portrait : Id32
  cells    : List Nat
  deriving DecidableEq, Repr

/-- R105: a prefetch record. A HELD mark is a prefetch reference on a slot, so only the SETTLED marks
stand here; a cell that is neither is NONE. -/
structure Prefetch where
  page    : Nat
  settled : List Nat
  deriving DecidableEq, Repr

/-- R102, R103, R105, R107: the Fetch Unit. -/
structure Fetch where
  list     : List FetchEntry
  tag      : Nat
  hold     : Bool
  answer   : Option Answer
  wants    : List Want
  prefetch : List Prefetch
  timer    : Timer
  deriving DecidableEq, Repr

/-! ## The print lane (chapter 7) -/

inductive LanePhase where
  | idle | training | opened
  deriving DecidableEq, Repr

/-- R115: a sheet. -/
structure Sheet where
  page    : Nat
  edition : Nat
  cut     : Bool
  deriving DecidableEq, Repr

/-- R118: the template's geometry fields, as a TRAIN packet carries them. -/
structure Geometry where
  columns : Nat
  rows    : Nat
  cellW   : Nat
  cellH   : Nat
  hGutter : Nat
  vGutter : Nat
  captionH : Nat
  titleH  : Nat
  pageW   : Nat
  pageH   : Nat
  caption : Nat
  deriving DecidableEq, Repr

/-- R117 to R119: the outbound packets with their fields. -/
inductive Packet where
  | train (template seq : Nat) (geometry : Geometry) (pattern : List Byte)
  | pageOpen (page edition template : Nat)
  | pageMeta (page edition station template cells : Nat) (placeholders : List Nat)
  | title (text : Text)
  | band (index first lines : Nat) (raster : List Byte)
  | captionCell (cell : Nat) (line1 : Text) (line2 : Option Text)
  | captionRow (row : Nat) (lines : List Text)
  | pageClose (cut : Bool) (bands : Nat)
  deriving DecidableEq, Repr

/-- R115: the Print Lane Controller, with the two engine levels it samples (R125, R126), the packet in
flight (R116), the return channel's incomplete record (R181) and the packets sent. -/
structure Lane where
  phase        : LanePhase
  lastTemplate : Option Nat
  hold         : Bool
  sheets       : List Sheet
  headTimer    : Timer
  delivered    : Nat
  spoiled      : Nat
  withdrawn    : Nat
  lost         : Nat
  sheetReady   : Bool
  offline      : Bool
  inFlight     : Option Packet
  hunt         : List Byte
  sent         : List Packet
  deriving DecidableEq, Repr

/-! ## The Fault Unit (chapter 10) -/

inductive FaultPhase where
  | clear | recovering | held
  deriving DecidableEq, Repr

/-- R160, section 10.3: the twelve causes, in code order from 1. -/
inductive Cause where
  | planInvalid | planMismatch | editionBehind | syncFailed | linkDown | fetchTimeout | fetchCorrupt
  | engineOffline | engineTimeout | engineMismatch | claimLost | busSilent
  deriving DecidableEq, Repr

/-- R160: the fault record. -/
structure FaultRecord where
  serial   : Nat
  cause    : Cause
  page     : Option Nat
  cell     : Option Nat
  band     : Option Nat
  detail   : Nat
  followOn : Nat
  deriving DecidableEq, Repr

/-- R160: the Fault Unit. The three `Step` flags are the recovery's local steps still open (R162); the
three fields after them are the counts a FAULT_REPORT carries (R168). `unlisted` is the model's own count of the
lapses that found the page in no work-list entry: the next one's detail is the free value of that number (log 14). -/
structure FaultUnit where
  phase       : FaultPhase
  record      : Option FaultRecord
  serial      : Nat
  deferred    : List (Sheet × EngineOutcome)
  awaited     : List Nat
  reportTimer : Timer
  cutStep     : Bool
  flushStep   : Bool
  haltStep    : Bool
  closed      : Nat
  lost        : Nat
  repeats     : Nat
  unlisted    : Nat
  deriving DecidableEq, Repr

/-! ## The library link (chapter 11) -/

/-- R170: the record in progress. `got` are the bytes of the part being collected, oldest first. -/
inductive Parser where
  | hunting
  | header (got : List Byte)
  | payload (kind length : Nat) (got : List Byte) (crc : BitVec 32)
  | check (kind : Nat) (payload : List Byte) (crc : BitVec 32) (got : List Byte)
  deriving DecidableEq, Repr

/-- R48: the outcome of a PAGE_REPORT. -/
inductive PageOutcome where
  | printed | reopenedStale | failed | lost
  deriving DecidableEq, Repr

/-- R65: which request a RELAY_RESULT answers. -/
inductive Request where
  | amend | launch | drop
  deriving DecidableEq, Repr

/-- R65. -/
inductive RelayVerdict where
  | taken | void | refused | unsent
  deriving DecidableEq, Repr

/-- R51, R53, R54, R63: the reasons of a RELAY_RESULT. -/
inductive Reason where
  | badValue | noSubject | storeFull | emptyBatch | editionExhausted | busy | notActive
  deriving DecidableEq, Repr

/-- R65: the fields of a RELAY_RESULT. `batchStates` are the four slots, true for OPEN. -/
structure RelayResult where
  request   : Request
  batch     : Nat
  subject   : Option Nat
  kind      : Option Nat
  verdict   : RelayVerdict
  reason    : Option Reason
  replaced  : Option Bool
  edition   : Option Nat
  poolCount : Option Nat
  batchStates : Option (List Bool)
  deriving DecidableEq, Repr

/-- R37: the fields of a VOLUME_REPORT. -/
structure VolumeReport where
  identity     : Option Id32
  pages        : Nat
  printed      : Nat
  lapsed       : Nat
  spoiled      : Nat
  unfetchable  : Nat
  lastLaunched : Nat
  reprints     : Nat
  completions  : Nat
  deriving DecidableEq, Repr

/-- R168: the fields of a FAULT_REPORT. -/
structure FaultReport where
  record   : FaultRecord
  state    : StationState
  closed   : Nat
  lost     : Nat
  repeats  : Nat
  deriving DecidableEq, Repr

/-- R175: the contents of a STATUS record, in the groups of its table. -/
structure Status where
  request      : Nat
  state        : StationState
  abandoned    : Nat
  reask        : Nat
  volumeSeen   : Bool
  setup        : Option Setup
  roster       : RosterStatus
  identity     : Option Id32
  edition      : Nat
  lastLaunched : Nat
  silent       : Bool
  tx           : Nat
  rx           : Nat
  held         : Bool
  present      : StationSet
  opened       : Nat
  claimed      : Nat
  printed      : Nat
  failed       : Nat
  work         : List (Nat × WorkPhase × Nat × Option Nat)
  lanePhase    : LanePhase
  lastTemplate : Option Nat
  outcomeHold  : Bool
  sheetReady   : Bool
  offline      : Bool
  sheets       : List Sheet
  faultPhase   : FaultPhase
  fault        : Option FaultRecord
  awaited      : Nat
  linkUp       : Bool
  relayBusy    : Bool
  delivered    : Nat
  spoiled      : Nat
  withdrawn    : Nat
  lost         : Nat
  framesSent   : Nat
  framesVetoed : Nat
  inDropped    : Nat
  outDropped   : Nat
  deriving DecidableEq, Repr

/-- R177: the seven outbound kinds. -/
inductive OutBody where
  /-- R148: the re-ask flag; for a re-ask the plan identity and the wanted edition. -/
  | planAsk (reask : Bool) (identity : Option Id32) (wanted : Option Nat)
  | fetch (tag : Nat) (portrait : Id32)
  | pageReport (page : Nat) (edition : Option Nat) (outcome : PageOutcome) (notices : Option Notices)
  | faultReport (r : FaultReport)
  | relayResult (r : RelayResult)
  | volumeReport (r : VolumeReport)
  | status (r : Status)
  deriving DecidableEq, Repr

/-- R177: an outbound record; every one carries the station number. -/
structure OutRecord where
  station : Nat
  body    : OutBody
  deriving DecidableEq, Repr

/-- R170: the Library Link Controller. `silence` is the silence timer; the relay slot is BUSY with the
relayed frame, or EMPTY. -/
structure Link where
  parser     : Parser
  up         : Bool
  silence    : Timer
  outbound   : List OutRecord
  relay      : Option Frame
  inDropped  : Nat
  outDropped : Nat
  deriving DecidableEq, Repr

/-! ## The station -/

/-- The straps (R130, R131). -/
structure Straps where
  station : Nat
  rate    : Nat
  deriving DecidableEq, Repr

/-- One station, and the queue of the commands that wait. -/
structure State where
  pending : List Instr
  straps  : Straps
  ctl     : Ctl
  setup   : Option Setup
  roster  : Roster
  board   : Board
  claims  : Claims
  pool    : List Amendment
  launch  : Launch
  comp    : Comp
  tiles   : Tiles
  fetch   : Fetch
  lane    : Lane
  port    : Port
  fault   : FaultUnit
  link    : Link
  deriving DecidableEq, Repr

/-! ## Reset values -/

/-- R67: all tallies 0. -/
def Notices.zero : Notices := ⟨0, 0, 0, 0, 0, 0, 0⟩

/-- R1. -/
def Roster.cleared : Roster :=
  { status := .empty, head := none, templates := [], sections := [], pages := [], subjects := [],
    edition := 0, track := none }

/-- R21. -/
def Board.cleared : Board := { replica := none, leases := [], lastLaunched := 0, completions := 0 }

/-- R38. -/
def Claims.cleared : Claims := { work := [], pending := none, waiting := [] }

/-- R56. -/
def Launch.cleared : Launch := { queue := [], forced := [] }

/-- R67, R93. -/
def Comp.cleared : Comp :=
  { state := .idle, held := none, learned := none, cut := false, tracker := .steady }

/-- R100: every slot FREE and the fill order empty. -/
def Tiles.cleared (dram : List Host.Cell) : Tiles :=
  { slots := List.replicate Config.slotCount .free, fillOrder := [], dram := dram }

/-- R102, R103, R107. -/
def Fetch.cleared : Fetch :=
  { list := [], tag := 0, hold := false, answer := none, wants := [], prefetch := [], timer := none }

/-- R160. -/
def FaultUnit.cleared : FaultUnit :=
  { phase := .clear, record := none, serial := 0, deferred := [], awaited := [], reportTimer := none,
    cutStep := false, flushStep := false, haltStep := false, closed := 0, lost := 0, repeats := 0,
    unlisted := 0 }

/-- R147. -/
def Ctl.cleared : Ctl :=
  { state := .setupWait, syncTimer := none, collection := none, abandoned := 0, reask := 0,
    volumeSeen := false, waiting := [] }

/-- R115 after cold reset. The levels are DESIGN CHOICE deasserted (log 3). -/
def Lane.cold : Lane :=
  { phase := .idle, lastTemplate := none, hold := true, sheets := [], headTimer := none,
    delivered := 0, spoiled := 0, withdrawn := 0, lost := 0, sheetReady := false, offline := false,
    inFlight := none, hunt := [], sent := [] }

/-- R146 after cold reset. That a frame may be on the bus then is DESIGN CHOICE (log 40). -/
def Port.cold : Port :=
  { silent := false, awaitsStart := false, abandons := true, ignores := false, tx := 0, rx := 0, queue := [], seq := 0,
    sending := none, runRest := [], run := none, good := 0, quiet := none, framesSent := 0, framesVetoed := 0 }

/-- R170 after cold reset. -/
def Link.cold : Link :=
  { parser := .hunting, up := false, silence := none, outbound := [], relay := none, inDropped := 0,
    outDropped := 0 }

/-- The machine right after cold reset. The strapped station and rate are DESIGN CHOICE 0 (log 3), the
DRAM lists nothing (log 4). -/
def State.reset : State :=
  { pending := [], straps := ⟨0, 0⟩, ctl := Ctl.cleared, setup := none, roster := Roster.cleared,
    board := Board.cleared, claims := Claims.cleared, pool := [], launch := Launch.cleared,
    comp := Comp.cleared, tiles := Tiles.cleared [], fetch := Fetch.cleared, lane := Lane.cold,
    port := Port.cold, fault := FaultUnit.cleared, link := Link.cold }

end Sys2Proof.Machine
end

