-- ==== Sys2Proof/Machine/Operands.lean ====
section
/-! DEFINITION. What the other blocks read out of a command's fields and out of the loaded plan: texts,
crop windows, amendment payloads, template geometry, cell resolution and touch (R3 to R10, R20, R50, R179). -/

namespace Sys2Proof.Machine

/-! ## Bytes and numbers (R178: most significant byte first) -/

def byte (n : Nat) : Byte := BitVec.ofNat 8 n

/-- A two-byte field. -/
def bytes2 (n : Nat) : List Byte := [byte (n / 256), byte n]

/-- A four-byte field. -/
def bytes4 (x : Id32) : List Byte :=
  [byte (x.toNat / 2 ^ 24), byte (x.toNat / 2 ^ 16), byte (x.toNat / 2 ^ 8), byte x.toNat]

def be2 (a b : Byte) : Nat := a.toNat * 256 + b.toNat

def be4 (a b c d : Byte) : Id32 :=
  BitVec.ofNat 32 (a.toNat * 2 ^ 24 + b.toNat * 2 ^ 16 + c.toNat * 2 ^ 8 + d.toNat)

/-! ## Rounding (00_scope.md section 6) -/

/-- round(a / b): the nearest integer, a half rounding to the larger. -/
def roundDiv (a b : Nat) : Nat := (2 * a + b) / (2 * b)

/-- ceil(a / b). -/
def ceilDiv (a b : Nat) : Nat := (a + b - 1) / b

/-! ## Texts and crop windows -/

/-- R8: a byte that is a character. -/
def isChar (b : Byte) : Bool := decide (0x20 ≤ b.toNat) && decide (b.toNat ≤ 0xFE)

/-- R8 with the length range of the field's rule. -/
def textOk (lo hi : Nat) (t : Text) : Bool :=
  decide (lo ≤ t.length) && decide (t.length ≤ hi) && t.all isChar

/-- R7, R50: the ranges and orderings of a crop window. -/
def cropOk (c : Crop) : Bool :=
  decide (c.x0 ≤ 4095) && decide (c.y0 ≤ 4095) && decide (1 ≤ c.x1) && decide (c.x1 ≤ 4096) &&
  decide (1 ≤ c.y1) && decide (c.y1 ≤ 4096) && decide (c.x0 < c.x1) && decide (c.y0 < c.y1)

/-! ## Amendment bodies (R50, R179) -/

/-- R50, R179: the payload that a body's bytes spell for its kind, when they keep the ranges of R50. -/
def readPayload (kind : Nat) (bs : List Byte) : Option Payload :=
  match kind with
  | 0 =>
    match bs with
    | [p0, p1, p2, p3, a0, a1, b0, b1, c0, c1, d0, d1, q] =>
      let crop : Crop := ⟨be2 a0 a1, be2 b0 b1, be2 c0 c1, be2 d0 d1⟩
      if cropOk crop && decide (q.toNat < 3) then some (.retake (be4 p0 p1 p2 p3) crop q.toNat) else none
    | _ => none
  | 1 =>
    match bs with
    | n :: rest =>
      match rest.drop n.toNat with
      | m :: line2 =>
        let line1 := rest.take n.toNat
        if decide (line2.length = m.toNat) && textOk 1 24 line1 && textOk 0 24 line2 then
          some (.caption line1 (if line2.isEmpty then none else some line2))
        else none
      | [] => none
    | [] => none
  | 2 => if bs.isEmpty then some .withdraw else none
  | 3 => if bs.isEmpty then some .restore else none
  | _ => none

/-- R179: the kind code of a payload. -/
def Payload.kind : Payload → Nat
  | .retake _ _ _ => 0
  | .caption _ _ => 1
  | .withdraw => 2
  | .restore => 3

/-- R179: a payload's bytes. -/
def Payload.bytes : Payload → List Byte
  | .retake pid c q => bytes4 pid ++ bytes2 c.x0 ++ bytes2 c.y0 ++ bytes2 c.x1 ++ bytes2 c.y1 ++ [byte q]
  | .caption l1 l2 =>
    let second := l2.getD []
    byte l1.length :: (l1 ++ byte second.length :: second)
  | .withdraw => []
  | .restore => []

/-- R151, R179: the body a SNAP_AMEND carries for a record. -/
def Amendment.body (a : Amendment) : AmendBody :=
  { batch := a.batch, subject := a.subject, kind := a.payload.kind, payload := a.payload.bytes }

/-- R52: two records stand for the same subject and kind of one batch. -/
def Amendment.sameKey (a b : Amendment) : Bool :=
  decide (a.batch = b.batch) && decide (a.subject = b.subject) && decide (a.payload.kind = b.payload.kind)

/-- R49: the records of one batch, in batch order. -/
def batchOf (pool : List Amendment) (b : Nat) : List Amendment := pool.filter (fun a => a.batch = b)

/-- R49: the batch is OPEN: it holds a record. -/
def batchOpen (pool : List Amendment) (b : Nat) : Bool := !(batchOf pool b).isEmpty

/-- R65: the four batch slot states. -/
def batchStates (pool : List Amendment) : List Bool :=
  (List.range Config.batchCount).map (batchOpen pool)

/-- R179: the batch states byte, bit k for batch k. -/
def batchBits (pool : List Amendment) : Nat :=
  (List.range Config.batchCount).foldl (fun n b => if batchOpen pool b then n + 2 ^ b else n) 0

end Sys2Proof.Machine

namespace Sys2Proof

open Sys2Proof.Machine

/-! ## Template geometry (R3, R4) -/

def Template.cellCount (t : Template) : Nat := t.columns * t.rows

def Template.rowOf (t : Template) (i : Nat) : Nat := i / t.columns

def Template.colOf (t : Template) (i : Nat) : Nat := i % t.columns

/-- R4: the left edge of a cell's image area. -/
def Template.cellLeft (t : Template) (i : Nat) : Nat := t.hGutter + t.colOf i * (t.cellW + t.hGutter)

/-- R4: the top edge of the image areas of row r. -/
def Template.rowTop (t : Template) (r : Nat) : Nat :=
  t.titleH + t.vGutter + r * (t.cellH + t.captionH + t.vGutter)

def Template.cellTop (t : Template) (i : Nat) : Nat := t.rowTop (t.rowOf i)

/-- The last line of a cell's image area. -/
def Template.cellLast (t : Template) (i : Nat) : Nat := t.cellTop i + t.cellH - 1

/-- R4: the first line of the caption band of row r. -/
def Template.captionTop (t : Template) (r : Nat) : Nat := t.rowTop r + t.cellH

/-- R4: ceil(page height / 64). -/
def Template.bandCount (t : Template) : Nat := ceilDiv t.pageH Config.bandLines

/-- R71: the first and the last line of band b. -/
def bandFirst (b : Nat) : Nat := Config.bandLines * b

def Template.bandLast (t : Template) (b : Nat) : Nat := min (bandFirst b + 63) (t.pageH - 1)

/-- R117: the line count of band b. -/
def Template.bandHeight (t : Template) (b : Nat) : Nat := min Config.bandLines (t.pageH - bandFirst b)

/-- R71: a cell is needed by band b when its image area contains a line of the band. -/
def Template.neededBy (t : Template) (b i : Nat) : Bool :=
  decide (t.cellTop i ≤ t.bandLast b) && decide (bandFirst b ≤ t.cellLast i)

/-- R72: the reach of band b. -/
def Template.reachOf (t : Template) (b : Nat) : Nat := min (bandFirst b + 127) (t.pageH - 1)

/-- R3: tone enable, position 0 of "on, off" (R181; log 20). -/
def Template.toned (t : Template) : Bool := decide (t.tone = 0)

/-- R118: the geometry fields of a TRAIN packet. -/
def Template.geometry (t : Template) : Geometry :=
  { columns := t.columns, rows := t.rows, cellW := t.cellW, cellH := t.cellH, hGutter := t.hGutter,
    vGutter := t.vGutter, captionH := t.captionH, titleH := t.titleH, pageW := t.pageW, pageH := t.pageH,
    caption := t.caption }

/-! ## Pages, slices and touch (R6, R9, R10) -/

/-- R6: a PANEL page's slice start is absent. -/
def PageRec.sliceStart (p : PageRec) : Option Nat := if p.kind = 0 then some p.slice else none

/-- R9: the position of a cell in its section. -/
def PageRec.position (p : PageRec) (i : Nat) : Nat := p.sliceStart.getD 0 + i

end Sys2Proof

namespace Sys2Proof.Machine

/-- R6: the entry of a page number. -/
def Roster.page? (ro : Roster) (n : Nat) : Option PageRec := ro.pages.find? (fun p => p.number = n)

/-- R9: the subject a cell shows, or EMPTY (`none`). -/
def Roster.resolve (ro : Roster) (p : PageRec) (i : Nat) : Option Nat :=
  match ro.sections[p.sectionIx]? with
  | some x => if p.position i < x.count then some (x.first + p.position i) else none
  | none => none

/-- The cells of a page, as many as its template has. -/
def Roster.cellCount (ro : Roster) (p : PageRec) : Nat :=
  match ro.templates[p.template]? with
  | some t => t.cellCount
  | none => 0

/-- R10: one of the page's cells resolves to the subject. -/
def Roster.touches (ro : Roster) (p : PageRec) (subject : Nat) : Bool :=
  (List.range (ro.cellCount p)).any (fun i => decide (ro.resolve p i = some subject))

/-- R55, R61: a page number touched by at least one of the records. -/
def Roster.touchedBy (ro : Roster) (records : List Amendment) (page : Nat) : Bool :=
  match ro.page? page with
  | some p => records.any (fun a => ro.touches p a.subject)
  | none => false

/-- R6: the title override when present, else the section's title. -/
def Roster.titleOf (ro : Roster) (p : PageRec) : Text :=
  match p.title with
  | some t => t
  | none => match ro.sections[p.sectionIx]? with | some x => x.title | none => []

/-- R1, R13: the plan identity the other blocks read: present in LOADED alone. -/
def Roster.identity (ro : Roster) : Option Id32 :=
  if ro.status = .loaded then ro.head.map (fun h => h.identity) else none

/-- R1, R11: the roster edition the other blocks read: 0 unless LOADED. -/
def Roster.editionRead (ro : Roster) : Nat := if ro.status = .loaded then ro.edition else 0

/-- R2: P and N of the loaded plan. -/
def Roster.pageCount (ro : Roster) : Nat := match ro.head with | some h => h.pages | none => 0
def Roster.subjectCount (ro : Roster) : Nat := match ro.head with | some h => h.subjects | none => 0

/-! ## Notices (R67, R80) -/

/-- Add 1 to one kind's tally. -/
def Notices.bump (n : Notices) : Notice → Notices
  | .noPortrait => { n with noPortrait := n.noPortrait + 1 }
  | .portraitAbsent => { n with portraitAbsent := n.portraitAbsent + 1 }
  | .oversize => { n with oversize := n.oversize + 1 }
  | .lowResolution => { n with lowResolution := n.lowResolution + 1 }
  | .cropClamped => { n with cropClamped := n.cropClamped + 1 }
  | .upscaled => { n with upscaled := n.upscaled + 1 }
  | .toneLimited => { n with toneLimited := n.toneLimited + 1 }

/-- Section 10.3: the code of a fault cause. -/
def Cause.code : Cause → Nat
  | .planInvalid => 1 | .planMismatch => 2 | .editionBehind => 3 | .syncFailed => 4 | .linkDown => 5
  | .fetchTimeout => 6 | .fetchCorrupt => 7 | .engineOffline => 8 | .engineTimeout => 9
  | .engineMismatch => 10 | .claimLost => 11 | .busSilent => 12

/-- Section 10.3: codes 1 to 4 are the halting causes. -/
def Cause.halting (c : Cause) : Bool := decide (c.code ≤ 4)

/-- R163: the link class. -/
def Cause.linkClass (c : Cause) : Bool := decide (5 ≤ c.code) && decide (c.code ≤ 7)

/-- R164: the engine class. -/
def Cause.engineClass (c : Cause) : Bool := decide (8 ≤ c.code) && decide (c.code ≤ 10)

end Sys2Proof.Machine
end

