-- ==== Sys2Proof/Machine/Flags.lean ====
section
/-! DEFINITION. The conditions and flags the blocks evaluate: how far the port takes part, the free place,
the claiming condition, the page-start condition, the offering and fetching conditions, the complete flag
(R34, R37, R39, R47, R68, R101, R102, R137, R145). Each is a function of the state alone. -/

namespace Sys2Proof.Machine

/-! ## Values from SETUP (R148); 0 while no SETUP is held, when no rule reads them -/

def State.leaseMs (s : State) : Nat := match s.setup with | some x => x.lease | none => 0
def State.claimDepth (s : State) : Nat := match s.setup with | some x => x.depth | none => 0
def State.fetchMs (s : State) : Nat := match s.setup with | some x => x.fetch | none => 0

/-! ## The Hall Port -/

/-- R145: how far the port takes part. `joining`: the station has moved to full part, which takes effect from
the next start bit, and none is known since. -/
inductive Participation where
  | listener | joining | full | silent
  deriving DecidableEq, Repr

def State.participation (s : State) : Participation :=
  if s.port.silent then .silent
  else match s.ctl.state with
    | .setupWait | .planLoad => .listener
    | .syncing | .active | .silent | .halted => if s.port.awaitsStart then .joining else .full

/-- R137, R145: the port takes frames into its queue: ENABLED, and no mere listener. -/
def State.takesOffers (s : State) : Bool :=
  match s.participation with
  | .joining | .full => true
  | .listener | .silent => false

/-- R137, R145: an offered frame enters the queue when a place is free. -/
def State.canQueue (s : State) : Bool :=
  s.takesOffers && decide (s.port.queue.length < Config.queueCap)

/-- R131, R179: the class of a frame. -/
def Frame.cls : Frame → Nat
  | .snapHead _ _ _ _ _ _ _ _ => 0
  | .snapPages _ _ _ => 0
  | .snapAmend _ _ _ => 0
  | .lapse _ _ _ => 1
  | .done _ _ => 1
  | .fail _ _ => 1
  | .release _ => 1
  | .launch _ => 1
  | .drop _ => 1
  | .claim _ _ => 2
  | .renew _ => 2
  | .amend _ => 2
  | .ask _ => 3
  | .join _ _ => 3
  | .leave _ => 3

/-- R136: the class of an entry; a run has class 0. -/
def TxBody.cls : TxBody → Nat
  | .frame f => f.cls
  | .run _ _ => 0

/-- R136: the head of the queue: the WAITING entry of the lowest class, the earliest within it. The list
stands in the order of entry. -/
def Port.head (p : Port) : Option TxEntry :=
  let waiting := p.queue.filter (fun e => !e.onBus)
  (List.range 4).findSome? (fun c => waiting.find? (fun e => e.body.cls = c))

/-- R131: the arbitration value. -/
def arbitration (cls station : Nat) : Nat := cls * 16 + station

/-- R132: with no contender of a lower value the station reads back every bit it sends. -/
def winsOver (value : Nat) (others : List Nat) : Bool := others.all (fun v => decide (value ≤ v))

/-! ## Closing frames (R47) -/

/-- The frame is a DONE, FAIL or RELEASE of the page. -/
def Frame.closes (page : Nat) : Frame → Bool
  | .done p _ => decide (p = page)
  | .fail p _ => decide (p = page)
  | .release p => decide (p = page)
  | _ => false

def TxBody.closes (page : Nat) : TxBody → Bool
  | .frame f => f.closes page
  | .run _ _ => false

/-- R47, R68: a closing frame for the page waits in the Claim Unit or is in the transmit queue. -/
def State.closing (s : State) (page : Nat) : Bool :=
  s.claims.waiting.any (Frame.closes page) || s.port.queue.any (fun e => e.body.closes page)

/-! ## The board -/

def Entry.isOpen (e : Entry) : Bool := decide (e.status = .opened)

/-- R37: PRINTED or FAILED. -/
def Entry.settled (e : Entry) : Bool :=
  match e.status with
  | .printed _ _ => true
  | .failed _ _ => true
  | .opened => false
  | .claimed _ => false

/-- R37: the board is complete when every entry is PRINTED or FAILED. -/
def completeBoard (es : List Entry) : Bool := es.all Entry.settled

/-- R39: the lowest-numbered OPEN page that no sheet of the sheet list names. -/
def candidate (es : List Entry) (sheets : List Sheet) : Option Nat :=
  (List.range es.length).find? (fun p =>
    (match es[p]? with | some e => e.isOpen | none => false) && !sheets.any (fun sh => decide (sh.page = p)))

/-- R39: the claiming condition, answering the chosen page when it holds. -/
def State.claimChoice (s : State) : Option Nat :=
  if s.ctl.state = .active ∧ s.fault.phase = .clear ∧ s.lane.offline = false ∧
      s.claims.work.length < s.claimDepth ∧ s.claims.pending = none then
    match s.board.replica with
    | some r => candidate r.entries s.lane.sheets
    | none => none
  else none

/-- R34: the lowest-numbered EXPIRED lease timer. -/
def firstExpired (ls : List (Option Lease)) : Option Nat :=
  (List.range ls.length).find? (fun p => decide (ls[p]? = some (some .expired)))

/-- R34: the offering conditions that concern the station: ACTIVE, ENABLED and a free place. -/
def State.mayOffer (s : State) : Bool := decide (s.ctl.state = .active) && s.canQueue

/-- R137: a block that precedes the claiming evaluation in the grant order waits for a place. -/
def State.earlierWaits (s : State) : Bool :=
  !s.ctl.waiting.isEmpty || !s.claims.waiting.isEmpty ||
  (decide (s.ctl.state = .active) && (firstExpired s.board.leases).isSome)

/-! ## The Compositor -/

/-- R57: the Compositor holds a page from BOUNDARY to the sending of its PAGE_CLOSE. -/
def State.holdsPage (s : State) : Bool := s.comp.held.isSome

/-- R68: the page-start condition, answering the entry to take when it holds. -/
def State.pageStart (s : State) : Option WorkEntry :=
  if s.comp.state = .idle ∧ s.ctl.state = .active ∧ s.fault.phase ≠ .recovering ∧
      s.lane.sheetReady = true ∧ s.lane.sheets.length < Config.sheetCap then
    s.claims.work.find? (fun e => decide (e.phase = .queued) && !s.closing e.page)
  else none

/-- The normal PAGE_CLOSE has been handed (R86). -/
def Packet.isClose : Packet → Bool
  | .pageClose _ _ => true
  | _ => false

def State.closeHanded (s : State) : Bool :=
  match s.lane.inFlight with
  | some p => p.isClose
  | none => false

/-- R86: a cut requested now finds something to cut. -/
def State.cuttable (s : State) : Bool := s.holdsPage && !s.closeHanded

/-! ## The Tile Store and the Fetch Unit -/

def Ref.isComposing : Ref → Bool
  | .composing _ => true
  | .prefetch _ _ => false

def Slot.refs : Slot → List Ref
  | .free => []
  | .filling _ rs => rs
  | .ready _ _ _ rs => rs

def Slot.isFree : Slot → Bool
  | .free => true
  | .filling _ _ => false
  | .ready _ _ _ _ => false

def Slot.isReady : Slot → Bool
  | .ready _ _ _ _ => true
  | .free => false
  | .filling _ _ => false

def Slot.portrait? : Slot → Option Id32
  | .free => none
  | .filling p _ => some p
  | .ready p _ _ _ => some p

/-- R101: the owner class is COMPOSING while a composing reference is counted. -/
def Slot.composing (sl : Slot) : Bool := sl.refs.any Ref.isComposing

/-- R101: FILLING or READY with no composing reference. -/
def Slot.isPrefetch (sl : Slot) : Bool := !sl.isFree && !sl.composing

/-- The lowest-numbered FREE slot. -/
def Tiles.firstFree (t : Tiles) : Option Nat :=
  (List.range t.slots.length).find? (fun n => match t.slots[n]? with | some sl => sl.isFree | none => false)

/-- R104: the READY PREFETCH slot latest in the fill order. -/
def Tiles.evictable (t : Tiles) : Option Nat :=
  t.fillOrder.reverse.find? (fun n =>
    match t.slots[n]? with | some sl => sl.isReady && sl.isPrefetch | none => false)

/-- R100: the FILLING or READY slot that holds a portrait id; no two do. -/
def Tiles.slotOf (t : Tiles) (pid : Id32) : Option Nat :=
  (List.range t.slots.length).find? (fun n =>
    match t.slots[n]? with | some sl => decide (sl.portrait? = some pid) | none => false)

/-- R105: how many slots are of owner class PREFETCH. -/
def Tiles.prefetchSlots (t : Tiles) : Nat := (t.slots.filter Slot.isPrefetch).length

/-- R102: the three conditions for sending a FETCH. -/
def State.mayFetch (s : State) : Bool :=
  decide (s.fetch.list.length < Config.fetchCap) && s.link.up && !s.fetch.hold

/-- R105: the cell's mark is HELD: a prefetch reference is counted for it. -/
def Tiles.holds (t : Tiles) (r : Ref) : Bool := t.slots.any (fun sl => sl.refs.contains r)

/-- R67, R72: the learned-placeholder record names a cell of a page at an edition. -/
def learnedKind (l : Option Learned) (page edition cell : Nat) : Option Notice :=
  match l with
  | some r =>
    if r.page = page ∧ r.edition = edition then
      (r.cells.find? (fun c => decide (c.1 = cell))).map (fun c => c.2)
    else none
  | none => none

/-! ## The Fault Unit -/

/-- R162: the awaited set is empty and every local step of the recovery is complete. -/
def FaultUnit.settled (f : FaultUnit) : Bool :=
  f.awaited.isEmpty && !f.cutStep && !f.flushStep && !f.haltStep

end Sys2Proof.Machine
end

