-- ==== Sys2Proof/Machine/Ops.lean ====
section
/-! DEFINITION. The named operations over the state: one setter per block, the DRAM's reads and writes, the
outbound list, the transmit queue, and the references of the Tile Store. -/

namespace Sys2Proof.Machine

/-! ## One setter per block -/

def State.setStraps (s : State) (x : Straps) : State := { s with straps := x }
def State.setCtl (s : State) (x : Ctl) : State := { s with ctl := x }
def State.setSetup (s : State) (x : Option Setup) : State := { s with setup := x }
def State.setRoster (s : State) (x : Roster) : State := { s with roster := x }
def State.setBoard (s : State) (x : Board) : State := { s with board := x }
def State.setClaims (s : State) (x : Claims) : State := { s with claims := x }
def State.setPool (s : State) (x : List Amendment) : State := { s with pool := x }
def State.setLaunch (s : State) (x : Launch) : State := { s with launch := x }
def State.setComp (s : State) (x : Comp) : State := { s with comp := x }
def State.setTiles (s : State) (x : Tiles) : State := { s with tiles := x }
def State.setFetch (s : State) (x : Fetch) : State := { s with fetch := x }
def State.setLane (s : State) (x : Lane) : State := { s with lane := x }
def State.setPort (s : State) (x : Port) : State := { s with port := x }
def State.setFault (s : State) (x : FaultUnit) : State := { s with fault := x }
def State.setLink (s : State) (x : Link) : State := { s with link := x }

/-! ## The DRAM (R100) -/

/-- The canonical form: addresses strictly rising, and no entry equal to what an unlisted address reads
as (0, log 4). -/
abbrev Mem.wf (m : List Host.Cell) : Prop :=
  m.Pairwise (fun x y => x.1 < y.1) ∧ ∀ c ∈ m, c.2 ≠ 0

/-- What an unlisted address reads as (DESIGN CHOICE, log 4). -/
def Mem.unlisted : Byte := 0

/-- Read one byte. -/
def Mem.read (m : List Host.Cell) (a : Nat) : Byte :=
  match m.find? (fun c => decide (c.1 = a)) with
  | some c => c.2
  | none => Mem.unlisted

/-- The cells of a run of bytes from an address on, the unlisted value left out. -/
def Mem.cellsFrom (a : Nat) : List Byte → List Host.Cell
  | [] => []
  | b :: bs => if b = Mem.unlisted then Mem.cellsFrom (a + 1) bs else (a, b) :: Mem.cellsFrom (a + 1) bs

/-- Write a run of bytes from an address on. -/
def Mem.write (m : List Host.Cell) (a : Nat) (bs : List Byte) : List Host.Cell :=
  m.filter (fun c => decide (c.1 < a)) ++ Mem.cellsFrom a bs ++
    m.filter (fun c => decide (a + bs.length ≤ c.1))

/-- The address of byte k of a slot's region. -/
def slotAddress (slot k : Nat) : Nat := slot * Config.slotBytes + k

/-! ## The outbound list (R177) -/

/-- Hand a record over: it enters the tail, or is discarded and counted when the list is full. -/
def State.emit (s : State) (b : OutBody) : State :=
  if s.link.outbound.length < Config.outboundCap then
    s.setLink { s.link with outbound := s.link.outbound ++ [⟨s.straps.station, b⟩] }
  else
    s.setLink { s.link with outDropped := (s.link.outDropped + 1) % Config.counterMod }

/-- R173: an inbound record is dropped and counted. -/
def State.dropInbound (s : State) : State :=
  s.setLink { s.link with inDropped := (s.link.inDropped + 1) % Config.counterMod }

/-! ## The transmit queue (R136 to R138) -/

/-- Put an entry at the tail with the next enqueue number. -/
def State.enqueue (s : State) (b : TxBody) : State :=
  s.setPort { s.port with
    queue := s.port.queue ++ [{ body := b, hold := false, seq := s.port.seq, onBus := false }],
    seq := (s.port.seq + 1) % 65536 }

/-- R137: offer a frame or run: `none` when it is not queued. -/
def State.offer (s : State) (b : TxBody) : Option State :=
  if s.canQueue then some (s.enqueue b) else none

/-- R138: withdraw the WAITING entries that an owner names. -/
def State.withdraw (s : State) (names : TxBody → Bool) : State :=
  s.setPort { s.port with queue := s.port.queue.filter (fun e => e.onBus || !names e.body) }

/-- R137, R147: offer a Station Controller's frame or run, or let it wait. -/
def State.ctlBody (s : State) : CtlItem → TxBody
  | .ask => .frame (.ask (s.roster.identity.getD 0))
  | .join => .frame (.join s.straps.station (s.roster.identity.getD 0))
  | .leave => .frame (.leave s.straps.station)
  | .run rq full => .run rq full

def State.offerCtl (s : State) (i : CtlItem) : State :=
  match s.offer (s.ctlBody i) with
  | some s' => s'
  | none => s.setCtl { s.ctl with waiting := s.ctl.waiting ++ [i] }

/-- R149: an ASK of the station's own is queued or waiting. -/
def TxBody.isAsk : TxBody → Bool
  | .frame (.ask _) => true
  | _ => false

def State.hasAsk (s : State) : Bool :=
  s.ctl.waiting.contains .ask || s.port.queue.any (fun e => e.body.isAsk)

/-- Offer ASK, unless one is already queued or waiting (R149, R153). -/
def State.offerAsk (s : State) : State := if s.hasAsk then s else s.offerCtl .ask

/-- The body is a snapshot run for the requester. -/
def TxBody.runFor (requester : Nat) : TxBody → Bool
  | .run rq _ => decide (rq = requester)
  | .frame _ => false

def CtlItem.runFor (requester : Nat) : CtlItem → Bool
  | .run rq _ => decide (rq = requester)
  | .ask => false
  | .join => false
  | .leave => false

def TxBody.isRun : TxBody → Bool
  | .run _ _ => true
  | .frame _ => false

def CtlItem.isRun : CtlItem → Bool
  | .run _ _ => true
  | .ask => false
  | .join => false
  | .leave => false

/-! ## References and slots (R101) -/

/-- R101: a READY slot without a reference becomes FREE. -/
def Slot.settle : Slot → Slot
  | .free => .free
  | .filling p rs => .filling p rs
  | .ready p w h rs => if rs.isEmpty then .free else .ready p w h rs

/-- R101: keep the references that pass. -/
def Slot.keepRefs (keep : Ref → Bool) : Slot → Slot
  | .free => .free
  | .filling p rs => .filling p (rs.filter keep)
  | .ready p w h rs => .ready p w h (rs.filter keep)

/-- Add references at the end, in order. -/
def Slot.addRefs (new : List Ref) : Slot → Slot
  | .free => .free
  | .filling p rs => .filling p (rs ++ new)
  | .ready p w h rs => .ready p w h (rs ++ new)

/-- R101, R113: the stale flag of an entry says that its slot's reference count is 0. -/
def FetchEntry.restale (slots : List Slot) (e : FetchEntry) : FetchEntry :=
  { e with stale := match slots[e.slot]? with | some sl => sl.refs.isEmpty | none => true }

/-- R101: settle every slot and every stale mark after references have changed. -/
def State.withSlots (s : State) (slots : List Slot) : State :=
  let slots' := slots.map Slot.settle
  (s.setTiles { s.tiles with
      slots := slots',
      fillOrder := s.tiles.fillOrder.filter (fun n =>
        match slots'[n]? with | some sl => sl.isReady | none => false) }).setFetch
    { s.fetch with list := s.fetch.list.map (FetchEntry.restale slots') }

/-- Remove every reference that does not pass. -/
def State.keepRefs (s : State) (keep : Ref → Bool) : State :=
  s.withSlots (s.tiles.slots.map (Slot.keepRefs keep))

/-- Count references on a slot. -/
def State.addRefs (s : State) (slot : Nat) (new : List Ref) : State :=
  s.withSlots (s.tiles.slots.modify slot (Slot.addRefs new))

/-- R105: discard a page's prefetch record: its HELD references go, and the record with its SETTLED marks. -/
def State.dropPrefetch (s : State) (page : Nat) : State :=
  let s1 := s.keepRefs (fun r => match r with | .prefetch p _ => decide (p ≠ page) | .composing _ => true)
  s1.setFetch { s1.fetch with prefetch := s1.fetch.prefetch.filter (fun r => decide (r.page ≠ page)) }

/-- R105: make a page's prefetch record, every mark NONE. -/
def State.newPrefetch (s : State) (page : Nat) : State :=
  s.setFetch { s.fetch with prefetch := s.fetch.prefetch ++ [{ page := page, settled := [] }] }

/-- R102: make a request for a slot: FILLING with its references, the entry at the tail, the FETCH handed
over, and the fetch timer started when the entry becomes the head (R107). -/
def State.request (s : State) (slot : Nat) (pid : Id32) (refs : List Ref) (retry : Bool) : State :=
  let s1 := s.setTiles { s.tiles with slots := s.tiles.slots.set slot (.filling pid refs) }
  let s2 := s1.setFetch { s1.fetch with
    list := s1.fetch.list ++ [{ tag := s1.fetch.tag, portrait := pid, slot := slot, stale := refs.isEmpty, retry := retry }],
    tag := (s1.fetch.tag + 1) % 256,
    timer := if s1.fetch.list.isEmpty then some s.fetchMs else s1.fetch.timer }
  s2.emit (.fetch s.fetch.tag pid)

/-- R104, R111: take every reference off a slot and free it. -/
def State.freeSlot (s : State) (slot : Nat) : State :=
  s.setTiles { s.tiles with
    slots := s.tiles.slots.set slot .free,
    fillOrder := s.tiles.fillOrder.filter (fun n => decide (n ≠ slot)) }

/-- A cell's reference flag says that it holds a reference; the answer it may have is kept. -/
def Cell.dropRef (c : Cell) : Cell := { c with ref := false }

/-- Clear the reference flag of the held page's cells that a predicate names. -/
def State.clearRefs (s : State) (gone : Nat → Bool) : State :=
  match s.comp.held with
  | none => s
  | some h =>
    s.setComp { s.comp with held := some { h with
      cells := h.cells.mapIdx (fun i c => if gone i then c.dropRef else c) } }

/-- R114: flush the Fetch Unit. -/
def State.flushFetch (s : State) : State :=
  let slots := s.fetch.list.foldl (fun sl e => sl.set e.slot .free) s.tiles.slots
  let s1 := (s.setTiles { s.tiles with slots := slots }).setFetch
    { s.fetch with list := [], wants := [], answer := none, timer := none, hold := true }
  s1.clearRefs (fun i => !slots.any (fun sl => sl.refs.contains (.composing i)))

/-! ## The work list -/

/-- R36, R38: the page leaves the work list: its renewal schedule ends, a RENEW still queued for it is
withdrawn, and its prefetch record is discarded. -/
def TxBody.isRenew (page : Nat) : TxBody → Bool
  | .frame (.renew p) => decide (p = page)
  | _ => false

def State.leaveWork (s : State) (page : Nat) : State :=
  ((s.setClaims { s.claims with work := s.claims.work.filter (fun e => decide (e.page ≠ page)) }).withdraw
    (TxBody.isRenew page)).dropPrefetch page

def State.workEntry (s : State) (page : Nat) : Option WorkEntry :=
  s.claims.work.find? (fun e => decide (e.page = page))

/-- R47: ask for a closing frame: queued at once, or waiting in the Claim Unit; never a second one for a
page. Frames already waiting keep their turn (R137). -/
def State.askClosing (s : State) (f : Frame) (page : Nat) : State :=
  if s.closing page then s
  else if s.claims.waiting.isEmpty && s.canQueue then s.enqueue (.frame f)
  else s.setClaims { s.claims with waiting := s.claims.waiting ++ [f] }

/-! ## The pending CLAIM (R39, R40) -/

def TxBody.isClaim : TxBody → Bool
  | .frame (.claim _ _) => true
  | _ => false

/-- R40: a reason to withdraw the pending CLAIM stands. -/
def State.pendingStale (s : State) (page : Nat) : Bool :=
  !(match s.board.replica with
    | some r => match r.entries[page]? with | some e => e.isOpen | none => false
    | none => false) ||
  decide (s.fault.phase ≠ .clear) || s.lane.offline || decide (s.ctl.state ≠ .active)

/-- R40: withdraw a pending CLAIM that is WAITING when a reason stands; one on the bus is left. -/
def State.reviewPending (s : State) : State :=
  match s.claims.pending with
  | some p =>
    if s.pendingStale p && s.port.queue.any (fun e => !e.onBus && e.body.isClaim) then
      let s1 := s.withdraw TxBody.isClaim
      s1.setClaims { s1.claims with pending := none }
    else s
  | none => s

/-- R39: queue CLAIM for a page and set the pending-claim flag. -/
def State.queueClaim (s : State) (page : Nat) : State :=
  let s1 := s.enqueue (.frame (.claim page s.straps.station))
  s1.setClaims { s1.claims with pending := some page }

/-- R39: evaluate the claiming condition: when it holds and a place is free for the claim (R137), queue
CLAIM for the chosen page and set the pending-claim flag. -/
def State.evalClaim (s : State) : State :=
  match s.claimChoice with
  | some p => if s.canQueue && !s.earlierWaits then s.queueClaim p else s
  | none => s

/-! ## Lease timers (R34) -/

/-- R34: queue a LAPSE with the holder and mark the replica shows, and mark the timer OFFERED. -/
def State.offerLapse (s : State) (page : Nat) : State :=
  match s.board.replica with
  | none => s
  | some r =>
    match r.entries[page]? with
    | some e =>
      match e.status with
      | .claimed holder =>
        let s1 := s.enqueue (.frame (.lapse page holder e.mark))
        s1.setBoard { s1.board with leases := s1.board.leases.set page (some .offered) }
      | .opened => s
      | .printed _ _ => s
      | .failed _ _ => s
    | none => s

/-- R34: offer the EXPIRED timer of lowest page number when the conditions hold. -/
def State.offerFirst (s : State) : State :=
  if s.mayOffer then
    match firstExpired s.board.leases with
    | some p => s.offerLapse p
    | none => s
  else s

/-- R34: offer EXPIRED timers in ascending page number, one per free place; `n` bounds the number. -/
def State.offerUpTo : Nat → State → State
  | 0, s => s
  | n + 1, s => State.offerUpTo n s.offerFirst

end Sys2Proof.Machine
end

