-- ==== Sys2Proof/Machine/Wire.lean ====
section
/-! DEFINITION. The wire formats (chapter 12): the three check sequences, the hall frame, the snapshot page
entry, the library record and its payloads, the print-lane packet and the return-channel record. -/

namespace Sys2Proof.Machine

/-! ## Check sequences (R181): most significant bit first, no reflection, no final inversion -/

/-- One bit into a check register. -/
def crcBit {w : Nat} (poly reg : BitVec w) (b : Bool) : BitVec w :=
  if reg.msb != b then (reg <<< 1) ^^^ poly else reg <<< 1

/-- The bits of a byte, most significant first (R178). -/
def byteBits (b : Byte) : List Bool := (List.range 8).map (fun i => b.getMsbD i)

def crcBytes {w : Nat} (poly reg : BitVec w) (bs : List Byte) : BitVec w :=
  bs.foldl (fun r b => (byteBits b).foldl (crcBit poly) r) reg

/-- The hall frame's CRC-16, over bits. -/
def crc16 (bits : List Bool) : BitVec 16 := bits.foldl (crcBit 0x1021#16) 0xFFFF#16

/-- R109: the initial value of a CRC-32. -/
def crc32Init : BitVec 32 := 0xFFFFFFFF#32

/-- CRC-32 carried on over more bytes. -/
def crc32On (reg : BitVec 32) (bs : List Byte) : BitVec 32 := crcBytes 0x04C11DB7#32 reg bs

def crc8 (bs : List Byte) : BitVec 8 := crcBytes 0x07#8 0x00#8 bs

/-! ## Bits and numbers -/

/-- A number as so many bits, most significant first. -/
def natBits (w n : Nat) : List Bool := (List.range w).map (fun i => n.testBit (w - 1 - i))

def bitsNat (bits : List Bool) : Nat := bits.foldl (fun n b => 2 * n + b.toNat) 0

/-- Whole bytes out of a run of bits. -/
def bitsBytes : Nat → List Bool → List Byte
  | 0, _ => []
  | n + 1, bits => byte (bitsNat (bits.take 8)) :: bitsBytes n (bits.drop 8)

/-! ## The snapshot page entry (R180) -/

def FailCause.code : FailCause → Nat
  | .lapsed => 1
  | .spoiled => 2
  | .unfetchable => 3

/-- R180: the state code. -/
def PageStatus.code : PageStatus → Nat
  | .opened => 0
  | .claimed _ => 1
  | .printed _ _ => 2
  | .failed _ _ => 3

/-- R22: the holder the state makes present. -/
def PageStatus.holder : PageStatus → Option Nat
  | .opened => none
  | .claimed h => some h
  | .printed h _ => some h
  | .failed h _ => some h

def PageStatus.printedEdition : PageStatus → Option Nat
  | .opened => none
  | .claimed _ => none
  | .printed _ e => some e
  | .failed _ _ => none

def PageStatus.failCause : PageStatus → Option FailCause
  | .opened => none
  | .claimed _ => none
  | .printed _ _ => none
  | .failed _ c => some c

/-- R151, R180: the 7 bytes of an entry; an absent field is sent as 0. -/
def Entry.bytes (e : Entry) : List Byte :=
  [byte (e.status.code * 64 + e.status.holder.getD 0 * 4 + e.lapses), byte e.mark] ++ bytes2 e.need ++
    bytes2 (e.status.printedEdition.getD 0) ++
    [byte ((match e.status.failCause with | some c => c.code | none => 0) * 64 + e.reprints)]

/-- R180: read an entry; `none` when it is out of range. -/
def readEntry (b0 b1 n0 n1 p0 p1 b6 : Byte) : Option Entry :=
  let state := b0.toNat / 64
  let holder := b0.toNat / 4 % 16
  let lapses := b0.toNat % 4
  let printed := be2 p0 p1
  let cause := b6.toNat / 64
  if (state = 0 ∧ holder ≠ 0) ∨ (state ≠ 2 ∧ printed ≠ 0) ∨ (state = 3 ∧ cause = 0) ∨
      (state ≠ 3 ∧ cause ≠ 0) ∨ b6.toNat / 16 % 4 ≠ 0 ∨ (lapses = 3 ∧ state ≠ 3) then none
  else
    let status := match state with
      | 0 => PageStatus.opened
      | 1 => PageStatus.claimed holder
      | 2 => PageStatus.printed holder printed
      | _ => PageStatus.failed holder (match cause with | 1 => .lapsed | 2 => .spoiled | _ => .unfetchable)
    some { status := status, mark := b1.toNat, need := be2 n0 n1, lapses := lapses, reprints := b6.toNat % 16 }

/-- R180: read a frame's entries, 7 bytes each; `none` when one is out of range or bytes are left over. -/
def readEntries : List Byte → Option (List Entry)
  | [] => some []
  | b0 :: b1 :: n0 :: n1 :: p0 :: p1 :: b6 :: rest =>
    match readEntry b0 b1 n0 n1 p0 p1 b6, readEntries rest with
    | some e, some es => some (e :: es)
    | _, _ => none
  | _ => none

/-! ## The hall frame (R131, R179) -/

/-- R179: the kind code within the class. -/
def Frame.code : Frame → Nat
  | .snapHead _ _ _ _ _ _ _ _ => 0
  | .snapPages _ _ _ => 1
  | .snapAmend _ _ _ => 2
  | .lapse _ _ _ => 0
  | .done _ _ => 1
  | .fail _ _ => 2
  | .release _ => 3
  | .launch _ => 4
  | .drop _ => 5
  | .claim _ _ => 0
  | .renew _ => 1
  | .amend _ => 2
  | .ask _ => 0
  | .join _ _ => 1
  | .leave _ => 2

def AmendBody.bytes (b : AmendBody) : List Byte :=
  [byte b.batch] ++ bytes2 b.subject ++ [byte b.kind] ++ b.payload

/-- R179: the payload of a frame. -/
def Frame.payload : Frame → List Byte
  | .snapHead rq rs pid pages last present states n =>
      [byte rq, byte rs] ++ bytes4 pid ++ bytes2 pages ++ bytes2 last ++ bytes2 present.toNat ++
        [byte states, byte n]
  | .snapPages rq ix es => [byte rq, byte ix] ++ es
  | .snapAmend rq ix b => [byte rq, byte ix] ++ AmendBody.bytes b
  | .lapse p h m => bytes2 p ++ [byte h, byte m]
  | .done p e => bytes2 p ++ bytes2 e
  | .fail p c => bytes2 p ++ [byte c]
  | .release p => bytes2 p
  | .launch b => [byte b]
  | .drop b => [byte b]
  | .claim p c => bytes2 p ++ [byte c]
  | .renew p => bytes2 p
  | .amend b => AmendBody.bytes b
  | .ask pid => bytes4 pid
  | .join st pid => byte st :: bytes4 pid
  | .leave st => [byte st]

/-- R179: the bits the CRC-16 covers: class, station number, kind code, HOLD mark, length, payload.
A set HOLD mark is the idle level, 1. -/
def frameBody (sender : Nat) (hold : Bool) (f : Frame) : List Bool :=
  natBits 2 f.cls ++ natBits 4 sender ++ natBits 3 f.code ++ [hold] ++ natBits 7 f.payload.length ++
    f.payload.flatMap byteBits

/-- R179: a frame's bits from the class to the end of the CRC-16. -/
def frameBits (sender : Nat) (hold : Bool) (f : Frame) : List Bool :=
  let body := frameBody sender hold f
  body ++ natBits 16 (crc16 body).toNat

/-- R133, R179: the kind is one of its class, and the length is one the kind may have. -/
def lengthOk (cls code len : Nat) : Bool :=
  match cls, code with
  | 0, 0 => decide (len = 14)
  | 0, 1 => decide (9 ≤ len) && decide (len ≤ 58) && decide ((len - 2) % 7 = 0)
  | 0, 2 => decide (6 ≤ len) && decide (len ≤ 56)
  | 1, 0 => decide (len = 4)
  | 1, 1 => decide (len = 4)
  | 1, 2 => decide (len = 3)
  | 1, 3 => decide (len = 2)
  | 1, 4 => decide (len = 1)
  | 1, 5 => decide (len = 1)
  | 2, 0 => decide (len = 3)
  | 2, 1 => decide (len = 2)
  | 2, 2 => decide (4 ≤ len) && decide (len ≤ 54)
  | 3, 0 => decide (len = 4)
  | 3, 1 => decide (len = 5)
  | 3, 2 => decide (len = 1)
  | _, _ => false

/-- What a good frame says of itself. -/
structure FrameRead where
  cls     : Nat
  sender  : Nat
  code    : Nat
  hold    : Bool
  payload : List Byte
  deriving DecidableEq, Repr

/-- R133: check a frame as read; `none` when it is bad. Bits that stop short of the CRC-16's end are a
frame that fell idle. -/
def readFrame (bits : List Bool) : Option FrameRead :=
  let len := bitsNat ((bits.drop 10).take 7)
  let cls := bitsNat (bits.take 2)
  let code := bitsNat ((bits.drop 6).take 3)
  if bits.length = 17 + 8 * len + 16 ∧ len ≤ 64 ∧ lengthOk cls code len = true ∧
      (crc16 (bits.take (17 + 8 * len))).toNat = bitsNat (bits.drop (17 + 8 * len)) then
    some { cls := cls, sender := bitsNat ((bits.drop 2).take 4), code := code,
           hold := (bits.drop 9).headD false, payload := bitsBytes len (bits.drop 17) }
  else none

/-- R179: an amendment body out of its bytes. -/
def readBody : List Byte → Option AmendBody
  | b :: s0 :: s1 :: k :: rest => some ⟨b.toNat, be2 s0 s1, k.toNat, rest⟩
  | _ => none

/-- R179: the frame that a class, a kind code and a payload spell. -/
def readKind (cls code : Nat) (bs : List Byte) : Option Frame :=
  match cls, code with
  | 0, 0 =>
    match bs with
    | [rq, rs, i0, i1, i2, i3, p0, p1, l0, l1, s0, s1, st, n] =>
      some (.snapHead rq.toNat rs.toNat (be4 i0 i1 i2 i3) (be2 p0 p1) (be2 l0 l1)
        (BitVec.ofNat 16 (be2 s0 s1)) st.toNat n.toNat)
    | _ => none
  | 0, 1 => match bs with | rq :: ix :: es => some (.snapPages rq.toNat ix.toNat es) | _ => none
  | 0, 2 =>
    match bs with
    | rq :: ix :: rest => (readBody rest).map (.snapAmend rq.toNat ix.toNat)
    | _ => none
  | 1, 0 => match bs with | [p0, p1, h, m] => some (.lapse (be2 p0 p1) h.toNat m.toNat) | _ => none
  | 1, 1 => match bs with | [p0, p1, e0, e1] => some (.done (be2 p0 p1) (be2 e0 e1)) | _ => none
  | 1, 2 => match bs with | [p0, p1, c] => some (.fail (be2 p0 p1) c.toNat) | _ => none
  | 1, 3 => match bs with | [p0, p1] => some (.release (be2 p0 p1)) | _ => none
  | 1, 4 => match bs with | [b] => some (.launch b.toNat) | _ => none
  | 1, 5 => match bs with | [b] => some (.drop b.toNat) | _ => none
  | 2, 0 => match bs with | [p0, p1, c] => some (.claim (be2 p0 p1) c.toNat) | _ => none
  | 2, 1 => match bs with | [p0, p1] => some (.renew (be2 p0 p1)) | _ => none
  | 2, 2 => (readBody bs).map .amend
  | 3, 0 => match bs with | [i0, i1, i2, i3] => some (.ask (be4 i0 i1 i2 i3)) | _ => none
  | 3, 1 => match bs with | [st, i0, i1, i2, i3] => some (.join st.toNat (be4 i0 i1 i2 i3)) | _ => none
  | 3, 2 => match bs with | [st] => some (.leave st.toNat) | _ => none
  | _, _ => none

/-- The sender, HOLD mark and frame that good bits spell. -/
def readWhole (bits : List Bool) : Option (Nat × Bool × Frame) :=
  match readFrame bits with
  | some r => (readKind r.cls r.code r.payload).map (fun f => (r.sender, r.hold, f))
  | none => none

/-! ## Library records (R171, R181) -/

/-- The bytes the CRC-32 covers. -/
def recordCore (kind : Nat) (payload : List Byte) : List Byte :=
  byte kind :: (bytes2 payload.length ++ payload)

/-- R181: a library record. -/
def recordBytes (kind : Nat) (payload : List Byte) : List Byte :=
  byte 0x7E :: (recordCore kind payload ++ bytes4 (crc32On crc32Init (recordCore kind payload)))

/-- A reader of a record's payload. -/
abbrev Reader (α : Type) := List Byte → Option (α × List Byte)

def rd1 : Reader Nat
  | b :: bs => some (b.toNat, bs)
  | [] => none

def rd2 : Reader Nat
  | a :: b :: bs => some (be2 a b, bs)
  | _ => none

def rd4 : Reader Id32
  | a :: b :: c :: d :: bs => some (be4 a b c d, bs)
  | _ => none

/-- R181: a text: a length byte and that many characters. -/
def rdText : Reader Text
  | n :: bs => if n.toNat ≤ bs.length then some (bs.take n.toNat, bs.drop n.toNat) else none
  | [] => none

/-- R181: an optional text: length 0 marks absence. -/
def rdOptText : Reader (Option Text) := fun bs =>
  (rdText bs).map (fun r => (if r.1.isEmpty then none else some r.1, r.2))

/-- R181: an optional number: a presence byte and the field. -/
def rdOpt4 : Reader (Option Id32)
  | p :: bs => (rd4 bs).map (fun r => (if p = 0 then none else some r.1, r.2))
  | [] => none

/-- So many one-byte values. -/
def rdMany : Nat → Reader (List Nat)
  | 0, bs => some ([], bs)
  | n + 1, bs => do
    let (x, bs) ← rd1 bs
    let (xs, bs) ← rdMany n bs
    some (x :: xs, bs)

/-- A whole payload: nothing may be left. -/
def whole {α : Type} (r : Option (α × List Byte)) : Option α :=
  match r with
  | some (x, []) => some x
  | _ => none

def rdHead : Reader PlanHead := fun bs => do
  let (i, bs) ← rd4 bs
  let (e, bs) ← rd2 bs
  let (t, bs) ← rd1 bs
  let (x, bs) ← rd1 bs
  let (p, bs) ← rd2 bs
  let (n, bs) ← rd2 bs
  some (⟨i, e, t, x, p, n⟩, bs)

def rdTemplate : Reader Template := fun bs => do
  let (c, bs) ← rd1 bs
  let (r, bs) ← rd1 bs
  let (w, bs) ← rd2 bs
  let (h, bs) ← rd2 bs
  let (hg, bs) ← rd1 bs
  let (vg, bs) ← rd1 bs
  let (ch, bs) ← rd2 bs
  let (th, bs) ← rd2 bs
  let (pw, bs) ← rd2 bs
  let (ph, bs) ← rd2 bs
  let (f, bs) ← rd1 bs
  let (m, bs) ← rd1 bs
  let (ws, bs) ← rdMany 16 bs
  let (tn, bs) ← rd1 bs
  some (⟨c, r, w, h, hg, vg, ch, th, pw, ph, f, m, ws, tn⟩, bs)

def rdSection : Reader Section := fun bs => do
  let (f, bs) ← rd2 bs
  let (c, bs) ← rd2 bs
  let (t, bs) ← rdText bs
  let (tg, bs) ← rd1 bs
  let (i, bs) ← rd1 bs
  let (o, bs) ← rd1 bs
  let (g, bs) ← rd1 bs
  some (⟨f, c, t, tg, i, o, g⟩, bs)

def rdPage : Reader PageRec := fun bs => do
  let (n, bs) ← rd2 bs
  let (k, bs) ← rd1 bs
  let (t, bs) ← rd1 bs
  let (x, bs) ← rd1 bs
  let (sl, bs) ← rd2 bs
  let (ti, bs) ← rdOptText bs
  some (⟨n, k, t, x, sl, ti⟩, bs)

/-- R7; the withdrawn flag's byte is 0 set, anything else clear (R181's position in "set or clear"; log 20). -/
def rdSubject : Reader Subject := fun bs => do
  let (x, bs) ← rd1 bs
  let (p, bs) ← rdOpt4 bs
  let (x0, bs) ← rd2 bs
  let (y0, bs) ← rd2 bs
  let (x1, bs) ← rd2 bs
  let (y1, bs) ← rd2 bs
  let (q, bs) ← rd1 bs
  let (l1, bs) ← rdText bs
  let (l2, bs) ← rdOptText bs
  let (w, bs) ← rd1 bs
  some (⟨x, p, ⟨x0, y0, x1, y1⟩, q, l1, l2, decide (w = 0)⟩, bs)

def rdSetup : Reader Instr := fun bs => do
  let (l, bs) ← rd2 bs
  let (d, bs) ← rd1 bs
  let (f, bs) ← rd2 bs
  some (.setup l d f, bs)

def rdPortraitHead : Reader Instr := fun bs => do
  let (t, bs) ← rd1 bs
  let (p, bs) ← rd4 bs
  let (w, bs) ← rd2 bs
  let (h, bs) ← rd2 bs
  some (.portraitHead t p w h, bs)

def rdPortraitEnd : Reader Instr := fun bs => do
  let (t, bs) ← rd1 bs
  let (c, bs) ← rd4 bs
  some (.portraitEnd t c, bs)

def rdPortraitAbsent : Reader Instr := fun bs => do
  let (t, bs) ← rd1 bs
  let (p, bs) ← rd4 bs
  some (.portraitAbsent t p, bs)

/-- R171, R173, R181: the command an inbound record of a kind and payload is; `none` when the kind is not
one of the seventeen or the length is not the one its encodings give. -/
def readInbound (kind : Nat) (bs : List Byte) : Option Instr :=
  match kind with
  | 0x01 => whole (rdSetup bs)
  | 0x02 => (whole (rdHead bs)).map .planHead
  | 0x03 => (whole (rdTemplate bs)).map .planTemplate
  | 0x04 => (whole (rdSection bs)).map .planSection
  | 0x05 => (whole (rdPage bs)).map .planPage
  | 0x06 => (whole (rdSubject bs)).map .planSubject
  | 0x07 => if bs.isEmpty then some .planEnd else none
  | 0x08 => whole (rdPortraitHead bs)
  | 0x09 => match bs with | t :: r :: rs => some (.portraitData t.toNat (r :: rs)) | _ => none
  | 0x0A => whole (rdPortraitEnd bs)
  | 0x0B => whole (rdPortraitAbsent bs)
  | 0x0C => if bs.length ≤ 54 then (readBody bs).map .amendIn else none
  | 0x0D => match bs with | [b] => some (.launchIn b.toNat) | _ => none
  | 0x0E => match bs with | [b] => some (.dropIn b.toNat) | _ => none
  | 0x0F => match bs with | [n] => some (.faultAck n.toNat) | _ => none
  | 0x10 => match bs with | [n] => some (.statusAsk n.toNat) | _ => none
  | 0x11 => if bs.isEmpty then some .restart else none
  | _ => none

/-! ## Print-lane packets and the return channel (R119, R181) -/

def textBytes (t : Text) : List Byte := byte t.length :: t

def Geometry.bytes (g : Geometry) : List Byte :=
  [byte g.columns, byte g.rows] ++ bytes2 g.cellW ++ bytes2 g.cellH ++ [byte g.hGutter, byte g.vGutter] ++
    bytes2 g.captionH ++ bytes2 g.titleH ++ bytes2 g.pageW ++ bytes2 g.pageH ++ [byte g.caption]

def Packet.kind : Packet → Nat
  | .train _ _ _ _ => 1
  | .pageOpen _ _ _ => 2
  | .pageMeta _ _ _ _ _ _ => 3
  | .title _ => 4
  | .band _ _ _ _ => 5
  | .captionCell _ _ _ => 6
  | .captionRow _ _ => 6
  | .pageClose _ _ => 7

/-- R117 to R119: a packet's payload. DESIGN CHOICE: the rules give its fields and no widths; they take the one, two
and four bytes, and texts their length byte, as R181 encodes library records (log 35). A set CUT flag is byte 1
(log 20). -/
def Packet.payload : Packet → List Byte
  | .train t n g pattern => [byte t, byte n] ++ g.bytes ++ pattern
  | .pageOpen p e t => bytes2 p ++ bytes2 e ++ [byte t]
  | .pageMeta p e st t n ps =>
      bytes2 p ++ bytes2 e ++ [byte st, byte t, byte n, byte ps.length] ++ ps.map byte
  | .title t => textBytes t
  | .band i l n raster => [byte i] ++ bytes2 l ++ [byte n] ++ raster
  | .captionCell i l1 l2 => byte i :: (textBytes l1 ++ textBytes (l2.getD []))
  | .captionRow r ls => byte r :: byte ls.length :: ls.flatMap textBytes
  | .pageClose cut n => [byte (if cut then 1 else 0), byte n]

/-- The kind and the three length bytes, which the CRC-8 covers. -/
def headerCore (kind length : Nat) : List Byte :=
  [byte kind, byte (length / 65536), byte (length / 256), byte length]

/-- R181: a packet as sent. -/
def Packet.bytes (p : Packet) : List Byte :=
  byte 0xA5 :: (headerCore p.kind p.payload.length ++ [crc8 (headerCore p.kind p.payload.length)] ++ p.payload)

/-- R121: what the return channel carries. -/
inductive ReturnEvent where
  | good (page : Nat) (outcome : EngineOutcome)
  | bad
  deriving DecidableEq, Repr

/-- R121, R181: judge the payload of a record whose header is good. -/
def readOutcome : List Byte → ReturnEvent
  | [p0, p1, c] =>
    if 1024 ≤ be2 p0 p1 then .bad
    else match c.toNat with
      | 1 => .good (be2 p0 p1) .delivered
      | 2 => .good (be2 p0 p1) .spoiled
      | 3 => .good (be2 p0 p1) .withdrawn
      | _ => .bad
  | _ => .bad

/-- R181: hunt the return channel. After a bad header hunting resumes at the byte after the start byte,
after a good one at the byte after the payload; an incomplete record is left for later. DESIGN CHOICE (log 43): a
record with a good header and a wrong length is found bad when its announced payload has come. `fuel` bounds the
bytes looked at. -/
def huntReturn : Nat → List Byte → List ReturnEvent × List Byte
  | 0, bs => ([], bs)
  | _ + 1, [] => ([], [])
  | fuel + 1, b :: bs =>
    if b ≠ byte 0xA5 then huntReturn fuel bs
    else match bs with
      | k :: l2 :: l1 :: l0 :: c :: rest =>
        if crc8 [k, l2, l1, l0] = c ∧ k = byte 0x10 then
          let len := l2.toNat * 65536 + l1.toNat * 256 + l0.toNat
          if rest.length < len then ([], b :: bs)
          else
            let r := huntReturn fuel (rest.drop len)
            (readOutcome (rest.take len) :: r.1, r.2)
        else
          let r := huntReturn fuel bs
          (.bad :: r.1, r.2)
      | _ => ([], b :: bs)

end Sys2Proof.Machine
end

