-- ==== Sys2Proof/Machine/Roster.lean ====
section
/-! DEFINITION. The Roster Store: how a load takes its records (R13, R14) and the seven checks of a plan
(R15 to R18). -/

namespace Sys2Proof.Machine

/-! ## Loading (R13, R14) -/

/-- R13. -/
def Roster.begin (h : PlanHead) : Roster :=
  { status := .loading, head := some h, templates := [], sections := [], pages := [], subjects := [],
    edition := 0,
    track := some { expected := 0, gotTemplates := 0, gotSections := 0, gotPages := 0, gotSubjects := 0,
                    disorder := false, firstOut := none, position := 0 } }

/-- R14: a received count rises by 1, saturating at 4097. -/
def countUp (n : Nat) : Nat := min (n + 1) Config.receivedMax

/-- R14: the tracking state after an in-order record of kind k. -/
def Track.inOrder (t : Track) (k : Nat) : Track :=
  let t' := { t with position := t.position + 1, expected := k }
  match k with
  | 0 => { t' with gotTemplates := countUp t.gotTemplates }
  | 1 => { t' with gotSections := countUp t.gotSections }
  | 2 => { t' with gotPages := countUp t.gotPages }
  | _ => { t' with gotSubjects := countUp t.gotSubjects }

/-- R14: the tracking state after an out-of-order record: the order flag, and the first such position. -/
def Track.outOfOrder (t : Track) : Track :=
  { t with position := t.position + 1, disorder := true,
           firstOut := some (t.firstOut.getD (min (t.position + 1) Config.positionMax)) }

/-- R14: a body record of kind k, stored by `add` when it is in order. -/
def Roster.takeBody (ro : Roster) (k : Nat) (add : Roster → Roster) : Roster :=
  match ro.track with
  | none => ro
  | some t =>
    if k < t.expected then { ro with track := some t.outOfOrder }
    else add { ro with track := some (t.inOrder k) }

/-- R14: store at the next index unless the table already holds its capacity. -/
def push {α : Type} (cap : Nat) (xs : List α) (x : α) : List α :=
  if xs.length < cap then xs ++ [x] else xs

/-- R7: a caption line 2 of length 0 is stored as absent. -/
def Subject.stored (j : Subject) : Subject :=
  { j with line2 := match j.line2 with | some [] => none | some t => some t | none => none }

/-! ## The checks (R16 to R18): each answers the reported index of its failure -/

/-- The first index at which a check fails. -/
def firstFail {α : Type} (ok : Nat → α → Bool) (xs : List α) : Option Nat :=
  (List.range xs.length).find? (fun i => match xs[i]? with | some x => !ok i x | none => false)

def inRange (lo hi n : Nat) : Bool := decide (lo ≤ n) && decide (n ≤ hi)

/-- R16, check 1. -/
def checkCounts (h : PlanHead) (t : Track) : Option Nat :=
  if !(inRange 1 Config.templateCap h.templates && inRange 1 Config.sectionCap h.sections &&
       inRange 1 Config.pageCap h.pages && inRange 1 Config.subjectCap h.subjects) then some 0
  else if t.gotTemplates ≠ h.templates then some 1
  else if t.gotSections ≠ h.sections then some 2
  else if t.gotPages ≠ h.pages then some 3
  else if t.gotSubjects ≠ h.subjects then some 4
  else none

/-- R16, check 2. -/
def checkOrder (t : Track) : Option Nat := if t.disorder then some (t.firstOut.getD 0) else none

/-- R3: the grid fits the page across and down. -/
def templateFits (t : Template) : Bool :=
  decide (t.columns * t.cellW + (t.columns + 1) * t.hGutter ≤ t.pageW) &&
  decide (t.titleH + t.rows * (t.cellH + t.captionH) + (t.rows + 1) * t.vGutter ≤ t.pageH)

/-- R3, R17: check 3 for one template. -/
def templateOk (t : Template) : Bool :=
  inRange 1 12 t.columns && inRange 1 8 t.rows && inRange 32 2048 t.cellW && inRange 32 2560 t.cellH &&
  inRange 0 255 t.hGutter && inRange 0 255 t.vGutter && inRange 16 512 t.captionH &&
  (decide (t.titleH = 0) || inRange 32 512 t.titleH) && inRange 64 7200 t.pageW &&
  inRange 64 9600 t.pageH && decide (t.facing < 3) && decide (t.caption < 2) && decide (t.tone < 2) &&
  decide (t.weights.length = 16) && t.weights.all (fun w => decide (w ≤ 15)) && templateFits t

/-- R5: where section k must begin: the running total of the sections before it. -/
def tiling (xs : List Section) (k : Nat) : Nat := ((xs.take k).map (fun x => x.count)).sum

/-- R5, R17: check 4 for one section. -/
def sectionOk (ro : Roster) (k : Nat) (x : Section) : Bool :=
  inRange 0 4095 x.first && inRange 1 1024 x.count && textOk 1 32 x.title && inRange 16 240 x.target &&
  inRange 0 127 x.inner && inRange x.inner 127 x.outer && inRange 16 48 x.ceiling &&
  decide (x.first = tiling ro.sections k) &&
  (decide (k + 1 ≠ ro.sections.length) || decide (x.first + x.count = ro.subjectCount))

/-- R6, R18: check 5 for one page record. -/
def pageOk (ro : Roster) (p : PageRec) : Bool :=
  match ro.templates[p.template]?, ro.sections[p.sectionIx]? with
  | some t, some x =>
    (match p.kind with
     | 0 => decide (p.slice < x.count)
     | 1 => decide (p.slice = 0) && decide (x.count ≤ t.cellCount)
     | _ => false) &&
    (match p.title with | some title => textOk 1 32 title | none => true)
  | _, _ => false

/-- R6, R18: check 6 for one page record. -/
def pageNumberOk (ro : Roster) (a : Nat) (p : PageRec) : Bool :=
  decide (p.number < ro.pageCount) && !(ro.pages.take a).any (fun q => decide (q.number = p.number))

/-- R7, R18: check 7 for one subject. -/
def subjectOk (ro : Roster) (n : Nat) (j : Subject) : Bool :=
  (match ro.sections[j.sectionIx]? with
   | some x => decide (x.first ≤ n) && decide (n < x.first + x.count)
   | none => false) &&
  decide (j.pose < 3) && cropOk j.crop && textOk 1 24 j.line1 &&
  (match j.line2 with | some t => textOk 0 24 t | none => true)

/-- R15: the checks in order; the code and the index of the first failure. -/
def Roster.validate (ro : Roster) : Option (Nat × Nat) :=
  match ro.head, ro.track with
  | some h, some t =>
    ((checkCounts h t).map (Prod.mk 1)).or
      (((checkOrder t).map (Prod.mk 2)).or
        (((firstFail (fun _ => templateOk) ro.templates).map (Prod.mk 3)).or
          (((firstFail (sectionOk ro) ro.sections).map (Prod.mk 4)).or
            (((firstFail (fun _ => pageOk ro) ro.pages).map (Prod.mk 5)).or
              (((firstFail (pageNumberOk ro) ro.pages).map (Prod.mk 6)).or
                ((firstFail (subjectOk ro) ro.subjects).map (Prod.mk 7)))))))
  | _, _ => some (1, 0)

/-- R15: the store after a plan that passed. -/
def Roster.loaded (ro : Roster) : Roster :=
  { ro with status := .loaded, edition := match ro.head with | some h => h.edition | none => 0, track := none }

end Sys2Proof.Machine
end

