-- ==== Sys2Proof/Machine/Launch.lean ====
section
/-! DEFINITION. Applying launched batches to the Roster Store, and the hand-off to the Fetch Unit (R57 to
R60, R113). -/

namespace Sys2Proof.Machine

/-- R59: one record's effect on its subject's entry. -/
def Subject.amend (j : Subject) : Payload → Subject
  | .retake pid c q => { j with portrait := some pid, crop := c, pose := q }
  | .caption l1 l2 => { j with line1 := l1, line2 := l2 }
  | .withdraw => { j with withdrawn := true }
  | .restore => { j with withdrawn := false }

/-- R59: write one record. -/
def Roster.applyRecord (ro : Roster) (a : Amendment) : Roster :=
  { ro with subjects := ro.subjects.modify a.subject (fun j => Subject.amend j a.payload) }

/-- R59: write a batch, record after record; the roster edition becomes the batch's. -/
def Roster.applyBatch (ro : Roster) (b : Batch) : Roster :=
  { b.records.foldl Roster.applyRecord ro with edition := b.edition }

/-- R60: the record puts its subject on the hand-off's first list. -/
def Payload.isRetake : Payload → Bool
  | .retake _ _ _ => true
  | .caption _ _ => false
  | .withdraw => false
  | .restore => false

/-- R60: the subjects a batch retakes. -/
def Batch.retaken (b : Batch) : List Nat :=
  (b.records.filter (fun a => a.payload.isRetake)).map (fun a => a.subject)

/-- R9: the subject a cell of a page shows. -/
def Roster.subjectAt (ro : Roster) (page cell : Nat) : Option Nat :=
  match ro.page? page with
  | some p => ro.resolve p cell
  | none => none

/-- The cell shows one of the subjects. -/
def Roster.showsOneOf (ro : Roster) (subjects : List Nat) (page cell : Nat) : Bool :=
  match ro.subjectAt page cell with
  | some j => subjects.contains j
  | none => false

/-- R113: take a hand-off: the HELD and SETTLED cells of retaken subjects return to NONE. A previous
portrait whose slot is left without a reference is freed or made stale by `keepRefs` (R101). -/
def State.handOff (s : State) (subjects : List Nat) : State :=
  let s1 := s.keepRefs (fun r => match r with
    | .prefetch p c => !s.roster.showsOneOf subjects p c
    | .composing _ => true)
  s1.setFetch { s1.fetch with prefetch := s1.fetch.prefetch.map (fun r =>
    { r with settled := r.settled.filter (fun c => !s.roster.showsOneOf subjects r.page c) }) }

/-- R59, R60: apply one batch and make its hand-off. -/
def State.applyBatch (s : State) (b : Batch) : State :=
  (s.setRoster (s.roster.applyBatch b)).handOff b.retaken

/-- R57, R62: a point of application: every batch of the queue in launch order, then those of a pending
forced boundary, each entering the empty queue and applied at once. -/
def State.applyWaiting (s : State) : State :=
  ((s.launch.queue ++ s.launch.forced).foldl State.applyBatch s).setLaunch Launch.cleared

/-- R58: the batch fits the queue. -/
def Launch.fits (l : Launch) (b : Batch) : Bool :=
  decide (l.queue.length < Config.launchCap) &&
  decide (b.records.length + (l.queue.map (fun x => x.records.length)).sum ≤ Config.launchRecords)

/-- R86: request a cut: it finds something to cut or has no effect. -/
def State.requestCut (s : State) : State :=
  if s.cuttable then s.setComp { s.comp with cut := true } else s

/-- R10, R61: the batch touches the held page. -/
def State.touchesHeld (s : State) (b : Batch) : Bool :=
  match s.comp.held with
  | some h => s.roster.touchedBy b.records h.page
  | none => false

/-- R57, R58, R61, R62: the Launch Queue takes a launched batch. -/
def State.enqueueBatch (s : State) (b : Batch) : State :=
  if !s.launch.forced.isEmpty then s.setLaunch { s.launch with forced := s.launch.forced ++ [b] }
  else if !s.holdsPage then (s.setLaunch { s.launch with queue := s.launch.queue ++ [b] }).applyWaiting
  else if s.launch.fits b then
    let s1 := s.setLaunch { s.launch with queue := s.launch.queue ++ [b] }
    if s1.touchesHeld b then s1.requestCut else s1
  else (s.setLaunch { s.launch with forced := [b] }).requestCut

end Sys2Proof.Machine
end

