-- ==== Sys2Proof/Machine/Claims.lean ====
section
/-! DEFINITION. The Claim Unit's reports and its action on engine outcomes (R42 to R48), and the dropping of
the work list (R32, R165). -/

namespace Sys2Proof.Machine

/-- R48. -/
def State.reportPage (s : State) (page : Nat) (edition : Option Nat) (o : PageOutcome)
    (n : Option Notices) : State :=
  s.emit (.pageReport page edition o n)

/-- R44: a spoiled entry returns to QUEUED at the head of the work list, with a new prefetch record. -/
def State.requeueSpoiled (s : State) (e : WorkEntry) : State :=
  let first : WorkEntry := { e with phase := .queued, spoils := 1, edition := none, notices := none }
  let rest := s.claims.work.filter (fun x => decide (x.page ≠ e.page))
  (s.setClaims { s.claims with work := first :: rest }).newPrefetch e.page

/-- R42 to R46: the Claim Unit acts on an outcome with its sheet. -/
def State.claimOutcome (s : State) (sh : Sheet) (o : EngineOutcome) : State :=
  if sh.cut then s
  else
    match (s.workEntry sh.page).filter (fun e => decide (e.phase = .inEngine)) with
    | some e =>
      match o with
      | .delivered => s.askClosing (.done sh.page (e.edition.getD 0)) sh.page
      | .spoiled | .withdrawn =>
        if e.spoils = 0 then s.requeueSpoiled e
        else s.askClosing (.fail sh.page FailCause.spoiled.code) sh.page
    | none => s.reportPage sh.page (some sh.edition) .lost none

/-- R165: drop the work list locally: its entries, closing frames waiting in the Claim Unit, RENEW frames
still queued, prefetch records, and the awaited set. -/
def State.dropWork (s : State) : State :=
  let s1 := (s.setClaims { s.claims with work := [], waiting := [] }).withdraw (fun b => match b with
    | .frame (.renew _) => true
    | _ => false)
  let s2 := s1.keepRefs Ref.isComposing
  let s3 := s2.setFetch { s2.fetch with prefetch := [] }
  s3.setFault { s3.fault with awaited := [] }

/-- R37: the flag's passage from clear to set sends a VOLUME_REPORT and counts it. -/
def Replica.report (r : Replica) (identity : Option Id32) (lastLaunched completions : Nat) : VolumeReport :=
  let failedBy (c : FailCause) := (r.entries.filter (fun e => decide (e.status.failCause = some c))).length
  { identity := identity, pages := r.entries.length,
    printed := (r.entries.filter (fun e => decide (e.status.code = 2))).length,
    lapsed := failedBy .lapsed, spoiled := failedBy .spoiled, unfetchable := failedBy .unfetchable,
    lastLaunched := lastLaunched, reprints := (r.entries.map (fun e => e.reprints)).sum,
    completions := completions }

/-- R37: evaluate the complete flag. -/
def State.reviewComplete (s : State) : State :=
  match s.board.replica with
  | none => s
  | some r =>
    let now := completeBoard r.entries
    let s1 := s.setBoard { s.board with replica := some { r with complete := now } }
    if now && !r.complete then
      let n := min (s.board.completions + 1) 255
      (s1.setBoard { s1.board with completions := n }).emit
        (.volumeReport (r.report s.roster.identity s.board.lastLaunched n))
    else s1

end Sys2Proof.Machine
end

