-- ==== Sys2Proof/Machine/Faults.lean ====
section
/-! DEFINITION. The Fault Unit: raising a fault, the recoveries, the halt, and the end of a recovery
(R161 to R169), with the flush of the sheet list (R127). -/

namespace Sys2Proof.Machine

/-! ## Reports (R168) -/

/-- R168: send FAULT_REPORT with a repeat number, and start the report timer. -/
def State.sendFaultReport (s : State) (repeats : Nat) : State :=
  match s.fault.record with
  | none => s
  | some r =>
    let s1 := s.emit (.faultReport
      { record := r, state := s.ctl.state, closed := s.fault.closed, lost := s.fault.lost,
        repeats := repeats })
    s1.setFault { s1.fault with reportTimer := some Config.reportMs, repeats := repeats }

/-- R168: a repeat of the report. -/
def State.repeatFaultReport (s : State) : State := s.sendFaultReport (min (s.fault.repeats + 1) 255)

/-! ## The end of a recovery (R162, R167) -/

/-- R162: end the recovery when the awaited set is empty and its local steps are complete: HELD, the
replay of the deferred outcomes, the first FAULT_REPORT. -/
def State.tryEnd (s : State) : State :=
  if s.fault.phase = .recovering ∧ s.fault.settled = true then
    let s1 := s.setFault { s.fault with phase := .held, deferred := [] }
    let s2 := s.fault.deferred.foldl (fun st d => State.claimOutcome st d.1 d.2) s1
    s2.sendFaultReport 0
  else s

/-- R162: a page leaves the awaited set; `byFrame` when its closing frame was applied (log 11). -/
def State.settlePage (s : State) (page : Nat) (byFrame : Bool) : State :=
  if s.fault.awaited.contains page then
    s.setFault { s.fault with
      awaited := s.fault.awaited.filter (fun p => decide (p ≠ page)),
      closed := if byFrame then s.fault.closed + 1 else s.fault.closed }
  else s

/-! ## What the recoveries ask for -/

/-- R162: ask for a closing frame and await its page. -/
def State.awaitClose (s : State) (f : Frame) (page : Nat) : State :=
  let s1 := s.askClosing f page
  if s1.fault.awaited.contains page then s1
  else s1.setFault { s1.fault with awaited := s1.fault.awaited ++ [page] }

/-- R127, R128: flush the sheet list; the lane phase is left IDLE. DESIGN CHOICE (log 43): the bytes of a return record
begun before the flush are discarded with it. -/
def State.flushSheets (s : State) : State :=
  let n := s.lane.sheets.length
  let s1 := s.setLane { s.lane with
    phase := .idle, hunt := [], sheets := [], headTimer := none, lost := (s.lane.lost + n) % Config.counterMod,
    lastTemplate := none, hold := true }
  s1.setFault { s1.fault with lost := n }

/-- The recovery's cut: requested, and a local step while there is something to cut (R162). -/
def State.cutForRecovery (s : State) : State :=
  let s1 := s.requestCut
  if s1.cuttable then s1.setFault { s1.fault with cutStep := true } else s1

/-- R163: QUEUED and COMPOSING entries give up their claims. DESIGN CHOICE (log 38): an entry whose normal
PAGE_CLOSE has been handed and not yet sent is still COMPOSING. -/
def needsPortraits (e : WorkEntry) : Bool :=
  match e.phase with
  | .queued => true
  | .composing => true
  | .inEngine => false

/-- R163: the closing frame of one entry: FAIL UNFETCHABLE for the page a FETCH_CORRUPT names. -/
def linkClosing (cause : Cause) (named : Option Nat) (page : Nat) : Frame :=
  if cause = .fetchCorrupt ∧ named = some page then .fail page FailCause.unfetchable.code
  else .release page

/-- R163 (of a page whose normal PAGE_CLOSE is in flight: log 38). DESIGN CHOICE (log 45): the closing frames are asked
for in the order of the work list. -/
def State.recoverLink (s : State) (cause : Cause) (named : Option Nat) : State :=
  let s1 := s.cutForRecovery.flushFetch
  (s1.claims.work.filter needsPortraits).foldl
    (fun st e => State.awaitClose st (linkClosing cause named e.page) e.page) s1

/-- R164: the flush waits for the cut. DESIGN CHOICE (log 34): with the normal PAGE_CLOSE in flight there is nothing
to cut, and the flush is made at once; that close's sheet joins the list when it has been sent. The closing frames are
asked for in the order of the work list (log 45). -/
def State.recoverEngine (s : State) : State :=
  let s1 := s.cutForRecovery
  let s2 := s1.claims.work.foldl (fun st e => State.awaitClose st (.release e.page) e.page) s1
  if s2.cuttable then s2.setFault { s2.fault with flushStep := true } else s2.flushSheets

/-- R165: CLAIM_LOST cuts the held page when it is the lost one. -/
def State.cutIfHeld (s : State) (page : Option Nat) : State :=
  match s.comp.held with
  | some h => if page = some h.page then s.requestCut else s
  | none => s

def State.recoverClaimLost (s : State) (page : Option Nat) : State :=
  match s.comp.held with
  | some h => if page = some h.page then s.cutForRecovery else s
  | none => s

/-- R165: BUS_SILENT drops the work list and the pending claim, and requests a cut. The cut is a local step
while a recovery is under way. -/
def State.recoverSilent (s : State) : State :=
  let s1 := s.requestCut.dropWork
  let s2 := s1.setClaims { s1.claims with pending := none }
  if s2.fault.phase = .recovering ∧ s2.cuttable = true then
    s2.setFault { s2.fault with cutStep := true }
  else s2

/-! ## The halt (R159, R166) -/

/-- R159: a halting station withdraws its waiting snapshot runs and discards an ASK or JOIN still waiting,
in the queue as in the controller (log 13). -/
def TxBody.dropsAtHalt : TxBody → Bool
  | .run _ _ => true
  | .frame (.ask _) => true
  | .frame (.join _ _) => true
  | .frame _ => false

/-- R159: the Station Controller enters HALTED and offers LEAVE when the port is ENABLED. -/
def State.enterHalted (s : State) : State :=
  let s1 := (s.setCtl { s.ctl with
    state := .halted, syncTimer := none, collection := none, waiting := [] }).withdraw TxBody.dropsAtHalt
  if s1.port.silent then s1 else s1.offerCtl .leave

/-- R166: ask for RELEASE of every entry, awaited unless the phase is HELD. DESIGN CHOICE (log 45): in the order of the
work list. -/
def State.releaseAll (s : State) : State :=
  s.claims.work.foldl (fun st e =>
    if st.fault.phase = .held then State.askClosing st (.release e.page) e.page
    else State.awaitClose st (.release e.page) e.page) s

/-- R166. -/
def State.halt (s : State) : State :=
  if s.ctl.state = .halted then s
  else
    let s1 := if s.fault.phase = .recovering then s.cutForRecovery else s.requestCut
    let s2 := if s1.port.silent then s1.dropWork else s1.releaseAll
    let s3 := if s2.fault.phase = .recovering ∧ s2.port.silent = false then
        s2.setFault { s2.fault with haltStep := true }
      else s2
    let s4 := s3.enterHalted
    if s4.fault.phase = .held then s4.repeatFaultReport else s4

/-! ## Raising (R161) -/

/-- R161: the band of the record: the one being prepared, when the page is the held page. -/
def State.bandOf (s : State) (page : Option Nat) : Option Nat :=
  match s.comp.held with
  | some h => if page = some h.page then some h.band else none
  | none => none

/-- R161: the record of a first fault, and the phase RECOVERING. -/
def State.recordFault (s : State) (cause : Cause) (page cell : Option Nat) (detail : Nat) : State :=
  s.setFault { s.fault with
    phase := .recovering,
    record := some { serial := s.fault.serial, cause := cause, page := page, cell := cell,
                     band := s.bandOf page, detail := detail, followOn := 0 },
    serial := (s.fault.serial + 1) % 256,
    deferred := [], awaited := [], cutStep := false, flushStep := false, haltStep := false,
    closed := 0, lost := 0, repeats := 0 }

/-- Section 10.3: the recovery of a first fault's cause. -/
def State.recover (s : State) (cause : Cause) (page : Option Nat) : State :=
  if cause.halting then s.halt
  else if cause.linkClass then s.recoverLink cause page
  else if cause.engineClass then s.recoverEngine
  else if cause = .claimLost then s.recoverClaimLost page
  else s.recoverSilent

/-- R161: the four exceptions of a follow-on. -/
def State.followOnActs (s : State) (cause : Cause) (page : Option Nat) : State :=
  if cause.halting then s.halt
  else if cause = .claimLost then s.cutIfHeld page
  else if cause = .busSilent then s.recoverSilent
  else if cause.linkClass then s.requestCut.flushFetch
  else s

/-- R161: count a follow-on. -/
def FaultRecord.again (r : FaultRecord) : FaultRecord := { r with followOn := min (r.followOn + 1) 255 }

/-- R161: a block raises a fault. -/
def State.raise (s : State) (cause : Cause) (page cell : Option Nat) (detail : Nat) : State :=
  if s.fault.phase = .clear then
    ((s.recordFault cause page cell detail).reviewPending.recover cause page).tryEnd
  else
    ((s.setFault { s.fault with record := s.fault.record.map FaultRecord.again }).followOnActs cause page).tryEnd

end Sys2Proof.Machine
end

