-- ==== Sys2Proof/Machine/Replica.lean ====
section
/-! DEFINITION. The replicated state as functions of the frame alone: the board frames on a replica (R22 to
R32), a launch on the board (R55), and the Amendment Store's judgement of AMEND, LAUNCH and DROP (R51 to
R54). Two stations that apply the same frames to equal replicas reach equal replicas. -/

namespace Sys2Proof.Machine

/-! ## Entries -/

/-- R22: the entry becomes OPEN; its other fields are kept. -/
def Entry.open (e : Entry) : Entry := { e with status := .opened }

/-- R25. -/
def Entry.claim (e : Entry) (sender : Nat) : Entry := { e with status := .claimed sender, mark := 0 }

/-- R26. -/
def Entry.renew (e : Entry) : Entry := { e with mark := (e.mark + 1) % 256 }

/-- R27: the lapse count rises; at 3 the page is FAILED with its last holder. -/
def Entry.lapse (e : Entry) (holder : Nat) : Entry :=
  { e with lapses := e.lapses + 1,
           status := if e.lapses + 1 < Config.lapseLimit then .opened else .failed holder .lapsed }

/-- R28: PRINTED, or OPEN when the edition is stale. -/
def Entry.done (e : Entry) (sender edition : Nat) : Entry :=
  { e with status := if e.need ≤ edition then .printed sender edition else .opened }

/-- R55: a touched page's need edition is raised; a PRINTED one reopens with its reprint count up. -/
def Entry.launch (e : Entry) (edition : Nat) : Entry :=
  match e.status with
  | .opened => { e with need := edition }
  | .claimed _ => { e with need := edition }
  | .printed _ _ =>
    { e with need := edition, status := .opened, reprints := min (e.reprints + 1) Config.reprintMax }
  | .failed _ _ => { e with need := edition }

/-- R30: the causes a FAIL may carry. -/
def failCauseOf (code : Nat) : Option FailCause :=
  match code with
  | 2 => some .spoiled
  | 3 => some .unfetchable
  | _ => none

/-- R31, R32: the page is OPEN if it was claimed by the station. -/
def Entry.freeFrom (e : Entry) (station : Nat) : Entry :=
  if e.status = .claimed station then e.open else e

/-! ## Board frames on a replica -/

/-- Change one entry. -/
def Replica.put (r : Replica) (page : Nat) (e : Entry) : Replica :=
  { r with entries := r.entries.set page e }

/-- R24: a station's flag. -/
def Replica.isPresent (r : Replica) (station : Nat) : Bool := r.present.getLsbD station

/-- R31, R32: set or clear a station's flag and open its claims. -/
def Replica.free (r : Replica) (station : Nat) (present : StationSet) : Replica :=
  { r with present := present, entries := r.entries.map (fun e => Entry.freeFrom e station) }

/-- The flag of one station. -/
def stationBit (station : Nat) : StationSet := BitVec.ofNat 16 (2 ^ station)

/-- R25 to R32: what a board frame from a sender makes of a replica; `none` when it is void. `identity` is
the plan identity of the applying station's Roster Store. -/
def Replica.apply (r : Replica) (identity : Option Id32) (sender : Nat) : Frame → Option Replica
  | .claim page claimant =>
    match r.entries[page]? with
    | some e =>
      if e.status = .opened ∧ claimant = sender ∧ r.isPresent sender = true then
        some (r.put page (e.claim sender))
      else none
    | none => none
  | .renew page =>
    match r.entries[page]? with
    | some e => if e.status = .claimed sender then some (r.put page e.renew) else none
    | none => none
  | .lapse page holder mark =>
    match r.entries[page]? with
    | some e =>
      if e.status = .claimed holder ∧ e.mark = mark then some (r.put page (e.lapse holder)) else none
    | none => none
  | .done page edition =>
    match r.entries[page]? with
    | some e => if e.status = .claimed sender then some (r.put page (e.done sender edition)) else none
    | none => none
  | .release page =>
    match r.entries[page]? with
    | some e => if e.status = .claimed sender then some (r.put page e.open) else none
    | none => none
  | .fail page code =>
    match r.entries[page]?, failCauseOf code with
    | some e, some c =>
      if e.status = .claimed sender then some (r.put page { e with status := .failed sender c }) else none
    | _, _ => none
  | .join station pid =>
    if station = sender ∧ identity = some pid then
      some (r.free sender (r.present ||| stationBit sender))
    else none
  | .leave station =>
    if station = sender ∧ r.isPresent sender = true then
      some (r.free sender (r.present &&& ~~~ (stationBit sender)))
    else none
  | .snapHead _ _ _ _ _ _ _ _ => none
  | .snapPages _ _ _ => none
  | .snapAmend _ _ _ => none
  | .launch _ => none
  | .drop _ => none
  | .amend _ => none
  | .ask _ => none

/-- R55: a taken LAUNCH on the board. -/
def Replica.launch (r : Replica) (touched : Nat → Bool) (edition : Nat) : Replica :=
  { r with entries := r.entries.mapIdx (fun page e => if touched page then e.launch edition else e) }

/-! ## The Amendment Store (R51 to R54) -/

/-- A judgement: void with a reason, or taken with a result. -/
inductive Judged (α : Type) where
  | void (r : Reason)
  | taken (x : α)
  deriving DecidableEq, Repr

/-- R52: replace the record of the same subject and kind, keeping its place. -/
def replaceRecord (pool : List Amendment) (a : Amendment) : List Amendment :=
  pool.map (fun x => if x.sameKey a then a else x)

/-- R49, R52: add a record at the tail of its batch. The pool stands in ascending batch. -/
def insertRecord (pool : List Amendment) (a : Amendment) : List Amendment :=
  pool.filter (fun x => decide (x.batch ≤ a.batch)) ++ a :: pool.filter (fun x => decide (a.batch < x.batch))

/-- R51, R52: an AMEND; the new pool and whether a record was replaced. -/
def judgeAmend (pool : List Amendment) (subjects : Nat) (b : AmendBody) : Judged (List Amendment × Bool) :=
  if ¬ b.batch < Config.batchCount ∨ ¬ b.kind < 4 then .void .badValue
  else if ¬ b.subject < subjects then .void .noSubject
  else match readPayload b.kind b.payload with
    | none => .void .badValue
    | some p =>
      let a : Amendment := { batch := b.batch, subject := b.subject, payload := p }
      if pool.any (fun x => x.sameKey a) then .taken (replaceRecord pool a, true)
      else if Config.poolCap ≤ pool.length then .void .storeFull
      else .taken (insertRecord pool a, false)

/-- The pool without a batch. -/
def withoutBatch (pool : List Amendment) (b : Nat) : List Amendment :=
  pool.filter (fun x => decide (x.batch ≠ b))

/-- R54: a LAUNCH; the launched batch. -/
def judgeLaunch (pool : List Amendment) (lastLaunched b : Nat) : Judged Batch :=
  if ¬ b < Config.batchCount then .void .badValue
  else if batchOpen pool b = false then .void .emptyBatch
  else if lastLaunched = Config.editionMax then .void .editionExhausted
  else .taken { edition := lastLaunched + 1, records := batchOf pool b }

/-- R53: a DROP; the new pool. -/
def judgeDrop (pool : List Amendment) (b : Nat) : Judged (List Amendment) :=
  if ¬ b < Config.batchCount then .void .badValue
  else if batchOpen pool b = false then .void .emptyBatch
  else .taken (withoutBatch pool b)

end Sys2Proof.Machine
end

