-- ==== Sys2Proof/Machine/Sync.lean ====
section
/-! DEFINITION. Asking for, answering, collecting, judging and installing a snapshot, the fresh start and
becoming ACTIVE (R149 to R157). -/

namespace Sys2Proof.Machine

/-- R147: the sync timer starts at 2L. -/
def State.startSync (s : State) : State :=
  s.setCtl { s.ctl with syncTimer := some (2 * s.leaseMs) }

/-- R149: enter SYNCING. -/
def State.enterSyncing (s : State) : State :=
  let s1 := s.setCtl { s.ctl with state := .syncing, abandoned := 0, collection := none }
  s1.startSync.offerCtl .ask

/-- R153: abandon the collection, in one of the three cases. -/
def State.abandon (s : State) (case : Nat) : State :=
  let n := min (s.ctl.abandoned + 1) Config.abandonLimit
  let s1 := s.setCtl { s.ctl with collection := none, abandoned := n }
  if n = Config.abandonLimit then s1.raise .syncFailed none none case
  else s1.startSync.offerAsk

/-- R152, R153: an unexpected frame abandons the collection, and the rest of its run is ignored. -/
def State.unexpected (s : State) : State :=
  let s1 := s.abandon 2
  s1.setPort { s1.port with ignores := true }

/-! ## Forming a run (R151) -/

/-- R151: the SNAP_HEAD. -/
def State.snapHeadFor (s : State) (requester : Nat) (r : Replica) : Frame :=
  .snapHead requester s.straps.station (s.roster.identity.getD 0) r.entries.length s.board.lastLaunched
    r.present (batchBits s.pool) s.pool.length

/-- R151: the board entries of frame k. -/
def pageGroup (es : List Entry) (k : Nat) : List Byte := ((es.drop (8 * k)).take 8).flatMap Entry.bytes

/-- R151: the SNAP_PAGES frames. -/
def snapPagesFrames (requester : Nat) (es : List Entry) : List Frame :=
  (List.range (ceilDiv es.length 8)).map (fun k => .snapPages requester k (pageGroup es k))

/-- R151: the SNAP_AMEND frames. -/
def snapAmendFrames (requester : Nat) (pool : List Amendment) : List Frame :=
  pool.mapIdx (fun k a => .snapAmend requester k a.body)

/-- R139: every frame of a run but its last carries HOLD. -/
def holdAllButLast : List Frame → List (Bool × Frame)
  | [] => []
  | [f] => [(false, f)]
  | f :: g :: fs => (true, f) :: holdAllButLast (g :: fs)

/-- R151: the frames of a run as the replica stands; none while it is ABSENT. -/
def State.runFrames (s : State) (requester : Nat) (full : Bool) : List (Bool × Frame) :=
  match s.board.replica with
  | none => []
  | some r =>
    if full then
      holdAllButLast (s.snapHeadFor requester r ::
        (snapPagesFrames requester r.entries ++ snapAmendFrames requester s.pool))
    else [(false, s.snapHeadFor requester r)]

/-! ## Judging and installing (R154, R155) -/

/-- R33: a timer runs for a page claimed by another station; no other page has one. -/
def leaseFor (station : Nat) (e : Entry) : Option Lease :=
  match e.status with
  | .claimed h => if h = station then none else some .running
  | .opened => none
  | .printed _ _ => none
  | .failed _ _ => none

/-- R33: the timers of a snapshot's entries. -/
def leasesOf (station : Nat) (es : List Entry) : List (Option Lease) := es.map (leaseFor station)

/-- R49: the records in ascending batch, each batch in the order of the run. -/
def poolOf (kept : List Amendment) : List Amendment :=
  (List.range Config.batchCount).flatMap (batchOf kept)

/-- R21: the replica becomes HELD, and the complete flag is evaluated from clear. -/
def State.holdReplica (s : State) (es : List Entry) (present : StationSet) (lastLaunched : Nat)
    (pool : List Amendment) : State :=
  ((s.setBoard { replica := some { entries := es, present := present, complete := false },
                 leases := leasesOf s.straps.station es, lastLaunched := lastLaunched,
                 completions := 0 }).setPool pool).reviewComplete

/-- R155. -/
def State.install (s : State) (c : Collection) : State :=
  let s1 := s.holdReplica c.entries c.present c.lastLaunched (poolOf c.kept)
  (s1.setCtl { s1.ctl with collection := none, syncTimer := none }).offerCtl .join

/-- R154: a re-ask. -/
def State.reaskPlan (s : State) (wanted : Nat) : State :=
  let s1 := s.emit (.planAsk true s.roster.identity (some wanted))
  s1.setCtl { s1.ctl with state := .planLoad, collection := none, syncTimer := none,
                          reask := s1.ctl.reask + 1 }

/-- R154: judge a complete collection. -/
def State.judgeCollection (s : State) (c : Collection) : State :=
  let s1 := s.setCtl { s.ctl with collection := none }
  let edition := s.roster.editionRead
  if s.roster.identity ≠ some c.identity then s1.raise .planMismatch none none 1
  else if c.pages ≠ s.roster.pageCount then s1.raise .planMismatch none none 2
  else if c.lastLaunched < edition then s1.raise .planMismatch none none 3
  else if edition < c.lastLaunched then
    if s.ctl.reask < Config.reaskLimit then s1.reaskPlan c.lastLaunched
    else s1.raise .editionBehind none none c.lastLaunched
  else s1.install c

/-! ## Collecting (R152) -/

/-- R152: the number of SNAP_PAGES frames expected. -/
def Collection.pagesExpected (c : Collection) : Nat := ceilDiv c.pages 8

/-- R152: the expected number of frames has been kept; a head of another plan stands alone. -/
def Collection.full (c : Collection) (identity : Option Id32) : Bool :=
  decide (identity ≠ some c.identity) ||
  (decide (c.pageFrames = c.pagesExpected) && decide (c.amendFrames = c.records))

/-- R152: each batch the head marks OPEN holds a collected record. -/
def Collection.batchesMet (c : Collection) : Bool :=
  (List.range Config.batchCount).all (fun b => !c.batchStates.testBit b || batchOpen c.kept b)

/-- R152: the collection with a SNAP_PAGES frame kept, or `none` when the frame is unexpected. -/
def Collection.keepPages (c : Collection) (own requester index : Nat) (bs : List Byte) : Option Collection :=
  if requester = own ∧ index = c.pageFrames ∧ c.pageFrames < c.pagesExpected ∧
      bs.length = 7 * min 8 (c.pages - 8 * index) then
    (readEntries bs).map (fun es => { c with pageFrames := c.pageFrames + 1, entries := c.entries ++ es })
  else none

/-- R152: the collection with a SNAP_AMEND frame kept, or `none` when the frame is unexpected. -/
def Collection.keepAmend (c : Collection) (own requester index : Nat) (b : AmendBody) : Option Collection :=
  match readPayload b.kind b.payload with
  | none => none
  | some p =>
    let a : Amendment := { batch := b.batch, subject := b.subject, payload := p }
    if requester = own ∧ c.pageFrames = c.pagesExpected ∧ index = c.amendFrames ∧
        c.amendFrames < c.records ∧ b.batch < Config.batchCount ∧ c.batchStates.testBit b.batch = true ∧
        c.kept.any (fun x => x.sameKey a) = false then
      some { c with amendFrames := c.amendFrames + 1, kept := c.kept ++ [a] }
    else none

/-- R152, R153: after a frame has been kept: judge a complete collection, or abandon one whose batches are
not met or whose run has ended. DEDUCED (log 18): a head that itself ended the run of another collection (R140, fifth way)
begins one whose run state is NONE, and which is abandoned here at once. -/
def State.advance (s : State) (c : Collection) : State :=
  if c.full s.roster.identity then
    if decide (s.roster.identity = some c.identity) && !c.batchesMet then s.unexpected
    else s.judgeCollection c
  else if s.port.run.isNone then s.abandon 1
  else s.setCtl { s.ctl with collection := some c }

/-- R152: a later frame of the responder's run, kept or unexpected. -/
def State.collect (s : State) (kept : Option Collection) : State :=
  match kept with
  | some c => s.advance c
  | none => s.unexpected

/-- R152: a collection may begin. -/
def State.mayCollect (s : State) : Bool :=
  decide (s.ctl.state = .syncing) && s.board.replica.isNone

/-- R138, R149: withdraw the station's own ASK, queued or waiting. -/
def State.withdrawAsk (s : State) : State :=
  (s.withdraw TxBody.isAsk).setCtl { s.ctl with waiting := s.ctl.waiting.filter (fun i => decide (i ≠ .ask)) }

/-- R138, R150: withdraw the station's own waiting run for the requester when another station sends the head. -/
def State.withdrawRun (s : State) (sender requester : Nat) : State :=
  if sender ≠ s.straps.station then
    (s.withdraw (TxBody.runFor requester)).setCtl
      { s.ctl with waiting := s.ctl.waiting.filter (fun i => !i.runFor requester) }
  else s

/-- R152, R179: a head is unexpected when its responder field differs from its sender, a batch states byte has
an upper bit set, or its record count is above 64. -/
def headUnexpected (responder : Nat) (c : Collection) : Bool :=
  decide (responder ≠ c.responder) || decide (16 ≤ c.batchStates) || decide (Config.poolCap < c.records)

/-- R152: a SNAP_HEAD naming the station starts a collection. -/
def State.startCollection (s : State) (responder : Nat) (c : Collection) : State :=
  let s1 := s.setCtl { s.ctl with syncTimer := none, volumeSeen := true, collection := some c }
  if headUnexpected responder c then s1.unexpected else s1.advance c

/-! ## Answering, and becoming ACTIVE (R150, R157) -/

/-- R150: a run for the requester is queued or waiting. -/
def State.hasRunFor (s : State) (requester : Nat) : Bool :=
  s.ctl.waiting.any (CtlItem.runFor requester) ||
  s.port.queue.any (fun e => e.body.runFor requester)

/-- R150: answer an ASK. -/
def State.answerAsk (s : State) (sender : Nat) (identity : Id32) : State :=
  if s.ctl.state = .active ∧ sender ≠ s.straps.station ∧ s.hasRunFor sender = false then
    s.offerCtl (.run sender (decide (s.roster.identity = some identity)))
  else s

/-- R157: the station becomes ACTIVE, and EXPIRED lease timers are offered (R34). -/
def State.activate (s : State) : State :=
  let s1 := s.setCtl { s.ctl with state := .active, reask := 0, volumeSeen := true }
  s1.offerUpTo Config.queueCap

/-- R156: the fresh-start entry. -/
def Entry.fresh (edition : Nat) : Entry :=
  { status := .opened, mark := 0, need := edition, lapses := 0, reprints := 0 }

/-- R156: the plan edition. -/
def Roster.planEdition (ro : Roster) : Nat := match ro.head with | some h => h.edition | none => 0

/-- R21, R22, R156: a fresh start, the last launched edition at the plan edition. -/
def State.freshStart (s : State) : State :=
  let es := List.replicate s.roster.pageCount (Entry.fresh s.roster.planEdition)
  let s1 := s.holdReplica es 0 s.roster.planEdition []
  (s1.setCtl { s1.ctl with syncTimer := none }).offerCtl .join

/-! ## The replica becomes ABSENT (R21, R49, R64) -/

/-- R64: the body is the relayed frame's. -/
def TxBody.isRelayed : TxBody → Bool
  | .frame (.amend _) => true
  | .frame (.launch _) => true
  | .frame (.drop _) => true
  | .frame _ => false
  | .run _ _ => false

/-- R65: the request a relayed frame makes. -/
def relayRequest : Frame → Request
  | .launch _ => .launch
  | .drop _ => .drop
  | _ => .amend

/-- R65: the batch, subject and kind as carried. -/
def relayBatch : Frame → Nat
  | .amend b => b.batch
  | .launch b => b
  | .drop b => b
  | _ => 0

def relaySubject : Frame → Option Nat
  | .amend b => some b.subject
  | _ => none

def relayKind : Frame → Option Nat
  | .amend b => some b.kind
  | _ => none

/-- R65: a RELAY_RESULT for a frame that reached no store. -/
def relayBare (f : Frame) (v : RelayVerdict) (reason : Option Reason) : RelayResult :=
  { request := relayRequest f, batch := relayBatch f, subject := relaySubject f, kind := relayKind f,
    verdict := v, reason := reason, replaced := none, edition := none, poolCount := none,
    batchStates := none }

/-- R64: a relayed frame still queued is withdrawn and answered UNSENT. -/
def State.relayUnsent (s : State) : State :=
  match s.link.relay with
  | some f =>
    let s1 := (s.withdraw TxBody.isRelayed).setLink { s.link with relay := none }
    s1.emit (.relayResult (relayBare f .unsent none))
  | none => s

/-- R21, R49: the replica becomes ABSENT and the store is emptied; the last launched edition stays. -/
def State.dropReplica (s : State) : State :=
  ((s.setBoard { s.board with replica := none, leases := [], completions := 0 }).setPool []).relayUnsent

end Sys2Proof.Machine
end

