-- ==== Sys2Proof/Machine/Port.lean ====
section
/-! DEFINITION. The Hall Port: starting, passing and vetoing frames, runs, error confinement, and the granting
of places (R132 to R146, R158). -/

namespace Sys2Proof.Machine

/-! ## Runs (R139, R140) -/

/-- R139, R140: the run state after a frame passed. -/
def runAfter (run : Option RunHeld) (sender : Nat) (hold : Bool) : Option RunHeld :=
  match run with
  | none => if hold then some { holder := sender, count := 1 } else none
  | some r =>
    if r.holder = sender ∧ hold = true ∧ r.count + 1 < Config.runMax then
      some { holder := sender, count := r.count + 1 }
    else none

/-- R136: an entry that lost arbitration, was vetoed or whose run was broken is WAITING again. -/
def TxEntry.wait (e : TxEntry) : TxEntry := { e with onBus := false }

/-- No frame of this station is on the bus; a broken run begins afresh (R140). -/
def Port.standBack (p : Port) : Port :=
  { p with sending := none, runRest := [], queue := p.queue.map TxEntry.wait }

/-! ## Resets and the move to full part (R145, R146) -/

/-- R145, R146: a start bit has come, or the frame that was on the bus at the move or the reset has ended. -/
def State.begun (s : State) : State := s.setPort { s.port with awaitsStart := false, abandons := false }

/-- R145, R146: the end of a frame that the port only follows, with the run state after it. One that was on the bus at
the last reset is abandoned: the run state does not follow it. -/
def State.letBy (s : State) (began : FrameBegan) (run : Option RunHeld) : State :=
  s.begun.setPort { s.begun.port with
    run := if s.port.abandons = true ∧ began = .beforeReset then s.port.run else run }

/-- R145: a start bit on the idle bus ends a move to full part. -/
def State.startBit (s : State) : State :=
  match s.participation with
  | .joining => s.begun
  | .listener => s
  | .full => s
  | .silent => s

/-! ## Passing (R134, R139 to R141) -/

/-- The frame is the one this station is sending (log 9). -/
def State.isSending (s : State) (sender : Nat) (hold : Bool) (f : Frame) : Bool :=
  decide (sender = s.straps.station) && decide (s.port.sending = some (hold, f))

/-- R152: a run under way goes on being ignored; one that begins is not. -/
def Port.stillIgnores (p : Port) : Bool := p.ignores && p.run.isSome

/-- R134, R141: the station's own frame passed. Its entry leaves the queue, a run's with its last frame. -/
def Port.ownPassed (p : Port) (run : Option RunHeld) : Port :=
  let p1 := { p with run := run, ignores := p.stillIgnores, sending := none, tx := p.tx - 1,
                     framesSent := (p.framesSent + 1) % Config.counterMod }
  if p.runRest.isEmpty then { p1 with queue := p.queue.filter (fun e => !e.onBus) }
  else if run.isNone then p1.standBack
  else p1

/-- R140, R141: another station's good frame passed. -/
def Port.otherPassed (p : Port) (run : Option RunHeld) : Port :=
  { p.standBack with run := run, ignores := p.stillIgnores, rx := p.rx - 1 }

/-- R152: the kinds a collection takes. -/
def Frame.isCollected : Frame → Bool
  | .snapPages _ _ _ => true
  | .snapAmend _ _ _ => true
  | _ => false

/-- R152, R153: a collection under way meets a frame it does not take: one of another station ends the run
(case 1), one of the responder is unexpected (case 2). DEDUCED (log 18). -/
def State.meetCollection (s : State) (sender : Nat) (f : Frame) : State :=
  match s.ctl.collection with
  | some c =>
    if sender ≠ c.responder then s.abandon 1
    else if f.isCollected then s
    else s.unexpected
  | none => s

/-- What the port does with a passed frame before it is handed on. -/
def State.passFrame (s : State) (h : FrameHdr) (f : Frame) : State :=
  let run := runAfter s.port.run h.sender h.hold
  let s1 := s.setPort
    (if s.isSending h.sender h.hold f then s.port.ownPassed run else s.port.otherPassed run)
  s1.meetCollection h.sender f

/-! ## Silence (R142 to R144, R158) -/

/-- R158: the Station Controller is told that the port has entered SILENT. -/
def State.controllerSilent (s : State) : State :=
  match s.ctl.state with
  | .syncing | .active =>
    s.setCtl { s.ctl with state := .silent, syncTimer := none, collection := none, waiting := [] }
  | .setupWait | .planLoad | .silent => s
  | .halted => s.setCtl { s.ctl with waiting := [] }

/-- R142: the port enters SILENT; detail 1 for the transmit count, 2 for the receive count (log 17). A
discarded LEAVE settles the halt (R166). -/
def State.enterSilent (s : State) (detail : Nat) : State :=
  let s1 := s.setPort { s.port with
    silent := true, ignores := false, tx := 0, rx := 0, queue := [], sending := none, runRest := [], good := 0,
    quiet := some (2 * s.leaseMs) }
  let s2 := s1.dropReplica.controllerSilent
  let s3 := s2.setFault { s2.fault with haltStep := false }
  s3.raise .busSilent none none detail

/-- R141: enter SILENT when a count stands at 32. -/
def State.confine (s : State) : State :=
  if Config.countLimit ≤ s.port.tx then s.enterSilent 1
  else if Config.countLimit ≤ s.port.rx then s.enterSilent 2
  else s

/-- R144, R149, R158: the port leaves SILENT; a station in SILENT enters SYNCING with its volume-seen flag set, also where
it had met no volume before (log 44). -/
def State.leaveSilent (s : State) : State :=
  let s1 := s.setPort { s.port with silent := false, tx := 0, rx := 0, good := 0, quiet := none }
  if s1.ctl.state = .silent then (s1.setCtl { s1.ctl with volumeSeen := true }).enterSyncing else s1

/-- R143, R144: a SILENT port has read a frame that was good and passed. -/
def State.silentPassed (s : State) (run : Option RunHeld) : State :=
  let n := s.port.good + 1
  let s1 := s.setPort { s.port with run := run, good := n, quiet := some (2 * s.leaseMs) }
  if Config.goodLimit ≤ n then s1.leaveSilent else s1

/-- R143, R144: a SILENT port has read a bad frame, or one that was vetoed: the good frames start afresh. -/
def State.silentBad (s : State) (run : Option RunHeld) : State :=
  s.setPort { s.port with run := run, good := 0, quiet := some (2 * s.leaseMs) }

/-- R139, R140: the run state after a frame that passed unread: a run under way goes on, the frame counted as its
holder's; with none under way none is known to begin (log 41). -/
def runUnread (run : Option RunHeld) : Option RunHeld :=
  match run with
  | some r => runAfter run r.holder true
  | none => none

/-- R143, R144: a SILENT port reads a frame's bits. A veto ends the run; a frame found bad that no other station
vetoed passed at the others. -/
def State.readSilently (s : State) (bits : List Bool) (vetoed : Bool) : State :=
  match readFrame bits with
  | some r => if vetoed then s.silentBad none else s.silentPassed (runAfter s.port.run r.sender r.hold)
  | none => s.silentBad (if vetoed then none else runUnread s.port.run)

/-! ## Vetoes (R134, R135, R140, R141) -/

/-- R141: the counts after a vetoed frame: the station's own, or another's that this station found bad. -/
def Port.vetoed (p : Port) (own bad : Bool) : Port :=
  let p1 := { p.standBack with run := none }
  if own then { p1 with tx := p.tx + 1, framesVetoed := (p.framesVetoed + 1) % Config.counterMod }
  else if bad then { p1 with rx := p.rx + 1 }
  else p1

/-- R153: the veto ends the run a collection waits for. -/
def State.runBroken (s : State) : State :=
  if s.ctl.collection.isSome then s.abandon 1 else s

/-- R134: a frame's veto slot read driven at a station that takes full part. DESIGN CHOICE (log 37): where one veto
both breaks the run a collection waits for (R153) and brings a count to 32 (R141), the abandonment is counted
first. -/
def State.takeVeto (s : State) (bits : List Bool) : State :=
  let s1 := s.setPort (s.port.vetoed s.port.sending.isSome (readFrame bits).isNone)
  s1.runBroken.confine

/-- R134, R143, R145: a frame's veto slot read driven, by how far the port takes part (log 40). -/
def State.vetoFrame (s : State) (x : Heard) : State :=
  match s.participation with
  | .listener => s.letBy x.began none
  | .joining => if x.began = .sinceMove then s.begun.takeVeto x.bits else s.letBy x.began none
  | .silent => s.silentBad none
  | .full => s.takeVeto x.bits

/-- R140: the bus stayed idle for 32 bit times after a passed frame of a run. -/
def State.endRun (s : State) : State :=
  if s.port.run.isNone then s
  else
    let s1 := s.setPort { s.port.standBack with run := none }
    s1.runBroken

/-! ## Starting frames (R132, R136, R139) -/

/-- R136: the queue with one entry, the first that is the one given, ON_BUS. Enqueue numbers wrap, so two entries
that wait may share theirs. -/
def markOnBus (e : TxEntry) : List TxEntry → List TxEntry
  | [] => []
  | x :: xs => if x = e then { x with onBus := true } :: xs else x :: markOnBus e xs

/-- R136, R139: the frames an entry sends, as they are formed at its start bit. -/
def State.framesOf (s : State) (e : TxEntry) : List (Bool × Frame) :=
  match e.body with
  | .frame f => [(e.hold, f)]
  | .run requester full => s.runFrames requester full

/-- R132, R136: begin the head of the queue and win: the entry is ON_BUS with its first frame. -/
def State.sendEntry (s : State) (e : TxEntry) : State :=
  match s.framesOf e with
  | first :: rest =>
    s.setPort { s.port with queue := markOnBus e s.port.queue, sending := some first, runRest := rest }
  | [] => s

/-- R132: begin the head of the queue; a lost arbitration leaves it WAITING. -/
def State.startHead (s : State) (others : List Nat) : State :=
  match s.port.head with
  | some e =>
    if winsOver (arbitration e.body.cls s.straps.station) others then s.sendEntry e else s
  | none => s

/-- R132: the station may begin a frame of its own choice: it takes full part, sends nothing, and no run is
held. -/
def State.mayStart (s : State) : Bool :=
  decide (s.participation = .full) && s.port.sending.isNone && s.port.run.isNone &&
  s.port.queue.all (fun e => !e.onBus)

/-- R139: this station holds the run and sends nothing at the moment. -/
def State.holdsRun (s : State) : Bool :=
  decide (s.participation = .full) && s.port.sending.isNone &&
  (match s.port.run with | some r => decide (r.holder = s.straps.station) | none => false)

/-- R139: the run's next frame; after it this station's next head, when an ordinary frame held the bus. -/
def State.startNext (s : State) (others : List Nat) : State :=
  match s.port.runRest with
  | (hold, f) :: rest =>
    if winsOver (arbitration f.cls s.straps.station) others then
      s.setPort { s.port with sending := some (hold, f), runRest := rest }
    else s
  | [] => s.startHead others

/-! ## Places (R36, R34, R137) -/

/-- R137: grant one free place to the first waiting block in the order of precedence. DESIGN CHOICE (log 36): of
several items that wait in the Station Controller the one that has waited longest is served. -/
def State.grantPlace (s : State) : State :=
  match s.ctl.waiting with
  | i :: rest => (s.enqueue (s.ctlBody i)).setCtl { s.ctl with waiting := rest }
  | [] =>
    match s.claims.waiting with
    | f :: rest => (s.enqueue (.frame f)).setClaims { s.claims with waiting := rest }
    | [] =>
      if s.ctl.state = .active ∧ (firstExpired s.board.leases).isSome = true then s.offerFirst
      else s.evalClaim

/-- R36: a renewal falls due. -/
def State.renewDue (s : State) (page : Nat) : State :=
  if (s.workEntry page).isSome && !s.port.queue.any (fun e => e.body.isRenew page) && s.canQueue then
    s.enqueue (.frame (.renew page))
  else s

/-- R34: a RUNNING lease timer runs out, and is offered at once when it may be. -/
def State.expireLease (s : State) (page : Nat) : State :=
  if s.board.leases[page]? = some (some .running) then
    let s1 := s.setBoard { s.board with leases := s.board.leases.set page (some .expired) }
    s1.offerUpTo Config.queueCap
  else s

end Sys2Proof.Machine
end

