-- ==== Sys2Proof/Machine/Board.lean ====
section
/-! DEFINITION. Applying hall frames at a station: the Page Board with its lease timers, the Claim Unit and the
Fault Unit behind it, the Amendment Store with the relay slot, and the Station Controller (R23, R25 to R41,
R47, R48, R51 to R55, R65, R134). -/

namespace Sys2Proof.Machine

/-! ## What every applied frame does -/

/-- R35, R138: the LAPSE names a claim that the replica no longer shows. -/
def Replica.staleLapse (r : Replica) : TxBody → Bool
  | .frame (.lapse page holder mark) =>
    match r.entries[page]? with
    | some e => !(decide (e.status = .claimed holder) && decide (e.mark = mark))
    | none => true
  | .frame _ => false
  | .run _ _ => false

/-- R36, R138: the RENEW is for a page that is not in the work list. -/
def staleRenew (work : List WorkEntry) : TxBody → Bool
  | .frame (.renew page) => !work.any (fun e => decide (e.page = page))
  | .frame _ => false
  | .run _ _ => false

/-- R138: at each applied frame the owners ask again for their withdrawals, and the claiming condition is
evaluated (R39). -/
def State.afterFrame (s : State) : State :=
  let s1 := s.withdraw (staleRenew s.claims.work)
  let s2 := match s1.board.replica with
    | some r => s1.withdraw r.staleLapse
    | none => s1
  s2.reviewPending.evalClaim

/-- R134, R138: a frame that passed at a station that takes full part. -/
def State.takeFrame (s : State) (h : FrameHdr) (f : Frame) (act : State → State) : State :=
  (act (s.passFrame h f)).afterFrame

/-- R134, R143, R145, R146: a frame whose veto slot read idle, by how far the port takes part. Before the first start
bit after a move to full part the frame on the bus is let by as by a listener (log 40). -/
def State.applyFrame (s : State) (h : FrameHdr) (f : Frame) (act : State → State) : State :=
  match s.participation with
  | .listener => s.letBy h.began (runAfter s.port.run h.sender h.hold)
  | .joining =>
    if h.began = .sinceMove then s.begun.takeFrame h f act
    else s.letBy h.began (runAfter s.port.run h.sender h.hold)
  | .silent => s.silentPassed (runAfter s.port.run h.sender h.hold)
  | .full => s.takeFrame h f act

/-! ## Board frames -/

/-- What became of a board frame at this station. -/
inductive BoardFate where
  | ignored | void | taken
  deriving DecidableEq, Repr

/-- R23: ignored while the replica is ABSENT. -/
def State.boardFate (s : State) (sender : Nat) (f : Frame) : BoardFate :=
  match s.board.replica with
  | none => .ignored
  | some r => if (r.apply s.roster.identity sender f).isSome then .taken else .void

/-- R33: the timers after the replica's entries have changed. -/
def leasesAfter (station : Nat) (before after : List Entry) (leases : List (Option Lease)) :
    List (Option Lease) :=
  leases.mapIdx (fun p l =>
    match before[p]?, after[p]? with
    | some a, some b => if a.status = b.status ∧ a.mark = b.mark then l else leaseFor station b
    | _, _ => l)

/-- R23, R33: the replica and its timers after a board frame. -/
def State.boardFrame (s : State) (sender : Nat) (f : Frame) : State :=
  match s.board.replica with
  | none => s
  | some r =>
    match r.apply s.roster.identity sender f with
    | none => s
    | some r' =>
      s.setBoard { s.board with
        replica := some r',
        leases := leasesAfter s.straps.station r.entries r'.entries s.board.leases }

/-- The sender of an applied frame is this station (log 9). -/
def State.isOwn (s : State) (h : FrameHdr) : Bool := decide (h.sender = s.straps.station)

/-! ### CLAIM (R25, R41) -/

/-- R41: a page won when its cause to withdraw had arisen is released at once. -/
def State.releaseIfBarred (s : State) (page : Nat) : State :=
  if s.fault.phase = .recovering then s.awaitClose (.release page) page
  else if s.fault.phase = .held ∨ s.lane.offline = true then s.askClosing (.release page) page
  else s

/-- R25: the page enters the work list at the tail with a prefetch record (R105). -/
def State.takeWork (s : State) (page : Nat) : State :=
  (s.setClaims { s.claims with
    work := s.claims.work ++ [{ page := page, phase := .queued, spoils := 0, edition := none, notices := none }],
    pending := none }).newPrefetch page

def State.claimFrame (s : State) (h : FrameHdr) (page claimant : Nat) : State :=
  let fate := s.boardFate h.sender (.claim page claimant)
  let s1 := s.boardFrame h.sender (.claim page claimant)
  let s2 :=
    if s.isOwn h then
      match fate with
      | .taken => (s1.takeWork page).releaseIfBarred page
      | .void => s1.setClaims { s1.claims with pending := none }
      | .ignored => s1
    else s1
  s2.reviewComplete

/-! ### RENEW (R26) -/

def State.renewFrame (s : State) (h : FrameHdr) (page : Nat) : State :=
  (s.boardFrame h.sender (.renew page)).reviewComplete

/-! ### LAPSE (R27) -/

/-- R27: the detail of CLAIM_LOST. -/
def WorkPhase.lostDetail : WorkPhase → Nat
  | .queued => 1
  | .composing => 2
  | .inEngine => 3

/-- R27: CLAIM_LOST for a page that is in no entry of the work list, as after an install that shows a claim of
this station; its detail is a free value (log 14). -/
def State.loseUnlisted (s : State) (page : Nat) : State :=
  let s1 := s.setFault { s.fault with unlisted := s.fault.unlisted + 1 }
  s1.raise .claimLost (some page) none (Config.lostDetail s.fault.unlisted).toNat

/-- R27: the named holder loses the page. -/
def State.loseClaim (s : State) (page : Nat) : State :=
  let s1 := ((s.leaveWork page).settlePage page false).reviewComplete
  match s.workEntry page with
  | some e => s1.raise .claimLost (some page) none e.phase.lostDetail
  | none => s1.loseUnlisted page

/-- R33, R34: an own LAPSE found void while the page is still claimed by another restarts its timer. -/
def State.restartLease (s : State) (page : Nat) : State :=
  if s.board.leases[page]? = some (some .offered) then
    s.setBoard { s.board with leases := s.board.leases.set page (some .running) }
  else s

def State.lapseFrame (s : State) (h : FrameHdr) (page holder mark : Nat) : State :=
  let fate := s.boardFate h.sender (.lapse page holder mark)
  let s1 := s.boardFrame h.sender (.lapse page holder mark)
  match fate with
  | .taken => if holder = s.straps.station then s1.loseClaim page else s1.reviewComplete
  | .void => if s.isOwn h then s1.restartLease page else s1
  | .ignored => s1

/-! ### DONE, RELEASE, FAIL (R28 to R30, R48, R162) -/

/-- R162: the station's closing frame has been applied. -/
def State.closeApplied (s : State) (page : Nat) : State :=
  ((s.settlePage page true).reviewComplete).tryEnd

/-- The notice counts an entry of the work list holds. -/
def State.noticesOf (s : State) (page : Nat) : Option Notices :=
  match s.workEntry page with
  | some e => e.notices
  | none => none

/-- R28: PRINTED, or REOPENED_STALE when the replica shows the page reopened. -/
def State.doneOutcome (s : State) (page : Nat) : PageOutcome :=
  match s.board.replica with
  | some r =>
    match r.entries[page]? with
    | some e => if e.status.code = 2 then .printed else .reopenedStale
    | none => .reopenedStale
  | none => .reopenedStale

def State.doneFrame (s : State) (h : FrameHdr) (page edition : Nat) : State :=
  let fate := s.boardFate h.sender (.done page edition)
  let s1 := s.boardFrame h.sender (.done page edition)
  if s.isOwn h then
    match fate with
    | .taken =>
      let s2 := (s1.leaveWork page).reportPage page (some edition) (s1.doneOutcome page) (s.noticesOf page)
      s2.closeApplied page
    | .void => (s1.reportPage page (some edition) .lost none).closeApplied page
    | .ignored => s1
  else s1.reviewComplete

def State.releaseFrame (s : State) (h : FrameHdr) (page : Nat) : State :=
  let fate := s.boardFate h.sender (.release page)
  let s1 := s.boardFrame h.sender (.release page)
  if s.isOwn h then
    match fate with
    | .taken => (s1.leaveWork page).closeApplied page
    | .void => s1.closeApplied page
    | .ignored => s1
  else s1.reviewComplete

/-- R48: the edition used of the entry. -/
def State.editionUsed (s : State) (page : Nat) : Option Nat :=
  match s.workEntry page with
  | some e => e.edition
  | none => none

def State.failFrame (s : State) (h : FrameHdr) (page cause : Nat) : State :=
  let fate := s.boardFate h.sender (.fail page cause)
  let s1 := s.boardFrame h.sender (.fail page cause)
  if s.isOwn h then
    match fate with
    | .taken =>
      let s2 := (s1.leaveWork page).reportPage page (s.editionUsed page) .failed (s.noticesOf page)
      s2.closeApplied page
    | .void => s1.closeApplied page
    | .ignored => s1
  else s1.reviewComplete

/-! ### JOIN and LEAVE (R31, R32, R149, R157) -/

/-- R157: the station's own JOIN, taken while it is SYNCING with a replica, makes it ACTIVE (log 13). -/
def State.joinOwn (s : State) (fate : BoardFate) : State :=
  if fate = .taken ∧ s.ctl.state = .syncing then s.activate else s

/-- R149: a JOIN of this plan heard while asking restarts the timer and asks again. -/
def State.joinHeard (s : State) (identity : Id32) : State :=
  if s.ctl.state = .syncing ∧ s.board.replica.isNone = true ∧ s.ctl.collection.isNone = true ∧
      s.roster.identity = some identity then
    s.startSync.offerAsk
  else s

def State.joinFrame (s : State) (h : FrameHdr) (station : Nat) (identity : Id32) : State :=
  let fate := s.boardFate h.sender (.join station identity)
  let s1 := (s.boardFrame h.sender (.join station identity)).reviewComplete
  if s.isOwn h then s1.joinOwn fate else s1.joinHeard identity

/-- R32: the body is a closing frame. -/
def TxBody.isClosing : TxBody → Bool
  | .frame (.done _ _) => true
  | .frame (.fail _ _) => true
  | .frame (.release _) => true
  | .frame _ => false
  | .run _ _ => false

/-- R32, R166: the station's own LEAVE: the replica becomes ABSENT, the work list is dropped with its queued
closing frames, and the halt is settled. -/
def State.leaveOwn (s : State) : State :=
  let s1 := (s.dropReplica.dropWork).withdraw TxBody.isClosing
  (s1.setFault { s1.fault with haltStep := false }).tryEnd

def State.leaveFrame (s : State) (h : FrameHdr) (station : Nat) : State :=
  let s1 := s.boardFrame h.sender (.leave station)
  if s.isOwn h then s1.leaveOwn else s1.reviewComplete

/-! ## The Amendment Store's frames and the relay slot (R51 to R55, R65) -/

/-- R65: the station's own relayed frame has been applied: the result goes upstream and the slot empties. -/
def State.relayApplied (s : State) (h : FrameHdr) (r : RelayResult) : State :=
  if s.isOwn h && s.link.relay.isSome then
    (s.setLink { s.link with relay := none }).emit (.relayResult r)
  else s

/-- R65: the result of a frame this station's store has judged. -/
def relayJudged (f : Frame) (pool : List Amendment) (v : RelayVerdict) (reason : Option Reason)
    (replaced : Option Bool) (edition : Option Nat) : RelayResult :=
  { relayBare f v reason with
    replaced := replaced, edition := edition, poolCount := some pool.length,
    batchStates := some (batchStates pool) }

def State.amendFrame (s : State) (h : FrameHdr) (b : AmendBody) : State :=
  if s.board.replica.isNone then s
  else
    match judgeAmend s.pool s.roster.subjectCount b with
    | .void reason => s.relayApplied h (relayJudged (.amend b) s.pool .void (some reason) none none)
    | .taken (pool, replaced) =>
      (s.setPool pool).relayApplied h (relayJudged (.amend b) pool .taken none (some replaced) none)

/-- R54, R55: a taken LAUNCH on the pool, the last launched edition and the board. -/
def State.launchBoard (s : State) (b : Batch) (pool : List Amendment) : State :=
  let r' := s.board.replica.map (fun r => r.launch (s.roster.touchedBy b.records) b.edition)
  (s.setPool pool).setBoard { s.board with replica := r', lastLaunched := b.edition }

def State.launchFrame (s : State) (h : FrameHdr) (b : Nat) : State :=
  if s.board.replica.isNone then s
  else
    match judgeLaunch s.pool s.board.lastLaunched b with
    | .void reason => s.relayApplied h (relayJudged (.launch b) s.pool .void (some reason) none none)
    | .taken batch =>
      let pool := withoutBatch s.pool b
      let s1 := s.launchBoard batch pool
      let s2 := s1.relayApplied h (relayJudged (.launch b) pool .taken none none (some batch.edition))
      s2.reviewComplete.enqueueBatch batch

def State.dropFrame (s : State) (h : FrameHdr) (b : Nat) : State :=
  if s.board.replica.isNone then s
  else
    match judgeDrop s.pool b with
    | .void reason => s.relayApplied h (relayJudged (.drop b) s.pool .void (some reason) none none)
    | .taken pool => (s.setPool pool).relayApplied h (relayJudged (.drop b) pool .taken none none none)

/-! ## Snapshot frames (R149, R150, R152) -/

/-- R152: the collection a SNAP_HEAD begins. -/
def newCollection (responder : Nat) (identity : Id32) (pages lastLaunched : Nat) (present : StationSet)
    (batchStates records : Nat) : Collection :=
  { responder := responder, identity := identity, pages := pages, lastLaunched := lastLaunched,
    present := present, batchStates := batchStates, records := records, pageFrames := 0, amendFrames := 0,
    entries := [], kept := [] }

/-- R149, R150, R152: a SNAP_HEAD. `fresh` says that it is not itself a frame of a collection under way; one that
is has abandoned that collection, and the ASK then offered afresh stands (R153). One of another station that ends the
run under collection is fresh: it has abandoned that collection and begins its own (log 18). -/
def State.headFrame (s : State) (fresh : Bool) (sender requester responder : Nat) (c : Collection) : State :=
  let names := fresh && decide (requester = s.straps.station)
  let s1 := (if names then s.withdrawAsk else s).withdrawRun sender requester
  if names && s1.mayCollect && s1.ctl.collection.isNone then s1.startCollection responder c else s1

/-- R152: the frame is the responder's of a collection under way. -/
def State.inCollection (s : State) (sender : Nat) : Bool :=
  match s.ctl.collection with
  | some c => decide (sender = c.responder)
  | none => false

/-- R152: the frame is of a run whose rest is ignored. -/
def State.inIgnoredRun (s : State) (sender : Nat) : Bool :=
  s.port.ignores && (match s.port.run with
    | some r => decide (r.holder = sender)
    | none => false)

def State.pagesFrame (s : State) (requester index : Nat) (entries : List Byte) : State :=
  match s.ctl.collection with
  | some c => s.collect (c.keepPages s.straps.station requester index entries)
  | none => s

def State.snapAmendFrame (s : State) (requester index : Nat) (b : AmendBody) : State :=
  match s.ctl.collection with
  | some c => s.collect (c.keepAmend s.straps.station requester index b)
  | none => s

/-! ## The commands -/

def execClaim (h : FrameHdr) (page claimant : Nat) (s : State) : Host.Outcome State Fault Refusal :=
  .next (s.applyFrame h (.claim page claimant) (fun t => t.claimFrame h page claimant))

def execRenew (h : FrameHdr) (page : Nat) (s : State) : Host.Outcome State Fault Refusal :=
  .next (s.applyFrame h (.renew page) (fun t => t.renewFrame h page))

def execLapse (h : FrameHdr) (page holder mark : Nat) (s : State) : Host.Outcome State Fault Refusal :=
  .next (s.applyFrame h (.lapse page holder mark) (fun t => t.lapseFrame h page holder mark))

def execDone (h : FrameHdr) (page edition : Nat) (s : State) : Host.Outcome State Fault Refusal :=
  .next (s.applyFrame h (.done page edition) (fun t => t.doneFrame h page edition))

def execRelease (h : FrameHdr) (page : Nat) (s : State) : Host.Outcome State Fault Refusal :=
  .next (s.applyFrame h (.release page) (fun t => t.releaseFrame h page))

def execFail (h : FrameHdr) (page cause : Nat) (s : State) : Host.Outcome State Fault Refusal :=
  .next (s.applyFrame h (.fail page cause) (fun t => t.failFrame h page cause))

def execJoin (h : FrameHdr) (station : Nat) (identity : Id32) (s : State) :
    Host.Outcome State Fault Refusal :=
  .next (s.applyFrame h (.join station identity) (fun t => t.joinFrame h station identity))

def execLeave (h : FrameHdr) (station : Nat) (s : State) : Host.Outcome State Fault Refusal :=
  .next (s.applyFrame h (.leave station) (fun t => t.leaveFrame h station))

def execAmend (h : FrameHdr) (body : AmendBody) (s : State) : Host.Outcome State Fault Refusal :=
  .next (s.applyFrame h (.amend body) (fun t => t.amendFrame h body))

def execLaunch (h : FrameHdr) (batch : Nat) (s : State) : Host.Outcome State Fault Refusal :=
  .next (s.applyFrame h (.launch batch) (fun t => t.launchFrame h batch))

def execDrop (h : FrameHdr) (batch : Nat) (s : State) : Host.Outcome State Fault Refusal :=
  .next (s.applyFrame h (.drop batch) (fun t => t.dropFrame h batch))

def execAsk (h : FrameHdr) (identity : Id32) (s : State) : Host.Outcome State Fault Refusal :=
  .next (s.applyFrame h (.ask identity) (fun t => t.answerAsk h.sender identity))

def execSnapHead (h : FrameHdr) (requester responder : Nat) (identity : Id32)
    (pages lastLaunched : Nat) (present : StationSet) (batchStates records : Nat) (s : State) :
    Host.Outcome State Fault Refusal :=
  .next (s.applyFrame h
    (.snapHead requester responder identity pages lastLaunched present batchStates records)
    (fun t => if s.inIgnoredRun h.sender then t
      else t.headFrame (!s.inCollection h.sender) h.sender requester responder
        (newCollection h.sender identity pages lastLaunched present batchStates records)))

def execSnapPages (h : FrameHdr) (requester index : Nat) (entries : List Byte) (s : State) :
    Host.Outcome State Fault Refusal :=
  .next (s.applyFrame h (.snapPages requester index entries)
    (fun t => t.pagesFrame requester index entries))

def execSnapAmend (h : FrameHdr) (requester index : Nat) (body : AmendBody) (s : State) :
    Host.Outcome State Fault Refusal :=
  .next (s.applyFrame h (.snapAmend requester index body)
    (fun t => t.snapAmendFrame requester index body))

end Sys2Proof.Machine
end

