-- ==== Sys2Proof/Machine/Place.lean ====
section
/-! DEFINITION. Placing a portrait and toning it (R76 to R80, R89 to R97): functions of the plan, the
portrait's size and the raster in the slot. -/

namespace Sys2Proof.Machine

/-! ## The window (R76, R77) -/

/-- R76: the crop window clamped to a portrait of pw by ph pixels. -/
def clampCrop (c : Crop) (pw ph : Nat) : Crop :=
  let x1 := min c.x1 pw
  let y1 := min c.y1 ph
  { x0 := min c.x0 (x1 - 1), y0 := min c.y0 (y1 - 1), x1 := x1, y1 := y1 }

/-- R77: the clamped window brought to the aspect of a cell of cw by ch pixels. -/
def adjustWindow (c : Crop) (ph cellW cellH : Nat) : Window :=
  let cw := c.x1 - c.x0
  let h := max 1 (roundDiv (cw * cellH) cellW)
  if ph < h then
    let w := min cw (roundDiv (ph * cellW) cellH)
    { left := c.x0 + (cw - w) / 2, top := 0, width := w, height := ph }
  else
    let t := ((c.y0 : Int) + (((c.y1 - c.y0 : Nat) : Int) - (h : Int)) / 2).toNat
    { left := c.x0, top := if ph < t + h then ph - h else t, width := cw, height := h }

/-- The adjusted window of a subject's crop in a portrait. -/
def windowFor (c : Crop) (pw ph cellW cellH : Nat) : Window := adjustWindow (clampCrop c pw ph) ph cellW cellH

/-- R78: the scale factor is above 2. -/
def tooSmall (w : Window) (cellW : Nat) : Bool := decide (2 * w.width < cellW)

/-- R78: the scale factor is above 1. -/
def enlarged (w : Window) (cellW : Nat) : Bool := decide (w.width < cellW)

/-! ## Mirroring (R79) -/

/-- R79: `facing` 0 NONE, 1 GUTTER, 2 CENTRE; `pose` 0 LEFT, 1 RIGHT, 2 FRONT. With an odd column count the
middle column is neither below (C - 1) / 2 nor above it. -/
def mirrored (facing pose page column columns : Nat) : Bool :=
  match facing, pose with
  | 1, 0 => decide (page % 2 = 0)
  | 1, 1 => decide (page % 2 = 1)
  | 2, 0 => decide (column < columns / 2)
  | 2, 1 => decide ((columns + 1) / 2 ≤ column)
  | _, _ => false

/-! ## Resampling (R78) -/

/-- A portrait's raster in the DRAM: the slot it lies in and its width. -/
structure Raster where
  dram  : List Host.Cell
  slot  : Nat
  width : Nat
  deriving DecidableEq, Repr

/-- R100: component k (0 red, 1 green, 2 blue) of the pixel in column x of line y. -/
def Raster.at (r : Raster) (x y k : Nat) : Nat :=
  (Mem.read r.dram (slotAddress r.slot (3 * (y * r.width + x) + k))).toNat

/-- R78: the first and the last source position an output position draws on, along one axis. -/
def sourceFirst (start len out i : Nat) : Nat := start + i * len / out
def sourceLast (start len out i : Nat) : Nat :=
  max (sourceFirst start len out i) (start + (i + 1) * len / out - 1)

/-- The positions from a to b. -/
def upTo (a b : Nat) : List Nat := (List.range (b + 1 - a)).map (fun k => a + k)

/-- The sum of a function over a block of columns and lines. -/
def blockSum (f : Nat → Nat → Nat) (xs ys : List Nat) : Nat :=
  (ys.map (fun y => (xs.map (fun x => f x y)).sum)).sum

/-- R78: component k of the resampled pixel in column u of line v. -/
def resampled (r : Raster) (w : Window) (cellW cellH u v k : Nat) : Nat :=
  let xs := upTo (sourceFirst w.left w.width cellW u) (sourceLast w.left w.width cellW u)
  let ys := upTo (sourceFirst w.top w.height cellH v) (sourceLast w.top w.height cellH v)
  blockSum (fun x y => r.at x y k) xs ys / (xs.length * ys.length)

/-! ## The tone measure (R89 to R91) -/

/-- R89. -/
def luminance (red green blue : Nat) : Nat := (77 * red + 150 * green + 29 * blue) / 256

def Raster.luminance (r : Raster) (x y : Nat) : Nat :=
  Machine.luminance (r.at x y 0) (r.at x y 1) (r.at x y 2)

/-- R90: the positions of zone k of four along one axis. -/
def zoneSpan (start len k : Nat) : List Nat :=
  (List.range (if k = 3 then len / 4 + len % 4 else len / 4)).map (fun i => start + k * (len / 4) + i)

/-- R90, R91: the mean luminance of zone i. -/
def zoneMean (lum : Nat → Nat → Nat) (w : Window) (i : Nat) : Nat :=
  let xs := zoneSpan w.left w.width (i % 4)
  let ys := zoneSpan w.top w.height (i / 4)
  blockSum lum xs ys / (xs.length * ys.length)

/-- R91: the weighted mean of sixteen zone means; the plain mean when every weight is 0. -/
def weightedMean (weights zones : List Nat) : Nat :=
  if weights.sum = 0 then zones.sum / 16 else (List.zipWith (· * ·) weights zones).sum / weights.sum

/-- R91: the weighted mean M of a window. -/
def measure (lum : Nat → Nat → Nat) (w : Window) (weights : List Nat) : Nat :=
  weightedMean weights ((List.range 16).map (zoneMean lum w))

/-! ## The tracker and the gain (R94 to R97) -/

/-- R94: M lies within the band of a half-width about the target. -/
def withinBand (target half m : Nat) : Bool := decide (target ≤ m + half) && decide (m ≤ target + half)

/-- R95. -/
def computedGain (target ceiling m : Nat) : Nat :=
  if m = 0 then ceiling else min ceiling (max 8 (roundDiv (16 * target) m))

/-- What a tracker step yields: the gain, the next state, and whether the cell takes TONE_LIMITED. -/
structure ToneStep where
  gain    : Nat
  tracker : Tracker
  limited : Bool
  deriving DecidableEq, Repr

/-- R94, R97: one tracker step. -/
def toneStep (t : Tracker) (x : Section) (m : Nat) : ToneStep :=
  let half := match t with | .steady => x.outer | .correcting => x.inner
  if withinBand x.target half m then { gain := 16, tracker := .steady, limited := false }
  else
    let g := computedGain x.target x.ceiling m
    { gain := g, tracker := .correcting, limited := !withinBand x.target x.inner (g * m / 16) }

/-- R96. -/
def applyGain (g c : Nat) : Nat := min 255 (c * g / 16)

/-! ## Output pixels (R73, R80) -/

/-- R80: the three bytes of the output pixel in column u of line v of a placed cell. -/
def outputPixel (r : Raster) (p : Placement) (cellW cellH u v : Nat) : List Byte :=
  let col := if p.mirror then cellW - 1 - u else u
  (List.range 3).map (fun k => byte (applyGain p.gain (resampled r p.window cellW cellH col v k)))

/-- R117: the blank colour. -/
def blankPixel : List Byte := [255#8, 255#8, 255#8]

/-- R118: the training pattern of TRAIN packet n: 64 lines at the page width. -/
def trainingPattern (n width : Nat) : List Byte :=
  (List.range 64).flatMap (fun y => (List.range width).flatMap (fun x =>
    if (x / 8 + y / 8 + n) % 2 = 0 then blankPixel else [0#8, 0#8, 0#8]))

end Sys2Proof.Machine
end

