-- ==== Sys2Proof/Machine/Compose.lean ====
section
/-! DEFINITION. The Compositor and the print lane's outbound stream: the boundary, references, placing, bands,
captions, the close and the cut (R67 to R75, R81 to R87, R103, R116 to R120). -/

namespace Sys2Proof.Machine

/-! ## The held page and its plan -/

/-- The template of the held page. -/
def State.templateOf (s : State) (h : Held) : Option Template := s.roster.templates[h.template]?

/-- Replace the held-page record. -/
def State.setHeld (s : State) (h : Held) : State := s.setComp { s.comp with held := some h }

/-- Change one entry of the cell table. -/
def State.modifyCell (s : State) (i : Nat) (f : Cell → Cell) : State :=
  match s.comp.held with
  | none => s
  | some h => s.setHeld { h with cells := h.cells.modify i f }

/-- R72: the portrait a cell of the held page needs. -/
def State.cellNeeds (s : State) (h : Held) (i : Nat) (c : Cell) : Option Id32 :=
  match c.subject with
  | none => none
  | some j =>
    match s.roster.subjects[j]? with
    | none => none
    | some x =>
      if x.withdrawn || (learnedKind s.comp.learned h.page h.edition i).isSome then none else x.portrait

/-! ## Taking references (R72, R103) -/

/-- R103, case 1: a prefetch reference becomes a composing reference (log 16). -/
def Slot.convert (page cell : Nat) (sl : Slot) : Slot :=
  if sl.refs.contains (.prefetch page cell) then
    (sl.keepRefs (fun r => decide (r ≠ .prefetch page cell))).addRefs [.composing cell]
  else sl

/-- R103, cases 3 and 4: count the cell in the portrait's want, or add a want at the tail. -/
def countWant (wants : List Want) (pid : Id32) (cell : Nat) : List Want :=
  if wants.any (fun w => decide (w.portrait = pid)) then
    wants.map (fun w => if w.portrait = pid then { w with cells := w.cells ++ [cell] } else w)
  else wants ++ [{ portrait := pid, cells := [cell] }]

/-- R103: the Fetch Unit counts a composing reference by the first case that applies. -/
def State.countComposing (s : State) (page cell : Nat) (pid : Id32) : State :=
  if s.tiles.holds (.prefetch page cell) then s.withSlots (s.tiles.slots.map (Slot.convert page cell))
  else
    match s.tiles.slotOf pid with
    | some n => s.addRefs n [.composing cell]
    | none => s.setFetch { s.fetch with wants := countWant s.fetch.wants pid cell }

/-- R72: take the reference of one cell when it is due. -/
def State.takeCell (s : State) (t : Template) (i : Nat) : State :=
  match s.comp.held with
  | none => s
  | some h =>
    match h.cells[i]? with
    | none => s
    | some c =>
      match s.cellNeeds h i c with
      | none => s
      | some pid =>
        if t.cellTop i ≤ h.reach ∧ c.taken = false then
          (s.modifyCell i (fun c => { c with ref := true, taken := true })).countComposing h.page i pid
        else s

/-- R72: set the reach of band b and take the references up to it, in ascending cell index. -/
def State.takeReferences (s : State) (t : Template) (b : Nat) : State :=
  match s.comp.held with
  | none => s
  | some h =>
    let s1 := s.setHeld { h with band := b, reach := t.reachOf b }
    (List.range h.cells.length).foldl (fun st i => State.takeCell st t i) s1

/-! ## Placing (R74) -/

/-- What placing a cell comes to. `late` is the notice that joins the learned-placeholder record. -/
structure Placed where
  cls     : CellClass
  notices : List Notice
  place   : Option Placement
  tracker : Tracker
  late    : Option Notice
  deriving DecidableEq, Repr

/-- The READY slot that holds a cell's composing reference, with its portrait's size. -/
def Tiles.readyFor (t : Tiles) (cell : Nat) : Option (Nat × Nat × Nat) :=
  (List.range t.slots.length).findSome? (fun (n : Nat) =>
    match t.slots[n]? with
    | some (.ready _ w h refs) => if refs.contains (.composing cell) then some (n, w, h) else none
    | _ => none)

/-- R74: a cell that is no PORTRAIT. -/
def plainCell (tracker : Tracker) (cls : CellClass) (notices : List Notice) : Placed :=
  { cls := cls, notices := notices, place := none, tracker := tracker, late := none }

/-- R74: a late PLACEHOLDER. -/
def lateCell (tracker : Tracker) (n : Notice) : Placed :=
  { cls := .placeholder, notices := [n], place := none, tracker := tracker, late := some n }

/-- R112: the notice of a fetch answer. -/
def FetchAnswer.notice : FetchAnswer → Notice
  | .portraitAbsent => .portraitAbsent
  | .oversize => .oversize

/-- R92, R98: the tracker's step for a PORTRAIT cell, or gain 16 where tone is disabled. -/
def State.toneOf (s : State) (h : Held) (t : Template) (r : Raster) (w : Window) : ToneStep :=
  match t.toned, s.roster.sections[h.sectionIx]? with
  | true, some x => toneStep s.comp.tracker x (measure r.luminance w t.weights)
  | _, _ => { gain := 16, tracker := s.comp.tracker, limited := false }

/-- R76: the notice of a crop window that clamping changed. -/
def clampNotice (c : Crop) (pw ph : Nat) : List Notice := if clampCrop c pw ph ≠ c then [.cropClamped] else []

/-- R76 to R80: a cell whose portrait is READY in slot n. -/
def State.placePortrait (s : State) (h : Held) (t : Template) (i : Nat) (x : Subject) (n pw ph : Nat) :
    Placed :=
  let w := windowFor x.crop pw ph t.cellW t.cellH
  let clamped := clampNotice x.crop pw ph
  if tooSmall w t.cellW then
    { lateCell s.comp.tracker .lowResolution with notices := clamped ++ [.lowResolution] }
  else
    let tone := s.toneOf h t { dram := s.tiles.dram, slot := n, width := pw } w
    { cls := .portrait,
      notices := clamped ++
        (if enlarged w t.cellW then [.upscaled] else []) ++ (if tone.limited then [.toneLimited] else []),
      place := some { window := w, mirror := mirrored t.facing x.pose h.page (t.colOf i) t.columns,
                      gain := tone.gain },
      tracker := tone.tracker, late := none }

/-- R74: the first case that applies, or `none` while the cell waits for its answer. -/
def State.placing (s : State) (h : Held) (t : Template) (i : Nat) (c : Cell) : Option Placed :=
  let plain := plainCell s.comp.tracker
  match c.subject with
  | none => some (plain .empty [])
  | some j =>
    match s.roster.subjects[j]? with
    | none => some (plain .empty [])
    | some x =>
      if x.withdrawn then some (plain .vacant [])
      else if x.portrait.isNone then some (plain .placeholder [.noPortrait])
      else
        match learnedKind s.comp.learned h.page h.edition i with
        | some k => some (plain .placeholder [k])
        | none =>
          match c.answer with
          | some a => some (lateCell s.comp.tracker a.notice)
          | none => (s.tiles.readyFor i).map (fun r => s.placePortrait h t i x r.1 r.2.1 r.2.2)

/-- R74: add a cell to the learned-placeholder record. -/
def Learned.add (l : Learned) (cell : Nat) (n : Notice) : Learned := { l with cells := l.cells ++ [(cell, n)] }

/-- R74: record what placing cell i came to. -/
def State.recordPlaced (s : State) (h : Held) (i : Nat) (p : Placed) : State :=
  let s1 := s.setComp { s.comp with
    tracker := p.tracker,
    learned := match p.late with
      | some n => s.comp.learned.map (fun l => l.add i n)
      | none => s.comp.learned,
    held := some { h with
      late := h.late || p.late.isSome,
      tallies := p.notices.foldl Notices.bump h.tallies,
      cells := h.cells.modify i (fun c => { c with cls := some p.cls, place := p.place }) } }
  if p.late = some .lowResolution then
    (s1.modifyCell i Cell.dropRef).keepRefs (fun r => decide (r ≠ .composing i))
  else s1

/-- R71: place the needed cells that have no class, in the order given; stop at one that has to wait. -/
def State.placeCells (t : Template) : List Nat → State → State × Bool
  | [], s => (s, true)
  | i :: rest, s =>
    match s.comp.held with
    | none => (s, true)
    | some h =>
      match h.cells[i]? with
      | none => State.placeCells t rest s
      | some c =>
        if c.cls.isSome then State.placeCells t rest s
        else
          match s.placing h t i c with
          | some p => State.placeCells t rest (s.recordPlaced h i p)
          | none => (s, false)

/-! ## The bands (R71, R73, R117) -/

/-- The cell whose image area holds a pixel of the page. -/
def Template.cellAt (t : Template) (count x y : Nat) : Option Nat :=
  (List.range count).find? (fun i =>
    decide (t.cellLeft i ≤ x) && decide (x < t.cellLeft i + t.cellW) &&
    decide (t.cellTop i ≤ y) && decide (y < t.cellTop i + t.cellH))

/-- R73: the three bytes of a page pixel. -/
def State.pagePixel (s : State) (h : Held) (t : Template) (x y : Nat) : List Byte :=
  match Template.cellAt t h.cells.length x y with
  | none => blankPixel
  | some i =>
    match (h.cells[i]?).bind Cell.place, s.tiles.readyFor i with
    | some p, some r =>
      outputPixel { dram := s.tiles.dram, slot := r.1, width := r.2.1 } p t.cellW t.cellH
        (x - t.cellLeft i) (y - t.cellTop i)
    | _, _ => blankPixel

/-- R117: the raster of band b. -/
def State.bandRaster (s : State) (h : Held) (t : Template) (b : Nat) : List Byte :=
  (List.range (t.bandHeight b)).flatMap (fun v =>
    (List.range t.pageW).flatMap (fun x => s.pagePixel h t x (bandFirst b + v)))

/-- R71, R117: BAND b. -/
def State.bandPacket (s : State) (h : Held) (t : Template) (b : Nat) : Packet :=
  .band b (bandFirst b) (t.bandHeight b) (s.bandRaster h t b)

/-- R70, R116: hand a packet to the print lane. -/
def State.handPacket (s : State) (p : Packet) : State := s.setLane { s.lane with inFlight := some p }

/-- The Compositor's state alone. -/
def State.setCompState (s : State) (c : CompState) : State := s.setComp { s.comp with state := c }

/-- R71: the cells needed by band b, ascending. -/
def neededCells (t : Template) (count b : Nat) : List Nat := (List.range count).filter (t.neededBy b)

/-- R71: hand the BAND being prepared. -/
def State.handBand (s : State) (t : Template) : State :=
  match s.comp.held with
  | none => s
  | some h => (s.handPacket (s.bandPacket h t h.band)).setCompState .streaming

/-- R71: place the needed cells of the band being prepared; the state says whether one of them waits. -/
def State.placeBand (s : State) : State :=
  match s.comp.held with
  | none => s
  | some h =>
    match s.templateOf h with
    | none => s
    | some t =>
      let r := State.placeCells t (neededCells t h.cells.length h.band) s
      r.1.setCompState (if r.2 then .streaming else .waitingTile)

/-! ## Captions and the close (R82, R83, R85) -/

/-- R82: a cell that takes a caption. -/
def Cell.captioned (c : Cell) : Bool := decide (c.cls = some .placeholder) || decide (c.cls = some .portrait)

/-- The captioned cells of a row, ascending. -/
def captionedCells (h : Held) (t : Template) (row : Nat) : List Nat :=
  (List.range h.cells.length).filter (fun i =>
    decide (t.rowOf i = row) && (match h.cells[i]? with | some c => c.captioned | none => false))

/-- R82, R83: the caption packets of a row. `caption` 0 is PER_CELL, 1 PER_ROW. -/
def rowCaptions (h : Held) (t : Template) (row : Nat) : List CaptionDue :=
  let cells := captionedCells h t row
  if t.caption = 0 then cells.map .cell else if cells.isEmpty then [] else [.row row]

/-- R82: the caption packets due after band b, in ascending row order. -/
def captionsDue (h : Held) (t : Template) (b : Nat) : List CaptionDue :=
  ((List.range t.rows).filter (fun r =>
    decide (bandFirst b ≤ t.captionTop r) && decide (t.captionTop r ≤ t.bandLast b))).flatMap (rowCaptions h t)

/-- The subject of a cell of the held page. -/
def State.cellSubject (s : State) (h : Held) (i : Nat) : Option Subject :=
  match h.cells[i]? with
  | some c =>
    match c.subject with
    | some j => s.roster.subjects[j]?
    | none => none
  | none => none

def State.line1Of (s : State) (h : Held) (i : Nat) : Text :=
  match s.cellSubject h i with | some x => x.line1 | none => []

def State.line2Of (s : State) (h : Held) (i : Nat) : Option Text :=
  match s.cellSubject h i with | some x => x.line2 | none => none

/-- R82, R83: a CAPTION packet; its text is read when it is handed. -/
def State.captionPacket (s : State) (h : Held) (t : Template) : CaptionDue → Packet
  | .cell i => .captionCell i (s.line1Of h i) (s.line2Of h i)
  | .row r => .captionRow r ((captionedCells h t r).map (s.line1Of h))

/-- R85, R103: hand the normal PAGE_CLOSE; the want list is emptied. -/
def State.handClose (s : State) (h : Held) : State :=
  (s.setFetch { s.fetch with wants := [] }).handPacket (.pageClose false h.bandsSent)

/-- R71: hand the BAND being prepared, unless one of its cells waits. -/
def State.handReady (s : State) : State :=
  match s.comp.held with
  | none => s
  | some h =>
    match s.templateOf h with
    | none => s
    | some t => if s.comp.state = .waitingTile then s else s.handBand t

/-- R70, R71, R75, R82, R85: with no packet in flight, the next one of the pass: the next caption due, the BAND
being prepared unless one of its cells waits, the close, or the placeholder correction's cut (log 15, log 31). -/
def State.proceed (s : State) : State :=
  match s.comp.held with
  | none => s
  | some h =>
    match s.templateOf h with
    | none => s
    | some t =>
      match h.captions with
      | d :: rest => (s.setHeld { h with captions := rest }).handPacket (s.captionPacket h t d)
      | [] =>
        if h.bandsSent < h.bandCount then s.handReady
        else if h.late then s.setComp { s.comp with cut := true }
        else s.handClose h

/-- R71, R72: band b begins: its references are taken and its needed cells placed. -/
def State.startBand (s : State) (b : Nat) : State :=
  match s.comp.held with
  | none => s
  | some h =>
    match s.templateOf h with
    | none => s
    | some t => (s.takeReferences t b).placeBand

/-- R71: band b begins and is handed, unless one of its cells waits. -/
def State.beginBand (s : State) (b : Nat) : State := (s.startBand b).handReady

/-- R71: what follows a BAND that has been sent: the next band begins, unless that was the last, and the next
packet is handed. -/
def State.afterBand (s : State) : State :=
  match s.comp.held with
  | none => s
  | some h => (if h.bandsSent < h.bandCount then s.startBand h.bandsSent else s).proceed

/-- R86: while a cut is requested no further packet of the pass is handed. -/
def State.unlessCut (s : State) (go : State → State) : State := if s.comp.cut then s else go s

/-! ## What the lane does as a packet is sent (R115, R116, R118, R120) -/

/-- R116: the packet in flight has been sent. -/
def State.sentPacket (s : State) (p : Packet) : State :=
  s.setLane { s.lane with inFlight := none, sent := s.lane.sent ++ [p] }

/-- R120: a sheet enters the list; the head timer starts for a first one. -/
def Lane.addSheet (l : Lane) (sh : Sheet) : Lane :=
  { l with sheets := l.sheets ++ [sh],
           headTimer := if l.sheets.isEmpty then some Config.headMs else l.headTimer }

/-- R118: the lane's record of TRAIN packet n of template t. -/
def Lane.trained (l : Lane) (t n : Nat) : Lane :=
  if n = 0 then { l with phase := .training, lastTemplate := none, hold := false }
  else if n = 3 then { l with lastTemplate := some t }
  else l

/-- R118: TRAIN packet n of a template. -/
def trainPacket (ix : Nat) (t : Template) (n : Nat) : Packet :=
  .train ix n t.geometry (trainingPattern n t.pageW)

/-- R70: PAGE_OPEN. -/
def Held.openPacket (h : Held) : Packet := .pageOpen h.page h.edition h.template

/-- R70: the placeholder list. -/
def State.placeholders (s : State) (h : Held) : List Nat :=
  (List.range h.cells.length).filter (fun i =>
    match s.cellSubject h i with
    | some x =>
      !x.withdrawn && (x.portrait.isNone || (learnedKind s.comp.learned h.page h.edition i).isSome)
    | none => false)

/-- R70: PAGE_META. -/
def State.metaPacket (s : State) (h : Held) : Packet :=
  .pageMeta h.page h.edition s.straps.station h.template h.cells.length (s.placeholders h)

/-- R69, R70: hand PAGE_OPEN. -/
def State.handOpen (s : State) : State :=
  match s.comp.held with
  | some h => (s.handPacket h.openPacket).setCompState .streaming
  | none => s

/-! ## The boundary (R69) -/

/-- R69, part 4: the cell table, each cell with the last line of its image area (log 46). -/
def State.cellTable (s : State) (p : PageRec) (t : Template) : List Cell :=
  (List.range (s.roster.cellCount p)).map (fun i =>
    { subject := s.roster.resolve p i, last := t.cellLast i, cls := none, ref := false, taken := false,
      answer := none, place := none })

/-- R69, part 2: the held-page record. -/
def State.heldFor (s : State) (p : PageRec) (t : Template) : Held :=
  { page := p.number, kind := p.kind, template := p.template, sectionIx := p.sectionIx,
    edition := s.roster.edition, bandCount := t.bandCount, bandsSent := 0, band := 0, reach := 0,
    late := false, tallies := Notices.zero, cells := s.cellTable p t, opened := false, captions := [] }

/-- R69, part 3. -/
def keepLearned (l : Option Learned) (page edition : Nat) : Learned :=
  match l with
  | some r => if r.page = page ∧ r.edition = edition then r else { page := page, edition := edition, cells := [] }
  | none => { page := page, edition := edition, cells := [] }

/-- Change the work-list entry of a page. -/
def State.modifyWork (s : State) (page : Nat) (f : WorkEntry → WorkEntry) : State :=
  s.setClaims { s.claims with work := s.claims.work.map (fun e => if e.page = page then f e else e) }

/-- R69, part 7. -/
def State.trainOrOpen (s : State) (ix : Nat) (t : Template) : State :=
  if s.lane.lastTemplate = some ix then s.handOpen
  else (s.handPacket (trainPacket ix t 0)).setCompState .training

/-- R69: BOUNDARY with a page, after part 1. -/
def State.enterPage (s : State) (p : PageRec) (t : Template) : State :=
  let h := s.heldFor p t
  let s1 := s.modifyWork p.number (fun e =>
    { e with phase := .composing, edition := some h.edition, notices := none })
  let s2 := s1.setComp { s1.comp with
    state := .boundary, held := some h, learned := some (keepLearned s.comp.learned p.number h.edition),
    tracker := .steady, cut := false }
  (s2.takeReferences t 0).trainOrOpen p.template t

/-- R68, R69. -/
def State.boundaryStep (s : State) : State :=
  match s.pageStart with
  | none => s
  | some e =>
    let s1 := s.applyWaiting
    match s1.roster.page? e.page with
    | none => s
    | some p =>
      match s1.roster.templates[p.template]? with
      | some t => s1.enterPage p t
      | none => s

/-! ## Packets sent -/

/-- R84: a PORTRAIT cell that holds a reference and whose last line lies above line `past`. -/
def Cell.endsAbove (past : Nat) (c : Cell) : Bool :=
  c.ref && decide (c.cls = some .portrait) && decide (c.last < past)

/-- R84: every line above line `past` has been sent: the references of the PORTRAIT cells that end there are dropped.
The cells' own last lines say which; the Roster Store is not read (log 46). -/
def State.releaseRefs (s : State) (past : Nat) : State :=
  match s.comp.held with
  | none => s
  | some h =>
    let gone (i : Nat) : Bool := (h.cells[i]?).any (Cell.endsAbove past)
    (s.clearRefs gone).keepRefs (fun r => match r with
      | .composing i => !gone i
      | .prefetch _ _ => true)

def State.trainSent (s : State) (ix n : Nat) (p : Packet) : State :=
  let s1 := s.sentPacket p
  let s2 := s1.setLane (s1.lane.trained ix n)
  s2.unlessCut (fun t =>
    if n < 3 then
      match t.roster.templates[ix]? with
      | some tpl => t.handPacket (trainPacket ix tpl (n + 1))
      | none => t
    else t.handOpen)

def State.openSent (s : State) (p : Packet) : State :=
  let s1 := s.sentPacket p
  let s2 := s1.setLane { s1.lane with phase := .opened }
  match s2.comp.held with
  | some h =>
    (s2.setHeld { h with opened := true }).unlessCut (fun t => t.handPacket (t.metaPacket h))
  | none => s2

/-- R81: the TITLE, when the template has a title band. -/
def State.metaSent (s : State) (p : Packet) : State :=
  (s.sentPacket p).unlessCut (fun u =>
    match u.comp.held with
    | none => u
    | some h =>
      match u.templateOf h, u.roster.page? h.page with
      | some t, some pg =>
        if t.titleH = 0 then u.beginBand 0 else u.handPacket (.title (u.roster.titleOf pg))
      | _, _ => u)

def State.titleSent (s : State) (p : Packet) : State :=
  (s.sentPacket p).unlessCut (fun t => t.beginBand 0)

/-- R71: the bands sent count rises by 1; after the last band the state becomes CLOSING. -/
def State.countBand (s : State) (h : Held) (due : List CaptionDue) : State :=
  s.setComp { s.comp with
    held := some { h with bandsSent := h.bandsSent + 1, captions := due },
    state := if h.bandsSent + 1 < h.bandCount then s.comp.state else .closing }

/-- R82, R83, R86: the caption packets that BAND b leaves due. While a cut is requested no CAPTION of the pass goes any
more and none is worked out: a held page outlives the LOADED status with its cut requested or its close handed alone
(R86, R142, R154), so that no read reaches the Roster Store then (R13, R20). -/
def State.dueAfter (s : State) (h : Held) (b : Nat) : List CaptionDue :=
  if s.comp.cut then h.captions
  else match s.templateOf h with
    | some t => captionsDue h t b
    | none => h.captions

/-- R71, R84: BAND b, whose last line is the one above line `past`, has been sent. -/
def State.bandSent (s : State) (p : Packet) (b past : Nat) : State :=
  let s1 := s.sentPacket p
  match s1.comp.held with
  | none => s1
  | some h => ((s1.countBand h (s1.dueAfter h b)).releaseRefs past).unlessCut State.afterBand

def State.captionSent (s : State) (p : Packet) : State := (s.sentPacket p).unlessCut State.proceed

/-- R87: a cut page still in the work list returns to QUEUED at its head. -/
def requeueCut (work : List WorkEntry) (page : Nat) : List WorkEntry :=
  (work.filter (fun e => decide (e.page = page))).map
      (fun e => { e with phase := .queued, edition := none, notices := none }) ++
    work.filter (fun e => decide (e.page ≠ page))

/-- The pass is over: the Compositor holds no page. -/
def Comp.release (c : Comp) : Comp := { c with state := .idle, held := none, cut := false }

/-- R85: the normal PAGE_CLOSE has been sent. -/
def State.closeSent (s : State) (p : Packet) (h : Held) : State :=
  let s1 := s.sentPacket p
  let s2 := s1.setLane { (s1.lane.addSheet { page := h.page, edition := h.edition, cut := false }) with phase := .idle }
  let s3 := s2.modifyWork h.page (fun e =>
    if e.phase = .composing then { e with phase := .inEngine, notices := some h.tallies } else e)
  let s4 := s3.dropPrefetch h.page
  (s4.setComp s4.comp.release).applyWaiting

/-- R164: the flush that waited for the cut. -/
def State.cutSettled (s : State) : State :=
  let s1 := s.setFault { s.fault with cutStep := false }
  let s2 := if s1.fault.flushStep then
      let s' := s1.flushSheets
      s'.setFault { s'.fault with flushStep := false }
    else s1
  s2.tryEnd

/-- R86: the packets a cut sends: PAGE_OPEN when it has not been sent, and the cut close. -/
def Held.cutPackets (h : Held) : List Packet :=
  (if h.opened then [] else [h.openPacket]) ++ [.pageClose true h.bandsSent]

/-- R86, R87: the cut is carried out (log 23). -/
def State.carryOutCut (s : State) (h : Held) : State :=
  let s1 := s.setLane { (s.lane.addSheet { page := h.page, edition := h.edition, cut := true }) with
    phase := .idle, inFlight := none, sent := s.lane.sent ++ h.cutPackets }
  let s2 := (s1.keepRefs (fun r => !r.isComposing))
  let s3 := s2.setFetch { s2.fetch with wants := [] }
  let s4 := s3.setClaims { s3.claims with work := requeueCut s3.claims.work h.page }
  ((s4.setComp s4.comp.release).applyWaiting).cutSettled

/-- R86, R118: a cut waits for the packet in flight; TRAIN packet 0 asked for and not gone is not sent
(log 32). -/
def State.cutReady (s : State) : Bool :=
  s.comp.cut && (match s.lane.inFlight with
    | none => true
    | some (.train _ n _ _) => decide (n = 0)
    | some _ => false)

/-! ## The commands -/

def execBoundary (s : State) : Host.Outcome State Fault Refusal := .next s.boundaryStep

def execTrainPacketSent (s : State) : Host.Outcome State Fault Refusal :=
  match s.lane.inFlight with
  | some (.train ix n g pat) => .next (s.trainSent ix n (.train ix n g pat))
  | _ => .next s

def execPageOpenSent (s : State) : Host.Outcome State Fault Refusal :=
  match s.lane.inFlight with
  | some (.pageOpen p e t) => .next (s.openSent (.pageOpen p e t))
  | _ => .next s

def execPageMetaSent (s : State) : Host.Outcome State Fault Refusal :=
  match s.lane.inFlight with
  | some (.pageMeta p e st t n ps) => .next (s.metaSent (.pageMeta p e st t n ps))
  | _ => .next s

def execTitleSent (s : State) : Host.Outcome State Fault Refusal :=
  match s.lane.inFlight with
  | some (.title t) => .next (s.titleSent (.title t))
  | _ => .next s

def execBandSent (s : State) : Host.Outcome State Fault Refusal :=
  match s.lane.inFlight with
  | some (.band b first lines raster) => .next (s.bandSent (.band b first lines raster) b (first + lines))
  | _ => .next s

def execCaptionSent (s : State) : Host.Outcome State Fault Refusal :=
  match s.lane.inFlight with
  | some (.captionCell i l1 l2) => .next (s.captionSent (.captionCell i l1 l2))
  | some (.captionRow r ls) => .next (s.captionSent (.captionRow r ls))
  | _ => .next s

def execPageCloseSent (s : State) : Host.Outcome State Fault Refusal :=
  match s.lane.inFlight, s.comp.held with
  | some (.pageClose cut n), some h => .next (s.closeSent (.pageClose cut n) h)
  | _, _ => .next s

def execCutCarriedOut (s : State) : Host.Outcome State Fault Refusal :=
  match s.comp.held with
  | some h => if s.cutReady then .next (s.carryOutCut h) else .next s
  | none => .next s

end Sys2Proof.Machine
end

