-- ==== Sys2Proof/Machine/Fetch.lean ====
section
/-! DEFINITION. The Fetch Unit: requests for wants, the prefetch walk, the portrait answers and the fetch timer
(R102 to R113). The link's part of a portrait record is in Machine/Link.lean. -/

namespace Sys2Proof.Machine

/-! ## Requests (R104, R105) -/

/-- The want's composing references. -/
def Want.refs (w : Want) : List Ref := w.cells.map .composing

/-- The head want leaves the list. -/
def State.dropWant (s : State) : State := s.setFetch { s.fetch with wants := s.fetch.wants.tail }

/-- R104: place the head want. -/
def State.placeWant (s : State) (w : Want) : State :=
  match s.tiles.slotOf w.portrait with
  | some n => s.dropWant.addRefs n w.refs
  | none =>
    match s.tiles.firstFree with
    | some n => s.dropWant.request n w.portrait w.refs false
    | none =>
      match s.tiles.evictable with
      | some n => (s.dropWant.freeSlot n).request n w.portrait w.refs false
      | none => s

/-- R102, R104. -/
def State.wantStep (s : State) : State :=
  match s.fetch.wants with
  | w :: _ => if s.mayFetch then s.placeWant w else s
  | [] => s

/-- R105: the cell's mark is SETTLED. -/
def Fetch.settled (f : Fetch) (page cell : Nat) : Bool :=
  f.prefetch.any (fun r => decide (r.page = page) && r.settled.contains cell)

/-- R105: the portrait the walk asks for at a cell, or `none` where it passes over. -/
def State.walkNeeds (s : State) (page cell : Nat) : Option Id32 :=
  if s.tiles.holds (.prefetch page cell) || s.fetch.settled page cell ||
      (learnedKind s.comp.learned page s.roster.edition cell).isSome then none
  else
    match s.roster.subjectAt page cell with
    | none => none
    | some j =>
      match s.roster.subjects[j]? with
      | none => none
      | some x => if x.withdrawn then none else x.portrait

/-- R105: visit cells in order until one must wait. -/
def State.walk : List (Nat × Nat) → State → State
  | [], s => s
  | (page, cell) :: rest, s =>
    match s.walkNeeds page cell with
    | none => State.walk rest s
    | some pid =>
      match s.tiles.slotOf pid with
      | some n => State.walk rest (s.addRefs n [.prefetch page cell])
      | none =>
        match s.tiles.firstFree with
        | some n =>
          if s.tiles.prefetchSlots < Config.prefetchCap ∧ s.mayFetch = true then
            State.walk rest (s.request n pid [.prefetch page cell] false)
          else s
        | none => s

/-- R105: the cells the walk visits: the QUEUED entries in list order, each page's cells ascending. -/
def State.walkCells (s : State) : List (Nat × Nat) :=
  (s.claims.work.filter (fun e => decide (e.phase = .queued))).flatMap (fun e =>
    match s.roster.page? e.page with
    | some p => (List.range (s.roster.cellCount p)).map (fun i => (e.page, i))
    | none => [])

/-- R105: the walk runs while the composing want list is empty. -/
def State.walkStep (s : State) : State :=
  if s.fetch.wants.isEmpty then State.walk s.walkCells s else s

/-! ## Answers (R107 to R113) -/

/-- The references of a slot. -/
def Tiles.refsOf (t : Tiles) (n : Nat) : List Ref := match t.slots[n]? with | some sl => sl.refs | none => []

/-- R107, R111: the cell of the first composing reference counted on a slot. -/
def Tiles.firstComposing (t : Tiles) (n : Nat) : Option Nat :=
  (t.refsOf n).findSome? (fun r => match r with | .composing c => some c | .prefetch _ _ => none)

/-- R107: the page that goes with it: the held page. -/
def State.faultPage (s : State) (cell : Option Nat) : Option Nat :=
  match cell, s.comp.held with
  | some _, some h => some h.page
  | _, _ => none

/-- R107: the low 16 bits of a portrait id. -/
def low16 (p : Id32) : Nat := p.toNat % 65536

/-- R107: the head leaves the list; the timer starts at F for the next head, or stops. -/
def State.popHead (s : State) : State :=
  let rest := s.fetch.list.tail
  s.setFetch { s.fetch with list := rest, answer := none, timer := if rest.isEmpty then none else some s.fetchMs }

/-- R108: protocol loss. -/
def State.protocolLoss (s : State) (tag : Nat) : State := s.raise .linkDown none none tag

/-- R71: a cell waiting in WAITING_TILE is tried again, and the band goes once it waits no more; a caption that is
still in flight goes before it. -/
def State.resume (s : State) : State :=
  if s.comp.state = .waitingTile ∧ s.comp.cut = false then
    let s1 := s.placeBand
    if s1.lane.inFlight.isNone then s1.handReady else s1
  else s

/-- R112: the mark of each cell that held a prefetch reference becomes SETTLED. -/
def settleMarks (records : List Prefetch) (refs : List Ref) : List Prefetch :=
  records.map (fun r =>
    { r with settled := r.settled ++ refs.filterMap (fun x => match x with
        | .prefetch p c => if p = r.page then some c else none
        | .composing _ => none) })

/-- R112: the Compositor records the answer for one cell; its reference ends. -/
def Cell.told (a : FetchAnswer) (c : Cell) : Cell := { c with answer := some a, ref := false }

/-- R112: the Compositor is told the answer for the cell a composing reference names. -/
def State.tell (s : State) (a : FetchAnswer) (r : Ref) : State :=
  match r with
  | .composing c => s.modifyCell c (Cell.told a)
  | .prefetch _ _ => s

/-- R112: the head's request ends without a portrait: its cells are told. -/
def State.refusePortrait (s : State) (slot : Nat) (a : FetchAnswer) : State :=
  let refs := s.tiles.refsOf slot
  let s1 := s.freeSlot slot
  let s2 := s1.setFetch { s1.fetch with prefetch := settleMarks s1.fetch.prefetch refs }
  (refs.foldl (fun st r => State.tell st a r) s2).resume

/-- R110: the slot becomes READY, last in the fill order. -/
def State.acceptPortrait (s : State) (e : FetchEntry) (a : Answer) : State :=
  let s1 := s.setTiles { s.tiles with
    slots := s.tiles.slots.set e.slot (.ready e.portrait a.width a.height (s.tiles.refsOf e.slot)),
    fillOrder := s.tiles.fillOrder ++ [e.slot] }
  s1.resume

/-- R111: a second bad answer frees the slot and raises FETCH_CORRUPT. -/
def State.corrupt (s : State) (e : FetchEntry) : State :=
  let cell := s.tiles.firstComposing e.slot
  let page := s.faultPage cell
  let refs := s.tiles.refsOf e.slot
  let s1 := (s.freeSlot e.slot).clearRefs (fun i => refs.contains (.composing i))
  s1.raise .fetchCorrupt page (if page.isSome then cell else none) (low16 e.portrait)

/-- R111: a bad answer. -/
def State.badAnswer (s : State) (e : FetchEntry) : State :=
  if e.retry then s.corrupt e
  else s.request e.slot e.portrait (s.tiles.refsOf e.slot) true

/-- R110: the answer is good: flag, byte count and CRC. -/
def Answer.good (a : Answer) (crc : BitVec 32) : Bool :=
  !a.bad && decide (a.count = 3 * a.width * a.height) && decide (a.crc = crc)

/-- R110, R113: the answer of the head entry ends. -/
def State.endAnswer (s : State) (e : FetchEntry) (a : Answer) (crc : BitVec 32) : State :=
  let s1 := s.popHead
  if e.stale then s1.freeSlot e.slot
  else if a.oversize then s1.refusePortrait e.slot .oversize
  else if a.good crc then s1.acceptPortrait e a
  else s1.badAnswer e

/-- R108, R112, R113: a PORTRAIT_ABSENT for the head entry. -/
def State.endAbsent (s : State) (e : FetchEntry) : State :=
  let s1 := s.popHead
  if e.stale then s1.freeSlot e.slot else s1.refusePortrait e.slot .portraitAbsent

/-- R109: the answer begun by a PORTRAIT_HEAD. -/
def newAnswer (width height : Nat) : Answer :=
  let small := decide (width < Config.edgeMin) || decide (height < Config.edgeMin)
  { width := width, height := height, count := 0, crc := crc32Init, bad := small,
    oversize := !small && (decide (Config.widthMax < width) || decide (Config.heightMax < height)) }

/-- R109: the bytes of a PORTRAIT_DATA are written. -/
def Answer.writes (a : Answer) (n : Nat) : Bool :=
  !a.bad && !a.oversize && decide (a.count + n ≤ 3 * a.width * a.height)

/-- R109: the answer after a PORTRAIT_DATA. -/
def Answer.take (a : Answer) (bs : List Byte) : Answer :=
  { a with count := min (a.count + bs.length) Config.answerMax, crc := crc32On a.crc bs,
           bad := a.bad || decide (3 * a.width * a.height < a.count + bs.length) }

/-- R107, R109: the answer state, with the timer restarted at F. -/
def State.setAnswer (s : State) (a : Answer) : State :=
  s.setFetch { s.fetch with answer := some a, timer := some s.fetchMs }

/-- R109: a PORTRAIT_DATA for the head entry. -/
def State.takeData (s : State) (e : FetchEntry) (a : Answer) (bs : List Byte) : State :=
  let s1 := if a.writes bs.length then
      s.setTiles { s.tiles with dram := Mem.write s.tiles.dram (slotAddress e.slot a.count) bs }
    else s
  s1.setAnswer (a.take bs)

/-- R108: the four records, each against the list and the answer state. -/
def State.portraitHeadRecord (s : State) (tag : Nat) (pid : Id32) (width height : Nat) : State :=
  match s.fetch.list, s.fetch.answer with
  | e :: _, none =>
    if tag = e.tag ∧ pid = e.portrait then s.setAnswer (newAnswer width height) else s.protocolLoss tag
  | _, _ => s.protocolLoss tag

def State.portraitDataRecord (s : State) (tag : Nat) (bs : List Byte) : State :=
  match s.fetch.list, s.fetch.answer with
  | e :: _, some a => if tag = e.tag then s.takeData e a bs else s.protocolLoss tag
  | _, _ => s.protocolLoss tag

def State.portraitEndRecord (s : State) (tag : Nat) (crc : BitVec 32) : State :=
  match s.fetch.list, s.fetch.answer with
  | e :: _, some a => if tag = e.tag then s.endAnswer e a crc else s.protocolLoss tag
  | _, _ => s.protocolLoss tag

def State.portraitAbsentRecord (s : State) (tag : Nat) (pid : Id32) : State :=
  match s.fetch.list, s.fetch.answer with
  | e :: _, none => if tag = e.tag ∧ pid = e.portrait then s.endAbsent e else s.protocolLoss tag
  | _, _ => s.protocolLoss tag

/-- R108, R173: portrait records are checked; otherwise they are dropped and counted. -/
def State.takesPortraits (s : State) : Bool :=
  match s.ctl.state with
  | .setupWait => false
  | .planLoad => !s.fetch.list.isEmpty
  | .syncing => true
  | .active => true
  | .silent => true
  | .halted => true

/-- R108, R173: a portrait record reaches the Fetch Unit, or is dropped and counted. -/
def State.ifPortraits (s : State) (go : State → State) : State :=
  if s.takesPortraits && !s.fetch.hold then go s else s.dropInbound

/-! ## The fetch timer (R107) -/

def State.fetchTimeout (s : State) : State :=
  match s.fetch.timer, s.fetch.list with
  | some _, e :: _ =>
    let cell := s.tiles.firstComposing e.slot
    let page := s.faultPage cell
    let s1 := s.setFetch { s.fetch with timer := none }
    s1.raise .fetchTimeout page (if page.isSome then cell else none) (low16 e.portrait)
  | _, _ => s

/-! ## The commands of the Fetch Unit itself -/

def execFetchWantRequest (s : State) : Host.Outcome State Fault Refusal := .next s.wantStep

def execPrefetchWalk (s : State) : Host.Outcome State Fault Refusal := .next s.walkStep

def execFetchTimerExpiry (s : State) : Host.Outcome State Fault Refusal := .next s.fetchTimeout

end Sys2Proof.Machine
end

