-- ==== Sys2Proof/Machine/Engine.lean ====
section
/-! DEFINITION. The print engine's side: outcome records, the head timer and the two levels (R121 to R128), and
the report timer of the Fault Unit (R168). -/

namespace Sys2Proof.Machine

/-- R121, R123: the head sheet's page, or 65535. -/
def Lane.headPage (l : Lane) : Nat := match l.sheets with | sh :: _ => sh.page | [] => 65535

/-- R122: the counter of an outcome rises. -/
def Lane.count (l : Lane) : EngineOutcome → Lane
  | .delivered => { l with delivered := (l.delivered + 1) % Config.counterMod }
  | .spoiled => { l with spoiled := (l.spoiled + 1) % Config.counterMod }
  | .withdrawn => { l with withdrawn := (l.withdrawn + 1) % Config.counterMod }

/-- R122: the head sheet leaves; the timer restarts for the next head, or stops. -/
def Lane.popSheet (l : Lane) (rest : List Sheet) : Lane :=
  { l with sheets := rest, headTimer := if rest.isEmpty then none else some Config.headMs }

/-- R122: hand the outcome on, by the fault phase. -/
def State.handOutcome (s : State) (sh : Sheet) (o : EngineOutcome) : State :=
  if s.fault.phase = .recovering then s.setFault { s.fault with deferred := s.fault.deferred ++ [(sh, o)] }
  else s.claimOutcome sh o

/-- R122, R123: a good outcome record. -/
def State.goodOutcome (s : State) (page : Nat) (o : EngineOutcome) : State :=
  match s.lane.sheets with
  | sh :: rest =>
    if sh.page = page then
      ((s.setLane ((s.lane.popSheet rest).count o)).handOutcome sh o).evalClaim
    else s.raise .engineMismatch (some page) none sh.page
  | [] => s.raise .engineMismatch (some page) none 65535

/-- R121: a bad outcome record. -/
def State.badOutcome (s : State) : State := s.raise .engineMismatch none none s.lane.headPage

/-- R121, R128: what the return channel brings is discarded unexamined while the outcome hold is set. -/
def State.returnEvent (s : State) (e : ReturnEvent) : State :=
  if s.lane.hold then s
  else match e with
    | .good page o => s.goodOutcome page o
    | .bad => s.badOutcome

/-- R181: the bytes of a record not yet complete. -/
def State.setHunt (s : State) (bs : List Byte) : State := s.setLane { s.lane with hunt := bs }

/-- R121, R128, R181: bytes on the return channel (log 21). -/
def State.returnBytes (s : State) (bs : List Byte) : State :=
  if s.lane.hold then s.setHunt []
  else
    let all := s.lane.hunt ++ bs
    let r := huntReturn (all.length + 1) all
    let s1 := r.1.foldl State.returnEvent (s.setHunt r.2)
    if s1.lane.hold then s1.setHunt [] else s1

/-- R121: a whole outcome record with a good header. -/
def State.outcomeRecord (s : State) (page : Nat) (o : EngineOutcome) : State :=
  (s.setHunt []).returnEvent (if 1024 ≤ page then .bad else .good page o)

/-- R124. -/
def State.headTimeout (s : State) : State :=
  match s.lane.headTimer, s.lane.sheets with
  | some _, sh :: _ =>
    (s.setLane { s.lane with headTimer := none }).raise .engineTimeout (some sh.page) none sh.edition
  | _, _ => s

/-- R126: the assertion raises nothing. -/
def State.offlineQuiet (s : State) : Bool :=
  (decide (s.ctl.state = .setupWait) || decide (s.ctl.state = .planLoad)) && s.lane.sheets.isEmpty

/-- R40, R126: ENGINE_OFFLINE passes from deasserted to asserted. -/
def State.goOffline (s : State) : State :=
  if s.lane.offline then s
  else
    let s1 := (s.setLane { s.lane with offline := true }).reviewPending
    if s1.offlineQuiet then s1
    else
      s1.raise .engineOffline (match s1.lane.sheets with | sh :: _ => some sh.page | [] => none) none
        s1.lane.sheets.length

/-- R39, R126: ENGINE_OFFLINE is deasserted. -/
def State.goOnline (s : State) : State := (s.setLane { s.lane with offline := false }).evalClaim

/-- R168. -/
def State.reportExpiry (s : State) : State :=
  if s.fault.phase = .held ∧ s.fault.reportTimer.isSome = true then s.repeatFaultReport else s

/-! ## The commands -/

def execOutcomeRecord (page : Nat) (outcome : EngineOutcome) (s : State) : Host.Outcome State Fault Refusal :=
  .next (s.outcomeRecord page outcome)

def execBadOutcomeRecord (bytes : List Byte) (s : State) : Host.Outcome State Fault Refusal :=
  .next (s.returnBytes bytes)

def execHeadTimerExpiry (s : State) : Host.Outcome State Fault Refusal := .next s.headTimeout

def execSheetReadyAsserted (s : State) : Host.Outcome State Fault Refusal :=
  .next (s.setLane { s.lane with sheetReady := true })

def execSheetReadyDeasserted (s : State) : Host.Outcome State Fault Refusal :=
  .next (s.setLane { s.lane with sheetReady := false })

def execEngineOfflineAsserted (s : State) : Host.Outcome State Fault Refusal := .next s.goOffline

def execEngineOfflineDeasserted (s : State) : Host.Outcome State Fault Refusal := .next s.goOnline

def execReportTimerExpiry (s : State) : Host.Outcome State Fault Refusal := .next s.reportExpiry

end Sys2Proof.Machine
end

