-- ==== Sys2Proof/Machine/Records.lean ====
section
/-! DEFINITION. The library records a station sends: the payload of each of the seven outbound kinds and the bytes
of a whole record (R177, R178, R181). Multi-byte fields go most significant byte first (R178). What R181 leaves
open of flags, presence bytes, lists and the place of the station number is DESIGN CHOICE (log 42). -/

namespace Sys2Proof.Machine

/-! ## Kinds and codes: an enumeration is its position in the owning rule's list (R181) -/

/-- R181: the outbound kinds, 0x81 to 0x87. -/
def OutBody.kind : OutBody → Nat
  | .planAsk _ _ _ => 0x81
  | .fetch _ _ => 0x82
  | .pageReport _ _ _ _ => 0x83
  | .faultReport _ => 0x84
  | .relayResult _ => 0x85
  | .volumeReport _ => 0x86
  | .status _ => 0x87

/-- R147. -/
def StationState.code : StationState → Nat
  | .setupWait => 0 | .planLoad => 1 | .syncing => 2 | .active => 3 | .silent => 4 | .halted => 5

/-- R1. -/
def RosterStatus.code : RosterStatus → Nat
  | .empty => 0 | .loading => 1 | .loaded => 2

/-- R38. -/
def WorkPhase.code : WorkPhase → Nat
  | .queued => 0 | .composing => 1 | .inEngine => 2

/-- R48. -/
def PageOutcome.code : PageOutcome → Nat
  | .printed => 0 | .reopenedStale => 1 | .failed => 2 | .lost => 3

/-- R65. -/
def Request.code : Request → Nat
  | .amend => 0 | .launch => 1 | .drop => 2

/-- R65. -/
def RelayVerdict.code : RelayVerdict → Nat
  | .taken => 0 | .void => 1 | .refused => 2 | .unsent => 3

/-- R65 lists the reasons of a VOID and those of a REFUSED result apart. DESIGN CHOICE (log 42): the two lists are
numbered through as one, so BUSY is 5 and NOT_ACTIVE 6. -/
def Reason.code : Reason → Nat
  | .badValue => 0 | .noSubject => 1 | .storeFull => 2 | .emptyBatch => 3 | .editionExhausted => 4
  | .busy => 5 | .notActive => 6

/-- R115. -/
def LanePhase.code : LanePhase → Nat
  | .idle => 0 | .training => 1 | .opened => 2

/-- R160. -/
def FaultPhase.code : FaultPhase → Nat
  | .clear => 0 | .recovering => 1 | .held => 2

/-! ## Fields -/

def bytes1 (n : Nat) : List Byte := [byte n]

/-- A flag: 1 set, 0 clear (log 42). -/
def flagByte (b : Bool) : List Byte := [if b then 1#8 else 0#8]

/-- R181: an optional field of a width: a presence byte and the field, sent as 0 when absent. DESIGN CHOICE (log 42):
the presence byte of a present field is 1; R181 allows any value but 0. -/
def optBytes {α : Type} (width : Nat) (bytes : α → List Byte) : Option α → List Byte
  | some x => 1#8 :: bytes x
  | none => List.replicate (width + 1) 0#8

/-- R177: the seven notice counts. -/
def Notices.bytes (n : Notices) : List Byte :=
  [n.noPortrait, n.portraitAbsent, n.oversize, n.lowResolution, n.cropClamped, n.upscaled, n.toneLimited].map byte

/-- R160, R168: the fields of a fault record; the cause goes as its code from 1 to 12. -/
def FaultRecord.bytes (r : FaultRecord) : List Byte :=
  bytes1 r.serial ++ bytes1 r.cause.code ++ optBytes 2 bytes2 r.page ++ optBytes 1 bytes1 r.cell ++
    optBytes 1 bytes1 r.band ++ bytes2 r.detail ++ bytes1 r.followOn

/-- R175: the clamped SETUP values and their clamp flags. -/
def Setup.bytes (x : Setup) : List Byte :=
  bytes2 x.lease ++ bytes1 x.depth ++ bytes2 x.fetch ++ flagByte x.leaseClamped ++ flagByte x.depthClamped ++
    flagByte x.fetchClamped

/-- R65: the four batch slot states, bit k set for an OPEN batch k, as R179 sends them. -/
def statesByte (states : List Bool) : Byte :=
  byte (states.reverse.foldl (fun n b => 2 * n + b.toNat) 0)

/-- R175: an entry of the work list. -/
def workBytes (w : Nat × WorkPhase × Nat × Option Nat) : List Byte :=
  bytes2 w.1 ++ bytes1 w.2.1.code ++ bytes1 w.2.2.1 ++ optBytes 2 bytes2 w.2.2.2

/-- R115: a sheet. -/
def Sheet.bytes (sh : Sheet) : List Byte := bytes2 sh.page ++ bytes2 sh.edition ++ flagByte sh.cut

/-- A list: the number of its items and the items (log 42). -/
def listBytes {α : Type} (bytes : α → List Byte) (xs : List α) : List Byte := byte xs.length :: xs.flatMap bytes

/-- The cumulative counters take four bytes each. -/
def counterBytes (n : Nat) : List Byte := bytes4 (BitVec.ofNat 32 n)

/-! ## Payloads -/

/-- R168. -/
def FaultReport.bytes (r : FaultReport) : List Byte :=
  r.record.bytes ++ bytes1 r.state.code ++ bytes1 r.closed ++ bytes1 r.lost ++ bytes1 r.repeats

/-- R65. -/
def RelayResult.bytes (r : RelayResult) : List Byte :=
  bytes1 r.request.code ++ bytes1 r.batch ++ optBytes 2 bytes2 r.subject ++ optBytes 1 bytes1 r.kind ++
    bytes1 r.verdict.code ++ optBytes 1 (fun x => bytes1 (Reason.code x)) r.reason ++
    optBytes 1 flagByte r.replaced ++ optBytes 2 bytes2 r.edition ++ optBytes 1 bytes1 r.poolCount ++
    optBytes 1 (fun x => [statesByte x]) r.batchStates

/-- R37. -/
def VolumeReport.bytes (r : VolumeReport) : List Byte :=
  bytes4 (r.identity.getD 0) ++ bytes2 r.pages ++ bytes2 r.printed ++ bytes2 r.lapsed ++ bytes2 r.spoiled ++
    bytes2 r.unfetchable ++ bytes2 r.lastLaunched ++ bytes2 r.reprints ++ bytes1 r.completions

/-- R175: the groups of STATUS in the order of its table, after the request number. DESIGN CHOICE (log 42): the
SHEET_READY and ENGINE_OFFLINE levels go as 1 asserted, 0 deasserted. -/
def Status.bytes (station : Nat) (r : Status) : List Byte :=
  bytes1 r.request ++
  (bytes1 station ++ bytes1 r.state.code ++ bytes1 r.abandoned ++ bytes1 r.reask ++ flagByte r.volumeSeen) ++
  optBytes 8 Setup.bytes r.setup ++
  (bytes1 r.roster.code ++ optBytes 4 bytes4 r.identity ++ bytes2 r.edition ++ bytes2 r.lastLaunched) ++
  (flagByte r.silent ++ bytes1 r.tx ++ bytes1 r.rx) ++
  (flagByte r.held ++ bytes2 r.present.toNat ++ bytes2 r.opened ++ bytes2 r.claimed ++ bytes2 r.printed ++
    bytes2 r.failed) ++
  listBytes workBytes r.work ++
  (bytes1 r.lanePhase.code ++ optBytes 1 bytes1 r.lastTemplate ++ flagByte (!r.outcomeHold) ++
    flagByte r.sheetReady ++ flagByte r.offline) ++
  listBytes Sheet.bytes r.sheets ++
  (bytes1 r.faultPhase.code ++ optBytes 12 FaultRecord.bytes r.fault ++ bytes1 r.awaited) ++
  (flagByte (!r.linkUp) ++ flagByte r.relayBusy) ++
  [r.delivered, r.spoiled, r.withdrawn, r.lost, r.framesSent, r.framesVetoed, r.inDropped, r.outDropped].flatMap
    counterBytes

/-- R177, R181: the payload of an outbound record. The station number comes first, but in STATUS, where R175 puts
it behind the request number. -/
def OutRecord.payload (r : OutRecord) : List Byte :=
  match r.body with
  | .planAsk reask identity wanted =>
    bytes1 r.station ++ flagByte reask ++ optBytes 4 bytes4 identity ++ optBytes 2 bytes2 wanted
  | .fetch tag portrait => bytes1 r.station ++ bytes1 tag ++ bytes4 portrait
  | .pageReport page edition outcome notices =>
    bytes1 r.station ++ bytes2 page ++ optBytes 2 bytes2 edition ++ bytes1 outcome.code ++
      optBytes 7 Notices.bytes notices
  | .faultReport x => bytes1 r.station ++ x.bytes
  | .relayResult x => bytes1 r.station ++ x.bytes
  | .volumeReport x => bytes1 r.station ++ x.bytes
  | .status x => x.bytes r.station

/-- R181: an outbound record as sent. -/
def OutRecord.bytes (r : OutRecord) : List Byte := recordBytes r.body.kind r.payload

/-! ## The lengths (R171) -/

/-- The value of a payload's byte; 0 beyond its end. -/
def byteAt (bs : List Byte) (k : Nat) : Nat := (bs[k]?.getD 0#8).toNat

/-- R171, R181: a payload has the length of its outbound kind, a STATUS counting what its two lists hold. -/
def outboundFits (kind : Nat) (bs : List Byte) : Bool :=
  match kind with
  | 0x81 => decide (bs.length = 10)
  | 0x82 => decide (bs.length = 6)
  | 0x83 => decide (bs.length = 15)
  | 0x84 => decide (bs.length = 17)
  | 0x85 => decide (bs.length = 20)
  | 0x86 => decide (bs.length = 20)
  | 0x87 =>
    let work := 7 * byteAt bs 39
    decide (bs.length = 96 + work + 5 * byteAt bs (46 + work))
  | _ => false

end Sys2Proof.Machine
end

