-- ==== Sys2Proof/Machine/Link.lean ====
section
/-! DEFINITION. The Library Link Controller: the good records and what each does, SETUP, the plan load's end,
the relay slot, STATUS, the parser fed byte by byte, loss of the line, and the two resets (R12, R15, R19, R63,
R146 to R148, R169 to R177). -/

namespace Sys2Proof.Machine

/-- R172: every inbound byte restarts the silence timer while the link is UP. -/
def Link.heard (l : Link) : Link := if l.up then { l with silence := some Config.silenceMs } else l

/-- R171, R172: a whole good record has been taken: the parser is HUNTING, the link UP, the timer restarted
(log 7). -/
def State.goodRecord (s : State) : State :=
  s.setLink { s.link with parser := .hunting, up := true, silence := some Config.silenceMs }

/-- R171: the fate of a bad record. -/
def State.badRecord (s : State) : State :=
  match s.fetch.answer with
  | some a => s.setFetch { s.fetch with answer := some { a with bad := true } }
  | none => s.dropInbound

/-! ## SETUP (R148, R174) -/

/-- R174: the nearest multiple of a step within its legal range, half-way rounding up. -/
def clampStep (lo hi step n : Nat) : Nat :=
  if n < lo then lo else if hi < n then hi else (2 * n + step) / (2 * step) * step

/-- R174. -/
def clampDepth (n : Nat) : Nat := if n = 0 then 1 else if 3 < n then 3 else n

/-- R174: the clamped values and their flags. -/
def clampSetup (lease depth fetch : Nat) : Setup :=
  let l := clampStep 250 8000 250 lease
  let d := clampDepth depth
  let f := clampStep 50 2000 50 fetch
  { lease := l, depth := d, fetch := f, leaseClamped := decide (l ≠ lease),
    depthClamped := decide (d ≠ depth), fetchClamped := decide (f ≠ fetch) }

/-- R148. -/
def State.takeSetup (s : State) (lease depth fetch : Nat) : State :=
  if s.ctl.state = .setupWait then
    let s1 := s.setSetup (some (clampSetup lease depth fetch))
    (s1.setCtl { s1.ctl with state := .planLoad }).emit (.planAsk false none none)
  else s.dropInbound

/-! ## The plan (R12 to R15, R19) -/

/-- R12: a body record or PLAN_END is taken. -/
def State.loading (s : State) : Bool :=
  decide (s.ctl.state = .planLoad) && decide (s.roster.status = .loading)

/-- R12, R13, R56: a PLAN_HEAD; the Launch Queue is emptied with the plan it belonged to. -/
def State.takePlanHead (s : State) (p : PlanHead) : State :=
  if s.ctl.state = .planLoad then (s.setRoster (Roster.begin p)).setLaunch Launch.cleared
  else s.dropInbound

/-- R12, R14: a body record of kind k. -/
def State.takePlanBody (s : State) (k : Nat) (add : Roster → Roster) : State :=
  if s.loading then s.setRoster (s.roster.takeBody k add) else s.dropInbound

def State.takePlanTemplate (s : State) (t : Template) : State :=
  s.takePlanBody 0 (fun ro => { ro with templates := push Config.templateCap ro.templates t })

def State.takePlanSection (s : State) (x : Section) : State :=
  s.takePlanBody 1 (fun ro => { ro with sections := push Config.sectionCap ro.sections x })

def State.takePlanPage (s : State) (p : PageRec) : State :=
  s.takePlanBody 2 (fun ro => { ro with pages := push Config.pageCap ro.pages p })

def State.takePlanSubject (s : State) (j : Subject) : State :=
  s.takePlanBody 3 (fun ro => { ro with subjects := push Config.subjectCap ro.subjects (Subject.stored j) })

/-- R15, R149: a plan that passed. -/
def State.planLoaded (s : State) : State :=
  let ro := s.roster.loaded
  let s1 := (s.setRoster ro).setBoard { s.board with lastLaunched := ro.edition }
  s1.enterSyncing

/-- R19: a plan that failed at a check. -/
def State.planFailed (s : State) (code index : Nat) : State :=
  (s.setRoster Roster.cleared).raise .planInvalid none none (code * 4096 + index)

/-- R15, R19. -/
def State.judgePlan (s : State) : State :=
  match s.roster.validate with
  | none => s.planLoaded
  | some (code, index) => s.planFailed code index

/-- R12, R15, R145: PLAN_END takes the port from a listener's to full part, from the next start bit on. -/
def State.takePlanEnd (s : State) : State :=
  if s.loading then
    let s1 := s.judgePlan
    s1.setPort { s1.port with awaitsStart := true }
  else s.dropInbound

/-! ## The relay slot (R63) -/

/-- R63: refuse a request at once. -/
def State.refuseRelay (s : State) (f : Frame) (reason : Reason) : State :=
  s.emit (.relayResult (relayBare f .refused (some reason)))

/-- R63: a request from the hall server, with its frame. -/
def State.relay (s : State) (f : Frame) : State :=
  if s.ctl.state ≠ .active then s.refuseRelay f .notActive
  else if s.link.relay.isSome then s.refuseRelay f .busy
  else if s.canQueue then
    let s1 := s.enqueue (.frame f)
    s1.setLink { s1.link with relay := some f }
  else s.refuseRelay f .busy

/-! ## FAULT_ACK (R169) -/

/-- R169: the acknowledgement is of the fault held. -/
def State.ackTaken (s : State) (serial : Nat) : Bool :=
  decide (s.fault.phase = .held) &&
  (match s.fault.record with | some r => decide (r.serial = serial) | none => false)

def State.takeAck (s : State) (serial : Nat) : State :=
  if s.ackTaken serial then
    let s1 := s.setFault { s.fault with
      phase := .clear, record := none, reportTimer := none, closed := 0, lost := 0, repeats := 0 }
    (s1.setFetch { s1.fetch with hold := false }).evalClaim
  else s

/-! ## STATUS (R175) -/

/-- R175: pages in a state, by the code of R180; 0 while the replica is ABSENT. -/
def Board.countOf (b : Board) (code : Nat) : Nat :=
  match b.replica with
  | some r => (r.entries.filter (fun e => decide (e.status.code = code))).length
  | none => 0

/-- R175: the station at this moment. -/
def State.status (s : State) (request : Nat) : Status :=
  { request := request, state := s.ctl.state, abandoned := s.ctl.abandoned, reask := s.ctl.reask,
    volumeSeen := s.ctl.volumeSeen, setup := s.setup, roster := s.roster.status,
    identity := s.roster.identity, edition := s.roster.editionRead, lastLaunched := s.board.lastLaunched,
    silent := s.port.silent, tx := s.port.tx, rx := s.port.rx, held := s.board.replica.isSome,
    present := match s.board.replica with | some r => r.present | none => 0,
    opened := s.board.countOf 0, claimed := s.board.countOf 1, printed := s.board.countOf 2,
    failed := s.board.countOf 3,
    work := s.claims.work.map (fun e => (e.page, e.phase, e.spoils, e.edition)),
    lanePhase := s.lane.phase, lastTemplate := s.lane.lastTemplate, outcomeHold := s.lane.hold,
    sheetReady := s.lane.sheetReady, offline := s.lane.offline, sheets := s.lane.sheets,
    faultPhase := s.fault.phase, fault := s.fault.record, awaited := s.fault.awaited.length,
    linkUp := s.link.up, relayBusy := s.link.relay.isSome, delivered := s.lane.delivered,
    spoiled := s.lane.spoiled, withdrawn := s.lane.withdrawn, lost := s.lane.lost,
    framesSent := s.port.framesSent, framesVetoed := s.port.framesVetoed, inDropped := s.link.inDropped,
    outDropped := s.link.outDropped }

def State.answerStatus (s : State) (request : Nat) : State := s.emit (.status (s.status request))

/-! ## The resets (R1, R21, R38, R56, R67, R100, R102, R115, R146, R147, R160, R170, R176) -/

/-- Cold reset with the straps sampled; what waits, the engine's levels and the DRAM's cells are not the
reset's to change (log 3, log 4), nor is the number of the next free value (log 14). -/
def State.coldReset (s : State) (straps : Straps) : State :=
  { State.reset with
    pending := s.pending, straps := straps,
    tiles := Tiles.cleared s.tiles.dram,
    lane := { Lane.cold with sheetReady := s.lane.sheetReady, offline := s.lane.offline },
    fault := { FaultUnit.cleared with unlisted := s.fault.unlisted } }

/-- R115: the lane after RESTART: as after cold reset but for the counters. -/
def Lane.restarted (l : Lane) : Lane :=
  { Lane.cold with delivered := l.delivered, spoiled := l.spoiled, withdrawn := l.withdrawn,
                   lost := l.lost, sheetReady := l.sheetReady, offline := l.offline, sent := l.sent }

/-- R146. -/
def Port.restarted (p : Port) : Port :=
  { Port.cold with framesSent := p.framesSent, framesVetoed := p.framesVetoed }

/-- R176: the record being sent is the head of the outbound list. -/
def Link.restarted (l : Link) : Link :=
  { parser := .hunting, up := true, silence := some Config.silenceMs, outbound := l.outbound.take 1,
    relay := none, inDropped := l.inDropped, outDropped := l.outDropped }

/-- R176. -/
def State.restartBlocks (s : State) : State :=
  { State.reset with
    pending := s.pending, straps := s.straps,
    tiles := Tiles.cleared s.tiles.dram,
    lane := s.lane.restarted, port := s.port.restarted, link := s.link.restarted,
    fault := { FaultUnit.cleared with unlisted := s.fault.unlisted } }

/-! ## Dispatch of a record found in the byte stream (R173) -/

/-- What a good inbound record does, by its kind; a command that is no inbound record does nothing here. -/
def State.dispatch (s : State) : Instr → State
  | .setup l d f => s.takeSetup l d f
  | .planHead p => s.takePlanHead p
  | .planTemplate t => s.takePlanTemplate t
  | .planSection x => s.takePlanSection x
  | .planPage p => s.takePlanPage p
  | .planSubject j => s.takePlanSubject j
  | .planEnd => s.takePlanEnd
  | .portraitHead tag pid w h => s.ifPortraits (fun t => t.portraitHeadRecord tag pid w h)
  | .portraitData tag bs => s.ifPortraits (fun t => t.portraitDataRecord tag bs)
  | .portraitEnd tag crc => s.ifPortraits (fun t => t.portraitEndRecord tag crc)
  | .portraitAbsent tag pid => s.ifPortraits (fun t => t.portraitAbsentRecord tag pid)
  | .amendIn b => s.relay (.amend b)
  | .launchIn b => s.relay (.launch b)
  | .dropIn b => s.relay (.drop b)
  | .faultAck n => s.takeAck n
  | .statusAsk n => s.answerStatus n
  | .restart => s.restartBlocks
  | _ => s

/-! ## The parser (R171) -/

/-- R171: where hunting over a few bytes leads: HEADER after a start delimiter, with the bytes behind it. -/
def hunt : List Byte → Parser
  | [] => .hunting
  | b :: bs => if b = 0x7E#8 then .header bs else hunt bs

/-- R171: what a byte completes: nothing, a bad record, or a record with its kind and payload. -/
inductive ParseEvent where
  | none
  | bad
  | whole (kind : Nat) (payload : List Byte)
  deriving DecidableEq, Repr

/-- R171: after the header's three bytes. -/
def headerDone (k l1 l0 : Byte) : Parser × ParseEvent :=
  let len := be2 l1 l0
  let crc := crc32On crc32Init [k, l1, l0]
  if Config.recordMax < len then (hunt [k, l1, l0], .bad)
  else if len = 0 then (.check k.toNat [] crc [], .none)
  else (.payload k.toNat len [] crc, .none)

/-- R171: the parser takes one byte. -/
def Parser.feed (p : Parser) (b : Byte) : Parser × ParseEvent :=
  match p with
  | .hunting => (hunt [b], .none)
  | .header got =>
    match got ++ [b] with
    | [k, l1, l0] => headerDone k l1 l0
    | more => (.header more, .none)
  | .payload kind len got crc =>
    let got' := got ++ [b]
    let crc' := crc32On crc [b]
    if got'.length < len then (.payload kind len got' crc', .none)
    else (.check kind got' crc' [], .none)
  | .check kind body crc got =>
    match got ++ [b] with
    | [c3, c2, c1, c0] => (.hunting, if be4 c3 c2 c1 c0 = crc then .whole kind body else .bad)
    | more => (.check kind body crc more, .none)

/-- R171, R173: a completed record with a matching CRC: dispatched; dropped, when it is of an outbound kind and of
that kind's length (log 8); or bad. -/
def State.wholeRecord (s : State) (kind : Nat) (payload : List Byte) : State :=
  match readInbound kind payload with
  | some i => s.goodRecord.dispatch i
  | none => if outboundFits kind payload then s.goodRecord.dropInbound else s.badRecord

/-- R171, R172: one inbound byte. -/
def State.feedByte (s : State) (b : Byte) : State :=
  let r := s.link.parser.feed b
  let s1 := s.setLink { s.link.heard with parser := r.1 }
  match r.2 with
  | .none => s1
  | .bad => s1.badRecord
  | .whole kind payload => s1.wholeRecord kind payload

/-- R172: the silence timer runs out. DESIGN CHOICE (log 39): this raises LINK_DOWN, and so sends a FAULT_REPORT, in
SETUP_WAIT as well, where R176 has a station send nothing of its own after a RESTART. -/
def State.lineSilent (s : State) : State :=
  if s.link.up = true ∧ s.link.silence.isSome = true then
    let s1 := s.setLink { s.link with up := false, silence := none, parser := .hunting }
    let s2 := if s.link.parser = .hunting then s1 else s1.badRecord
    s2.raise .linkDown none none 256
  else s

/-! ## The commands -/

def execColdReset (station rate : Nat) (s : State) : Host.Outcome State Fault Refusal :=
  .next (s.coldReset { station := station, rate := rate })

def execRestart (s : State) : Host.Outcome State Fault Refusal := .next s.goodRecord.restartBlocks

def execSetup (lease depth fetch : Nat) (s : State) : Host.Outcome State Fault Refusal :=
  .next (s.goodRecord.takeSetup lease depth fetch)

def execPlanHead (head : PlanHead) (s : State) : Host.Outcome State Fault Refusal :=
  .next (s.goodRecord.takePlanHead head)

def execPlanTemplate (t : Template) (s : State) : Host.Outcome State Fault Refusal :=
  .next (s.goodRecord.takePlanTemplate t)

def execPlanSection (x : Section) (s : State) : Host.Outcome State Fault Refusal :=
  .next (s.goodRecord.takePlanSection x)

def execPlanPage (p : PageRec) (s : State) : Host.Outcome State Fault Refusal :=
  .next (s.goodRecord.takePlanPage p)

def execPlanSubject (j : Subject) (s : State) : Host.Outcome State Fault Refusal :=
  .next (s.goodRecord.takePlanSubject j)

def execPlanEnd (s : State) : Host.Outcome State Fault Refusal := .next s.goodRecord.takePlanEnd

def execPortraitHead (tag : Nat) (portrait : Id32) (width height : Nat) (s : State) :
    Host.Outcome State Fault Refusal :=
  .next (s.goodRecord.ifPortraits (fun t => t.portraitHeadRecord tag portrait width height))

def execPortraitData (tag : Nat) (raster : List Byte) (s : State) : Host.Outcome State Fault Refusal :=
  .next (s.goodRecord.ifPortraits (fun t => t.portraitDataRecord tag raster))

def execPortraitEnd (tag : Nat) (crc : BitVec 32) (s : State) : Host.Outcome State Fault Refusal :=
  .next (s.goodRecord.ifPortraits (fun t => t.portraitEndRecord tag crc))

def execPortraitAbsent (tag : Nat) (portrait : Id32) (s : State) : Host.Outcome State Fault Refusal :=
  .next (s.goodRecord.ifPortraits (fun t => t.portraitAbsentRecord tag portrait))

def execAmendIn (body : AmendBody) (s : State) : Host.Outcome State Fault Refusal :=
  .next (s.goodRecord.relay (.amend body))

def execLaunchIn (batch : Nat) (s : State) : Host.Outcome State Fault Refusal :=
  .next (s.goodRecord.relay (.launch batch))

def execDropIn (batch : Nat) (s : State) : Host.Outcome State Fault Refusal :=
  .next (s.goodRecord.relay (.drop batch))

def execFaultAck (serial : Nat) (s : State) : Host.Outcome State Fault Refusal :=
  .next (s.goodRecord.takeAck serial)

def execStatusAsk (request : Nat) (s : State) : Host.Outcome State Fault Refusal :=
  .next (s.goodRecord.answerStatus request)

/-- R171: the bytes pass through the parser one by one. -/
def execBadInboundRecord (bytes : List Byte) (s : State) : Host.Outcome State Fault Refusal :=
  .next (bytes.foldl State.feedByte s)

/-- R173: a good record of an outbound kind is dropped and counted (log 8). -/
def execOutboundKindRecord (_kind : Nat) (s : State) : Host.Outcome State Fault Refusal :=
  .next s.goodRecord.dropInbound

def execSilenceTimerExpiry (s : State) : Host.Outcome State Fault Refusal := .next s.lineSilent

/-- R177: the head record has left. -/
def execOutboundRecordSent (s : State) : Host.Outcome State Fault Refusal :=
  .next (s.setLink { s.link with outbound := s.link.outbound.tail })

/-- R172, R181: a byte of idle fill. -/
def execInboundIdleFill (s : State) : Host.Outcome State Fault Refusal := .next (s.feedByte 0x00#8)

end Sys2Proof.Machine
end

