-- ==== Sys2Proof/Machine/Bus.lean ====
section
/-! DEFINITION. The hall-bus commands that are not applied frames, and the station's own timers (R34, R36,
R132, R134, R137, R139, R140, R142, R144, R156). -/

namespace Sys2Proof.Machine

/-- R132, R136, R145: the station sends its start bit. -/
def execFrameStart (others : List Nat) (s : State) : Host.Outcome State Fault Refusal :=
  .next (if s.startBit.mayStart then s.startBit.startHead others else s)

/-- R139: the holder of the run sends its next frame. -/
def execRunNextFrame (others : List Nat) (s : State) : Host.Outcome State Fault Refusal :=
  .next (if s.holdsRun then s.startNext others else s)

/-- R134. -/
def execFrameVetoed (x : Heard) (s : State) : Host.Outcome State Fault Refusal := .next (s.vetoFrame x)

/-- R140. -/
def execRunIdleEnd (s : State) : Host.Outcome State Fault Refusal := .next s.endRun

/-- R156, R153: the sync timer runs out. -/
def execSyncTimerExpiry (s : State) : Host.Outcome State Fault Refusal :=
  .next (if s.ctl.state = .syncing ∧ s.ctl.syncTimer.isSome = true ∧ s.ctl.collection.isNone = true then
      if s.ctl.volumeSeen then s.abandon 3 else s.freshStart
    else s)

/-- R142: a count stands at 32 (log 6). -/
def execPortEntersSilent (s : State) : Host.Outcome State Fault Refusal :=
  .next (if s.participation = .full then s.confine else s)

/-- R144. At a port that is not SILENT it changes nothing. DESIGN CHOICE (log 41): of a frame that a listener, or a port
on its move to full part, reads bad and nobody vetoes, the run state takes no notice. -/
def execSilentFrameRead (bits : List Bool) (vetoed : Bool) (s : State) : Host.Outcome State Fault Refusal :=
  .next (if s.port.silent then s.readSilently bits vetoed else s)

/-- R144: the quiet timer has run out. -/
def execPortLeavesSilent (s : State) : Host.Outcome State Fault Refusal :=
  .next (if s.port.silent then s.leaveSilent else s)

/-- R137. -/
def execQueuePlaceGranted (s : State) : Host.Outcome State Fault Refusal :=
  .next (if s.canQueue then s.grantPlace else s)

/-- R34. -/
def execLeaseExpiry (page : Nat) (s : State) : Host.Outcome State Fault Refusal := .next (s.expireLease page)

/-- R36. -/
def execRenewalDue (page : Nat) (s : State) : Host.Outcome State Fault Refusal := .next (s.renewDue page)

end Sys2Proof.Machine
end

