-- ==== Sys2Proof/Machine/Dispatch.lean ====
section
/-! DEFINITION. One arm for each command. -/

namespace Sys2Proof.Machine

/-- What a command does to everything but the queue. -/
def exec (i : Instr) (s : State) : Host.Outcome State Fault Refusal :=
  match i with
  | .coldReset station rate => Sys2Proof.Machine.execColdReset station rate s
  | .restart => Sys2Proof.Machine.execRestart s
  | .setup lease depth fetch => Sys2Proof.Machine.execSetup lease depth fetch s
  | .planHead head => Sys2Proof.Machine.execPlanHead head s
  | .planTemplate t => Sys2Proof.Machine.execPlanTemplate t s
  | .planSection x => Sys2Proof.Machine.execPlanSection x s
  | .planPage p => Sys2Proof.Machine.execPlanPage p s
  | .planSubject j => Sys2Proof.Machine.execPlanSubject j s
  | .planEnd => Sys2Proof.Machine.execPlanEnd s
  | .portraitHead tag portrait width height => Sys2Proof.Machine.execPortraitHead tag portrait width height s
  | .portraitData tag raster => Sys2Proof.Machine.execPortraitData tag raster s
  | .portraitEnd tag crc => Sys2Proof.Machine.execPortraitEnd tag crc s
  | .portraitAbsent tag portrait => Sys2Proof.Machine.execPortraitAbsent tag portrait s
  | .amendIn body => Sys2Proof.Machine.execAmendIn body s
  | .launchIn batch => Sys2Proof.Machine.execLaunchIn batch s
  | .dropIn batch => Sys2Proof.Machine.execDropIn batch s
  | .faultAck serial => Sys2Proof.Machine.execFaultAck serial s
  | .statusAsk request => Sys2Proof.Machine.execStatusAsk request s
  | .badInboundRecord bytes => Sys2Proof.Machine.execBadInboundRecord bytes s
  | .outboundKindRecord kind => Sys2Proof.Machine.execOutboundKindRecord kind s
  | .silenceTimerExpiry => Sys2Proof.Machine.execSilenceTimerExpiry s
  | .outboundRecordSent => Sys2Proof.Machine.execOutboundRecordSent s
  | .frameStart others => Sys2Proof.Machine.execFrameStart others s
  | .runNextFrame others => Sys2Proof.Machine.execRunNextFrame others s
  | .frameVetoed x => Sys2Proof.Machine.execFrameVetoed x s
  | .runIdleEnd => Sys2Proof.Machine.execRunIdleEnd s
  | .claim h page claimant => Sys2Proof.Machine.execClaim h page claimant s
  | .renew h page => Sys2Proof.Machine.execRenew h page s
  | .lapse h page holder mark => Sys2Proof.Machine.execLapse h page holder mark s
  | .done h page edition => Sys2Proof.Machine.execDone h page edition s
  | .release h page => Sys2Proof.Machine.execRelease h page s
  | .fail h page cause => Sys2Proof.Machine.execFail h page cause s
  | .join h station identity => Sys2Proof.Machine.execJoin h station identity s
  | .leave h station => Sys2Proof.Machine.execLeave h station s
  | .amend h body => Sys2Proof.Machine.execAmend h body s
  | .launch h batch => Sys2Proof.Machine.execLaunch h batch s
  | .drop h batch => Sys2Proof.Machine.execDrop h batch s
  | .ask h identity => Sys2Proof.Machine.execAsk h identity s
  | .snapHead h requester responder identity pages lastLaunched present batchStates records => Sys2Proof.Machine.execSnapHead h requester responder identity pages lastLaunched present batchStates records s
  | .snapPages h requester index entries => Sys2Proof.Machine.execSnapPages h requester index entries s
  | .snapAmend h requester index body => Sys2Proof.Machine.execSnapAmend h requester index body s
  | .syncTimerExpiry => Sys2Proof.Machine.execSyncTimerExpiry s
  | .portEntersSilent => Sys2Proof.Machine.execPortEntersSilent s
  | .silentFrameRead bits vetoed => Sys2Proof.Machine.execSilentFrameRead bits vetoed s
  | .portLeavesSilent => Sys2Proof.Machine.execPortLeavesSilent s
  | .queuePlaceGranted => Sys2Proof.Machine.execQueuePlaceGranted s
  | .leaseExpiry page => Sys2Proof.Machine.execLeaseExpiry page s
  | .renewalDue page => Sys2Proof.Machine.execRenewalDue page s
  | .boundary => Sys2Proof.Machine.execBoundary s
  | .trainPacketSent => Sys2Proof.Machine.execTrainPacketSent s
  | .pageOpenSent => Sys2Proof.Machine.execPageOpenSent s
  | .pageMetaSent => Sys2Proof.Machine.execPageMetaSent s
  | .titleSent => Sys2Proof.Machine.execTitleSent s
  | .bandSent => Sys2Proof.Machine.execBandSent s
  | .captionSent => Sys2Proof.Machine.execCaptionSent s
  | .pageCloseSent => Sys2Proof.Machine.execPageCloseSent s
  | .cutCarriedOut => Sys2Proof.Machine.execCutCarriedOut s
  | .fetchWantRequest => Sys2Proof.Machine.execFetchWantRequest s
  | .prefetchWalk => Sys2Proof.Machine.execPrefetchWalk s
  | .fetchTimerExpiry => Sys2Proof.Machine.execFetchTimerExpiry s
  | .outcomeRecord page outcome => Sys2Proof.Machine.execOutcomeRecord page outcome s
  | .badOutcomeRecord bytes => Sys2Proof.Machine.execBadOutcomeRecord bytes s
  | .headTimerExpiry => Sys2Proof.Machine.execHeadTimerExpiry s
  | .sheetReadyAsserted => Sys2Proof.Machine.execSheetReadyAsserted s
  | .sheetReadyDeasserted => Sys2Proof.Machine.execSheetReadyDeasserted s
  | .engineOfflineAsserted => Sys2Proof.Machine.execEngineOfflineAsserted s
  | .engineOfflineDeasserted => Sys2Proof.Machine.execEngineOfflineDeasserted s
  | .reportTimerExpiry => Sys2Proof.Machine.execReportTimerExpiry s
  | .inboundIdleFill => Sys2Proof.Machine.execInboundIdleFill s

end Sys2Proof.Machine
end

