-- ==== Sys2Proof/Safety.lean ====
section
/-! DEFINITION. What the statements speak of: the frame a command carries, when a passed frame reaches its
block, which frames of a run are unexpected, what each check of a plan asks, what both resets clear, and the laws
that every step keeps. Each law is a condition on the state alone. -/

namespace Sys2Proof.Machine

/-! ## Frames as commands -/

/-- The hall frame that a command applies, with its header. -/
def frameOf : Instr → Option (FrameHdr × Frame)
  | .claim h page claimant => some (h, .claim page claimant)
  | .renew h page => some (h, .renew page)
  | .lapse h page holder mark => some (h, .lapse page holder mark)
  | .done h page edition => some (h, .done page edition)
  | .release h page => some (h, .release page)
  | .fail h page cause => some (h, .fail page cause)
  | .join h station identity => some (h, .join station identity)
  | .leave h station => some (h, .leave station)
  | .amend h body => some (h, .amend body)
  | .launch h batch => some (h, .launch batch)
  | .drop h batch => some (h, .drop batch)
  | .ask h identity => some (h, .ask identity)
  | .snapHead h rq rs pid pages last present states n =>
      some (h, .snapHead rq rs pid pages last present states n)
  | .snapPages h rq ix es => some (h, .snapPages rq ix es)
  | .snapAmend h rq ix b => some (h, .snapAmend rq ix b)
  | _ => none

/-- R134, R145: the port takes full part and no snapshot is being collected, so a passed frame does what the
block that owns its kind says and nothing else befalls the station. -/
def State.hears (s : State) : Prop := s.participation = .full ∧ s.ctl.collection = none

/-- R171, R172: the link after a good record. -/
def Link.afterGood (l : Link) : Link := { l with parser := .hunting, up := true, silence := some 100 }

/-- R173: the link after a good record that was dropped and counted. -/
def Link.afterDropped (l : Link) : Link := { l.afterGood with inDropped := (l.inDropped + 1) % 2 ^ 32 }

/-- R177: the link after a record was handed over. -/
def Link.handed (l : Link) (r : OutRecord) : Link :=
  if l.outbound.length < 64 then { l with outbound := l.outbound ++ [r] }
  else { l with outDropped := (l.outDropped + 1) % 2 ^ 32 }

/-- R136: an entry as it enters the transmit queue. -/
def Port.entry (p : Port) (b : TxBody) : TxEntry := { body := b, hold := false, seq := p.seq, onBus := false }

/-- R136: the port after an entry has entered its queue. -/
def Port.queued (p : Port) (b : TxBody) : Port :=
  { p with queue := p.queue ++ [p.entry b], seq := (p.seq + 1) % 65536 }

/-- R161: the record that a first fault writes. -/
def FaultUnit.first (f : FaultUnit) (cause : Cause) (page cell band : Option Nat) (detail : Nat) : FaultRecord :=
  { serial := f.serial, cause := cause, page := page, cell := cell, band := band, detail := detail,
    followOn := 0 }

/-- R161: the record after a follow-on. -/
def FaultUnit.counted (f : FaultUnit) : Option FaultRecord :=
  f.record.map (fun r => { r with followOn := min (r.followOn + 1) 255 })

/-- R47, R137: a closing frame has been asked for: it waits in the Claim Unit or is queued. -/
def State.asked (t : State) (f : Frame) : Prop :=
  f ∈ t.claims.waiting ∨ ∃ x ∈ t.port.queue, x.body = .frame f

/-- R105: the mark of a page's cell is NONE: no prefetch reference is counted for it, and it is not SETTLED. -/
def State.unmarked (u : State) (page cell : Nat) : Prop :=
  (∀ sl ∈ u.tiles.slots, Ref.prefetch page cell ∉ sl.refs) ∧
  ∀ x ∈ u.fetch.prefetch, x.page = page → cell ∉ x.settled

/-- R60, R113: the batches have been handed off: the mark of every cell that shows a subject one of them retakes is
NONE. -/
def State.handedOff (u : State) (batches : List Batch) : Prop :=
  ∀ b ∈ batches, ∀ a ∈ b.records, a.payload.kind = 0 → ∀ page cell,
    u.roster.subjectAt page cell = some a.subject → u.unmarked page cell

/-! ## A run being collected (R152 to R154) -/

/-- R180: the bytes 0, 4, 5 and 6 of a board entry that is out of range. -/
def entryOutOfRange (b0 p0 p1 b6 : Byte) : Prop :=
  let state := b0.toNat / 64
  let cause := b6.toNat / 64
  (state = 0 ∧ b0.toNat / 4 % 16 ≠ 0) ∨ (state ≠ 2 ∧ be2 p0 p1 ≠ 0) ∨ (state = 3 ∧ cause = 0) ∨
  (state ≠ 3 ∧ cause ≠ 0) ∨ b6.toNat / 16 % 4 ≠ 0 ∨ (b0.toNat % 4 = 3 ∧ state ≠ 3)

/-- R152, R180: one of the frame's entries, of 7 bytes each, is out of range. -/
def entriesOutOfRange (es : List Byte) : Prop :=
  ∃ j b0 b1 n0 n1 p0 p1 b6, (es.drop (7 * j)).take 7 = [b0, b1, n0, n1, p0, p1, b6] ∧ entryOutOfRange b0 p0 p1 b6

/-- R152: none of the records is of a batch that the head marks OPEN. -/
def Collection.unmet (c : Collection) (records : List Amendment) : Prop :=
  ∃ b, b < 4 ∧ c.batchStates.testBit b = true ∧ ∀ a ∈ records, a.batch ≠ b

/-- R152: with that frame kept the expected number of frames has been kept. -/
def Collection.lastIs (c : Collection) : Frame → Prop
  | .snapPages _ _ _ => c.pageFrames + 1 = (c.pages + 7) / 8 ∧ c.amendFrames = c.records
  | .snapAmend _ _ _ => c.pageFrames = (c.pages + 7) / 8 ∧ c.amendFrames + 1 = c.records
  | _ => False

/-- R152: the responder's frame is unexpected: its kind or index is not the next; it names another requester; its entries are
out of range or not as many as are due; its record is out of the ranges of R50, of a FREE batch, or a second one of its subject
and kind; or it is the last frame and an OPEN batch has no record. -/
def State.unexpectedAt (s : State) (c : Collection) (f : Frame) : Prop :=
  match f with
  | .snapPages requester k es =>
    requester ≠ s.straps.station ∨ k ≠ c.pageFrames ∨ (c.pages + 7) / 8 ≤ c.pageFrames ∨
    es.length ≠ 7 * min 8 (c.pages - 8 * k) ∨ entriesOutOfRange es ∨
    (c.lastIs f ∧ s.roster.identity = some c.identity ∧ c.unmet c.kept)
  | .snapAmend requester k b =>
    requester ≠ s.straps.station ∨ c.pageFrames ≠ (c.pages + 7) / 8 ∨ k ≠ c.amendFrames ∨
    c.records ≤ c.amendFrames ∨ 4 ≤ b.batch ∨ c.batchStates.testBit b.batch = false ∨
    readPayload b.kind b.payload = none ∨
    ∃ p, readPayload b.kind b.payload = some p ∧
      ((∃ a ∈ c.kept, a.batch = b.batch ∧ a.subject = b.subject ∧ a.payload.kind = p.kind) ∨
       (c.lastIs f ∧ s.roster.identity = some c.identity ∧
         c.unmet (c.kept ++ [{ batch := b.batch, subject := b.subject, payload := p }])))
  | _ => True

/-- R154: what judging a complete run of this plan comes to at a station it is not installed at: PLAN_MISMATCH with detail 2 or
3, a re-ask, or EDITION_BEHIND. -/
def State.turnsDown (s : State) (c : Collection) (t : State) : Prop :=
  t.ctl.collection = none ∧ t.roster = s.roster ∧
  (∀ cause detail, s.fault.phase = .clear →
    (cause = .planMismatch ∧ detail = 2 ∧ c.pages ≠ s.roster.pageCount ∨
     cause = .planMismatch ∧ detail = 3 ∧ c.pages = s.roster.pageCount ∧ c.lastLaunched < s.roster.editionRead ∨
     cause = .editionBehind ∧ detail = c.lastLaunched ∧ c.pages = s.roster.pageCount ∧
       s.roster.editionRead < c.lastLaunched ∧ 3 ≤ s.ctl.reask) →
    t.ctl.state = .halted ∧ t.board.replica = none ∧
    t.fault.record = some (s.fault.first cause none none none detail)) ∧
  (c.pages = s.roster.pageCount → s.roster.editionRead < c.lastLaunched → s.ctl.reask < 3 →
    t.ctl.state = .planLoad ∧ t.ctl.reask = s.ctl.reask + 1 ∧ t.ctl.syncTimer = none ∧
    t.board = s.board ∧ t.fault = s.fault ∧ t.launch = s.launch ∧
    t.link = s.link.handed ⟨s.straps.station, .planAsk true (some c.identity) (some c.lastLaunched)⟩)

/-! ## The checks of a plan (R15 to R18) -/

/-- R3, R17: what check 3 asks of a template. -/
def templateLawful (t : Template) : Prop :=
  (1 ≤ t.columns ∧ t.columns ≤ 12) ∧ (1 ≤ t.rows ∧ t.rows ≤ 8) ∧ (32 ≤ t.cellW ∧ t.cellW ≤ 2048) ∧
  (32 ≤ t.cellH ∧ t.cellH ≤ 2560) ∧ t.hGutter ≤ 255 ∧ t.vGutter ≤ 255 ∧ (16 ≤ t.captionH ∧ t.captionH ≤ 512) ∧
  (t.titleH = 0 ∨ (32 ≤ t.titleH ∧ t.titleH ≤ 512)) ∧ (64 ≤ t.pageW ∧ t.pageW ≤ 7200) ∧
  (64 ≤ t.pageH ∧ t.pageH ≤ 9600) ∧ t.facing < 3 ∧ t.caption < 2 ∧ t.tone < 2 ∧ t.weights.length = 16 ∧
  (∀ w ∈ t.weights, w ≤ 15) ∧ t.columns * t.cellW + (t.columns + 1) * t.hGutter ≤ t.pageW ∧
  t.titleH + t.rows * (t.cellH + t.captionH) + (t.rows + 1) * t.vGutter ≤ t.pageH

/-- R8: a text of a length in range, of characters from 0x20 to 0xFE. -/
def textLawful (lo hi : Nat) (w : List Byte) : Prop :=
  (lo ≤ w.length ∧ w.length ≤ hi) ∧ ∀ b ∈ w, 0x20 ≤ b.toNat ∧ b.toNat ≤ 0xFE

/-- R5, R17: what check 4 asks of section `n`. -/
def sectionLawful (ro : Roster) (h : PlanHead) (n : Nat) (x : Section) : Prop :=
  x.first ≤ 4095 ∧ (1 ≤ x.count ∧ x.count ≤ 1024) ∧ textLawful 1 32 x.title ∧ (16 ≤ x.target ∧ x.target ≤ 240) ∧
  x.inner ≤ 127 ∧ (x.inner ≤ x.outer ∧ x.outer ≤ 127) ∧ (16 ≤ x.ceiling ∧ x.ceiling ≤ 48) ∧
  x.first = ((ro.sections.take n).map (fun y => y.count)).sum ∧
  (n + 1 = ro.sections.length → x.first + x.count = h.subjects)

/-- R6, R18: what check 5 asks of a page record. -/
def pageLawful (ro : Roster) (p : PageRec) : Prop :=
  ∃ t x, ro.templates[p.template]? = some t ∧ ro.sections[p.sectionIx]? = some x ∧
    ((p.kind = 0 ∧ p.slice < x.count) ∨ (p.kind = 1 ∧ p.slice = 0 ∧ x.count ≤ t.columns * t.rows)) ∧
    ∀ w, p.title = some w → textLawful 1 32 w

/-- R6, R18: what check 6 asks of the page record that arrived as number `a`. -/
def pageNumberLawful (ro : Roster) (h : PlanHead) (a : Nat) (p : PageRec) : Prop :=
  p.number < h.pages ∧ ∀ (b : Nat) (q : PageRec), b < a → ro.pages[b]? = some q → q.number ≠ p.number

/-- R7, R18: what check 7 asks of subject `n`. -/
def subjectLawful (ro : Roster) (n : Nat) (j : Subject) : Prop :=
  (∃ x, ro.sections[j.sectionIx]? = some x ∧ x.first ≤ n ∧ n < x.first + x.count) ∧ j.pose < 3 ∧
  j.crop.x0 ≤ 4095 ∧ j.crop.y0 ≤ 4095 ∧ j.crop.x1 ≤ 4096 ∧ j.crop.y1 ≤ 4096 ∧ j.crop.x0 < j.crop.x1 ∧
  j.crop.y0 < j.crop.y1 ∧ textLawful 1 24 j.line1 ∧ ∀ w, j.line2 = some w → textLawful 0 24 w

/-- R16 to R18: the check of that code fails at that index. -/
def planFails (ro : Roster) (h : PlanHead) (k : Track) (code index : Nat) : Prop :=
  match code with
  | 1 => (index = 0 ∧ ¬ ((1 ≤ h.templates ∧ h.templates ≤ 16) ∧ (1 ≤ h.sections ∧ h.sections ≤ 128) ∧
        (1 ≤ h.pages ∧ h.pages ≤ 1024) ∧ (1 ≤ h.subjects ∧ h.subjects ≤ 4096))) ∨
      (index = 1 ∧ k.gotTemplates ≠ h.templates) ∨ (index = 2 ∧ k.gotSections ≠ h.sections) ∨
      (index = 3 ∧ k.gotPages ≠ h.pages) ∨ (index = 4 ∧ k.gotSubjects ≠ h.subjects)
  | 2 => k.disorder = true ∧ index = k.firstOut.getD 0
  | 3 => ∃ t, ro.templates[index]? = some t ∧ ¬ templateLawful t
  | 4 => ∃ x, ro.sections[index]? = some x ∧ ¬ sectionLawful ro h index x
  | 5 => ∃ p, ro.pages[index]? = some p ∧ ¬ pageLawful ro p
  | 6 => ∃ p, ro.pages[index]? = some p ∧ ¬ pageNumberLawful ro h index p
  | 7 => ∃ j, ro.subjects[index]? = some j ∧ ¬ subjectLawful ro index j
  | _ => False

/-! ## The band being prepared (R71) -/

/-- Every cell that the band needs has a class. -/
def Held.bandPlaced (x : Held) (t : Template) : Prop :=
  ∀ (i : Nat) (c : Cell), x.cells[i]? = some c → t.neededBy x.band i = true → c.cls ≠ none

/-- A cell that the band needs waits for its answer, and every needed cell before it has a class. -/
def State.bandWaits (s : State) (x : Held) (t : Template) : Prop :=
  ∃ i c, x.cells[i]? = some c ∧ t.neededBy x.band i = true ∧ c.cls = none ∧ s.placing x t i c = none ∧
    ∀ (k : Nat) (d : Cell), k < i → x.cells[k]? = some d → t.neededBy x.band k = true → d.cls ≠ none

/-- R71, R73, R117: the BAND packet: its index, first line, line count and raster. -/
def State.preparedBand (s : State) (x : Held) (t : Template) : Packet :=
  .band x.band (64 * x.band) (min 64 (t.pageH - 64 * x.band)) (s.bandRaster x t x.band)

/-- What preparing the band comes to: its cells all have a class, or one of them waits. -/
def State.bandPrepared (u : State) (y : Held) (t : Template) : Prop :=
  (u.comp.state = .streaming ∧ y.bandPlaced t) ∨ (u.comp.state = .waitingTile ∧ u.bandWaits y t)

/-- A prepared band is handed to the lane at once; while a cell waits nothing is. -/
def State.bandHanded (u : State) (y : Held) (t : Template) (lane : Lane) : Prop :=
  u.bandPrepared y t ∧
  (u.comp.state = .streaming → u.lane = { lane with inFlight := some (u.preparedBand y t) }) ∧
  (u.comp.state = .waitingTile → u.lane = lane)

/-! ## The resets -/

/-- R1, R21, R38, R49, R56, R67, R93, R100, R102, R103, R107, R115, R146, R147, R160, R163, R170, R176: what
cold reset and RESTART leave alike. -/
def State.clearedByReset (t : State) : Prop :=
  t.ctl.state = .setupWait ∧ t.ctl.syncTimer = none ∧ t.ctl.collection = none ∧ t.ctl.abandoned = 0 ∧
  t.ctl.reask = 0 ∧ t.ctl.volumeSeen = false ∧ t.ctl.waiting = [] ∧ t.setup = none ∧
  t.roster.status = .empty ∧ t.roster.head = none ∧ t.roster.templates = [] ∧ t.roster.sections = [] ∧
  t.roster.pages = [] ∧ t.roster.subjects = [] ∧ t.roster.edition = 0 ∧ t.roster.track = none ∧
  t.board.replica = none ∧ t.board.leases = [] ∧ t.board.lastLaunched = 0 ∧ t.board.completions = 0 ∧
  t.claims.work = [] ∧ t.claims.pending = none ∧ t.claims.waiting = [] ∧ t.pool = [] ∧
  t.launch.queue = [] ∧ t.launch.forced = [] ∧
  t.comp.state = .idle ∧ t.comp.held = none ∧ t.comp.learned = none ∧ t.comp.cut = false ∧
  t.comp.tracker = .steady ∧
  t.tiles.slots = List.replicate 64 .free ∧ t.tiles.fillOrder = [] ∧
  t.fetch.list = [] ∧ t.fetch.tag = 0 ∧ t.fetch.hold = false ∧ t.fetch.answer = none ∧
  t.fetch.wants = [] ∧ t.fetch.prefetch = [] ∧ t.fetch.timer = none ∧
  t.lane.phase = .idle ∧ t.lane.lastTemplate = none ∧ t.lane.hold = true ∧ t.lane.sheets = [] ∧
  t.lane.headTimer = none ∧ t.lane.inFlight = none ∧ t.lane.hunt = [] ∧
  t.port.silent = false ∧ t.port.awaitsStart = false ∧ t.port.abandons = true ∧ t.port.ignores = false ∧
  t.port.tx = 0 ∧ t.port.rx = 0 ∧ t.port.queue = [] ∧ t.port.seq = 0 ∧
  t.port.sending = none ∧ t.port.runRest = [] ∧ t.port.run = none ∧ t.port.good = 0 ∧ t.port.quiet = none ∧
  t.fault.phase = .clear ∧ t.fault.record = none ∧ t.fault.serial = 0 ∧ t.fault.deferred = [] ∧
  t.fault.awaited = [] ∧ t.fault.reportTimer = none ∧ t.fault.cutStep = false ∧ t.fault.flushStep = false ∧
  t.fault.haltStep = false ∧ t.fault.closed = 0 ∧ t.fault.lost = 0 ∧ t.fault.repeats = 0 ∧
  t.link.parser = .hunting ∧ t.link.relay = none

/-! ## The laws -/

/-- R136, R141, R143: the transmit queue, the two counts, and the silence of a SILENT port. -/
def State.portLaw (s : State) : Prop :=
  s.port.queue.length ≤ 16 ∧ s.port.tx < 32 ∧ s.port.rx < 32 ∧
  (s.port.silent = true → s.port.queue = [] ∧ s.port.sending = none ∧ s.port.tx = 0 ∧ s.port.rx = 0)

/-- R49, R51, R152: the records of the Amendment Store, and of the run being collected. -/
def State.storeLaw (s : State) : Prop :=
  s.pool.length ≤ 64 ∧
  ∀ c, s.ctl.collection = some c → c.kept.length = c.amendFrames ∧ c.amendFrames ≤ c.records ∧ c.records ≤ 64

/-- R139, R140, R145, R152: a run is collected only in SYNCING with no installed replica, at a port that takes full part, and
while its responder holds it. -/
def State.collectLaw (s : State) : Prop :=
  ∀ c, s.ctl.collection = some c → s.participation = .full ∧ s.ctl.state = .syncing ∧ s.board.replica = none ∧
    ∃ k, s.port.run = some { holder := c.responder, count := k }

/-- R68, R120: at most 4 sheets, and room for the sheet of the page held. -/
def State.sheetLaw (s : State) : Prop :=
  s.lane.sheets.length ≤ 4 ∧ (s.comp.held.isSome = true → s.lane.sheets.length ≤ 3)

/-- R160, R161: there is a fault record outside CLEAR alone, and its follow-on count does not exceed 255. -/
def State.faultLaw (s : State) : Prop :=
  (s.fault.phase = .clear ↔ s.fault.record = none) ∧ ∀ r, s.fault.record = some r → r.followOn ≤ 255

/-- R177: at most 64 outbound records; R102: at most 8 entries of the fetch list. -/
def State.listLaw (s : State) : Prop := s.link.outbound.length ≤ 64 ∧ s.fetch.list.length ≤ 8

/-- The memory of the tile slots is in canonical form. -/
def State.dramLaw (s : State) : Prop := Mem.wf s.tiles.dram

/-- R27, R28: the laws of one board entry. -/
def Entry.lawful (e : Entry) : Prop :=
  e.lapses ≤ 3 ∧ (e.lapses = 3 → ∃ h c, e.status = .failed h c) ∧
  (∀ h n, e.status = .printed h n → e.need ≤ n)

/-- R24, R27, R28: the laws of a replica: those of its entries, and every holder of a claim is present. -/
def Replica.lawful (r : Replica) : Prop :=
  ∀ e ∈ r.entries, e.lawful ∧ ∀ h, e.status = .claimed h → r.isPresent h = true

/-- The replica that a station holds keeps the laws. -/
def State.boardLaw (s : State) : Prop := ∀ r, s.board.replica = some r → r.lawful

/-- R100, R101, R113: one tile slot against the fetch list: FREE, no entry names it; FILLING, one entry names
it, with its portrait and with the stale flag telling whether a reference is left; READY, it is referenced
and no entry names it. -/
def slotLawful (list : List FetchEntry) (n : Nat) (sl : Slot) : Prop :=
  let named := list.filter (fun e => decide (e.slot = n))
  match sl with
  | .free => named = []
  | .filling p refs => ∃ e, named = [e] ∧ e.portrait = p ∧ e.stale = refs.isEmpty
  | .ready _ _ _ refs => named = [] ∧ refs ≠ []

/-- R100: the law of the tile slots. -/
def State.slotLaw (s : State) : Prop :=
  s.tiles.slots.length = 64 ∧ (∀ n sl, s.tiles.slots[n]? = some sl → slotLawful s.fetch.list n sl) ∧
  ∀ e ∈ s.fetch.list, e.slot < 64

end Sys2Proof.Machine
end

