-- ==== Sys2Proof/Certificates/Slice0/Obligations.lean ====
section
/-! DEFINITION. The statements for the provers, chapter by chapter of the manual. OBLIGATIONS.json lists them. -/

open Sys2Proof Sys2Proof.Machine

/-! ## The block and its queue -/

/-- The command at the front of the queue runs on the state with the queue's rest.

With no command waiting the block idles (log 2). -/
def Obligations.StepRunsTheFrontCommandAndAnEmptyQueueIdles : Prop :=
  (∀ (c : Instr) (rest : List Instr) (s : State),
     s.pending = c :: rest → step s = exec c { s with pending := rest }) ∧
  (∀ s : State, s.pending = [] → step s = .next s)

/-- No command stops the machine, none touches the queue, and COLD_RESET alone samples the straps. -/
def Obligations.EveryCommandCompletes : Prop :=
  ∀ (c : Instr) (s : State), ∃ t, exec c s = .next t ∧ t.pending = s.pending ∧
    ((∀ st rate, c ≠ .coldReset st rate) → t.straps = s.straps)

/-! ## The resets (R1, R21, R115, R146, R147, R160, R170, R176) -/

/-- The machine right after reset. Its straps and its engine levels are the model's choice (log 3), and
so is that a frame may be on the bus (log 40).

Every law holds at reset. -/
def Obligations.StateAfterResetKeepsTheLaws : Prop :=
  (State.reset.clearedByReset ∧ State.reset.pending = [] ∧ State.reset.lane.delivered = 0 ∧
   State.reset.lane.spoiled = 0 ∧ State.reset.lane.withdrawn = 0 ∧ State.reset.lane.lost = 0 ∧
   State.reset.port.framesSent = 0 ∧ State.reset.port.framesVetoed = 0 ∧
   State.reset.link.inDropped = 0 ∧ State.reset.link.outDropped = 0 ∧ State.reset.link.up = false ∧
   State.reset.link.silence = none ∧ State.reset.link.outbound = [] ∧
   State.reset.straps = ⟨0, 0⟩ ∧ State.reset.lane.sheetReady = false ∧ State.reset.lane.offline = false) ∧
  (State.reset.portLaw ∧ State.reset.storeLaw ∧ State.reset.collectLaw ∧ State.reset.sheetLaw ∧
   State.reset.faultLaw ∧ State.reset.listLaw ∧ State.reset.dramLaw ∧ State.reset.boardLaw ∧ State.reset.slotLaw)

/-- COLD_RESET samples the straps, clears every block and every counter, and leaves the DRAM, the engine's
levels, the queue and the number of the next free value (log 14). A frame may be on the bus after it (log 40). The
model's list of packets sent is empty (log 22).

RESTART clears every block and keeps the straps and the cumulative counters; the link stays UP, and of
the outbound list the record being sent is completed (its head: log 3). The number of the next free value (log 14) and the
model's list of packets sent (log 22) stay. A frame may be on the bus after it (log 40). -/
def Obligations.ResetsClearEveryBlock : Prop :=
  (∀ (s : State) (station rate : Nat), ∃ t, exec (.coldReset station rate) s = .next t ∧
     t.clearedByReset ∧ t.straps = { station := station, rate := rate } ∧ t.pending = s.pending ∧
     t.lane.delivered = 0 ∧ t.lane.spoiled = 0 ∧ t.lane.withdrawn = 0 ∧ t.lane.lost = 0 ∧
     t.port.framesSent = 0 ∧ t.port.framesVetoed = 0 ∧ t.link.inDropped = 0 ∧ t.link.outDropped = 0 ∧
     t.link.up = false ∧ t.link.silence = none ∧ t.link.outbound = [] ∧ t.lane.sent = [] ∧
     t.tiles.dram = s.tiles.dram ∧ t.lane.sheetReady = s.lane.sheetReady ∧ t.lane.offline = s.lane.offline ∧
     t.fault.unlisted = s.fault.unlisted) ∧
  (∀ s : State, ∃ t, exec .restart s = .next t ∧
     t.clearedByReset ∧ t.straps = s.straps ∧ t.pending = s.pending ∧
     t.lane.delivered = s.lane.delivered ∧ t.lane.spoiled = s.lane.spoiled ∧
     t.lane.withdrawn = s.lane.withdrawn ∧ t.lane.lost = s.lane.lost ∧
     t.port.framesSent = s.port.framesSent ∧ t.port.framesVetoed = s.port.framesVetoed ∧
     t.link.inDropped = s.link.inDropped ∧ t.link.outDropped = s.link.outDropped ∧
     t.link.up = true ∧ t.link.silence = some 100 ∧ t.link.outbound = s.link.outbound.take 1 ∧
     t.lane.sent = s.lane.sent ∧ t.tiles.dram = s.tiles.dram ∧ t.lane.sheetReady = s.lane.sheetReady ∧ t.lane.offline = s.lane.offline ∧
     t.fault.unlisted = s.fault.unlisted)

/-! ## SETUP and the plan (R12 to R19, R148, R174) -/

/-- In SETUP_WAIT each of the three values becomes the nearest legal one, PLAN_ASK goes upstream and the
station enters PLAN_LOAD; in every other state SETUP is dropped and counted and changes nothing else. -/
def Obligations.SetupIsClampedOnce : Prop :=
  ∀ (s : State) (lease depth fetch : Nat),
    (s.ctl.state = .setupWait → ∃ x, exec (.setup lease depth fetch) s = .next { s with
        setup := some x, ctl := { s.ctl with state := .planLoad },
        link := s.link.afterGood.handed ⟨s.straps.station, .planAsk false none none⟩ } ∧
      (lease < 250 → x.lease = 250) ∧ (8000 < lease → x.lease = 8000) ∧
      (250 ≤ lease → lease ≤ 8000 →
        x.lease % 250 = 0 ∧ x.lease ≤ lease + 125 ∧ lease + 125 < x.lease + 250) ∧
      (depth = 0 → x.depth = 1) ∧ (3 < depth → x.depth = 3) ∧
      (1 ≤ depth → depth ≤ 3 → x.depth = depth) ∧
      (fetch < 50 → x.fetch = 50) ∧ (2000 < fetch → x.fetch = 2000) ∧
      (50 ≤ fetch → fetch ≤ 2000 → x.fetch % 50 = 0 ∧ x.fetch ≤ fetch + 25 ∧ fetch + 25 < x.fetch + 50) ∧
      (x.leaseClamped = true ↔ x.lease ≠ lease) ∧ (x.depthClamped = true ↔ x.depth ≠ depth) ∧
      (x.fetchClamped = true ↔ x.fetch ≠ fetch)) ∧
    (s.ctl.state ≠ .setupWait →
      exec (.setup lease depth fetch) s = .next { s with link := s.link.afterDropped })

/-- R12, R13, R56: a PLAN_HEAD is taken in PLAN_LOAD whatever the roster status: the tables are cleared, the
head stored, the load tracking started and the Launch Queue emptied; elsewhere it is dropped and counted.

R12: outside PLAN_LOAD, or with no load in progress, the five other plan records are dropped and counted. -/
def Obligations.PlanHeadStartsALoad : Prop :=
  (∀ (s : State) (p : PlanHead),
     (s.ctl.state = .planLoad → exec (.planHead p) s = .next { s with
         roster := { status := .loading, head := some p, templates := [], sections := [], pages := [],
                     subjects := [], edition := 0,
                     track := some { expected := 0, gotTemplates := 0, gotSections := 0, gotPages := 0,
                                     gotSubjects := 0, disorder := false, firstOut := none, position := 0 } },
         launch := { queue := [], forced := [] },
         link := s.link.afterGood }) ∧
     (s.ctl.state ≠ .planLoad → exec (.planHead p) s = .next { s with link := s.link.afterDropped })) ∧
  (∀ (s : State) (c : Instr),
     ¬ (s.ctl.state = .planLoad ∧ s.roster.status = .loading) →
     ((∃ t, c = .planTemplate t) ∨ (∃ x, c = .planSection x) ∨ (∃ p, c = .planPage p) ∨
       (∃ j, c = .planSubject j) ∨ c = .planEnd) →
     exec c s = .next { s with link := s.link.afterDropped })

/-- R14: in LOADING a body record advances the load position; in order it sets the expected kind, is stored
unless its table is full, and counts; out of order it sets the order flag and the first such position. -/
def Obligations.BodyRecordIsStoredInOrder : Prop :=
  ∀ (s : State) (k : Track), s.ctl.state = .planLoad → s.roster.status = .loading →
    s.roster.track = some k →
    (∀ t, exec (.planTemplate t) s = .next { s with
      roster := if k.expected = 0 then { s.roster with
          templates := if s.roster.templates.length < 16 then s.roster.templates ++ [t] else s.roster.templates,
          track := some { k with expected := 0, gotTemplates := min (k.gotTemplates + 1) 4097,
                                 position := k.position + 1 } }
        else { s.roster with track := some { k with
          disorder := true, position := k.position + 1,
          firstOut := some (k.firstOut.getD (min (k.position + 1) 4095)) } },
      link := s.link.afterGood }) ∧
    (∀ x, exec (.planSection x) s = .next { s with
      roster := if k.expected ≤ 1 then { s.roster with
          sections := if s.roster.sections.length < 128 then s.roster.sections ++ [x] else s.roster.sections,
          track := some { k with expected := 1, gotSections := min (k.gotSections + 1) 4097,
                                 position := k.position + 1 } }
        else { s.roster with track := some { k with
          disorder := true, position := k.position + 1,
          firstOut := some (k.firstOut.getD (min (k.position + 1) 4095)) } },
      link := s.link.afterGood }) ∧
    (∀ p, exec (.planPage p) s = .next { s with
      roster := if k.expected ≤ 2 then { s.roster with
          pages := if s.roster.pages.length < 1024 then s.roster.pages ++ [p] else s.roster.pages,
          track := some { k with expected := 2, gotPages := min (k.gotPages + 1) 4097,
                                 position := k.position + 1 } }
        else { s.roster with track := some { k with
          disorder := true, position := k.position + 1,
          firstOut := some (k.firstOut.getD (min (k.position + 1) 4095)) } },
      link := s.link.afterGood }) ∧
    (∀ j, exec (.planSubject j) s = .next { s with
      roster := if k.expected ≤ 3 then { s.roster with
          subjects := if s.roster.subjects.length < 4096 then
              s.roster.subjects ++ [{ j with line2 := if j.line2 = some [] then none else j.line2 }]
            else s.roster.subjects,
          track := some { k with expected := 3, gotSubjects := min (k.gotSubjects + 1) 4097,
                                 position := k.position + 1 } }
        else { s.roster with track := some { k with
          disorder := true, position := k.position + 1,
          firstOut := some (k.firstOut.getD (min (k.position + 1) 4095)) } },
      link := s.link.afterGood })

/-- R3, R5, R6, R7, R8, R16 to R18: a plan passes exactly when its counts are in range and met, no record was
out of order, and every template, section, page and subject keeps its ranges, fits and references.

R15 to R19: the code and the index reported are those of the first failure: the lowest check code that fails anywhere and, within
it, the lowest failing index. Check 1 fails at 0 for a head count out of range and at 1 to 4 for a table whose received count
differs; check 2 at the recorded load position; checks 3, 4, 5, 6 and 7 at the index of the template, section, page record,
page record and subject. -/
def Obligations.PlanPassesExactlyWhenLawful : Prop :=
  (∀ (ro : Roster) (h : PlanHead) (k : Track), ro.head = some h → ro.track = some k →
     (ro.validate = none ↔
       (1 ≤ h.templates ∧ h.templates ≤ 16) ∧ (1 ≤ h.sections ∧ h.sections ≤ 128) ∧
       (1 ≤ h.pages ∧ h.pages ≤ 1024) ∧ (1 ≤ h.subjects ∧ h.subjects ≤ 4096) ∧
       k.gotTemplates = h.templates ∧ k.gotSections = h.sections ∧ k.gotPages = h.pages ∧
       k.gotSubjects = h.subjects ∧ k.disorder = false ∧
       (∀ t ∈ ro.templates,
         (1 ≤ t.columns ∧ t.columns ≤ 12) ∧ (1 ≤ t.rows ∧ t.rows ≤ 8) ∧
         (32 ≤ t.cellW ∧ t.cellW ≤ 2048) ∧ (32 ≤ t.cellH ∧ t.cellH ≤ 2560) ∧
         t.hGutter ≤ 255 ∧ t.vGutter ≤ 255 ∧ (16 ≤ t.captionH ∧ t.captionH ≤ 512) ∧
         (t.titleH = 0 ∨ (32 ≤ t.titleH ∧ t.titleH ≤ 512)) ∧
         (64 ≤ t.pageW ∧ t.pageW ≤ 7200) ∧ (64 ≤ t.pageH ∧ t.pageH ≤ 9600) ∧
         t.facing < 3 ∧ t.caption < 2 ∧ t.tone < 2 ∧ t.weights.length = 16 ∧ (∀ w ∈ t.weights, w ≤ 15) ∧
         t.columns * t.cellW + (t.columns + 1) * t.hGutter ≤ t.pageW ∧
         t.titleH + t.rows * (t.cellH + t.captionH) + (t.rows + 1) * t.vGutter ≤ t.pageH) ∧
       (∀ (n : Nat) (x : Section), ro.sections[n]? = some x →
         x.first ≤ 4095 ∧ (1 ≤ x.count ∧ x.count ≤ 1024) ∧
         (1 ≤ x.title.length ∧ x.title.length ≤ 32) ∧
         (∀ b ∈ x.title, 0x20 ≤ b.toNat ∧ b.toNat ≤ 0xFE) ∧ (16 ≤ x.target ∧ x.target ≤ 240) ∧
         x.inner ≤ 127 ∧ (x.inner ≤ x.outer ∧ x.outer ≤ 127) ∧ (16 ≤ x.ceiling ∧ x.ceiling ≤ 48) ∧
         x.first = ((ro.sections.take n).map (fun y => y.count)).sum ∧
         (n + 1 = ro.sections.length → x.first + x.count = h.subjects)) ∧
       (∀ p ∈ ro.pages, ∃ t x, ro.templates[p.template]? = some t ∧ ro.sections[p.sectionIx]? = some x ∧
         ((p.kind = 0 ∧ p.slice < x.count) ∨ (p.kind = 1 ∧ p.slice = 0 ∧ x.count ≤ t.columns * t.rows)) ∧
         (∀ w, p.title = some w → 1 ≤ w.length ∧ w.length ≤ 32 ∧
           ∀ b ∈ w, 0x20 ≤ b.toNat ∧ b.toNat ≤ 0xFE)) ∧
       (∀ (a : Nat) (p : PageRec), ro.pages[a]? = some p → p.number < h.pages ∧
         ∀ (b : Nat) (q : PageRec), b < a → ro.pages[b]? = some q → q.number ≠ p.number) ∧
       (∀ (n : Nat) (j : Subject), ro.subjects[n]? = some j →
         (∃ x, ro.sections[j.sectionIx]? = some x ∧ x.first ≤ n ∧ n < x.first + x.count) ∧ j.pose < 3 ∧
         j.crop.x0 ≤ 4095 ∧ j.crop.y0 ≤ 4095 ∧ j.crop.x1 ≤ 4096 ∧ j.crop.y1 ≤ 4096 ∧
         j.crop.x0 < j.crop.x1 ∧ j.crop.y0 < j.crop.y1 ∧
         (1 ≤ j.line1.length ∧ j.line1.length ≤ 24) ∧ (∀ b ∈ j.line1, 0x20 ≤ b.toNat ∧ b.toNat ≤ 0xFE) ∧
         (∀ w, j.line2 = some w → w.length ≤ 24 ∧ ∀ b ∈ w, 0x20 ≤ b.toNat ∧ b.toNat ≤ 0xFE)))) ∧
  (∀ (ro : Roster) (h : PlanHead) (k : Track) (code index : Nat), ro.head = some h → ro.track = some k →
     (ro.validate = some (code, index) ↔ planFails ro h k code index ∧
       ∀ c i, planFails ro h k c i → code < c ∨ (code = c ∧ index ≤ i)))

/-- R15, R149: at a PLAN_END whose checks all pass the roster is LOADED at the plan edition, the Page Board
takes it as last launched edition, and the station enters SYNCING with its timer at 2L and offers ASK. That the ASK is in the
queue before the first start bit after the move to full part is the model's choice (log 40).

R19, R161: at a PLAN_END whose first failing check has a code and an index the plan is gone, the station
halts, and PLAN_INVALID is recorded with detail code * 4096 + index, or counted as a follow-on. -/
def Obligations.PlanEndSyncsOrHalts : Prop :=
  (∀ (s : State) (h : PlanHead), s.ctl.state = .planLoad → s.roster.status = .loading →
     s.roster.head = some h → s.roster.validate = none →
     ∃ t, exec .planEnd s = .next t ∧
       t = { s with roster := t.roster, board := t.board, ctl := t.ctl, port := t.port,
                    link := s.link.afterGood } ∧
       t.roster = { s.roster with status := .loaded, edition := h.edition, track := none } ∧
       t.roster.identity = some h.identity ∧ t.board = { s.board with lastLaunched := h.edition } ∧
       t.ctl.state = .syncing ∧ t.ctl.syncTimer = some (2 * s.leaseMs) ∧ t.ctl.abandoned = 0 ∧
       t.ctl.collection = none ∧ t.ctl.reask = s.ctl.reask ∧ t.ctl.volumeSeen = s.ctl.volumeSeen ∧
       (s.port.silent = false → s.port.queue.length < 16 →
         t.port = { s.port.queued (.frame (.ask h.identity)) with awaitsStart := true } ∧
         t.ctl.waiting = s.ctl.waiting) ∧
       (¬ (s.port.silent = false ∧ s.port.queue.length < 16) →
         t.port = { s.port with awaitsStart := true } ∧ t.ctl.waiting = s.ctl.waiting ++ [.ask])) ∧
  (∀ (s : State) (code index : Nat), s.ctl.state = .planLoad → s.roster.status = .loading →
     s.roster.validate = some (code, index) →
     ∃ t, exec .planEnd s = .next t ∧ t.port.awaitsStart = true ∧
       t.roster = { status := .empty, head := none, templates := [], sections := [], pages := [],
                    subjects := [], edition := 0, track := none } ∧
       t.ctl.state = .halted ∧ t.ctl.syncTimer = none ∧ t.ctl.collection = none ∧
       t.pool = s.pool ∧ t.lane = s.lane ∧ t.board = s.board ∧ t.setup = s.setup ∧
       (s.fault.phase = .clear → t.fault.phase ≠ .clear ∧ t.fault.serial = (s.fault.serial + 1) % 256 ∧
         t.fault.record = some (s.fault.first .planInvalid none none none (code * 4096 + index))) ∧
       (s.fault.phase ≠ .clear → t.fault.serial = s.fault.serial ∧
         t.fault.record = s.fault.counted))

/-! ## Portrait answers (R107 to R114) -/

/-- R109: PORTRAIT_HEAD for the head of the fetch list begins its answer and restarts the timer at F.

R107, R109: PORTRAIT_DATA adds its bytes to the count and the CRC; while the total stays within
3 x width x height and no flag is set they are written at the next raster position of the head's slot, and
no other byte of the DRAM changes.

R107, R110: a good answer of an entry that is not stale makes its slot READY, last in the fill order, with
the references counted on it; the entry leaves the list and the timer starts at F for the next head or stops.

R71, R110: whatever the Compositor does at that moment, it goes on with a cell that waits (`State.resume`).

R112, R113: PORTRAIT_ABSENT, and an answer refused as oversize, free the slot and take the entry off the
list; the marks of the cells that held prefetch references become SETTLED. A stale entry only frees its slot.

R112: the cells of the held page whose references were counted on the slot are told PORTRAIT_ABSENT or OVERSIZE and
their references end; then the Compositor goes on.

R113: the answer of a stale entry, whatever it is and whether a page is held or not, frees the slot and takes the entry off
the list; no cell is told and nothing else changes. -/
def Obligations.AnswerIsTakenUntilItsEnd : Prop :=
  (∀ (s : State) (e : FetchEntry) (rest : List FetchEntry) (width height : Nat),
     s.ctl.state ≠ .setupWait → s.fetch.hold = false → s.fetch.list = e :: rest → s.fetch.answer = none →
     exec (.portraitHead e.tag e.portrait width height) s = .next { s with
       link := s.link.afterGood,
       fetch := { s.fetch with
         answer := some { width := width, height := height, count := 0, crc := 0xFFFFFFFF#32,
                          bad := decide (width < 64 ∨ height < 64),
                          oversize := decide (¬ (width < 64 ∨ height < 64) ∧ (2048 < width ∨ 2560 < height)) },
         timer := some s.fetchMs } }) ∧
  (∀ (s : State) (e : FetchEntry) (rest : List FetchEntry) (a : Answer) (bs : List Byte),
     s.ctl.state ≠ .setupWait → s.fetch.hold = false → s.fetch.list = e :: rest → s.fetch.answer = some a →
     ∃ t, exec (.portraitData e.tag bs) s = .next t ∧
       t = { s with link := s.link.afterGood,
                    tiles := { s.tiles with dram := t.tiles.dram },
                    fetch := { s.fetch with
                      answer := some { a with count := min (a.count + bs.length) 15728640,
                                              crc := crc32On a.crc bs,
                                              bad := a.bad || decide (3 * a.width * a.height < a.count + bs.length) },
                      timer := some s.fetchMs } } ∧
       (a.bad = false → a.oversize = false → a.count + bs.length ≤ 3 * a.width * a.height →
         (∀ k b, bs[k]? = some b → Mem.read t.tiles.dram (e.slot * 2 ^ 24 + a.count + k) = b) ∧
         (∀ x, ¬ (e.slot * 2 ^ 24 + a.count ≤ x ∧ x < e.slot * 2 ^ 24 + a.count + bs.length) →
           Mem.read t.tiles.dram x = Mem.read s.tiles.dram x)) ∧
       (¬ (a.bad = false ∧ a.oversize = false ∧ a.count + bs.length ≤ 3 * a.width * a.height) →
         t.tiles.dram = s.tiles.dram)) ∧
  (∀ (s : State) (e : FetchEntry) (rest : List FetchEntry) (a : Answer) (refs : List Ref) (crc : BitVec 32),
     s.ctl.state ≠ .setupWait → s.fetch.hold = false → s.fetch.list = e :: rest → s.fetch.answer = some a →
     s.tiles.slots[e.slot]? = some (.filling e.portrait refs) → s.comp.state ≠ .waitingTile →
     e.stale = false → a.oversize = false → a.bad = false → a.count = 3 * a.width * a.height → a.crc = crc →
     exec (.portraitEnd e.tag crc) s = .next { s with
       link := s.link.afterGood,
       tiles := { s.tiles with
         slots := s.tiles.slots.set e.slot (.ready e.portrait a.width a.height refs),
         fillOrder := s.tiles.fillOrder ++ [e.slot] },
       fetch := { s.fetch with list := rest, answer := none,
                               timer := if rest = [] then none else some s.fetchMs } }) ∧
  (∀ (s : State) (e : FetchEntry) (rest : List FetchEntry) (a : Answer) (refs : List Ref) (crc : BitVec 32),
     s.ctl.state ≠ .setupWait → s.fetch.hold = false → s.fetch.list = e :: rest → s.fetch.answer = some a →
     s.tiles.slots[e.slot]? = some (.filling e.portrait refs) →
     e.stale = false → a.oversize = false → a.bad = false → a.count = 3 * a.width * a.height → a.crc = crc →
     exec (.portraitEnd e.tag crc) s = .next (State.resume { s with
       link := s.link.afterGood,
       tiles := { s.tiles with
         slots := s.tiles.slots.set e.slot (.ready e.portrait a.width a.height refs),
         fillOrder := s.tiles.fillOrder ++ [e.slot] },
       fetch := { s.fetch with list := rest, answer := none,
                               timer := if rest = [] then none else some s.fetchMs } })) ∧
  (∀ (s : State) (e : FetchEntry) (rest : List FetchEntry) (refs : List Ref),
     s.ctl.state ≠ .setupWait → s.fetch.hold = false → s.fetch.list = e :: rest →
     s.tiles.slots[e.slot]? = some (.filling e.portrait refs) → s.comp.held = none →
     let t : State := { s with
       link := s.link.afterGood,
       tiles := { s.tiles with slots := s.tiles.slots.set e.slot .free,
                               fillOrder := s.tiles.fillOrder.filter (fun n => decide (n ≠ e.slot)) },
       fetch := { s.fetch with
         list := rest, answer := none, timer := if rest = [] then none else some s.fetchMs,
         prefetch := if e.stale then s.fetch.prefetch else s.fetch.prefetch.map (fun r =>
           { r with settled := r.settled ++ refs.filterMap (fun x => match x with
               | .prefetch p c => if p = r.page then some c else none
               | .composing _ => none) }) } }
     s.comp.state ≠ .waitingTile →
     (s.fetch.answer = none → exec (.portraitAbsent e.tag e.portrait) s = .next t) ∧
     (∀ a crc, s.fetch.answer = some a → (a.oversize = true ∨ e.stale = true) →
       exec (.portraitEnd e.tag crc) s = .next t)) ∧
  (∀ (s : State) (e : FetchEntry) (rest : List FetchEntry) (refs : List Ref) (x : Held) (w : FetchAnswer)
     (c : Instr), s.ctl.state ≠ .setupWait → s.fetch.hold = false → s.fetch.list = e :: rest →
     s.tiles.slots[e.slot]? = some (.filling e.portrait refs) → e.stale = false → s.comp.held = some x →
     ((c = .portraitAbsent e.tag e.portrait ∧ s.fetch.answer = none ∧ w = .portraitAbsent) ∨
      (∃ a crc, c = .portraitEnd e.tag crc ∧ s.fetch.answer = some a ∧ a.oversize = true ∧ w = .oversize)) →
     exec c s = .next (State.resume { s with
       link := s.link.afterGood,
       comp := { s.comp with held := some { x with cells := x.cells.mapIdx (fun i d =>
         if Ref.composing i ∈ refs then { d with answer := some w, ref := false } else d) } },
       tiles := { s.tiles with slots := s.tiles.slots.set e.slot .free,
                               fillOrder := s.tiles.fillOrder.filter (fun n => decide (n ≠ e.slot)) },
       fetch := { s.fetch with
         list := rest, answer := none, timer := if rest = [] then none else some s.fetchMs,
         prefetch := s.fetch.prefetch.map (fun r =>
           { r with settled := r.settled ++ refs.filterMap (fun y => match y with
               | .prefetch p c => if p = r.page then some c else none
               | .composing _ => none) }) } })) ∧
  (∀ (s : State) (e : FetchEntry) (rest : List FetchEntry), s.ctl.state ≠ .setupWait → s.fetch.hold = false →
     s.fetch.list = e :: rest → e.stale = true →
     let t : State := { s with
       link := s.link.afterGood,
       tiles := { s.tiles with slots := s.tiles.slots.set e.slot .free,
                               fillOrder := s.tiles.fillOrder.filter (fun n => decide (n ≠ e.slot)) },
       fetch := { s.fetch with list := rest, answer := none,
                               timer := if rest = [] then none else some s.fetchMs } }
     (s.fetch.answer = none → exec (.portraitAbsent e.tag e.portrait) s = .next t) ∧
     (∀ a crc, s.fetch.answer = some a → exec (.portraitEnd e.tag crc) s = .next t))

/-- R111: a bad answer is asked for again under a new tag at the tail of the list; a second bad answer frees
the slot and raises FETCH_CORRUPT with the low half of the portrait id.

R107, R111, R163: where a cell of the held page had its reference on the slot, FETCH_CORRUPT names page and cell, and the
recovery cuts the page and asks for its FAIL with cause UNFETCHABLE; outside CLEAR the fault is a follow-on. -/
def Obligations.BadAnswerIsRetriedOnce : Prop :=
  (∀ (s : State) (e : FetchEntry) (rest : List FetchEntry) (a : Answer) (refs : List Ref) (crc : BitVec 32),
     s.ctl.state ≠ .setupWait → s.fetch.hold = false → s.fetch.list = e :: rest → s.fetch.answer = some a →
     s.tiles.slots[e.slot]? = some (.filling e.portrait refs) → e.stale = false → a.oversize = false →
     (a.bad = true ∨ a.count ≠ 3 * a.width * a.height ∨ a.crc ≠ crc) →
     (e.retry = false → refs ≠ [] → exec (.portraitEnd e.tag crc) s = .next { s with
       link := s.link.afterGood.handed ⟨s.straps.station, .fetch s.fetch.tag e.portrait⟩,
       fetch := { s.fetch with
         list := rest ++ [{ tag := s.fetch.tag, portrait := e.portrait, slot := e.slot, stale := false,
                            retry := true }],
         tag := (s.fetch.tag + 1) % 256, answer := none, timer := some s.fetchMs } }) ∧
     (e.retry = true → s.fault.phase = .clear → s.comp.held = none →
       ∃ t, exec (.portraitEnd e.tag crc) s = .next t ∧ t.tiles.slots[e.slot]? = some .free ∧
         t.fetch.list = [] ∧ t.fetch.answer = none ∧ t.fetch.hold = true ∧
         t.fault.record = some (s.fault.first .fetchCorrupt none none none (e.portrait.toNat % 65536)))) ∧
  (∀ (s : State) (e : FetchEntry) (rest : List FetchEntry) (a : Answer) (refs : List Ref) (crc : BitVec 32),
     s.ctl.state ≠ .setupWait → s.fetch.hold = false → s.fetch.list = e :: rest → s.fetch.answer = some a →
     s.tiles.slots[e.slot]? = some (.filling e.portrait refs) → e.stale = false → a.oversize = false →
     (a.bad = true ∨ a.count ≠ 3 * a.width * a.height ∨ a.crc ≠ crc) → e.retry = true →
     ∃ t, exec (.portraitEnd e.tag crc) s = .next t ∧ t.tiles.slots[e.slot]? = some .free ∧ t.fetch.list = [] ∧
       t.fetch.wants = [] ∧ t.fetch.hold = true ∧ t.board = s.board ∧ t.roster = s.roster ∧ t.lane = s.lane ∧
       (∀ x i w, s.fault.phase = .clear → s.comp.held = some x → s.tiles.firstComposing e.slot = some i →
         w ∈ s.claims.work → w.page = x.page → w.phase ≠ .inEngine → s.closing x.page = false →
         t.fault.record = some (s.fault.first .fetchCorrupt (some x.page) (some i) (some x.band)
           (e.portrait.toNat % 65536)) ∧
         t.fault.phase = .recovering ∧ x.page ∈ t.fault.awaited ∧ t.asked (.fail x.page 3) ∧
         (s.cuttable = true → t.comp.cut = true ∧ t.fault.cutStep = true)) ∧
       (s.fault.phase ≠ .clear → t.fault.record = s.fault.counted))

/-- R108, R114, R161, R163: a portrait record that does not fit the list and the answer state is a protocol
loss: with the phase CLEAR, LINK_DOWN is recorded with the record's tag and the Fetch Unit is flushed. While the
fetch hold is set, in SETUP_WAIT, and in PLAN_LOAD with nothing asked for, the record is dropped and counted and
changes nothing else.

R107, R114, R163: when the fetch timer runs out the Fetch Unit is flushed whatever the phase, and with the phase
CLEAR FETCH_TIMEOUT is recorded with the low half of the head's portrait id, naming the held page and the cell of
the first composing reference on its slot. With no timer running nothing happens, by the model's choice (log 1).

R161: outside CLEAR a follow-on LINK_DOWN, FETCH_TIMEOUT or FETCH_CORRUPT is counted, flushes the Fetch Unit and cuts the held page,
and asks for no closing frame; the recovery under way and the phase stand.

R86, R161: a follow-on CLAIM_LOST is counted and cuts the held page when it is the lost one, and no other.

R153, R159, R161, R166, R168: a halting follow-on in HELD halts the station all the same: it is counted, the held page cut, RELEASE
asked for every work-list entry and none awaited, and LEAVE offered. The phase stays HELD, and a FAULT_REPORT that shows the
station HALTED goes at once, as a repeat (log 28), with the report timer restarted. -/
def Obligations.ProtocolLossAndTimeoutFlushTheFetches : Prop :=
  (∀ (s : State) (tag : Nat) (c : Instr),
     ((∃ pid w h, c = .portraitHead tag pid w h ∧
         ¬ ∃ e rest, s.fetch.list = e :: rest ∧ s.fetch.answer = none ∧ e.tag = tag ∧ e.portrait = pid) ∨
      (∃ pid, c = .portraitAbsent tag pid ∧
         ¬ ∃ e rest, s.fetch.list = e :: rest ∧ s.fetch.answer = none ∧ e.tag = tag ∧ e.portrait = pid) ∨
      (∃ bs, c = .portraitData tag bs ∧
         ¬ ∃ e rest a, s.fetch.list = e :: rest ∧ s.fetch.answer = some a ∧ e.tag = tag) ∨
      (∃ crc, c = .portraitEnd tag crc ∧
         ¬ ∃ e rest a, s.fetch.list = e :: rest ∧ s.fetch.answer = some a ∧ e.tag = tag)) →
     ((s.fetch.hold = true ∨ s.ctl.state = .setupWait ∨ (s.ctl.state = .planLoad ∧ s.fetch.list = [])) →
       exec c s = .next { s with link := s.link.afterDropped }) ∧
     (s.fetch.hold = false → (s.ctl.state = .syncing ∨ s.ctl.state = .active ∨ s.ctl.state = .silent ∨
         s.ctl.state = .halted ∨ (s.ctl.state = .planLoad ∧ s.fetch.list ≠ [])) → s.fault.phase = .clear →
       ∃ t, exec c s = .next t ∧ t.fetch.list = [] ∧ t.fetch.answer = none ∧ t.fetch.wants = [] ∧
         t.fetch.timer = none ∧ t.fetch.hold = true ∧ t.fetch.tag = s.fetch.tag ∧ t.link.up = true ∧
         t.lane = s.lane ∧ t.board = s.board ∧ t.roster = s.roster ∧
         t.fault.record = some (s.fault.first .linkDown none none none tag))) ∧
  (∀ s : State, (s.fetch.timer = none → exec .fetchTimerExpiry s = .next s) ∧
     (∀ e rest, s.fetch.timer.isSome = true → s.fetch.list = e :: rest →
       ∃ t, exec .fetchTimerExpiry s = .next t ∧ t.fetch.list = [] ∧ t.fetch.wants = [] ∧
         t.fetch.answer = none ∧ t.fetch.timer = none ∧ t.fetch.hold = true ∧ t.fetch.tag = s.fetch.tag ∧
         t.lane = s.lane ∧ t.board = s.board ∧ t.roster = s.roster ∧
         (s.fault.phase = .clear → s.comp.held = none ∨ s.tiles.firstComposing e.slot = none →
           t.fault.record = some (s.fault.first .fetchTimeout none none none (e.portrait.toNat % 65536))) ∧
         (∀ x i, s.fault.phase = .clear → s.comp.held = some x → s.tiles.firstComposing e.slot = some i →
           t.fault.record = some (s.fault.first .fetchTimeout (some x.page) (some i) (some x.band) (e.portrait.toNat % 65536))))) ∧
  (∀ (s : State) (c : Instr), (s.fault.phase = .held ∨ (s.fault.phase = .recovering ∧ s.fault.settled = false)) →
     ((c = .silenceTimerExpiry ∧ s.link.up = true ∧ s.link.silence.isSome = true) ∨
      (c = .fetchTimerExpiry ∧ s.fetch.timer.isSome = true ∧ s.fetch.list ≠ []) ∨
      (∃ e rest a refs crc, c = .portraitEnd e.tag crc ∧ s.ctl.state ≠ .setupWait ∧ s.fetch.hold = false ∧
        s.fetch.list = e :: rest ∧ s.fetch.answer = some a ∧
        s.tiles.slots[e.slot]? = some (.filling e.portrait refs) ∧ e.stale = false ∧ a.oversize = false ∧
        (a.bad = true ∨ a.count ≠ 3 * a.width * a.height ∨ a.crc ≠ crc) ∧ e.retry = true)) →
     ∃ t, exec c s = .next t ∧ t.fault = { s.fault with record := s.fault.counted } ∧
       t.fetch.list = [] ∧ t.fetch.wants = [] ∧ t.fetch.answer = none ∧ t.fetch.timer = none ∧ t.fetch.hold = true ∧
       (∀ e ∈ s.fetch.list, ∀ sl, s.tiles.slots[e.slot]? = some sl → t.tiles.slots[e.slot]? = some .free) ∧
       t.comp.cut = (s.comp.cut || s.cuttable) ∧ t.claims = s.claims ∧ t.port = s.port ∧ t.lane = s.lane ∧
       t.board = s.board ∧ t.roster = s.roster ∧ t.ctl = s.ctl) ∧
  (∀ (s : State) (h : FrameHdr) (page mark : Nat) (r : Replica) (e : Entry), s.hears → s.fault.phase = .held →
     s.board.replica = some r → r.entries[page]? = some e → e.status = .claimed s.straps.station → e.mark = mark →
     ∃ t, exec (.lapse h page s.straps.station mark) s = .next t ∧ t.fault.record = s.fault.counted ∧
       t.fault.phase = .held ∧
       (∀ x, s.comp.held = some x → x.page = page → t.comp.cut = (s.comp.cut || s.cuttable)) ∧
       ((∀ x, s.comp.held = some x → x.page ≠ page) → t.comp = s.comp)) ∧
  (∀ s : State, s.ctl.state = .syncing → s.ctl.syncTimer.isSome = true → s.ctl.collection = none →
     s.ctl.volumeSeen = true → s.ctl.abandoned = 2 → s.fault.phase = .held → s.fault.record.isSome = true →
     s.port.silent = false → (s.claims.work.map (fun w => w.page)).Nodup → s.link.outbound.length < 64 →
     ∃ t q, exec .syncTimerExpiry s = .next t ∧ t.ctl.state = .halted ∧ t.fault.phase = .held ∧
       t.fault.record = s.fault.counted ∧ t.fault.awaited = s.fault.awaited ∧ t.fault.reportTimer = some 1000 ∧
       t.link.outbound = s.link.outbound ++ [⟨s.straps.station, .faultReport q⟩] ∧
       some q.record = s.fault.counted ∧ q.state = .halted ∧ q.closed = s.fault.closed ∧ q.lost = s.fault.lost ∧
       q.repeats = min (s.fault.repeats + 1) 255 ∧ t.fault.repeats = q.repeats ∧
       t.comp.cut = (s.comp.cut || s.cuttable) ∧ t.lane = s.lane ∧ t.claims.work = s.claims.work ∧
       (∀ w ∈ s.claims.work, t.closing w.page = true ∧ (s.closing w.page = false → t.asked (.release w.page))) ∧
       (.leave ∈ t.ctl.waiting ∨ ∃ x ∈ t.port.queue, x.body = .frame (.leave s.straps.station)))

/-! ## The other library records (R63, R169 to R177, R181) -/

/-- R63: the answer to AMEND_IN, LAUNCH_IN and DROP_IN by the station and the relay slot: refused NOT_ACTIVE,
refused BUSY while the slot is BUSY or the queue full, else the matching frame is queued with the record's
fields unchanged and the slot is BUSY. The slot is EMPTY after either reset, with no report. -/
def Obligations.RelayRequestsAreQueuedOrRefused : Prop :=
  (∀ (s : State) (c : Instr) (f : Frame) (answer : Reason → RelayResult),
    ((∃ b, c = .amendIn b ∧ f = .amend b ∧ answer = fun r =>
        { request := .amend, batch := b.batch, subject := some b.subject, kind := some b.kind,
          verdict := .refused, reason := some r, replaced := none, edition := none, poolCount := none,
          batchStates := none }) ∨
     (∃ b, c = .launchIn b ∧ f = .launch b ∧ answer = fun r =>
        { request := .launch, batch := b, subject := none, kind := none, verdict := .refused,
          reason := some r, replaced := none, edition := none, poolCount := none, batchStates := none }) ∨
     (∃ b, c = .dropIn b ∧ f = .drop b ∧ answer = fun r =>
        { request := .drop, batch := b, subject := none, kind := none, verdict := .refused,
          reason := some r, replaced := none, edition := none, poolCount := none, batchStates := none })) →
    let refused (r : Reason) : State :=
      { s with link := s.link.afterGood.handed ⟨s.straps.station, .relayResult (answer r)⟩ }
    (s.ctl.state ≠ .active → exec c s = .next (refused .notActive)) ∧
    (s.ctl.state = .active → s.link.relay.isSome = true → exec c s = .next (refused .busy)) ∧
    (s.ctl.state = .active → s.link.relay = none → (16 ≤ s.port.queue.length ∨ s.port.silent = true) →
      exec c s = .next (refused .busy)) ∧
    (s.ctl.state = .active → s.link.relay = none → s.port.queue.length < 16 → s.port.silent = false →
      exec c s = .next { s with port := s.port.queued (.frame f),
                                link := { s.link.afterGood with relay := some f } })) ∧
  (∀ (s t : State) (st rate : Nat), exec (.coldReset st rate) s = .next t → t.link.relay = none) ∧
  (∀ s t : State, exec .restart s = .next t → t.link.relay = none ∧ t.port.queue = [] ∧
    ∀ r ∈ t.link.outbound, r ∈ s.link.outbound)

/-- R169: FAULT_ACK is taken in HELD with the record's serial: the record goes, the report timer stops, the
phase is CLEAR, the fetch hold clears and the claiming condition is evaluated; otherwise it is ignored.

R39: the candidate is the lowest-numbered OPEN page that no sheet of the sheet list names. -/
def Obligations.FaultAckClearsTheHeldFault : Prop :=
  (∀ (s : State) (serial : Nat),
     let taken := s.fault.phase = .held ∧ ∃ r, s.fault.record = some r ∧ r.serial = serial
     (¬ taken → exec (.faultAck serial) s = .next { s with link := s.link.afterGood }) ∧
     (taken → ∃ t, exec (.faultAck serial) s = .next t ∧
       t = { s with link := s.link.afterGood, fault := t.fault, fetch := { s.fetch with hold := false },
                    claims := { s.claims with pending := t.claims.pending }, port := t.port } ∧
       t.fault.phase = .clear ∧ t.fault.record = none ∧ t.fault.reportTimer = none ∧
       t.fault.serial = s.fault.serial ∧
       (s.claims.waiting = [] → s.ctl.waiting = [] → firstExpired s.board.leases = none →
         ∀ r p, s.ctl.state = .active → s.lane.offline = false → s.claims.work.length < s.claimDepth →
           s.claims.pending = none → s.board.replica = some r → candidate r.entries s.lane.sheets = some p →
           s.port.silent = false → s.port.queue.length < 16 →
           t.claims.pending = some p ∧ t.port = s.port.queued (.frame (.claim p s.straps.station))) ∧
       (s.ctl.state ≠ .active → t.claims = s.claims ∧ t.port = s.port))) ∧
  (∀ (es : List Entry) (sheets : List Sheet),
     let free (p : Nat) : Prop := (∃ e, es[p]? = some e ∧ e.status = .opened) ∧ ∀ sh ∈ sheets, sh.page ≠ p
     (∀ p, candidate es sheets = some p ↔ free p ∧ ∀ q, q < p → ¬ free q) ∧
     (candidate es sheets = none ↔ ∀ p, ¬ free p))

/-- R175: STATUS_ASK is answered in every state by one STATUS that describes the station at that moment, with the number of
pages in each of the four states. -/
def Obligations.StatusDescribesTheStation : Prop :=
  ∀ (s : State) (request : Nat), ∃ x : Status,
    exec (.statusAsk request) s = .next
      { s with link := s.link.afterGood.handed ⟨s.straps.station, .status x⟩ } ∧
    x.request = request ∧ x.state = s.ctl.state ∧ x.abandoned = s.ctl.abandoned ∧ x.reask = s.ctl.reask ∧
    x.volumeSeen = s.ctl.volumeSeen ∧ x.setup = s.setup ∧ x.roster = s.roster.status ∧
    (s.roster.status = .loaded → x.edition = s.roster.edition ∧
      x.identity = s.roster.head.map (fun h => h.identity)) ∧
    (s.roster.status ≠ .loaded → x.edition = 0 ∧ x.identity = none) ∧
    x.lastLaunched = s.board.lastLaunched ∧ x.silent = s.port.silent ∧ x.tx = s.port.tx ∧ x.rx = s.port.rx ∧
    (s.board.replica = none → x.held = false ∧ x.present = 0 ∧ x.opened = 0 ∧ x.claimed = 0 ∧
      x.printed = 0 ∧ x.failed = 0) ∧
    (∀ r, s.board.replica = some r → x.held = true ∧ x.present = r.present ∧
      x.opened + x.claimed + x.printed + x.failed = r.entries.length ∧
      x.opened = r.entries.countP (fun e => match e.status with | .opened => true | _ => false) ∧
      x.claimed = r.entries.countP (fun e => match e.status with | .claimed _ => true | _ => false) ∧
      x.printed = r.entries.countP (fun e => match e.status with | .printed _ _ => true | _ => false) ∧
      x.failed = r.entries.countP (fun e => match e.status with | .failed _ _ => true | _ => false)) ∧
    x.work = s.claims.work.map (fun e => (e.page, e.phase, e.spoils, e.edition)) ∧
    x.lanePhase = s.lane.phase ∧ x.lastTemplate = s.lane.lastTemplate ∧ x.outcomeHold = s.lane.hold ∧
    x.sheetReady = s.lane.sheetReady ∧ x.offline = s.lane.offline ∧ x.sheets = s.lane.sheets ∧
    x.faultPhase = s.fault.phase ∧ x.fault = s.fault.record ∧ x.awaited = s.fault.awaited.length ∧
    x.linkUp = true ∧ x.relayBusy = s.link.relay.isSome ∧ x.delivered = s.lane.delivered ∧
    x.spoiled = s.lane.spoiled ∧ x.withdrawn = s.lane.withdrawn ∧ x.lost = s.lane.lost ∧
    x.framesSent = s.port.framesSent ∧ x.framesVetoed = s.port.framesVetoed ∧
    x.inDropped = s.link.inDropped ∧ x.outDropped = s.link.outDropped

/-- R171, R172: the bytes of a whole record whose CRC-32 does not match leave the parser HUNTING and the link
state as it was; they restart the silence timer while the link is UP; the record sets the bad flag of an
answer in progress, or is counted as dropped.

R171, R173, R181: a record of an outbound kind whose check is right is dropped and counted when it has the length of its
kind (log 8), and is bad when it has not.

R181: the three check sequences over the ASCII bytes "123456789". -/
def Obligations.RecordWithABadCrcIsDropped : Prop :=
  (∀ (s : State) (k : Byte) (payload : List Byte) (crc : Id32),
     s.link.parser = .hunting → payload.length ≤ 4096 →
     crc ≠ crc32On crc32Init (k :: (bytes2 payload.length ++ payload)) →
     let line : Link := { s.link with silence := if s.link.up then some 100 else s.link.silence }
     exec (.badInboundRecord (0x7E#8 :: k :: (bytes2 payload.length ++ payload ++ bytes4 crc))) s = .next
       (match s.fetch.answer with
        | some a => { s with link := line, fetch := { s.fetch with answer := some { a with bad := true } } }
        | none => { s with link := { line with inDropped := (s.link.inDropped + 1) % 2 ^ 32 } })) ∧
  (∀ (s : State) (kind : Nat) (payload : List Byte), s.link.parser = .hunting → payload.length ≤ 4096 →
     0x81 ≤ kind → kind ≤ 0x87 →
     let line : Link := { s.link with silence := if s.link.up then some 100 else s.link.silence }
     (outboundFits kind payload = true →
       exec (.badInboundRecord (recordBytes kind payload)) s = .next { s with link := s.link.afterDropped }) ∧
     (outboundFits kind payload = false →
       exec (.badInboundRecord (recordBytes kind payload)) s = .next
         (match s.fetch.answer with
          | some a => { s with link := line, fetch := { s.fetch with answer := some { a with bad := true } } }
          | none => { s with link := { line with inDropped := (s.link.inDropped + 1) % 2 ^ 32 } }))) ∧
  (let ascii : List Byte := [0x31#8, 0x32#8, 0x33#8, 0x34#8, 0x35#8, 0x36#8, 0x37#8, 0x38#8, 0x39#8]
   crc16 (ascii.flatMap byteBits) = 0x29B1#16 ∧ crc32On crc32Init ascii = 0x0376E6E7#32 ∧ crc8 ascii = 0xF4#8)

/-- R171, R172, R173, R177, R181: the smaller events of the link. Idle fill is discarded in HUNTING, and is the next
byte of a payload that has more to come; it restarts the silence timer while the link is UP. A good record of an
outbound kind is dropped and counted (log 8). A record that has left is taken off the head of the outbound list.

R172: when the silence timer runs out the link is DOWN, the timer stopped and the parser HUNTING; a record
in progress is bad; LINK_DOWN is raised with detail 256, which in CLEAR is recorded and flushes the fetches (in
SETUP_WAIT too: log 39). While it is DOWN nothing happens, by the model's choice (log 1).

R86, R162, R163: with the phase CLEAR the recovery has the held page cut and a RELEASE asked for every QUEUED or
COMPOSING entry in the order of the work list (log 45), each awaited (a close in flight: log 38); IN_ENGINE entries keep their
claims. It ends at once where
there is nothing to cut and nothing to close. -/
def Obligations.LinkEventsAndTheSilentLine : Prop :=
  (∀ s : State,
     let timer := if s.link.up then some 100 else s.link.silence
     (s.link.parser = .hunting →
       exec .inboundIdleFill s = .next { s with link := { s.link with silence := timer } }) ∧
     (∀ kind len got crc, s.link.parser = .payload kind len got crc → got.length + 1 < len →
       exec .inboundIdleFill s = .next { s with link := { s.link with
         silence := timer,
         parser := .payload kind len (got ++ [0#8]) (crc32On crc [0#8]) } }) ∧
     (∀ kind, exec (.outboundKindRecord kind) s = .next { s with link := s.link.afterDropped }) ∧
     exec .outboundRecordSent s = .next { s with link := { s.link with outbound := s.link.outbound.drop 1 } }) ∧
  (∀ s : State, (s.link.up = false → exec .silenceTimerExpiry s = .next s) ∧
     (s.link.up = true → s.link.silence.isSome = true → ∃ t, exec .silenceTimerExpiry s = .next t ∧
       t.link.up = false ∧ t.link.silence = none ∧ t.link.parser = .hunting ∧
       t.link.inDropped = (if s.link.parser ≠ .hunting ∧ s.fetch.answer = none
         then (s.link.inDropped + 1) % 2 ^ 32 else s.link.inDropped) ∧
       t.fetch.list = [] ∧ t.fetch.hold = true ∧ t.fetch.answer = none ∧
       t.board = s.board ∧ t.roster = s.roster ∧ t.lane = s.lane ∧ t.ctl = s.ctl ∧
       (s.fault.phase = .clear → t.fault.record = some (s.fault.first .linkDown none none none 256)) ∧
       (s.fault.phase ≠ .clear →
         t.fault.record = s.fault.counted))) ∧
  (∀ s : State, s.link.up = true → s.link.silence.isSome = true → s.fault.phase = .clear →
     (s.claims.work.map (fun w => w.page)).Nodup →
     ∃ t, exec .silenceTimerExpiry s = .next t ∧ t.claims.work = s.claims.work ∧
       t.fault.awaited = (s.claims.work.filter (fun w => decide (w.phase ≠ .inEngine))).map (fun w => w.page) ∧
       (∀ w ∈ s.claims.work, w.phase ≠ .inEngine → t.closing w.page = true ∧
         (s.closing w.page = false → t.asked (.release w.page))) ∧
       t.comp.cut = (s.comp.cut || s.cuttable) ∧ t.fault.cutStep = s.cuttable ∧ t.fault.flushStep = false ∧
       t.fault.haltStep = false ∧
       t.fault.phase = (if t.fault.awaited = [] ∧ s.cuttable = false then .held else .recovering))

/-! ## The hall port (R131 to R146) -/

/-- R131, R132, R136: at its start bit the station sends the head of its transmit queue, the WAITING entry of
the lowest class and the earliest within it, and goes on only when no contender has a lower arbitration value;
a lost arbitration leaves everything as it was. -/
def Obligations.HeadOfQueueIsSent : Prop :=
  ∀ (s : State) (e : TxEntry) (f : Frame) (before after : List TxEntry) (others : List Nat),
    s.participation = .full → s.port.sending = none → s.port.run = none →
    s.port.queue = before ++ e :: after → (∀ x ∈ s.port.queue, x.onBus = false) →
    (∀ x ∈ before, e.body.cls < x.body.cls) → (∀ x ∈ after, e.body.cls ≤ x.body.cls) →
    (e.body = .frame f → (∀ v ∈ others, f.cls * 16 + s.straps.station ≤ v) →
      exec (.frameStart others) s = .next { s with
        port := { s.port with queue := before ++ { e with onBus := true } :: after,
                              sending := some (e.hold, f), runRest := [] } }) ∧
    (∀ rq full first rest, e.body = .run rq full → s.runFrames rq full = first :: rest →
      (∀ v ∈ others, s.straps.station ≤ v) → exec (.frameStart others) s = .next { s with
        port := { s.port with queue := before ++ { e with onBus := true } :: after,
                              sending := some first, runRest := rest } }) ∧
    ((∃ v ∈ others, v < e.body.cls * 16 + s.straps.station) → exec (.frameStart others) s = .next s)

/-- R139, R140: the holder of a run sends its next frame without choosing a head; the bus idle for 32 bit times
ends a run, and a broken run's entry is WAITING and begins afresh.

R139, R140: the run state after a frame has passed: HOLD starts a run at count 1, and its holder's next frame with
HOLD raises the count; a frame without HOLD, another station's, or the 256th, ends it. -/
def Obligations.RunsGoOnAndEnd : Prop :=
  ((∀ (s : State) (k : Nat) (hold : Bool) (f : Frame) (rest : List (Bool × Frame)) (others : List Nat),
     s.participation = .full → s.port.sending = none →
     s.port.run = some { holder := s.straps.station, count := k } → s.port.runRest = (hold, f) :: rest →
     (∀ v ∈ others, f.cls * 16 + s.straps.station ≤ v) →
     exec (.runNextFrame others) s = .next
       { s with port := { s.port with sending := some (hold, f), runRest := rest } }) ∧
   (∀ s : State, s.ctl.collection = none → s.port.run.isSome = true →
     exec .runIdleEnd s = .next { s with port := { s.port with
       run := none, sending := none, runRest := [],
       queue := s.port.queue.map (fun e => { e with onBus := false }) } })) ∧
  (∀ (sender : Nat) (hold : Bool) (r : RunHeld),
     runAfter none sender true = some { holder := sender, count := 1 } ∧
     runAfter none sender false = none ∧
     (r.holder = sender → hold = true → r.count < 255 →
       runAfter (some r) sender hold = some { holder := sender, count := r.count + 1 }) ∧
     (r.holder ≠ sender ∨ hold = false ∨ 255 ≤ r.count → runAfter (some r) sender hold = none))

/-- R134, R135, R140, R141: a vetoed frame at counts below 31 is discarded: the queue keeps every entry in its place,
each WAITING, and any run ends; the sender's transmit count and its vetoed frames rise by 1, a reader that found
the frame bad has its receive count rise by 1, and another's frame found good changes no count. -/
def Obligations.VetoedFrameStaysQueued : Prop :=
  ∀ (s : State) (x : Heard), s.hears → s.port.tx < 31 → s.port.rx < 31 →
    ∃ p, exec (.frameVetoed x) s = .next { s with port := p } ∧
      p.queue = s.port.queue.map (fun e => { e with onBus := false }) ∧ p.run = none ∧ p.sending = none ∧
      p.runRest = [] ∧ p.silent = s.port.silent ∧ p.seq = s.port.seq ∧ p.framesSent = s.port.framesSent ∧
      (s.port.sending.isSome = true → p.tx = s.port.tx + 1 ∧ p.rx = s.port.rx ∧
        p.framesVetoed = (s.port.framesVetoed + 1) % 2 ^ 32) ∧
      (s.port.sending = none → p.tx = s.port.tx ∧ p.framesVetoed = s.port.framesVetoed ∧
        p.rx = if readFrame x.bits = none then s.port.rx + 1 else s.port.rx)

/-- R134, R141: as a frame passes at a station that takes full part, its own frame lowers the transmit count and
counts as sent (own: log 9); another's lowers the receive count. No other of the four counts changes, and the run
state follows the frame's HOLD mark. -/
def Obligations.PassedFrameLowersACount : Prop :=
  ∀ (s t : State) (c : Instr) (h : FrameHdr) (f : Frame),
    frameOf c = some (h, f) → s.participation = .full → exec c s = .next t →
    (h.sender = s.straps.station ∧ s.port.sending = some (h.hold, f) →
      t.port.tx = s.port.tx - 1 ∧ t.port.rx = s.port.rx ∧ t.port.framesSent = (s.port.framesSent + 1) % 2 ^ 32 ∧
      t.port.framesVetoed = s.port.framesVetoed) ∧
    (h.sender ≠ s.straps.station →
      t.port.tx = s.port.tx ∧ t.port.rx = s.port.rx - 1 ∧ t.port.framesSent = s.port.framesSent ∧
      t.port.framesVetoed = s.port.framesVetoed) ∧
    t.port.run = runAfter s.port.run h.sender h.hold

/-- R143 to R146: a listener takes no more of a passed frame than the run state, and not that of a frame which was on the
bus at the last reset (log 40); a SILENT port short of its 128th good frame counts it as well and restarts its quiet
timer. Nothing is handed to any block.

R145, R146: a move to full part takes effect from the next start bit. Until then the end of a frame that the bus carried at
the move (log 40) is let by as by a listener; a frame that began after it, and the station's own start bit, are dealt with
as in full part. A listener lets a vetoed frame by. -/
def Obligations.FramesPassAListenerBy : Prop :=
  (∀ (s : State) (c : Instr) (h : FrameHdr) (f : Frame), frameOf c = some (h, f) →
     (s.port.silent = false → (s.ctl.state = .setupWait ∨ s.ctl.state = .planLoad) →
       exec c s = .next { s with port := { s.port with
         run := if s.port.abandons = true ∧ h.began = .beforeReset then s.port.run
           else runAfter s.port.run h.sender h.hold,
         awaitsStart := false, abandons := false } }) ∧
     (s.port.silent = true → s.port.good < 127 →
       exec c s = .next { s with port := { s.port with
         run := runAfter s.port.run h.sender h.hold,
         good := s.port.good + 1, quiet := some (2 * s.leaseMs) } })) ∧
  (∀ s : State,
     (s.participation = .full ↔ s.port.silent = false ∧ s.port.awaitsStart = false ∧
       s.ctl.state ≠ .setupWait ∧ s.ctl.state ≠ .planLoad) ∧
     (∀ x, s.participation = .listener →
       exec (.frameVetoed x) s = .next { s with port := { s.port with
         run := if s.port.abandons = true ∧ x.began = .beforeReset then s.port.run else none,
         awaitsStart := false, abandons := false } }) ∧
     (s.port.silent = false → s.port.awaitsStart = true → s.ctl.state ≠ .setupWait → s.ctl.state ≠ .planLoad →
       let u : State := { s with port := { s.port with awaitsStart := false, abandons := false } }
       (∀ c h f, frameOf c = some (h, f) → exec c s =
         if h.began = .sinceMove then exec c u
         else .next { u with port := { u.port with
           run := if s.port.abandons = true ∧ h.began = .beforeReset then s.port.run
             else runAfter s.port.run h.sender h.hold } }) ∧
       (∀ x, exec (.frameVetoed x) s =
         if x.began = .sinceMove then exec (.frameVetoed x) u
         else .next { u with port := { u.port with
           run := if s.port.abandons = true ∧ x.began = .beforeReset then s.port.run else none } }) ∧
       (∀ others, s.port.sending = none → s.port.run = none → (∀ e ∈ s.port.queue, e.onBus = false) →
         exec (.frameStart others) s = exec (.frameStart others) u)))

/-- R21, R49, R64, R141, R142, R158, R165: the veto that brings the transmit or the receive count from 31 to 32 takes the port to
SILENT in its own step, as PORT_ENTERS_SILENT does where a count stands at 32 (log 6): queue, counts, replica and
Amendment Store are empty, a relayed frame is answered UNSENT, the quiet timer starts at 2L, and a station that is not
HALTED is SILENT. With the phase CLEAR the work list is dropped, a cut of the held page requested, and BUS_SILENT
recorded with detail 1 or 2. PORT_ENTERS_SILENT below 32 changes nothing (log 6).

The model's choice (log 37): where that veto also breaks a collected run for the third time, SYNC_FAILED halts the station
first and BUS_SILENT is its follow-on. -/
def Obligations.CountOf32SilencesThePort : Prop :=
  ((∀ (s : State) (c : Instr) (detail : Nat), s.participation = .full →
     ((∃ x, c = .frameVetoed x ∧ s.portLaw ∧ (s.ctl.collection = none ∨ s.ctl.abandoned < 2) ∧
         (detail = 1 ∧ s.port.sending.isSome = true ∧ s.port.tx = 31 ∨
          detail = 2 ∧ s.port.sending = none ∧ readFrame x.bits = none ∧ s.port.rx = 31)) ∨
      (c = .portEntersSilent ∧
         (detail = 1 ∧ 32 ≤ s.port.tx ∨ detail = 2 ∧ s.port.tx < 32 ∧ 32 ≤ s.port.rx))) →
     ∃ t, exec c s = .next t ∧ t.port.silent = true ∧ t.port.queue = [] ∧ t.port.tx = 0 ∧
       t.port.rx = 0 ∧ t.port.good = 0 ∧ t.port.quiet = some (2 * s.leaseMs) ∧ t.port.sending = none ∧
       t.port.run = (if c = .portEntersSilent then s.port.run else none) ∧
       t.board.replica = none ∧ t.board.leases = [] ∧ t.board.lastLaunched = s.board.lastLaunched ∧
       t.pool = [] ∧ t.link.relay = none ∧ (s.ctl.state ≠ .silent → t.ctl.waiting = []) ∧
       t.ctl.state = (if s.ctl.state = .halted then .halted else .silent) ∧
       t.roster = s.roster ∧ t.launch = s.launch ∧ t.lane = s.lane ∧
       (∀ f, s.link.relay = some f → s.link.outbound.length < 64 → ∃ more, t.link.outbound =
         s.link.outbound ++ ⟨s.straps.station, .relayResult (relayBare f .unsent none)⟩ :: more) ∧
       (s.fault.phase = .clear → t.claims.work = [] ∧ t.claims.pending = none ∧ t.claims.waiting = [] ∧
         t.fetch.prefetch = [] ∧ t.comp.cut = (s.comp.cut || s.cuttable) ∧ t.fault.cutStep = s.cuttable ∧
         t.fault.phase = (if s.cuttable = true then .recovering else .held) ∧
         t.fault.record = some (s.fault.first .busSilent none none none detail))) ∧
   (∀ s : State, s.port.tx < 32 → s.port.rx < 32 → exec .portEntersSilent s = .next s)) ∧
  (∀ (s : State) (x : Heard), s.participation = .full → s.portLaw → s.ctl.collection.isSome = true →
     s.ctl.abandoned = 2 → s.ctl.state = .syncing → s.fault.phase = .clear →
     (s.port.sending.isSome = true ∧ s.port.tx = 31 ∨
       s.port.sending = none ∧ readFrame x.bits = none ∧ s.port.rx = 31) →
     ∃ t, exec (.frameVetoed x) s = .next t ∧ t.port.silent = true ∧ t.ctl.state = .halted ∧
       t.fault.record = some { s.fault.first .syncFailed none none none 1 with followOn := 1 })

/-- R143, R144: a SILENT port reads frames: a good one that passed raises the good-frame count; a bad or a vetoed one clears it.
A veto ends the run; a bad frame that nobody vetoed passed unread, and a run under way goes on with it (log 41). The
quiet timer restarts at 2L.

R144, R149, R158: leaving SILENT, by the quiet timer or by the 128th good frame, enables the port; a SILENT
station enters SYNCING with its ASK queued, its timer at 2L and the volume-seen flag set, so that it makes no fresh start (also
where it had met no volume before: log 44), and a HALTED one stays HALTED. -/
def Obligations.SilentPortCountsAndComesBack : Prop :=
  (∀ (s : State) (bits : List Bool) (vetoed : Bool), s.port.silent = true →
     (∀ r, readFrame bits = some r → vetoed = false → s.port.good < 127 →
       exec (.silentFrameRead bits vetoed) s = .next { s with port := { s.port with
         run := runAfter s.port.run r.sender r.hold, good := s.port.good + 1,
         quiet := some (2 * s.leaseMs) } }) ∧
     (vetoed = true → exec (.silentFrameRead bits vetoed) s = .next { s with port := { s.port with
       run := none, good := 0, quiet := some (2 * s.leaseMs) } }) ∧
     (readFrame bits = none → vetoed = false →
       exec (.silentFrameRead bits vetoed) s = .next { s with port := { s.port with
         run := s.port.run.bind (fun r => if r.count < 255 then some { r with count := r.count + 1 } else none),
         good := 0, quiet := some (2 * s.leaseMs) } })) ∧
  (∀ (s : State) (c : Instr), s.port.silent = true →
     (c = .portLeavesSilent ∨ (127 ≤ s.port.good ∧ ((∃ h f, frameOf c = some (h, f)) ∨
       ∃ bits r, readFrame bits = some r ∧ c = .silentFrameRead bits false))) →
     ∃ t, exec c s = .next t ∧ t = { s with port := t.port, ctl := t.ctl } ∧ t.port.silent = false ∧
       t.port.tx = 0 ∧ t.port.rx = 0 ∧ t.port.good = 0 ∧ t.port.quiet = none ∧
       (s.ctl.state = .silent → t.ctl.state = .syncing ∧ t.ctl.abandoned = 0 ∧ t.ctl.collection = none ∧
         t.ctl.syncTimer = some (2 * s.leaseMs) ∧ t.ctl.volumeSeen = true ∧
         (s.port.queue = [] →
           t.port.queue = [s.port.entry (.frame (.ask (s.roster.identity.getD 0)))])) ∧
       (s.ctl.state ≠ .silent → t.ctl = s.ctl ∧ t.port.queue = s.port.queue))

/-- R39, R137: a free place is granted first to what waits in the Station Controller (of several items to the one that has
waited longest, by the model's choice: log 36), then to the closing frames in the order they were asked for, then to the
EXPIRED lease timer of lowest page number, and last to a claiming evaluation: CLAIM for the candidate is queued where the
condition holds, and nothing happens where it does not. -/
def Obligations.FreePlaceIsGrantedInOrder : Prop :=
  ∀ s : State, s.participation = .full → s.port.queue.length < 16 →
    (∀ i rest, s.ctl.waiting = i :: rest → exec .queuePlaceGranted s = .next { s with
      port := s.port.queued (s.ctlBody i), ctl := { s.ctl with waiting := rest } }) ∧
    (∀ f rest, s.ctl.waiting = [] → s.claims.waiting = f :: rest → exec .queuePlaceGranted s = .next { s with
      port := s.port.queued (.frame f), claims := { s.claims with waiting := rest } }) ∧
    (∀ p r e holder, s.ctl.waiting = [] → s.claims.waiting = [] → s.ctl.state = .active →
      firstExpired s.board.leases = some p → s.board.replica = some r → r.entries[p]? = some e →
      e.status = .claimed holder → exec .queuePlaceGranted s = .next { s with
        port := s.port.queued (.frame (.lapse p holder e.mark)),
        board := { s.board with leases := s.board.leases.set p (some .offered) } }) ∧
    (s.ctl.waiting = [] → s.claims.waiting = [] → s.ctl.state ≠ .active ∨ firstExpired s.board.leases = none →
      let holds := s.ctl.state = .active ∧ s.fault.phase = .clear ∧ s.lane.offline = false ∧
        s.claims.work.length < s.claimDepth ∧ s.claims.pending = none
      (∀ r p, holds → s.board.replica = some r → candidate r.entries s.lane.sheets = some p →
        exec .queuePlaceGranted s = .next { s with
          port := s.port.queued (.frame (.claim p s.straps.station)),
          claims := { s.claims with pending := some p } }) ∧
      (¬ holds ∨ (∀ r, s.board.replica = some r → candidate r.entries s.lane.sheets = none) →
        exec .queuePlaceGranted s = .next s))

/-- R34: a lease timer that runs out while ACTIVE with a free place, and with no EXPIRED timer before it, queues LAPSE
with the holder and mark the replica shows and is OFFERED; where that may not be, it waits EXPIRED. No other timer
changes.

R36: a renewal that falls due queues RENEW for a page of the work list, unless one is still queued or no
place is free; the entry's phase plays no part.

R34: the station's own LAPSE, void while its timer is OFFERED, restarts that timer; another station's void LAPSE changes no
timer. Nothing else of the board changes.

R35, R36, R138: after a hall frame no queued LAPSE names a claim that the replica no longer shows, and no queued RENEW is for a
page that has left the work list. A LAUNCH leaves the queued LAPSE of a page that stays so claimed.

R39, R40: a pending CLAIM that waits is withdrawn as another station's CLAIM takes its page, and the next page is claimed at once
where the condition holds; as ENGINE_OFFLINE is asserted, and as the silent line's fault ends the phase CLEAR, it is withdrawn and none follows. -/
def Obligations.LeaseTimerAndRenewalQueueTheirFrames : Prop :=
  (∀ (s : State) (page : Nat) (r : Replica) (e : Entry) (holder : Nat), s.board.replica = some r →
     s.board.leases[page]? = some (some .running) → r.entries[page]? = some e → e.status = .claimed holder →
     (∀ q : Nat, s.board.leases[q]? ≠ some (some Lease.expired)) →
     (s.ctl.state = .active → s.port.silent = false → s.port.queue.length < 16 →
       exec (.leaseExpiry page) s = .next { s with
         port := s.port.queued (.frame (.lapse page holder e.mark)),
         board := { s.board with leases := s.board.leases.set page (some .offered) } }) ∧
     (¬ (s.ctl.state = .active ∧ s.port.silent = false ∧ s.port.queue.length < 16) →
       exec (.leaseExpiry page) s = .next { s with
         board := { s.board with leases := s.board.leases.set page (some .expired) } })) ∧
  (∀ (s : State) (page : Nat),
     let due := (∃ e ∈ s.claims.work, e.page = page) ∧ (∀ x ∈ s.port.queue, x.body ≠ .frame (.renew page)) ∧
       s.takesOffers = true ∧ s.port.queue.length < 16
     (due → exec (.renewalDue page) s = .next { s with port := s.port.queued (.frame (.renew page)) }) ∧
     (¬ due → exec (.renewalDue page) s = .next s)) ∧
  (∀ (s : State) (h : FrameHdr) (page holder mark : Nat) (r : Replica) (e : Entry), s.hears →
     s.board.replica = some r → r.entries[page]? = some e → ¬ (e.status = .claimed holder ∧ e.mark = mark) →
     ∃ t, exec (.lapse h page holder mark) s = .next t ∧
       t = { s with board := t.board, port := t.port, claims := { s.claims with pending := t.claims.pending } } ∧
       t.board = if h.sender = s.straps.station ∧ s.board.leases[page]? = some (some .offered)
         then { s.board with leases := s.board.leases.set page (some .running) } else s.board) ∧
  ((∀ (s : State) (c : Instr) (h : FrameHdr) (f : Frame), frameOf c = some (h, f) → s.participation = .full →
     ∃ t, exec c s = .next t ∧ ∀ x ∈ t.port.queue, x.onBus = false →
       (∀ page holder mark r, x.body = .frame (.lapse page holder mark) → t.board.replica = some r →
         ∃ e, r.entries[page]? = some e ∧ e.status = .claimed holder ∧ e.mark = mark) ∧
       (∀ page, x.body = .frame (.renew page) → ∃ w ∈ t.claims.work, w.page = page)) ∧
   (∀ (s : State) (h : FrameHdr) (b page holder mark : Nat) (r : Replica) (e : Entry) (x : TxEntry), s.hears →
     h.sender ≠ s.straps.station → s.board.replica = some r → r.entries[page]? = some e →
     e.status = .claimed holder → e.mark = mark → x ∈ s.port.queue → x.onBus = false →
     x.body = .frame (.lapse page holder mark) → ∃ t, exec (.launch h b) s = .next t ∧ x ∈ t.port.queue)) ∧
  (∀ (s : State) (page : Nat), s.claims.pending = some page →
     (∃ x ∈ s.port.queue, x.onBus = false ∧ x.body = .frame (.claim page s.straps.station)) →
     (∀ (h : FrameHdr) (r : Replica) (e : Entry), s.hears → s.board.replica = some r → r.entries[page]? = some e →
       e.status = .opened → r.present.getLsbD h.sender = true → h.sender ≠ s.straps.station →
       ∃ t r', exec (.claim h page h.sender) s = .next t ∧ t.board.replica = some r' ∧
         (∀ x ∈ t.port.queue, x.onBus = false → x.body ≠ .frame (.claim page s.straps.station)) ∧
         t.claims.pending ≠ some page ∧
         (∀ q, s.ctl.state = .active → s.fault.phase = .clear → s.lane.offline = false →
           s.claims.work.length < s.claimDepth → candidate r'.entries s.lane.sheets = some q →
           s.ctl.waiting = [] → s.claims.waiting = [] → firstExpired t.board.leases = none →
           s.port.queue.length ≤ 16 → t.claims.pending = some q ∧
             ∃ x ∈ t.port.queue, x.onBus = false ∧ x.body = .frame (.claim q s.straps.station))) ∧
     (∀ c, (c = .engineOfflineAsserted ∧ s.lane.offline = false ∨
         c = .silenceTimerExpiry ∧ s.link.up = true ∧ s.link.silence.isSome = true ∧ s.fault.phase = .clear) →
       ∃ t, exec c s = .next t ∧ t.claims.pending = none ∧
         ∀ x ∈ t.port.queue, x.onBus = false → ∀ p st, x.body ≠ .frame (.claim p st)))

/-! ## The Station Controller (R147 to R159) -/

/-- R156, R153: when the sync timer of a SYNCING station that collects nothing runs out, a station that has
seen no volume makes a fresh start: P OPEN entries and the last launched edition at the plan edition (R21), nobody present, no
lease timer, an empty Amendment Store, and JOIN offered; one that has seen a volume counts an abandonment and asks again, and at the
third, with the phase CLEAR, records SYNC_FAILED and halts.

R86, R159, R166: that halt has the held page cut, a RELEASE asked for every work-list entry in list order (log 45) and awaited, and LEAVE offered;
it waits for its own LEAVE. With the port SILENT the work list is dropped instead and no LEAVE is offered. -/
def Obligations.SyncTimerStartsAfreshOrAsksAgain : Prop :=
  (∀ (s : State) (h : PlanHead), s.ctl.state = .syncing → s.ctl.syncTimer.isSome = true →
     s.ctl.collection = none → s.roster.head = some h → s.roster.status = .loaded → 1 ≤ h.pages →
     s.port.silent = false → s.port.queue.length < 16 →
     (s.ctl.volumeSeen = false → ∃ t, exec .syncTimerExpiry s = .next t ∧
       t = { s with board := t.board, pool := [], ctl := { s.ctl with syncTimer := none },
                    port := s.port.queued (.frame (.join s.straps.station h.identity)) } ∧
       t.board.lastLaunched = h.edition ∧ t.board.leases = List.replicate h.pages none ∧
       t.board.completions = 0 ∧ t.board.replica = some
         { entries := List.replicate h.pages
             { status := .opened, mark := 0, need := h.edition, lapses := 0, reprints := 0 },
           present := 0, complete := false }) ∧
     (s.ctl.volumeSeen = true → s.ctl.abandoned < 2 →
       (∀ x ∈ s.port.queue, x.body.isAsk = false) → s.ctl.waiting = [] →
       exec .syncTimerExpiry s = .next { s with
         ctl := { s.ctl with abandoned := s.ctl.abandoned + 1, syncTimer := some (2 * s.leaseMs) },
         port := s.port.queued (.frame (.ask h.identity)) }) ∧
     (s.ctl.volumeSeen = true → s.ctl.abandoned = 2 → s.fault.phase = .clear →
       ∃ t, exec .syncTimerExpiry s = .next t ∧ t.ctl.state = .halted ∧ t.ctl.abandoned = 3 ∧
         t.fault.record = some (s.fault.first .syncFailed none none none 3))) ∧
  (∀ s : State, s.ctl.state = .syncing → s.ctl.syncTimer.isSome = true → s.ctl.collection = none →
     s.ctl.volumeSeen = true → s.ctl.abandoned = 2 → s.fault.phase = .clear →
     (s.claims.work.map (fun w => w.page)).Nodup →
     ∃ t, exec .syncTimerExpiry s = .next t ∧ t.ctl.state = .halted ∧ t.ctl.syncTimer = none ∧
       t.comp.cut = (s.comp.cut || s.cuttable) ∧ t.fault.cutStep = s.cuttable ∧ t.lane = s.lane ∧
       (s.port.silent = false → t.claims.work = s.claims.work ∧
         t.fault.awaited = s.claims.work.map (fun w => w.page) ∧ t.fault.haltStep = true ∧
         t.fault.phase = .recovering ∧
         (∀ w ∈ s.claims.work, t.closing w.page = true ∧ (s.closing w.page = false → t.asked (.release w.page))) ∧
         (.leave ∈ t.ctl.waiting ∨ ∃ x ∈ t.port.queue, x.body = .frame (.leave s.straps.station))) ∧
       (s.port.silent = true → t.claims.work = [] ∧ t.claims.waiting = [] ∧ t.fault.awaited = [] ∧
         t.fault.haltStep = false ∧ t.ctl.waiting = [] ∧
         t.fault.phase = (if s.cuttable = true then .recovering else .held)))

/-- R150: an ACTIVE station answers another station's ASK by offering one run for it, full exactly when the
plan identities are equal; its own ASK, a second one, and any in another state add no run.

R151: a full run is SNAP_HEAD, ceil(P / 8) SNAP_PAGES and one SNAP_AMEND for each record, every frame but
the last with HOLD; a short run is the SNAP_HEAD alone, without it. -/
def Obligations.AskIsAnsweredByARun : Prop :=
  (∀ (s : State) (h : FrameHdr) (identity : Id32), s.hears → ∃ t, exec (.ask h identity) s = .next t ∧
     t = { s with port := t.port, ctl := t.ctl, claims := { s.claims with pending := t.claims.pending } } ∧
     (s.ctl.state = .active → h.sender ≠ s.straps.station → s.ctl.waiting = [] →
       (∀ x ∈ s.port.queue, ∀ full, x.body ≠ .run h.sender full) → s.port.queue.length < 16 →
       t.ctl = s.ctl ∧ ∃ x ∈ t.port.queue, x.onBus = false ∧
         x.body = .run h.sender (decide (s.roster.identity = some identity))) ∧
     (s.ctl.state ≠ .active ∨ h.sender = s.straps.station ∨
         (∃ x ∈ s.port.queue, ∃ full, x.body = .run h.sender full) →
       t.ctl = s.ctl ∧ ∀ x ∈ t.port.queue, x.body.isRun = true → ∃ y ∈ s.port.queue, y.body = x.body)) ∧
  (∀ (s : State) (r : Replica) (requester : Nat), s.board.replica = some r →
     let head : Frame := .snapHead requester s.straps.station (s.roster.identity.getD 0) r.entries.length
       s.board.lastLaunched r.present (batchBits s.pool) s.pool.length
     let run := s.runFrames requester true
     s.runFrames requester false = [(false, head)] ∧
     run.length = 1 + (r.entries.length + 7) / 8 + s.pool.length ∧
     (run.map (fun x => x.2))[0]? = some head ∧
     (∀ k, k < (r.entries.length + 7) / 8 → (run.map (fun x => x.2))[1 + k]? = some
       (.snapPages requester k (((r.entries.drop (8 * k)).take 8).flatMap Entry.bytes))) ∧
     (∀ k a, s.pool[k]? = some a → (run.map (fun x => x.2))[1 + (r.entries.length + 7) / 8 + k]? =
       some (.snapAmend requester k a.body)) ∧
     (∀ k x, run[k]? = some x → x.1 = decide (k + 1 < run.length)))

/-- R149, R152: a good SNAP_HEAD of this plan that names the SYNCING station starts a collection: the sync timer
stops, the volume is seen, and the station's own WAITING ASK is withdrawn.

R152: the next SNAP_PAGES and SNAP_AMEND of the responder's run are kept while the run goes on.

R140, R149, R153: what ends the run first (case 1: a veto, an idle bus, any frame of a sender other than the responder, or the
responder's next frame, early without HOLD or as the 256th) and any unexpected frame of the responder (case 2, with HOLD or
without: log 18) abandon the collection: the count rises, the timer restarts at 2L and ASK is offered again; at the third
SYNC_FAILED halts the station with the case as detail. The rest of an unexpected frame's run is to be ignored. The frames are
taken with no installed replica, as R152 has it and every step keeps it (State.collectLaw), and this station's own LEAVE with the store empty and no fault.

DEDUCED (log 18): another station's SNAP_HEAD that names this one ends the run under collection (case 1) and begins a second
collection, which is itself abandoned at once: as unexpected (case 2), or, while more frames are due, since its run state is NONE
(case 1). The count rises by 2. A head of another plan is judged: PLAN_MISMATCH, detail 1. At the third abandonment the station
halts and begins no second collection.

R152: in the rest of a run that is ignored no frame starts a collection or withdraws the station's ASK; a run that begins is
not ignored. -/
def Obligations.RunIsCollected : Prop :=
  (∀ (s : State) (h : FrameHdr) (identity : Id32) (pages last : Nat) (present : StationSet) (states n : Nat),
     s.hears → s.ctl.state = .syncing → s.board.replica = none → s.port.run = none → h.hold = true →
     h.sender ≠ s.straps.station → s.roster.identity = some identity → 1 ≤ pages → states < 16 → n ≤ 64 →
     ∃ t, exec (.snapHead h s.straps.station h.sender identity pages last present states n) s = .next t ∧
       t = { s with port := t.port, ctl := t.ctl, claims := t.claims } ∧
       t.ctl.collection = some {
         responder := h.sender, identity := identity, pages := pages,
         lastLaunched := last, present := present, batchStates := states, records := n, pageFrames := 0,
         amendFrames := 0, entries := [], kept := [] } ∧
       t.ctl.syncTimer = none ∧ t.ctl.volumeSeen = true ∧ t.ctl.state = .syncing ∧ t.claims.work = s.claims.work ∧
       t.ctl.waiting = s.ctl.waiting.filter (fun i => decide (i ≠ .ask) && !i.runFor s.straps.station) ∧
       (∀ x ∈ t.port.queue, x.body.isAsk = false)) ∧
  (∀ (s : State) (h : FrameHdr) (c : Collection) (k : Nat),
     s.participation = .full → s.ctl.collection = some c → h.sender = c.responder → h.hold = true →
     s.port.run = some { holder := h.sender, count := k } → k < 255 → h.sender ≠ s.straps.station →
     s.roster.identity = some c.identity →
     (∀ es : List Entry, (∀ e ∈ es, readEntries e.bytes = some [e]) →
       es.length = min 8 (c.pages - 8 * c.pageFrames) → c.pageFrames < (c.pages + 7) / 8 →
       (c.pageFrames + 1 < (c.pages + 7) / 8 ∨ c.amendFrames ≠ c.records) →
       ∃ t, exec (.snapPages h s.straps.station c.pageFrames (es.flatMap Entry.bytes)) s = .next t ∧
         t.ctl.collection = some { c with pageFrames := c.pageFrames + 1, entries := c.entries ++ es } ∧
         t.ctl.abandoned = s.ctl.abandoned ∧ t.board = s.board ∧ t.pool = s.pool ∧ t.fault = s.fault) ∧
     (∀ (b : AmendBody) (p : Payload), readPayload b.kind b.payload = some p →
       c.pageFrames = (c.pages + 7) / 8 → c.amendFrames + 1 < c.records → b.batch < 4 →
       c.batchStates.testBit b.batch = true →
       (∀ a ∈ c.kept, ¬ (a.batch = b.batch ∧ a.subject = b.subject ∧ a.payload.kind = p.kind)) →
       ∃ t, exec (.snapAmend h s.straps.station c.amendFrames b) s = .next t ∧
         t.ctl.collection = some { c with
           amendFrames := c.amendFrames + 1,
           kept := c.kept ++ [{ batch := b.batch, subject := b.subject, payload := p }] } ∧
         t.ctl.abandoned = s.ctl.abandoned ∧ t.board = s.board ∧ t.pool = s.pool ∧ t.fault = s.fault)) ∧
  (∀ (s : State) (c : Collection) (cmd : Instr) (case : Nat), s.participation = .full → s.ctl.state = .syncing →
     s.ctl.collection = some c → s.port.tx < 31 → s.port.rx < 31 →
     ((case = 1 ∧ ((∃ x, cmd = .frameVetoed x) ∨ (cmd = .runIdleEnd ∧ s.port.run.isSome = true) ∨
         (∃ h f, frameOf cmd = some (h, f) ∧ h.sender ≠ c.responder ∧
           (s.board.replica = none ∨ ∃ page, f = .renew page) ∧
           (∀ rs i p l m b n, f ≠ .snapHead s.straps.station rs i p l m b n) ∧
           (h.sender = s.straps.station → ∀ station, f = .leave station →
             s.pool = [] ∧ s.fault.phase = .clear ∧ s.fault.haltStep = false ∧ s.fault.awaited = [])) ∨
         ∃ h f, frameOf cmd = some (h, f) ∧ h.sender = c.responder ∧ c.responder ≠ s.straps.station ∧
           s.roster.identity = some c.identity ∧ ¬ s.unexpectedAt c f ∧ ¬ c.lastIs f ∧
           (h.hold = false ∨ ∃ r, s.port.run = some r ∧ 255 ≤ r.count))) ∨
      (case = 2 ∧ c.responder ≠ s.straps.station ∧ ∃ h f, frameOf cmd = some (h, f) ∧ h.sender = c.responder ∧
         s.unexpectedAt c f ∧
         (s.board.replica = none ∨ (∃ page, f = .renew page) ∨ (∃ rq k es, f = .snapPages rq k es) ∨
           (∃ rq k b, f = .snapAmend rq k b) ∨ ∃ rq rs i p l m b n, f = .snapHead rq rs i p l m b n))) →
     ∃ t, exec cmd s = .next t ∧ t.ctl.collection = none ∧ t.ctl.abandoned = min (s.ctl.abandoned + 1) 3 ∧
       t.roster = s.roster ∧ t.pool = s.pool ∧ t.lane = s.lane ∧
       (s.ctl.abandoned < 2 → t.ctl.state = .syncing ∧ t.ctl.syncTimer = some (2 * s.leaseMs) ∧
         t.fault = s.fault ∧ t.hasAsk = true) ∧
       (2 ≤ s.ctl.abandoned → t.ctl.state = .halted ∧ t.ctl.syncTimer = none ∧
         (s.fault.phase = .clear → t.fault.record = some (s.fault.first .syncFailed none none none case))) ∧
       (case = 2 → t.port.ignores = true)) ∧
  (∀ (s : State) (h : FrameHdr) (c : Collection) (k rs : Nat) (identity : Id32) (pages last : Nat)
     (present : StationSet) (states n : Nat), s.participation = .full → s.ctl.state = .syncing →
     s.board.replica = none → s.ctl.collection = some c → h.sender ≠ c.responder →
     s.port.run = some { holder := c.responder, count := k } →
     let unexpected : Prop := rs ≠ h.sender ∨ 16 ≤ states ∨ 64 < n
     ∃ t, exec (.snapHead h s.straps.station rs identity pages last present states n) s = .next t ∧
       t.ctl.collection = none ∧ t.roster = s.roster ∧ t.lane = s.lane ∧
       (unexpected ∨ (s.roster.identity = some identity ∧ (1 ≤ pages ∨ 1 ≤ n)) →
         t.ctl.abandoned = min (s.ctl.abandoned + 2) 3 ∧ t.pool = s.pool ∧
         (s.ctl.abandoned = 0 → t.ctl.state = .syncing ∧ t.ctl.syncTimer = some (2 * s.leaseMs) ∧
           t.fault = s.fault ∧ t.hasAsk = true) ∧
         (1 ≤ s.ctl.abandoned → t.ctl.state = .halted ∧ t.ctl.syncTimer = none) ∧
         (s.fault.phase = .clear →
           (s.ctl.abandoned = 1 → unexpected →
             t.fault.record = some (s.fault.first .syncFailed none none none 2)) ∧
           (2 ≤ s.ctl.abandoned ∨ (s.ctl.abandoned = 1 ∧ ¬ unexpected) →
             t.fault.record = some (s.fault.first .syncFailed none none none 1)))) ∧
       (¬ unexpected → s.roster.identity ≠ some identity →
         t.ctl.abandoned = min (s.ctl.abandoned + 1) 3 ∧ t.pool = s.pool ∧ t.ctl.state = .halted ∧
         (s.fault.phase = .clear →
           (s.ctl.abandoned < 2 → t.fault.record = some (s.fault.first .planMismatch none none none 1)) ∧
           (2 ≤ s.ctl.abandoned → t.fault.record = some (s.fault.first .syncFailed none none none 1))))) ∧
  ((∀ (s : State) (h : FrameHdr) (k : Nat) (c : Instr), s.participation = .full → s.ctl.state = .syncing →
      s.ctl.collection = none → s.port.ignores = true → s.port.run = some { holder := h.sender, count := k } →
      h.sender ≠ s.straps.station →
      ((∃ rq rs i p l m b n, c = .snapHead h rq rs i p l m b n) ∨ (∃ rq i es, c = .snapPages h rq i es) ∨
       (∃ rq i b, c = .snapAmend h rq i b)) →
      ∃ t, exec c s = .next t ∧ t.ctl = s.ctl ∧ t.hasAsk = s.hasAsk ∧ t.board = s.board ∧ t.pool = s.pool ∧
        t.roster = s.roster ∧ t.fault = s.fault ∧ t.lane = s.lane ∧ t.port.ignores = true) ∧
   (∀ (s : State) (h : FrameHdr) (page : Nat), s.hears → s.port.run = none →
      ∃ t, exec (.renew h page) s = .next t ∧ t.port.ignores = false))

/-- R154, R155: a complete run of this plan at the roster's edition, with no amendment record, is installed as its last
frame is applied: the replica is HELD with the entries and the present set of the run, timers run for the pages
that other stations hold, the Amendment Store is empty, and JOIN is offered.

R152, R154, R155: the same at the last SNAP_AMEND, when each OPEN batch holds a record: the Amendment Store takes the records
batch by batch, each batch in the order of the run.

R154: a complete run that is not installed, at its head (another plan), at its last SNAP_PAGES or at its last SNAP_AMEND: of another
plan, page count or an older edition it raises PLAN_MISMATCH with detail 1, 2 or 3 and halts the station; of a newer edition it
sends PLAN_ASK with that edition and takes the station to PLAN_LOAD, or after three re-asks raises EDITION_BEHIND. -/
def Obligations.CompleteRunIsInstalled : Prop :=
  (∀ (s : State) (h : FrameHdr) (c : Collection) (es : List Entry), s.participation = .full →
     s.ctl.state = .syncing → s.ctl.collection = some c → h.sender = c.responder →
     h.sender ≠ s.straps.station → s.roster.identity = some c.identity → c.pages = s.roster.pageCount →
     c.lastLaunched = s.roster.editionRead → c.records = 0 → c.amendFrames = 0 → c.kept = [] →
     c.batchStates = 0 → (∀ e ∈ es, readEntries e.bytes = some [e]) →
     es.length = min 8 (c.pages - 8 * c.pageFrames) → c.pageFrames + 1 = (c.pages + 7) / 8 →
     s.port.queue.length < 16 → s.port.silent = false →
     ∃ t, exec (.snapPages h s.straps.station c.pageFrames (es.flatMap Entry.bytes)) s = .next t ∧
       (∃ r, t.board.replica = some r ∧ r.entries = c.entries ++ es ∧ r.present = c.present) ∧
       t.board.lastLaunched = c.lastLaunched ∧ t.pool = [] ∧ t.ctl.collection = none ∧
       t.ctl.syncTimer = none ∧ t.ctl.state = .syncing ∧
       t.board.leases = (c.entries ++ es).map (fun e => match e.status with
         | .claimed holder => if holder = s.straps.station then none else some .running
         | _ => none) ∧
       (∃ x ∈ t.port.queue, x.body = .frame (.join s.straps.station c.identity))) ∧
  (∀ (s : State) (h : FrameHdr) (c : Collection) (b : AmendBody) (p : Payload), s.participation = .full →
     s.ctl.state = .syncing → s.ctl.collection = some c → h.sender = c.responder →
     h.sender ≠ s.straps.station → s.roster.identity = some c.identity → c.pages = s.roster.pageCount →
     c.lastLaunched = s.roster.editionRead → readPayload b.kind b.payload = some p →
     c.pageFrames = (c.pages + 7) / 8 → c.amendFrames + 1 = c.records → b.batch < 4 →
     c.batchStates.testBit b.batch = true →
     (∀ a ∈ c.kept, ¬ (a.batch = b.batch ∧ a.subject = b.subject ∧ a.payload.kind = p.kind)) →
     let kept := c.kept ++ [{ batch := b.batch, subject := b.subject, payload := p }]
     (∀ k, k < 4 → c.batchStates.testBit k = true → ∃ a ∈ kept, a.batch = k) →
     s.port.queue.length < 16 →
     ∃ t, exec (.snapAmend h s.straps.station c.amendFrames b) s = .next t ∧
       (∃ r, t.board.replica = some r ∧ r.entries = c.entries ∧ r.present = c.present) ∧
       t.board.lastLaunched = c.lastLaunched ∧
       t.pool = batchOf kept 0 ++ batchOf kept 1 ++ batchOf kept 2 ++ batchOf kept 3 ∧
       t.ctl.collection = none ∧ t.ctl.syncTimer = none ∧ t.ctl.state = .syncing ∧
       t.board.leases = c.entries.map (fun e => match e.status with
         | .claimed holder => if holder = s.straps.station then none else some .running
         | _ => none) ∧
       (∃ x ∈ t.port.queue, x.body = .frame (.join s.straps.station c.identity))) ∧
  ((∀ (s : State) (h : FrameHdr) (identity : Id32) (pages last : Nat) (present : StationSet) (states n : Nat),
      s.hears → s.ctl.state = .syncing → s.board.replica = none → h.sender ≠ s.straps.station →
      s.roster.identity ≠ some identity → states < 16 → n ≤ 64 → s.fault.phase = .clear →
      (s.port.run = none ∨ s.port.ignores = false) →
      ∃ t, exec (.snapHead h s.straps.station h.sender identity pages last present states n) s = .next t ∧
        t.ctl.collection = none ∧ t.ctl.state = .halted ∧ t.board.replica = none ∧
        t.fault.record = some (s.fault.first .planMismatch none none none 1)) ∧
   (∀ (s : State) (h : FrameHdr) (c : Collection) (es : List Entry), s.participation = .full →
      s.ctl.state = .syncing → s.board.replica = none → s.ctl.collection = some c → h.sender = c.responder →
      h.sender ≠ s.straps.station → s.roster.identity = some c.identity → c.records = 0 → c.amendFrames = 0 →
      c.batchStates = 0 → (∀ e ∈ es, readEntries e.bytes = some [e]) →
      es.length = min 8 (c.pages - 8 * c.pageFrames) → c.pageFrames + 1 = (c.pages + 7) / 8 →
      ∃ t, exec (.snapPages h s.straps.station c.pageFrames (es.flatMap Entry.bytes)) s = .next t ∧
        s.turnsDown c t) ∧
   (∀ (s : State) (h : FrameHdr) (c : Collection) (b : AmendBody) (p : Payload), s.participation = .full →
      s.ctl.state = .syncing → s.board.replica = none → s.ctl.collection = some c → h.sender = c.responder →
      h.sender ≠ s.straps.station → s.roster.identity = some c.identity → readPayload b.kind b.payload = some p →
      c.pageFrames = (c.pages + 7) / 8 → c.amendFrames + 1 = c.records → b.batch < 4 →
      c.batchStates.testBit b.batch = true →
      (∀ a ∈ c.kept, ¬ (a.batch = b.batch ∧ a.subject = b.subject ∧ a.payload.kind = p.kind)) →
      ¬ c.unmet (c.kept ++ [{ batch := b.batch, subject := b.subject, payload := p }]) →
      ∃ t, exec (.snapAmend h s.straps.station c.amendFrames b) s = .next t ∧ s.turnsDown c t))

/-! ## The Page Board and the Claim Unit (R21 to R48) -/

/-- R25: CLAIM is taken when the page is OPEN, the claimant is the sender and the sender is present: the entry is
CLAIMED by the sender with mark 0; another station starts its lease timer, the holder adds the page to the tail
of its work list. A void CLAIM changes no entry.

R41: a station's own CLAIM that is taken while ENGINE_OFFLINE is asserted or the fault is HELD is released
at once: RELEASE of the page is queued.

R25, R41, R162: a station's own CLAIM that is taken in RECOVERING is released at once and its page joins the awaited set; the
pending-claim flag is clear.

R25, R39: a station's own CLAIM that is void clears the pending-claim flag, and the claiming condition is evaluated: with it and a
free place CLAIM is queued for the candidate, without it the flag stays clear. -/
def Obligations.ClaimFrameTakesAnOpenPage : Prop :=
  (∀ (s : State) (h : FrameHdr) (page claimant : Nat) (r : Replica) (e : Entry), s.hears →
     s.board.replica = some r → r.entries[page]? = some e →
     let taken := e.status = .opened ∧ claimant = h.sender ∧ r.present.getLsbD h.sender = true
     ∃ t r', exec (.claim h page claimant) s = .next t ∧ t.board.replica = some r' ∧
       r'.present = r.present ∧ t.board.lastLaunched = s.board.lastLaunched ∧
       (∀ q, q ≠ page → r'.entries[q]? = r.entries[q]? ∧ t.board.leases[q]? = s.board.leases[q]?) ∧
       (taken → r'.entries[page]? = some { e with status := .claimed h.sender, mark := 0 } ∧
         (page < s.board.leases.length → t.board.leases[page]? =
           some (if h.sender = s.straps.station then none else some .running))) ∧
       (¬ taken → r'.entries[page]? = some e ∧ t.board.leases[page]? = s.board.leases[page]?) ∧
       (taken ∧ h.sender = s.straps.station → t.claims.work = s.claims.work ++
         [{ page := page, phase := .queued, spoils := 0, edition := none, notices := none }]) ∧
       (¬ (taken ∧ h.sender = s.straps.station) → t.claims.work = s.claims.work ∧ t.fetch = s.fetch ∧
         t.fault = s.fault) ∧
       t.pending = s.pending ∧ t.straps = s.straps ∧ t.setup = s.setup ∧ t.roster = s.roster ∧
       t.ctl = s.ctl ∧ t.pool = s.pool ∧ t.launch = s.launch ∧ t.comp = s.comp ∧ t.tiles = s.tiles ∧
       t.lane = s.lane) ∧
  (∀ (s : State) (h : FrameHdr) (page : Nat) (r : Replica) (e : Entry), s.hears →
     s.board.replica = some r → r.entries[page]? = some e → e.status = .opened →
     r.present.getLsbD h.sender = true → h.sender = s.straps.station →
     s.fault.phase = .held ∨ (s.fault.phase = .clear ∧ s.lane.offline = true) →
     s.claims.waiting = [] → s.port.queue.length < 16 → (∀ x ∈ s.port.queue, x.body.closes page = false) →
     ∃ t, exec (.claim h page h.sender) s = .next t ∧
       (∃ x ∈ t.port.queue, x.body = .frame (.release page) ∧ x.onBus = false) ∧
       (∃ w ∈ t.claims.work, w.page = page) ∧ t.fault.awaited = s.fault.awaited) ∧
  (∀ (s : State) (h : FrameHdr) (page : Nat) (r : Replica) (e : Entry), s.hears → s.board.replica = some r →
     r.entries[page]? = some e → e.status = .opened → r.present.getLsbD h.sender = true →
     h.sender = s.straps.station → s.fault.phase = .recovering →
     ∃ t, exec (.claim h page h.sender) s = .next t ∧ t.closing page = true ∧
       (s.closing page = false → t.asked (.release page)) ∧
       t.fault = { s.fault with awaited :=
         if page ∈ s.fault.awaited then s.fault.awaited else s.fault.awaited ++ [page] } ∧
       t.claims.work = s.claims.work ++
         [{ page := page, phase := .queued, spoils := 0, edition := none, notices := none }] ∧
       t.claims.pending = none) ∧
  (∀ (s : State) (h : FrameHdr) (page claimant : Nat) (r : Replica), s.hears → s.board.replica = some r →
     h.sender = s.straps.station →
     (∀ e, r.entries[page]? = some e →
       ¬ (e.status = .opened ∧ claimant = h.sender ∧ r.present.getLsbD h.sender = true)) →
     let holds := s.ctl.state = .active ∧ s.fault.phase = .clear ∧ s.lane.offline = false ∧
       s.claims.work.length < s.claimDepth
     ∃ t, exec (.claim h page claimant) s = .next t ∧ t.claims.work = s.claims.work ∧
       (¬ holds ∨ candidate r.entries s.lane.sheets = none → t.claims.pending = none) ∧
       (∀ q, holds → candidate r.entries s.lane.sheets = some q → s.ctl.waiting = [] → s.claims.waiting = [] →
         firstExpired s.board.leases = none → s.port.queue.length < 16 → t.claims.pending = some q ∧
           ∃ x ∈ t.port.queue, x.onBus = false ∧ x.body = .frame (.claim q s.straps.station)))

/-- R26, R33: RENEW from the holder raises the mark by 1, wrapping at 255, and restarts the lease timer of every
other station; any other RENEW changes nothing of the board.

R22, R23, R25 to R30: a board frame for a page that the sender's claim does not cover, or beyond the plan,
changes no entry and no lease timer of the replica; with the replica ABSENT board frames are ignored. -/
def Obligations.RenewRaisesTheMark : Prop :=
  (∀ (s : State) (h : FrameHdr) (page : Nat) (r : Replica) (e : Entry), s.hears →
     s.board.replica = some r → r.entries[page]? = some e → ∃ t r', exec (.renew h page) s = .next t ∧
       t = { s with board := t.board, port := t.port, link := t.link,
                    claims := { s.claims with pending := t.claims.pending } } ∧
       t.board.replica = some r' ∧ r'.present = r.present ∧ t.board.lastLaunched = s.board.lastLaunched ∧
       (∀ q, q ≠ page → r'.entries[q]? = r.entries[q]? ∧ t.board.leases[q]? = s.board.leases[q]?) ∧
       (e.status = .claimed h.sender → r'.entries[page]? = some { e with mark := (e.mark + 1) % 256 } ∧
         (page < s.board.leases.length → t.board.leases[page]? =
           some (if h.sender = s.straps.station then none else some .running))) ∧
       (e.status ≠ .claimed h.sender → r'.entries[page]? = some e ∧
         t.board.leases[page]? = s.board.leases[page]?)) ∧
  (∀ (s t : State) (c : Instr) (h : FrameHdr) (page : Nat), s.hears → exec c s = .next t →
     (c = .renew h page ∨ c = .release h page ∨ (∃ n, c = .done h page n) ∨ (∃ n, c = .fail h page n) ∨
       (∃ n, c = .claim h page n)) →
     (s.board.replica = none → t.board = s.board) ∧
     (∀ r, s.board.replica = some r →
       ((∀ n, c ≠ .claim h page n) → ∀ e, r.entries[page]? = some e → e.status ≠ .claimed h.sender) →
       ((∃ n, c = .claim h page n) → r.entries[page]? = none) →
       t.board.leases = s.board.leases ∧ ∃ r', t.board.replica = some r' ∧ r'.entries = r.entries ∧
         r'.present = r.present))

/-- R27, R33: LAPSE is taken when the page is CLAIMED by the named holder with the named mark, whoever sends it:
the lapse count rises by 1 and the page is OPEN, or at 3 FAILED with cause LAPSED and the holder kept; its lease
timer goes. At any station but the named holder nothing else changes.

R27, R161: the named holder loses the page from its work list, and with the phase CLEAR the CLAIM_LOST it
raises is recorded with the page and the phase its entry stood in; with the phase HELD it is a follow-on.

R27: the named holder raises CLAIM_LOST also where the page is in no entry of its work list, which stays outside RECOVERING; no rule states the detail of
that one, and it is a free value of which only the width is known (log 14). -/
def Obligations.LapseOpensOrFailsThePage : Prop :=
  (∀ (s : State) (h : FrameHdr) (page holder mark : Nat) (r : Replica) (e : Entry), s.hears →
     s.board.replica = some r → r.entries[page]? = some e →
     let taken := e.status = .claimed holder ∧ e.mark = mark
     ∃ t r', exec (.lapse h page holder mark) s = .next t ∧ t.board.replica = some r' ∧
       r'.present = r.present ∧
       (∀ q, q ≠ page → r'.entries[q]? = r.entries[q]? ∧ t.board.leases[q]? = s.board.leases[q]?) ∧
       (taken → (page < s.board.leases.length → t.board.leases[page]? = some none) ∧
         r'.entries[page]? = some { e with
           lapses := e.lapses + 1,
           status := if e.lapses + 1 < 3 then .opened else .failed holder .lapsed }) ∧
       (¬ taken → r'.entries[page]? = some e) ∧
       (¬ taken ∨ holder ≠ s.straps.station →
         t = { s with board := t.board, port := t.port, link := t.link,
                      claims := { s.claims with pending := t.claims.pending } })) ∧
  (∀ (s : State) (h : FrameHdr) (page mark : Nat) (r : Replica) (e : Entry) (before after : List WorkEntry)
     (w : WorkEntry), s.hears → s.board.replica = some r → r.entries[page]? = some e →
     e.status = .claimed s.straps.station → e.mark = mark → s.claims.work = before ++ w :: after →
     w.page = page → (∀ x ∈ before ++ after, x.page ≠ page) →
     ∃ t, exec (.lapse h page s.straps.station mark) s = .next t ∧
       (s.fault.phase ≠ .recovering → t.claims.work = before ++ after) ∧
       (s.fault.phase = .clear → ∃ x, t.fault.record = some x ∧ x.serial = s.fault.serial ∧
         x.cause = .claimLost ∧ x.page = some page ∧ x.cell = none ∧ x.followOn = 0 ∧
         x.detail = (match w.phase with | .queued => 1 | .composing => 2 | .inEngine => 3)) ∧
       (s.fault.phase ≠ .clear →
         t.fault.record = s.fault.counted) ∧
       (∀ x, s.comp.held = some x → x.page = page → s.lane.inFlight = none → t.comp.cut = true)) ∧
  (∀ (s : State) (h : FrameHdr) (page mark : Nat) (r : Replica) (e : Entry), s.hears →
     s.board.replica = some r → r.entries[page]? = some e → e.status = .claimed s.straps.station →
     e.mark = mark → (∀ w ∈ s.claims.work, w.page ≠ page) →
     ∃ t, exec (.lapse h page s.straps.station mark) s = .next t ∧
       (s.fault.phase ≠ .recovering → t.claims.work = s.claims.work) ∧
       (s.fault.phase = .clear → ∃ x, t.fault.record = some x ∧ x.serial = s.fault.serial ∧
         x.cause = .claimLost ∧ x.page = some page ∧ x.cell = none ∧ x.followOn = 0 ∧ x.detail < 65536) ∧
       (s.fault.phase ≠ .clear → t.fault.record = s.fault.counted))

/-- R28, R48: DONE from the holder makes the page PRINTED at its edition when that is not below the need edition,
else OPEN. At the sender, outside RECOVERING, the page leaves the work list and PAGE_REPORT goes upstream: PRINTED
or REOPENED_STALE with the entry's notice counts, or LOST for a void DONE, which leaves the work list as it was. That it goes
before a VOLUME_REPORT of the same step is the model's choice (log 10).

R37: after another station's DONE the complete flag says whether every page is PRINTED or FAILED; as it passes from clear to
set, one VOLUME_REPORT with the board's counts goes upstream and counts; otherwise none does. -/
def Obligations.DonePrintsOrReopensThePage : Prop :=
  (∀ (s : State) (h : FrameHdr) (page edition : Nat) (r : Replica) (e : Entry), s.hears →
     s.board.replica = some r → r.entries[page]? = some e →
     ∃ t r', exec (.done h page edition) s = .next t ∧ t.board.replica = some r' ∧ r'.present = r.present ∧
       (∀ q, q ≠ page → r'.entries[q]? = r.entries[q]? ∧ t.board.leases[q]? = s.board.leases[q]?) ∧
       (e.status = .claimed h.sender → (page < s.board.leases.length → t.board.leases[page]? = some none) ∧
         r'.entries[page]? = some { e with
           status := if e.need ≤ edition then .printed h.sender edition else .opened }) ∧
       (e.status ≠ .claimed h.sender → r'.entries[page]? = some e) ∧
       (h.sender ≠ s.straps.station → t = { s with
         board := t.board, port := t.port, link := t.link,
         claims := { s.claims with pending := t.claims.pending } }) ∧
       (h.sender = s.straps.station → s.fault.phase ≠ .recovering → s.link.outbound.length < 64 →
         (e.status = .claimed h.sender → t.claims.work = s.claims.work.filter (fun x => decide (x.page ≠ page))) ∧
         (e.status ≠ .claimed h.sender → t.claims.work = s.claims.work) ∧
         ∃ more, t.link.outbound = s.link.outbound ++ ⟨s.straps.station, .pageReport page (some edition)
           (if e.status ≠ .claimed h.sender then .lost
             else if e.need ≤ edition then .printed else .reopenedStale)
           (if e.status ≠ .claimed h.sender then none else s.noticesOf page)⟩ :: more)) ∧
  (∀ (s : State) (h : FrameHdr) (page edition : Nat) (r : Replica) (e : Entry), s.hears →
     s.board.replica = some r → r.entries[page]? = some e → h.sender ≠ s.straps.station →
     ∃ t r', exec (.done h page edition) s = .next t ∧ t.board.replica = some r' ∧
       (r'.complete = true ↔
         ∀ x ∈ r'.entries, (∃ st n, x.status = .printed st n) ∨ ∃ st k, x.status = .failed st k) ∧
       (r.complete = false → r'.complete = true →
         let failed (k : FailCause) : Nat := (r'.entries.filter (fun x => decide (x.status.failCause = some k))).length
         let n := min (s.board.completions + 1) 255
         t.board.completions = n ∧ t.link = s.link.handed ⟨s.straps.station, .volumeReport {
           identity := s.roster.identity, pages := r'.entries.length,
           printed := (r'.entries.filter (fun x => x.status.printedEdition.isSome)).length,
           lapsed := failed .lapsed, spoiled := failed .spoiled, unfetchable := failed .unfetchable,
           lastLaunched := s.board.lastLaunched, reprints := (r'.entries.map (fun x => x.reprints)).sum,
           completions := n }⟩) ∧
       (¬ (r.complete = false ∧ r'.complete = true) →
         t.board.completions = s.board.completions ∧ t.link = s.link))

/-- R29, R30, R48: RELEASE from the holder opens the page and stops its timer; FAIL from the holder with cause SPOILED
or UNFETCHABLE makes it FAILED with that cause; any other cause, and any other sender, changes no entry. At the
sender, outside RECOVERING, a taken one takes the page off the work list; the FAIL is reported, before a VOLUME_REPORT of the
same step by the model's choice (log 10), and the RELEASE is not. -/
def Obligations.ReleaseOpensAndFailFailsThePage : Prop :=
  ∀ (s : State) (h : FrameHdr) (page : Nat) (r : Replica) (e : Entry), s.hears →
    s.board.replica = some r → r.entries[page]? = some e →
    (∃ t r', exec (.release h page) s = .next t ∧ t.board.replica = some r' ∧ r'.present = r.present ∧
      (∀ q, q ≠ page → r'.entries[q]? = r.entries[q]? ∧ t.board.leases[q]? = s.board.leases[q]?) ∧
      (e.status = .claimed h.sender → r'.entries[page]? = some { e with status := .opened } ∧
        (page < s.board.leases.length → t.board.leases[page]? = some none) ∧
        (s.fault.phase ≠ .recovering → t.link = s.link)) ∧
      (e.status ≠ .claimed h.sender → r'.entries[page]? = some e) ∧
      (h.sender ≠ s.straps.station → t = { s with
        board := t.board, port := t.port, link := t.link,
        claims := { s.claims with pending := t.claims.pending } }) ∧
      (h.sender = s.straps.station → s.fault.phase ≠ .recovering → t.claims.work =
        (if e.status = .claimed h.sender then s.claims.work.filter (fun x => decide (x.page ≠ page))
         else s.claims.work))) ∧
    (∀ cause, ∃ t r', exec (.fail h page cause) s = .next t ∧ t.board.replica = some r' ∧
      r'.present = r.present ∧
      (∀ q, q ≠ page → r'.entries[q]? = r.entries[q]? ∧ t.board.leases[q]? = s.board.leases[q]?) ∧
      (e.status = .claimed h.sender → cause = 2 ∨ cause = 3 →
        page < s.board.leases.length → t.board.leases[page]? = some none) ∧
      (e.status = .claimed h.sender → cause = 2 → r'.entries[page]? = some { e with status := .failed h.sender .spoiled }) ∧
      (e.status = .claimed h.sender → cause = 3 → r'.entries[page]? = some { e with status := .failed h.sender .unfetchable }) ∧
      (e.status ≠ .claimed h.sender ∨ (cause ≠ 2 ∧ cause ≠ 3) → r'.entries[page]? = some e) ∧
      (h.sender ≠ s.straps.station → t = { s with
        board := t.board, port := t.port, link := t.link,
        claims := { s.claims with pending := t.claims.pending } }) ∧
      (h.sender = s.straps.station → s.fault.phase ≠ .recovering →
        (e.status ≠ .claimed h.sender ∨ (cause ≠ 2 ∧ cause ≠ 3) → t.claims.work = s.claims.work) ∧
        (e.status = .claimed h.sender → cause = 2 ∨ cause = 3 → s.link.outbound.length < 64 →
          t.claims.work = s.claims.work.filter (fun x => decide (x.page ≠ page)) ∧
          ∃ more, t.link.outbound = s.link.outbound ++
            ⟨s.straps.station, .pageReport page (s.editionUsed page) .failed (s.noticesOf page)⟩ :: more)))

/-- R31, R32, R157: JOIN with the sender's number and this plan's identity sets the sender's flag, LEAVE clears
it, and either opens every page CLAIMED by the sender with its lapse count unchanged; a JOIN of another plan, and
either with a number that is not the sender's, changes nothing of the board.

R149: a SYNCING station that has no replica and collects nothing restarts its timer at 2L when it applies another station's
JOIN of its own plan, and offers ASK again unless one is queued or waiting. -/
def Obligations.JoinAndLeaveOpenTheSendersClaims : Prop :=
  (∀ (s : State) (h : FrameHdr) (r : Replica), s.hears → s.board.replica = some r → h.sender < 16 →
     h.sender ≠ s.straps.station →
     (∀ identity, s.ctl.state ≠ .syncing → ∃ t r', exec (.join h h.sender identity) s = .next t ∧
       t = { s with board := t.board, port := t.port, link := t.link,
                    claims := { s.claims with pending := t.claims.pending } } ∧
       t.board.replica = some r' ∧
       (s.roster.identity = some identity → r'.isPresent h.sender = true ∧
         (∀ q, q ≠ h.sender → r'.isPresent q = r.isPresent q) ∧
         r'.entries = r.entries.map (fun e => if e.status = .claimed h.sender then { e with status := .opened } else e) ∧
         ∀ p e, r.entries[p]? = some e → p < s.board.leases.length →
           t.board.leases[p]? = if e.status = .claimed h.sender then some none else s.board.leases[p]?) ∧
       (s.roster.identity ≠ some identity →
         r'.present = r.present ∧ r'.entries = r.entries ∧ t.board.leases = s.board.leases)) ∧
     (∃ t r', exec (.leave h h.sender) s = .next t ∧
       t = { s with board := t.board, port := t.port, link := t.link,
                    claims := { s.claims with pending := t.claims.pending } } ∧
       t.board.replica = some r' ∧ (∀ q, q ≠ h.sender → r'.isPresent q = r.isPresent q) ∧
       r'.isPresent h.sender = false ∧
       (r.isPresent h.sender = true →
         r'.entries = r.entries.map (fun e => if e.status = .claimed h.sender then { e with status := .opened } else e) ∧
         ∀ p e, r.entries[p]? = some e → p < s.board.leases.length →
           t.board.leases[p]? = if e.status = .claimed h.sender then some none else s.board.leases[p]?) ∧
       (r.isPresent h.sender = false → r'.entries = r.entries ∧ t.board.leases = s.board.leases)) ∧
     (∀ st identity, st ≠ h.sender → s.ctl.state ≠ .syncing →
       (∃ t r', exec (.join h st identity) s = .next t ∧ t.board.replica = some r' ∧
         r'.present = r.present ∧ r'.entries = r.entries) ∧
       (∃ t r', exec (.leave h st) s = .next t ∧ t.board.replica = some r' ∧
         r'.present = r.present ∧ r'.entries = r.entries))) ∧
  (∀ (s : State) (h : FrameHdr) (station : Nat) (identity : Id32), s.hears → s.ctl.state = .syncing →
     s.board.replica = none → h.sender ≠ s.straps.station → ∃ t, exec (.join h station identity) s = .next t ∧
       t = { s with ctl := { s.ctl with syncTimer := t.ctl.syncTimer, waiting := t.ctl.waiting }, port := t.port,
                    claims := { s.claims with pending := t.claims.pending } } ∧
       (s.roster.identity = some identity → t.ctl.syncTimer = some (2 * s.leaseMs) ∧
         (s.hasAsk = false → s.port.queue.length < 16 → t.ctl.waiting = s.ctl.waiting ∧
           ∃ x ∈ t.port.queue, x.onBus = false ∧ x.body = .frame (.ask identity)) ∧
         (s.hasAsk = false → 16 ≤ s.port.queue.length → t.hasAsk = true)) ∧
       (s.roster.identity ≠ some identity ∨ s.hasAsk = true → t.ctl.waiting = s.ctl.waiting) ∧
       (s.roster.identity ≠ some identity → t.ctl.syncTimer = s.ctl.syncTimer))

/-- R31, R157, R32, R49: the station's own JOIN, taken in SYNCING, makes it ACTIVE. Its own LEAVE, outside RECOVERING,
makes the replica ABSENT, empties the Amendment Store, and drops the work list with its closing frames.

R64, R65: a relayed frame still queued as the station's own LEAVE makes the replica ABSENT is withdrawn, the slot is EMPTY and
a RELAY_RESULT UNSENT with the request's fields goes upstream; that it goes before the LOST reports and the FAULT_REPORT that the
same LEAVE may send in RECOVERING is the model's choice (log 10). -/
def Obligations.OwnJoinActivatesAndOwnLeaveDrops : Prop :=
  (∀ (s : State) (hold : Bool) (began : FrameBegan), s.hears →
     (∀ r identity, s.board.replica = some r → s.roster.identity = some identity → s.ctl.state = .syncing →
       ∃ t r', exec (.join ⟨s.straps.station, hold, began⟩ s.straps.station identity) s = .next t ∧
         t.ctl.state = .active ∧ t.ctl.reask = 0 ∧ t.ctl.volumeSeen = true ∧ t.board.replica = some r' ∧
         r'.entries = r.entries.map (fun e =>
           if e.status = .claimed s.straps.station then { e with status := .opened } else e) ∧
         t.roster = s.roster ∧ t.pool = s.pool ∧ t.claims.work = s.claims.work ∧ t.lane = s.lane) ∧
     (∀ st, s.fault.phase ≠ .recovering →
       ∃ t, exec (.leave ⟨s.straps.station, hold, began⟩ st) s = .next t ∧ t.board.replica = none ∧
         t.board.leases = [] ∧ t.board.lastLaunched = s.board.lastLaunched ∧ t.pool = [] ∧
         t.claims.work = [] ∧ t.claims.waiting = [] ∧ t.fault.awaited = [] ∧ t.fetch.prefetch = [] ∧
         t.link.relay = none ∧ (∀ x ∈ t.port.queue, x.onBus = false → x.body.isClosing = false) ∧
         t.ctl.state = s.ctl.state ∧ t.roster = s.roster ∧ t.lane = s.lane)) ∧
  (∀ (s : State) (hold : Bool) (began : FrameBegan) (st : Nat) (f : Frame), s.hears → s.link.relay = some f →
     s.link.outbound.length < 64 →
     ∃ t x more, exec (.leave ⟨s.straps.station, hold, began⟩ st) s = .next t ∧ t.link.relay = none ∧
       (∀ y ∈ t.port.queue, y.onBus = false → y.body.isRelayed = false) ∧
       t.link.outbound = s.link.outbound ++ ⟨s.straps.station, .relayResult x⟩ :: more ∧
       (∀ b, f = .amend b → x =
         { request := .amend, batch := b.batch, subject := some b.subject, kind := some b.kind,
           verdict := .unsent, reason := none, replaced := none, edition := none, poolCount := none,
           batchStates := none }) ∧
       (∀ b, f = .launch b ∨ f = .drop b → x =
         { request := if f = .launch b then .launch else .drop, batch := b, subject := none, kind := none,
           verdict := .unsent, reason := none, replaced := none, edition := none, poolCount := none,
           batchStates := none }))

/-- R162, R167, R168: the recovery waits for its closing frames: when the station's own RELEASE of the last awaited
page is applied and no local step is open, the phase is HELD, the deferred list is empty and the first
FAULT_REPORT with repeat number 0 has been sent, with one page closed more (log 11), and the report timer started.

R162, R167: as a recovery ends, the deferred outcome is acted on before the report goes: a sheet with no IN_ENGINE entry is
reported LOST, a DELIVERED one of an entry the recovery kept asks for DONE, a first spoil returns it to QUEUED.

R32, R162, R166: the station's own LEAVE settles the halt and empties the awaited set: with no other local step open the
recovery ends in HELD with the first FAULT_REPORT, which goes last, after a RELAY_RESULT UNSENT, by the model's choice (log 10).

R168: each time the report timer runs out in HELD the FAULT_REPORT is sent again with a repeat number 1 higher,
saturating at 255, and the timer restarts at 1000 ms; in another phase nothing happens, by the model's choice (log 1). -/
def Obligations.RecoveryEndsAndItsFaultIsReportedAgain : Prop :=
  (∀ (s : State) (hold : Bool) (began : FrameBegan) (page : Nat) (r : Replica) (x : FaultRecord), s.hears →
     s.board.replica = some r → s.fault.phase = .recovering → s.fault.record = some x →
     s.fault.awaited = [page] → s.fault.cutStep = false → s.fault.flushStep = false →
     s.fault.haltStep = false → s.fault.deferred = [] → s.link.outbound.length ≤ 62 →
     ∃ t, exec (.release ⟨s.straps.station, hold, began⟩ page) s = .next t ∧ t.fault.phase = .held ∧
       t.fault.awaited = [] ∧ t.fault.deferred = [] ∧ t.fault.record = some x ∧ t.fault.repeats = 0 ∧
       t.fault.reportTimer = some 1000 ∧ ∃ q before, t.link.outbound = before ++ [⟨s.straps.station, .faultReport q⟩] ∧
         q.record = x ∧ q.state = s.ctl.state ∧ q.closed = s.fault.closed + 1 ∧ q.repeats = 0) ∧
  (∀ (s : State) (hold : Bool) (began : FrameBegan) (page : Nat) (r : Replica) (x : FaultRecord) (sh : Sheet) (o : EngineOutcome),
     s.hears → s.board.replica = some r → s.fault.phase = .recovering → s.fault.record = some x →
     s.fault.awaited = [page] → s.fault.cutStep = false → s.fault.flushStep = false →
     s.fault.haltStep = false → s.fault.deferred = [(sh, o)] → s.link.outbound.length ≤ 60 →
     ∃ t, exec (.release ⟨s.straps.station, hold, began⟩ page) s = .next t ∧ t.fault.phase = .held ∧
       t.fault.awaited = [] ∧ t.fault.deferred = [] ∧ t.fault.record = some x ∧
       (sh.cut = false → (∀ w ∈ s.claims.work, w.page = sh.page → w.phase ≠ .inEngine) →
         ∃ before q, t.link.outbound = before ++
           [⟨s.straps.station, .pageReport sh.page (some sh.edition) .lost none⟩,
            ⟨s.straps.station, .faultReport q⟩]) ∧
       (∀ w before after, sh.cut = false → s.claims.work = before ++ w :: after → w.page = sh.page →
         w.phase = .inEngine → sh.page ≠ page → (∀ y ∈ before ++ after, y.page ≠ sh.page) →
         (o = .delivered → s.closing sh.page = false → t.asked (.done sh.page (w.edition.getD 0))) ∧
         (o ≠ .delivered → w.spoils = 0 → ∃ rest, t.claims.work =
           { w with phase := .queued, spoils := 1, edition := none, notices := none } :: rest))) ∧
  (∀ (s : State) (hold : Bool) (began : FrameBegan) (st : Nat) (x : FaultRecord), s.hears → s.fault.phase = .recovering →
     s.fault.record = some x → ∃ t, exec (.leave ⟨s.straps.station, hold, began⟩ st) s = .next t ∧
       t.fault.awaited = [] ∧ t.fault.haltStep = false ∧ t.claims.work = [] ∧ t.board.replica = none ∧
       t.fault.record = some x ∧
       (s.fault.cutStep = true ∨ s.fault.flushStep = true → t.fault.phase = .recovering ∧
         t.fault.deferred = s.fault.deferred) ∧
       (s.fault.cutStep = false → s.fault.flushStep = false → t.fault.phase = .held ∧ t.fault.deferred = [] ∧
         t.fault.reportTimer = some 1000 ∧
         (s.link.outbound.length + s.fault.deferred.length ≤ 62 →
           ∃ before q, t.link.outbound = before ++ [⟨s.straps.station, .faultReport q⟩] ∧ q.record = x ∧
             q.state = s.ctl.state ∧ q.closed = s.fault.closed ∧ q.repeats = 0))) ∧
  (∀ (s : State) (x : FaultRecord),
     (s.fault.phase = .held → s.fault.reportTimer.isSome = true → s.fault.record = some x →
       exec .reportTimerExpiry s = .next { s with
         fault := { s.fault with reportTimer := some 1000, repeats := min (s.fault.repeats + 1) 255 },
         link := s.link.handed ⟨s.straps.station, .faultReport
           { record := x, state := s.ctl.state, closed := s.fault.closed, lost := s.fault.lost,
             repeats := min (s.fault.repeats + 1) 255 }⟩ }) ∧
     (s.fault.phase ≠ .held → exec .reportTimerExpiry s = .next s))

/-! ## The Amendment Store and the Launch Queue (R49 to R65) -/

/-- R50, R179: a body's bytes spell a payload exactly when they are that payload's bytes and keep its ranges. -/
def Obligations.PayloadBytesAreReadExactly : Prop :=
  ∀ (kind : Nat) (bs : List Byte) (p : Payload), readPayload kind bs = some p ↔
    p.kind = kind ∧ p.bytes = bs ∧
    (match p with
     | .retake _ c q => c.x0 ≤ 4095 ∧ c.y0 ≤ 4095 ∧ c.x1 ≤ 4096 ∧ c.y1 ≤ 4096 ∧ c.x0 < c.x1 ∧
         c.y0 < c.y1 ∧ q < 3
     | .caption l1 l2 => (1 ≤ l1.length ∧ l1.length ≤ 24 ∧ ∀ b ∈ l1, 0x20 ≤ b.toNat ∧ b.toNat ≤ 0xFE) ∧
         (∀ l, l2 = some l → 1 ≤ l.length ∧ l.length ≤ 24 ∧ ∀ b ∈ l, 0x20 ≤ b.toNat ∧ b.toNat ≤ 0xFE)
     | .withdraw => True
     | .restore => True)

/-- R51, R52, R65: an AMEND from any station is checked in order and void with the reason of the first failing
check, or it replaces the record of the same subject and kind in its place, or adds one at the tail of its
batch. Another batch keeps its records. The station whose relayed frame it is answers RELAY_RESULT.

R53: a DROP outside 0 to 3 is void with reason BAD_VALUE and of a FREE batch with reason EMPTY; of an OPEN
batch it removes the batch's records alone: the board, the editions and the Launch Queue are untouched. -/
def Obligations.AmendAndDropAreJudgedInOrder : Prop :=
  (∀ (s : State) (h : FrameHdr) (b : AmendBody) (r : Replica), s.hears → s.board.replica = some r →
     let same (x : Amendment) : Bool :=
       decide (x.batch = b.batch ∧ x.subject = b.subject ∧ x.payload.kind = b.kind)
     let why : Option Reason :=
       if 4 ≤ b.batch ∨ 4 ≤ b.kind then some .badValue
       else if s.roster.subjectCount ≤ b.subject then some .noSubject
       else if readPayload b.kind b.payload = none then some .badValue
       else if s.pool.any same = false ∧ 64 ≤ s.pool.length then some .storeFull else none
     ∃ t, exec (.amend h b) s = .next t ∧
       t = { s with pool := t.pool, port := t.port, link := t.link,
                    claims := { s.claims with pending := t.claims.pending } } ∧
       (why ≠ none → t.pool = s.pool) ∧ (∀ k, k ≠ b.batch → batchOf t.pool k = batchOf s.pool k) ∧
       (∀ p, why = none → readPayload b.kind b.payload = some p →
         (s.pool.any same = true → t.pool.length = s.pool.length ∧ batchOf t.pool b.batch =
           (batchOf s.pool b.batch).map (fun x => if same x then { x with payload := p } else x)) ∧
         (s.pool.any same = false → t.pool.length = s.pool.length + 1 ∧ batchOf t.pool b.batch =
           batchOf s.pool b.batch ++ [{ batch := b.batch, subject := b.subject, payload := p }])) ∧
       (h.sender = s.straps.station → s.link.relay.isSome = true → s.link.outbound.length < 64 →
         t.link.relay = none ∧ t.link.outbound = s.link.outbound ++ [⟨s.straps.station, .relayResult
           { request := .amend, batch := b.batch, subject := some b.subject, kind := some b.kind,
             verdict := if why = none then .taken else .void, reason := why,
             replaced := if why = none then some (s.pool.any same) else none, edition := none,
             poolCount := some t.pool.length, batchStates := some (batchStates t.pool) }⟩]) ∧
       (¬ (h.sender = s.straps.station ∧ s.link.relay.isSome = true) → t.link = s.link)) ∧
  (∀ (s : State) (h : FrameHdr) (b : Nat) (r : Replica), s.hears → s.board.replica = some r →
     ∃ t, exec (.drop h b) s = .next t ∧
       t = { s with pool := t.pool, port := t.port, link := t.link,
                    claims := { s.claims with pending := t.claims.pending } } ∧
       (4 ≤ b ∨ batchOf s.pool b = [] → t.pool = s.pool) ∧
       (b < 4 → batchOf s.pool b ≠ [] → batchOf t.pool b = [] ∧
         t.pool.length = s.pool.length - (batchOf s.pool b).length) ∧
       (∀ k, k ≠ b → batchOf t.pool k = batchOf s.pool k) ∧
       (h.sender = s.straps.station → s.link.relay.isSome = true → s.link.outbound.length < 64 →
         t.link.relay = none ∧ t.link.outbound = s.link.outbound ++ [⟨s.straps.station, .relayResult
           { request := .drop, batch := b, subject := none, kind := none,
             verdict := if 4 ≤ b ∨ batchOf s.pool b = [] then .void else .taken,
             reason := if 4 ≤ b then some .badValue else if batchOf s.pool b = [] then some .emptyBatch else none,
             replaced := none, edition := none, poolCount := some t.pool.length,
             batchStates := some (batchStates t.pool) }⟩]) ∧
       (¬ (h.sender = s.straps.station ∧ s.link.relay.isSome = true) → t.link = s.link))

/-- R37, R54, R55, R65: a LAUNCH outside 0 to 3, of a FREE batch or at last launched edition 65535 changes nothing of store
and board; a taken one raises the last launched edition by 1, frees the batch, and gives each touched page the
new edition as its need edition, reopening a PRINTED one with its reprint count up, saturating at 15; a board so
reopened is complete no more, and no report goes for it. The station whose relayed frame it is answers TAKEN with the
edition, or VOID with BAD_VALUE, EMPTY or EDITION_EXHAUSTED; where a board's flag lags behind its entries that answer goes
before a VOLUME_REPORT, by the model's choice (log 10). -/
def Obligations.LaunchRaisesTheTouchedPages : Prop :=
  ∀ (s : State) (h : FrameHdr) (b : Nat) (r : Replica), s.hears → s.board.replica = some r →
    let why : Option Reason :=
      if 4 ≤ b then some .badValue else if batchOf s.pool b = [] then some .emptyBatch
      else if s.board.lastLaunched = 65535 then some .editionExhausted else none
    ∃ t r', exec (.launch h b) s = .next t ∧ t.board.replica = some r' ∧ r'.present = r.present ∧
      t.board.leases = s.board.leases ∧ (∀ k, k ≠ b → batchOf t.pool k = batchOf s.pool k) ∧
      (why ≠ none → t.pool = s.pool ∧ t.board = s.board ∧ t.launch = s.launch ∧ t.roster = s.roster) ∧
      (why = none →
        t.board.lastLaunched = s.board.lastLaunched + 1 ∧ batchOf t.pool b = [] ∧
        r'.entries.length = r.entries.length ∧
        (r'.complete = true ↔
          ∀ x ∈ r'.entries, (∃ st n, x.status = .printed st n) ∨ ∃ st k, x.status = .failed st k) ∧
        (r.complete = true → t.board.completions = s.board.completions) ∧
        ∀ p e, r.entries[p]? = some e →
          (s.roster.touchedBy (batchOf s.pool b) p = false → r'.entries[p]? = some e) ∧
          (s.roster.touchedBy (batchOf s.pool b) p = true →
            r'.entries[p]? = some (match e.status with
              | .printed _ _ => { e with need := s.board.lastLaunched + 1, status := .opened,
                                         reprints := min (e.reprints + 1) 15 }
              | _ => { e with need := s.board.lastLaunched + 1 }))) ∧
      (h.sender = s.straps.station → s.link.relay.isSome = true → s.link.outbound.length < 64 →
        t.link.relay = none ∧ ∃ more, t.link.outbound = s.link.outbound ++ ⟨s.straps.station, .relayResult
          { request := .launch, batch := b, subject := none, kind := none,
            verdict := if why = none then .taken else .void, reason := why, replaced := none,
            edition := if why = none then some (s.board.lastLaunched + 1) else none,
            poolCount := some t.pool.length, batchStates := some (batchStates t.pool) }⟩ :: more ∧
          (r.complete = true ∨ why ≠ none → more = [])) ∧
      (¬ (h.sender = s.straps.station ∧ s.link.relay.isSome = true) → r.complete = true ∨ why ≠ none →
        t.link = s.link)

/-- R57, R58, R59, R61, R62: a taken LAUNCH hands its batch over. While no page is held every waiting batch is applied at once,
record after record, the roster edition becoming each batch's; while one is held the batch waits when it fits, the page
being cut when it touches it, or else forces a boundary, and it waits behind a boundary already forced. A cut finds
nothing once the normal close is handed (R86); the batches of a boundary forced then wait for the return to IDLE (log 27).

R60, R101, R113: as the batch is applied, every cell that shows a subject it retakes loses its prefetch reference and its
SETTLED mark; every other reference and mark stays. A READY slot left without a reference is FREE, a FILLING one's
entry stale.

R59: one record's effect on its subject, and on no other.

R10: a page is touched by the records exactly when one of its cells shows the subject of one of them: a GRID
page the subjects of its slice, a PANEL page those of its whole section. -/
def Obligations.LaunchedBatchWaitsOrIsApplied : Prop :=
  ((∀ (s : State) (h : FrameHdr) (b : Nat) (r : Replica), s.hears → s.board.replica = some r → b < 4 →
     batchOf s.pool b ≠ [] → s.board.lastLaunched ≠ 65535 →
     let new : Batch := ⟨s.board.lastLaunched + 1, batchOf s.pool b⟩
     let fits := s.launch.queue.length < 4 ∧
       new.records.length + (s.launch.queue.map (fun q => q.records.length)).sum ≤ 64
     ∃ t, exec (.launch h b) s = .next t ∧
       (s.comp.held = none → s.launch.forced = [] →
         t.roster = (s.launch.queue ++ [new]).foldl Roster.applyBatch s.roster ∧ t.launch = ⟨[], []⟩ ∧
         t.comp = s.comp ∧ t.lane = s.lane) ∧
       (∀ x, s.comp.held = some x →
         t.roster = s.roster ∧ t.tiles = s.tiles ∧ t.fetch = s.fetch ∧ t.lane = s.lane ∧
         (s.launch.forced = [] → fits → t.launch = ⟨s.launch.queue ++ [new], []⟩ ∧
           t.comp = if s.cuttable = true ∧ s.roster.touchedBy new.records x.page = true
             then { s.comp with cut := true } else s.comp) ∧
         (s.launch.forced = [] → ¬ fits → t.launch = ⟨s.launch.queue, [new]⟩ ∧
           t.comp = if s.cuttable = true then { s.comp with cut := true } else s.comp) ∧
         (s.launch.forced ≠ [] → t.launch = ⟨s.launch.queue, s.launch.forced ++ [new]⟩ ∧ t.comp = s.comp))) ∧
   (∀ (ro : Roster) (b : Batch),
     ro.applyBatch b = { b.records.foldl Roster.applyRecord ro with edition := b.edition })) ∧
  (∀ (s : State) (h : FrameHdr) (b : Nat) (r : Replica), s.hears → s.board.replica = some r → b < 4 →
     batchOf s.pool b ≠ [] → s.board.lastLaunched ≠ 65535 → s.comp.held = none → s.launch = ⟨[], []⟩ →
     let gone (p i : Nat) : Prop := ∃ j a, s.roster.subjectAt p i = some j ∧ a ∈ batchOf s.pool b ∧
       a.subject = j ∧ a.payload.kind = 0
     ∃ t, exec (.launch h b) s = .next t ∧
       t.fetch.prefetch.length = s.fetch.prefetch.length ∧
       (∀ (k : Nat) x, s.fetch.prefetch[k]? = some x → ∃ y, t.fetch.prefetch[k]? = some y ∧ y.page = x.page ∧
         ∀ i, i ∈ y.settled ↔ i ∈ x.settled ∧ ¬ gone x.page i) ∧
       (∀ (n : Nat) sl, s.tiles.slots[n]? = some sl → ∃ sl', t.tiles.slots[n]? = some sl' ∧
         (∀ ref, ref ∈ sl'.refs ↔ ref ∈ sl.refs ∧ ∀ p i, ref = .prefetch p i → ¬ gone p i) ∧
         (sl'.refs = [] → sl.isReady = true → sl' = .free) ∧
         (∀ p refs, sl = .filling p refs → sl' = .filling p sl'.refs)) ∧
       (∀ (k : Nat) e, s.fetch.list[k]? = some e → ∃ e', t.fetch.list[k]? = some e' ∧ e'.tag = e.tag ∧
         e'.slot = e.slot ∧ ∀ sl', t.tiles.slots[e.slot]? = some sl' → (e'.stale = true ↔ sl'.refs = []))) ∧
  (∀ (ro : Roster) (a : Amendment) (j : Subject), ro.subjects[a.subject]? = some j →
     (∀ n, n ≠ a.subject → (ro.applyRecord a).subjects[n]? = ro.subjects[n]?) ∧
     (∀ pid c q, a.payload = .retake pid c q → (ro.applyRecord a).subjects[a.subject]? =
       some { j with portrait := some pid, crop := c, pose := q }) ∧
     (∀ l1 l2, a.payload = .caption l1 l2 → (ro.applyRecord a).subjects[a.subject]? =
       some { j with line1 := l1, line2 := l2 }) ∧
     (a.payload = .withdraw → (ro.applyRecord a).subjects[a.subject]? = some { j with withdrawn := true }) ∧
     (a.payload = .restore → (ro.applyRecord a).subjects[a.subject]? = some { j with withdrawn := false }) ∧
     ro.applyRecord a = { ro with subjects := (ro.applyRecord a).subjects }) ∧
  ((∀ (ro : Roster) (records : List Amendment) (page : Nat),
     ro.touchedBy records page = true ↔
       ∃ p a, ro.page? page = some p ∧ a ∈ records ∧ ro.touches p a.subject = true) ∧
   (∀ (ro : Roster) (page : Nat) (p : PageRec), ro.page? page = some p → p ∈ ro.pages ∧ p.number = page) ∧
   (∀ (ro : Roster) (p : PageRec) (x : Section) (t : Template) (j : Nat),
     ro.sections[p.sectionIx]? = some x → ro.templates[p.template]? = some t →
     (p.kind = 0 → (ro.touches p j = true ↔ x.first ≤ j ∧ j < x.first + x.count ∧
       p.slice ≤ j - x.first ∧ j - x.first < p.slice + t.columns * t.rows)) ∧
     (p.kind ≠ 0 → x.count ≤ t.columns * t.rows →
       (ro.touches p j = true ↔ x.first ≤ j ∧ j < x.first + x.count))))

/-! ## Composing (R67 to R88) -/

/-- R57, R60, R68, R69, R70: BOUNDARY applies the waiting batches in launch order and hands them off, then takes the first QUEUED
entry without a closing frame: the entry is COMPOSING at the resulting edition, the held page starts afresh with zero
tallies, the learned-placeholder record stays if it names this page and edition and is else empty for them, the tracker
is STEADY, and the lane is handed TRAIN packet 0, or PAGE_OPEN when the page's template is the last one sent. Where the
condition fails nothing happens. Each cell notes the last line of its image area (R4), which the model keeps in the
cell table (log 46). -/
def Obligations.BoundaryTakesTheFirstQueuedPage : Prop :=
  ∀ s : State,
    (∀ (w : WorkEntry) (before after : List WorkEntry) (p : PageRec) (t : Template),
      s.comp.state = .idle → s.ctl.state = .active → s.fault.phase ≠ .recovering →
      s.lane.sheetReady = true → s.lane.sheets.length < 4 →
      s.claims.work = before ++ w :: after → w.phase = .queued → s.closing w.page = false →
      (∀ x ∈ before, x.phase ≠ .queued ∨ s.closing x.page = true) →
      (∀ x ∈ before ++ after, x.page ≠ w.page) →
      s.roster.page? w.page = some p → s.roster.templates[p.template]? = some t →
      let batches := s.launch.queue ++ s.launch.forced
      let ro := batches.foldl Roster.applyBatch s.roster
      ∃ u x, exec .boundary s = .next u ∧ u.comp.held = some x ∧
        u = { s with comp := u.comp, claims := u.claims, tiles := u.tiles, fetch := u.fetch, lane := u.lane,
                     roster := ro, launch := ⟨[], []⟩ } ∧
        u.handedOff batches ∧
        u.claims = { s.claims with work := before ++
          { w with phase := .composing, edition := some ro.edition, notices := none } :: after } ∧
        x.page = w.page ∧ x.kind = p.kind ∧ x.template = p.template ∧ x.sectionIx = p.sectionIx ∧
        x.edition = ro.edition ∧ x.bandCount = (t.pageH + 63) / 64 ∧ x.bandsSent = 0 ∧ x.band = 0 ∧
        x.reach = min 127 (t.pageH - 1) ∧ x.late = false ∧ x.opened = false ∧ x.captions = [] ∧
        x.tallies = ⟨0, 0, 0, 0, 0, 0, 0⟩ ∧ x.cells.length = t.columns * t.rows ∧
        (∀ i c, x.cells[i]? = some c → c.subject = s.roster.resolve p i ∧ c.last = t.cellTop i + t.cellH - 1 ∧
          c.cls = none ∧ c.answer = none ∧ c.place = none) ∧
        (∀ l, s.comp.learned = some l → l.page = w.page → l.edition = ro.edition → u.comp.learned = some l) ∧
        ((∀ l, s.comp.learned = some l → l.page ≠ w.page ∨ l.edition ≠ ro.edition) →
          u.comp.learned = some { page := w.page, edition := ro.edition, cells := [] }) ∧
        u.comp.tracker = .steady ∧ u.comp.cut = false ∧
        (s.lane.lastTemplate = some p.template → u.comp.state = .streaming ∧
          u.lane = { s.lane with inFlight := some (.pageOpen w.page ro.edition p.template) }) ∧
        (s.lane.lastTemplate ≠ some p.template → u.comp.state = .training ∧
          u.lane = { s.lane with inFlight := some (trainPacket p.template t 0) })) ∧
    (s.comp.state ≠ .idle ∨ s.ctl.state ≠ .active ∨ s.fault.phase = .recovering ∨ s.lane.sheetReady = false ∨
        4 ≤ s.lane.sheets.length ∨ (∀ x ∈ s.claims.work, x.phase ≠ .queued ∨ s.closing x.page = true) →
      exec .boundary s = .next s)

/-- R115, R118: as TRAIN packet 0 goes the last template sent is absent, the outcome hold clear and the lane
TRAINING; packets 1 and 2 change nothing of these; packet 3 sets the last template sent and PAGE_OPEN is
handed. With a cut requested no further packet is handed.

R118: the training pattern of packet n: 64 lines of the page width, a checkerboard of 8-pixel squares. -/
def Obligations.TrainingSequence : Prop :=
  (∀ (s : State) (x : Held) (t : Template) (n : Nat) (g : Geometry) (pattern : List Byte),
     s.comp.held = some x → s.roster.templates[x.template]? = some t →
     s.lane.inFlight = some (.train x.template n g pattern) →
     ∃ u, exec .trainPacketSent s = .next u ∧ u = { s with lane := u.lane, comp := u.comp } ∧
       u.lane.sent = s.lane.sent ++ [.train x.template n g pattern] ∧ u.lane.sheets = s.lane.sheets ∧
       (n = 0 → u.lane.phase = .training ∧ u.lane.lastTemplate = none ∧ u.lane.hold = false) ∧
       (n = 1 ∨ n = 2 → u.lane.phase = s.lane.phase ∧ u.lane.lastTemplate = s.lane.lastTemplate ∧
         u.lane.hold = s.lane.hold) ∧
       (n = 3 → u.lane.phase = s.lane.phase ∧ u.lane.lastTemplate = some x.template ∧
         u.lane.hold = s.lane.hold) ∧
       (s.comp.cut = true → u.lane.inFlight = none ∧ u.comp = s.comp) ∧
       (s.comp.cut = false → n < 3 → u.comp = s.comp ∧
         u.lane.inFlight = some (.train x.template (n + 1) t.geometry (trainingPattern (n + 1) t.pageW))) ∧
       (s.comp.cut = false → n = 3 → u.comp = { s.comp with state := .streaming } ∧
         u.lane.inFlight = some (.pageOpen x.page x.edition x.template))) ∧
  (∀ (n width : Nat), (trainingPattern n width).length = 64 * width * 3 ∧
     ∀ x y k, x < width → y < 64 → k < 3 → (trainingPattern n width)[(y * width + x) * 3 + k]? =
       some (if (x / 8 + y / 8 + n) % 2 = 0 then 255#8 else 0#8))

/-- R70, R115, R116: PAGE_OPEN sent opens the lane and hands PAGE_META with the page, edition, station, template,
cell count and placeholder list.

R70, R81: after PAGE_META the TITLE goes when the template has a title band, with the override or the section's
title; otherwise, and after TITLE, band 0 begins. With a cut requested nothing more is handed.

R70, R119: the placeholder list names, in cell order, every cell with a subject that is not withdrawn and whose
portrait id is absent or whose cell the learned-placeholder record names. -/
def Obligations.PageOpensWithItsMetaAndTitle : Prop :=
  (∀ (s : State) (x : Held) (pg ed tpl : Nat),
     s.lane.inFlight = some (.pageOpen pg ed tpl) → s.comp.held = some x →
     exec .pageOpenSent s = .next { s with
       comp := { s.comp with held := some { x with opened := true } },
       lane := { s.lane with
         phase := .opened, sent := s.lane.sent ++ [.pageOpen pg ed tpl],
         inFlight := if s.comp.cut then none else some (.pageMeta x.page x.edition s.straps.station x.template
           x.cells.length (s.placeholders x)) } }) ∧
  (∀ (s : State) (x : Held) (t : Template) (p : PageRec), s.comp.held = some x →
     s.roster.templates[x.template]? = some t → s.roster.page? x.page = some p →
     (∀ pg ed st tp n ps, s.lane.inFlight = some (.pageMeta pg ed st tp n ps) →
       let s1 : State := { s with lane := { s.lane with
         inFlight := none,
         sent := s.lane.sent ++ [.pageMeta pg ed st tp n ps] } }
       (s.comp.cut = true → exec .pageMetaSent s = .next s1) ∧
       (s.comp.cut = false → t.titleH ≠ 0 → ∃ u, exec .pageMetaSent s = .next u ∧
         u = { s1 with lane := { s1.lane with inFlight := u.lane.inFlight } } ∧
         (∀ w, p.title = some w → u.lane.inFlight = some (.title w)) ∧
         (∀ y, p.title = none → s.roster.sections[p.sectionIx]? = some y →
           u.lane.inFlight = some (.title y.title))) ∧
       (s.comp.cut = false → t.titleH = 0 → exec .pageMetaSent s = .next (s1.beginBand 0))) ∧
     (∀ w, s.lane.inFlight = some (.title w) →
       let s1 : State := { s with lane := { s.lane with inFlight := none, sent := s.lane.sent ++ [.title w] } }
       (s.comp.cut = true → exec .titleSent s = .next s1) ∧
       (s.comp.cut = false → exec .titleSent s = .next (s1.beginBand 0)))) ∧
  (∀ (s : State) (x : Held) (i : Nat),
     (i ∈ s.placeholders x ↔ ∃ c j y, x.cells[i]? = some c ∧ c.subject = some j ∧
       s.roster.subjects[j]? = some y ∧ y.withdrawn = false ∧
       (y.portrait = none ∨ ∃ l, s.comp.learned = some l ∧ l.page = x.page ∧ l.edition = x.edition ∧
         ∃ k, (i, k) ∈ l.cells)) ∧
     (s.placeholders x).Pairwise (fun a b => a < b))

/-- R74, R76, R78, R79, R80: the class and notices of a cell by the first case that applies; a cell in none of them waits.
A PORTRAIT has its window and mirror flag, and where tone is on the gain, the tracker and TONE_LIMITED of the
tracker step on its weighted mean; where it is off, gain 16 and neither. That tone code 0 is on and 1, as any other, off is
the model's choice (log 20: DESIGN CHOICE, unsafe; Template.toned).

R67, R74, R80: a placed cell takes its class and placement, its notices count in the tallies and the tracker steps; a late
one sets the late flag and joins the learned-placeholder record. Each output pixel is the resampled one with the gain
on its components, from column W - 1 - u when mirrored.

R67, R72: the learned-placeholder record tells the notice of a cell when it names the cell, its page and its edition. -/
def Obligations.CellClassIsTheFirstCase : Prop :=
  (∀ (s : State) (x : Held) (t : Template) (i : Nat) (c : Cell),
     (c.subject = none → ∃ p, s.placing x t i c = some p ∧ p.cls = .empty ∧ p.notices = []) ∧
     (∀ j y, c.subject = some j → s.roster.subjects[j]? = some y →
       (y.withdrawn = true → ∃ p, s.placing x t i c = some p ∧ p.cls = .vacant ∧ p.notices = []) ∧
       (y.withdrawn = false → y.portrait = none →
         ∃ p, s.placing x t i c = some p ∧ p.cls = .placeholder ∧ p.notices = [.noPortrait] ∧ p.late = none) ∧
       (y.withdrawn = false → y.portrait ≠ none →
         (∀ k, learnedKind s.comp.learned x.page x.edition i = some k →
           ∃ p, s.placing x t i c = some p ∧ p.cls = .placeholder ∧ p.notices = [k] ∧ p.late = none) ∧
         (learnedKind s.comp.learned x.page x.edition i = none →
           (∀ a, c.answer = some a → ∃ p, s.placing x t i c = some p ∧ p.cls = .placeholder ∧
             p.notices = [a.notice] ∧ p.late = some a.notice ∧ p.tracker = s.comp.tracker) ∧
           (c.answer = none → s.tiles.readyFor i = none → s.placing x t i c = none) ∧
           (∀ n pw ph, c.answer = none → s.tiles.readyFor i = some (n, pw, ph) →
             let w := windowFor y.crop pw ph t.cellW t.cellH
             (2 * w.width < t.cellW → ∃ p, s.placing x t i c = some p ∧ p.cls = .placeholder ∧
               p.notices = (if clampCrop y.crop pw ph ≠ y.crop then [.cropClamped] else []) ++ [.lowResolution] ∧
               p.late = some .lowResolution ∧ p.tracker = s.comp.tracker) ∧
             (t.cellW ≤ 2 * w.width → ∃ p q, s.placing x t i c = some p ∧ p.cls = .portrait ∧ p.late = none ∧
               p.place = some q ∧ q.window = w ∧
               q.mirror = mirrored t.facing y.pose x.page (i % t.columns) t.columns ∧
               (.cropClamped ∈ p.notices ↔ clampCrop y.crop pw ph ≠ y.crop) ∧
               (.upscaled ∈ p.notices ↔ w.width < t.cellW) ∧ p.notices.Nodup ∧
               (∀ k ∈ p.notices, k = .cropClamped ∨ k = .upscaled ∨ k = .toneLimited) ∧
               (t.tone ≠ 0 → q.gain = 16 ∧ .toneLimited ∉ p.notices ∧ p.tracker = s.comp.tracker) ∧
               (∀ z, t.tone = 0 → s.roster.sections[x.sectionIx]? = some z →
                 let raster : Raster := { dram := s.tiles.dram, slot := n, width := pw }
                 let step := toneStep s.comp.tracker z (measure raster.luminance w t.weights)
                 q.gain = step.gain ∧ p.tracker = step.tracker ∧
                   (.toneLimited ∈ p.notices ↔ step.limited = true)))))))) ∧
  ((∀ (s : State) (x : Held) (i : Nat) (c : Cell) (p : Placed), s.comp.held = some x → x.cells[i]? = some c →
     ∃ y d, (s.recordPlaced x i p).comp.held = some y ∧ y.cells[i]? = some d ∧ d.cls = some p.cls ∧
       d.place = p.place ∧ d.subject = c.subject ∧ d.last = c.last ∧ (∀ (k : Nat), k ≠ i → y.cells[k]? = x.cells[k]?) ∧
       y.tallies = p.notices.foldl Notices.bump x.tallies ∧ y.late = (x.late || p.late.isSome) ∧
       (s.recordPlaced x i p).comp.tracker = p.tracker ∧
       (s.recordPlaced x i p).comp.learned = s.comp.learned.map (fun l => match p.late with
         | some k => { l with cells := l.cells ++ [(i, k)] }
         | none => l) ∧
       (p.late = some .lowResolution → d.ref = false ∧
         ∀ sl ∈ (s.recordPlaced x i p).tiles.slots, Ref.composing i ∉ sl.refs)) ∧
   (∀ (r : Raster) (p : Placement) (cellW cellH u v k : Nat), k < 3 →
     (outputPixel r p cellW cellH u v)[k]? = some (BitVec.ofNat 8 (min 255
       (resampled r p.window cellW cellH (if p.mirror then cellW - 1 - u else u) v k * p.gain / 16))))) ∧
  (∀ (l : Option Learned) (page edition cell : Nat),
     (∀ k, learnedKind l page edition cell = some k →
       ∃ x, l = some x ∧ x.page = page ∧ x.edition = edition ∧ (cell, k) ∈ x.cells) ∧
     (learnedKind l page edition cell = none ↔
       ∀ x, l = some x → x.page = page → x.edition = edition → ∀ k, (cell, k) ∉ x.cells))

/-- R76, R77: the adjusted window of a legal crop in a legal portrait lies inside the portrait and is not empty.

R79: the mirror flag by facing mode, pose, page parity and column.

R89, R94, R95, R96, R97: luminance, the tracker's step by its table, the computed gain from 8 to the ceiling,
the gain on a component, and the notice of a corrected mean outside the inner band.

R76, R77: the crop window is clamped to the portrait, and brought to the cell's aspect: centred on the clamped window and moved
inside, or, where its height passes the portrait's, of the whole height and narrower.

R78, R100: each component of a resampled pixel is the floor of the mean of that component over the block of source pixels that its
column and its row draw on, read from the slot's raster.

R89, R90, R91: the sixteen zones, the last column and row taking the remainders; their floored means of luminance; and the floor of
their mean under the template's weights, the plain mean when every weight is 0. -/
def Obligations.WindowMirrorAndTone : Prop :=
  (∀ (c : Crop) (pw ph cellW cellH : Nat), c.x0 < c.x1 → c.y0 < c.y1 → 64 ≤ pw → 64 ≤ ph →
     pw ≤ 2048 → ph ≤ 2560 → 32 ≤ cellW → cellW ≤ 2048 → 32 ≤ cellH → cellH ≤ 2560 →
     let w := windowFor c pw ph cellW cellH
     w.left + w.width ≤ pw ∧ w.top + w.height ≤ ph ∧ 1 ≤ w.height ∧ 1 ≤ w.width) ∧
  (∀ (facing pose page column columns : Nat), facing < 3 → pose < 3 →
     (mirrored facing pose page column columns = true ↔
       (facing = 1 ∧ pose = 0 ∧ page % 2 = 0) ∨ (facing = 1 ∧ pose = 1 ∧ page % 2 = 1) ∨
       (facing = 2 ∧ columns % 2 = 1 ∧ pose = 0 ∧ column < (columns - 1) / 2) ∨
       (facing = 2 ∧ columns % 2 = 1 ∧ pose = 1 ∧ (columns - 1) / 2 < column) ∨
       (facing = 2 ∧ columns % 2 = 0 ∧ pose = 0 ∧ column < columns / 2) ∨
       (facing = 2 ∧ columns % 2 = 0 ∧ pose = 1 ∧ columns / 2 ≤ column))) ∧
  ((∀ r g b, r ≤ 255 → g ≤ 255 → b ≤ 255 →
     luminance r g b = (77 * r + 150 * g + 29 * b) / 256 ∧ luminance r g b ≤ 255) ∧
   (∀ (tr : Tracker) (x : Section) (m : Nat), 16 ≤ x.ceiling →
     let half := match tr with | .steady => x.outer | .correcting => x.inner
     let inside (k v : Nat) : Prop := x.target ≤ v + k ∧ v ≤ x.target + k
     let gain := if m = 0 then x.ceiling else min x.ceiling (max 8 ((2 * (16 * x.target) + m) / (2 * m)))
     8 ≤ gain ∧ gain ≤ x.ceiling ∧
     (inside half m → toneStep tr x m = { gain := 16, tracker := .steady, limited := false }) ∧
     (¬ inside half m → (toneStep tr x m).gain = gain ∧ (toneStep tr x m).tracker = .correcting ∧
       ((toneStep tr x m).limited = true ↔ ¬ inside x.inner (gain * m / 16)))) ∧
   (∀ g c, applyGain g c = min 255 (c * g / 16))) ∧
  (∀ (c : Crop) (pw ph cellW cellH : Nat), c.x0 < c.x1 → c.y0 < c.y1 → 64 ≤ pw → 64 ≤ ph → 32 ≤ cellW →
     32 ≤ cellH →
     let x1 := min c.x1 pw
     let y1 := min c.y1 ph
     let x0 := min c.x0 (x1 - 1)
     let y0 := min c.y0 (y1 - 1)
     let h := max 1 ((2 * ((x1 - x0) * cellH) + cellW) / (2 * cellW))
     let w := min (x1 - x0) ((2 * (ph * cellW) + cellH) / (2 * cellH))
     let top : Int := y0 + ((y1 : Int) - y0 - h) / 2
     clampCrop c pw ph = { x0 := x0, y0 := y0, x1 := x1, y1 := y1 } ∧
     (ph < h → windowFor c pw ph cellW cellH =
       { left := x0 + (x1 - x0 - w) / 2, top := 0, width := w, height := ph }) ∧
     (h ≤ ph → ∃ v, windowFor c pw ph cellW cellH = v ∧ v.left = x0 ∧ v.width = x1 - x0 ∧ v.height = h ∧
       (top < 0 → v.top = 0) ∧ (0 ≤ top → top + h ≤ ph → v.top = top.toNat) ∧
       (0 ≤ top → (ph : Int) < top + h → v.top = ph - h))) ∧
  (∀ (r : Raster) (w : Window) (cellW cellH u v k : Nat),
     let a := w.left + u * w.width / cellW
     let b := w.top + v * w.height / cellH
     let xs := Finset.Icc a (max a (w.left + (u + 1) * w.width / cellW - 1))
     let ys := Finset.Icc b (max b (w.top + (v + 1) * w.height / cellH - 1))
     resampled r w cellW cellH u v k =
       ys.sum (fun y => xs.sum (fun x =>
         (Mem.read r.dram (r.slot * 2 ^ 24 + 3 * (y * r.width + x) + k)).toNat)) / (xs.card * ys.card)) ∧
  ((∀ (lum : Nat → Nat → Nat) (w : Window) (weights : List Nat), weights.length = 16 →
     let span (len k : Nat) : Nat := len / 4 + if k = 3 then len % 4 else 0
     let zone (i : Nat) : Nat :=
       (Finset.range (span w.height (i / 4))).sum (fun y => (Finset.range (span w.width (i % 4))).sum (fun x =>
         lum (w.left + i % 4 * (w.width / 4) + x) (w.top + i / 4 * (w.height / 4) + y))) /
       (span w.width (i % 4) * span w.height (i / 4))
     ((∀ x ∈ weights, x = 0) → measure lum w weights = (Finset.range 16).sum zone / 16) ∧
     ((∃ x ∈ weights, x ≠ 0) → measure lum w weights =
       (Finset.range 16).sum (fun i => weights.getD i 0 * zone i) / weights.sum)) ∧
   (∀ (r : Raster) (x y : Nat),
     let component (k : Nat) : Nat := (Mem.read r.dram (r.slot * 2 ^ 24 + 3 * (y * r.width + x) + k)).toNat
     r.luminance x y = (77 * component 0 + 150 * component 1 + 29 * component 2) / 256))

/-- R71, R74: a band's needed cells are placed in ascending index, one that has a class being passed over; at one that must
wait the Compositor stops and places no later one ahead of it.

R71, R72, R112: a band that begins takes its references up to its reach, the last line of the band after it, and has its
needed cells placed: BAND is handed with its index, first line, line count and raster, or the Compositor waits in
WAITING_TILE. As an answer comes it goes on in the same way; while a caption is in flight the BAND goes after it
(log 15).

R71, R72, R82, R84: a BAND sent: the bands sent count rises by 1, the references of the portraits whose last line it holds
are dropped (by the last lines that the cell table keeps: log 46), the
next band begins, and the first caption due is handed, or where none is due the next BAND (the order: log 15). After
the last band the captions go, then the close, or with a late cell the correction's cut is requested (log 31).

R13, R20, R71, R84, R86: with a cut requested the BAND is counted, those references alone are dropped (log 46) and nothing
more is handed; no read reaches the Roster Store: with any other plan in it the outcome is the same. In a state with no
cut requested and no template at the page's index, which no run meets, the BAND is counted and drops the same way.

R71, R82, R83, R85: a CAPTION sent is followed by the next caption due; after the last one the next BAND is handed, unless
one of its cells waits, or when every band has gone the close, or the correction's cut is requested (log 15, log 31).
With a cut requested nothing more is handed.

R4, R71: where a cell's image area lies, the lines of a band, and the bands that need a cell.

R73, R80, R117: the raster of a band is its lines at the page width; a pixel in the image area of a PORTRAIT cell is the cell's
output pixel from the READY slot that holds its reference, and every other pixel is blank.

R4, R82, R83: the captions due after a band are those of the rows whose caption band begins in it: PER_CELL one for each PLACEHOLDER
or PORTRAIT cell, PER_ROW one for each row that has such a cell, in ascending order; their texts are the subject's lines. -/
def Obligations.BandsAndCaptionsGoOn : Prop :=
  (∀ (s : State) (x : Held) (t : Template), s.comp.held = some x →
     (s.roster.templates[x.template]? = some t → s.placeBand =
       let r := State.placeCells t ((List.range x.cells.length).filter (fun i => t.neededBy x.band i)) s
       { r.1 with comp := { r.1.comp with state := if r.2 then .streaming else .waitingTile } }) ∧
     State.placeCells t [] s = (s, true) ∧
     ∀ (i : Nat) (rest : List Nat) (c : Cell), x.cells[i]? = some c →
       (c.cls ≠ none → State.placeCells t (i :: rest) s = State.placeCells t rest s) ∧
       (∀ p, c.cls = none → s.placing x t i c = some p →
         State.placeCells t (i :: rest) s = State.placeCells t rest (s.recordPlaced x i p)) ∧
       (c.cls = none → s.placing x t i c = none → State.placeCells t (i :: rest) s = (s, false))) ∧
  (∀ (s : State) (x : Held) (t : Template), s.comp.held = some x → s.roster.templates[x.template]? = some t →
     (∀ b, ∃ u y, s.beginBand b = u ∧ u.comp.held = some y ∧ y.band = b ∧
       y.reach = min (64 * b + 127) (t.pageH - 1) ∧ y.page = x.page ∧ y.edition = x.edition ∧
       y.bandsSent = x.bandsSent ∧ y.captions = x.captions ∧
       (∀ (i : Nat) c, x.cells[i]? = some c → ∃ d, y.cells[i]? = some d ∧ d.subject = c.subject ∧
         d.last = c.last ∧ (d.taken = true ↔ c.taken = true ∨ (∃ pid, s.cellNeeds x i c = some pid) ∧ t.cellTop i ≤ y.reach)) ∧
       u.bandHanded y t s.lane ∧ u.roster = s.roster ∧ u.claims = s.claims ∧ u.fault = s.fault) ∧
     (∀ b, (∀ (i : Nat) c, x.cells[i]? = some c → (t.neededBy b i = true → c.cls ≠ none) ∧
         (c.taken = true ∨ s.cellNeeds x i c = none ∨ min (64 * b + 127) (t.pageH - 1) < t.cellTop i)) →
       let y : Held := { x with band := b, reach := min (64 * b + 127) (t.pageH - 1) }
       s.beginBand b = { s with
         comp := { s.comp with held := some y, state := .streaming },
         lane := { s.lane with inFlight := some (s.preparedBand y t) } }) ∧
     (s.comp.state = .waitingTile → s.comp.cut = false → ∃ y, s.resume.comp.held = some y ∧ y.band = x.band ∧
       y.captions = x.captions ∧ s.resume.bandPrepared y t ∧
       (s.lane.inFlight = none → s.resume.bandHanded y t s.lane) ∧
       (s.lane.inFlight ≠ none → s.resume.lane = s.lane)) ∧
     (s.comp.state ≠ .waitingTile ∨ s.comp.cut = true → s.resume = s)) ∧
  (∀ (s : State) (x : Held) (b first n : Nat) (raster : List Byte),
     s.lane.inFlight = some (.band b first n raster) → s.comp.held = some x →
     let lane : Lane := { s.lane with inFlight := none, sent := s.lane.sent ++ [.band b first n raster] }
     let ends (c : Cell) : Prop := c.ref = true ∧ c.cls = some .portrait ∧ c.last < first + n
     ∃ u y, exec .bandSent s = .next u ∧ u.comp.held = some y ∧ y.bandsSent = x.bandsSent + 1 ∧
       y.page = x.page ∧ y.edition = x.edition ∧ u.claims = s.claims ∧ u.roster = s.roster ∧ u.board = s.board ∧
       u.port = s.port ∧ u.fault = s.fault ∧
       (∀ (i : Nat) c, x.cells[i]? = some c → ends c → c.taken = true →
         (∃ d, y.cells[i]? = some d ∧ d.ref = false) ∧ ∀ sl ∈ u.tiles.slots, Ref.composing i ∉ sl.refs) ∧
       (s.comp.cut = true ∨ s.roster.templates[x.template]? = none →
         y = { x with bandsSent := x.bandsSent + 1, cells := y.cells } ∧
         u = { s with
           comp := { s.comp with
             held := some y, state := if x.bandsSent + 1 < x.bandCount then s.comp.state else .closing },
           tiles := { s.tiles with slots := u.tiles.slots, fillOrder := u.tiles.fillOrder },
           fetch := { s.fetch with list := u.fetch.list },
           lane := lane } ∧
         (∀ (i : Nat) c, x.cells[i]? = some c →
           (ends c → y.cells[i]? = some { c with ref := false }) ∧ (¬ ends c → y.cells[i]? = some c)) ∧
         (∀ (k : Nat) sl, s.tiles.slots[k]? = some sl → ∃ z, u.tiles.slots[k]? = some z ∧
           ∀ r, r ∈ z.refs ↔ r ∈ sl.refs ∧
             ∀ (i : Nat) c, r = .composing i → x.cells[i]? = some c → ¬ ends c)) ∧
       (s.comp.cut = true → ∀ ro, exec .bandSent { s with roster := ro } = .next { u with roster := ro }) ∧
       (∀ t, s.comp.cut = false → s.roster.templates[x.template]? = some t →
         (x.bandsSent + 1 < x.bandCount → y.band = x.bandsSent + 1 ∧
           y.reach = min (64 * y.band + 127) (t.pageH - 1) ∧ u.bandPrepared y t ∧
           (captionsDue x t b = [] → u.bandHanded y t lane)) ∧
         (∀ d rest, captionsDue x t b = d :: rest → y.captions = rest ∧
           u.lane = { lane with inFlight := some (match d with
             | .cell i => .captionCell i (u.line1Of y i) (u.line2Of y i)
             | .row r => .captionRow r ((captionedCells y t r).map (u.line1Of y))) }) ∧
         (x.bandCount ≤ x.bandsSent + 1 → u.comp.state = .closing ∧
           (captionsDue x t b = [] → x.late = false → u.fetch.wants = [] ∧
             u.lane = { lane with inFlight := some (.pageClose false (x.bandsSent + 1)) }) ∧
           (captionsDue x t b = [] → x.late = true → u.comp.cut = true ∧ u.lane = lane)))) ∧
  (∀ (s : State) (x : Held) (t : Template) (k : Packet), s.comp.held = some x →
     s.roster.templates[x.template]? = some t → s.lane.inFlight = some k →
     ((∃ i l1 l2, k = .captionCell i l1 l2) ∨ (∃ r ls, k = .captionRow r ls)) →
     let lane : Lane := { s.lane with inFlight := none, sent := s.lane.sent ++ [k] }
     (s.comp.cut = true → exec .captionSent s = .next { s with lane := lane }) ∧
     (∀ d rest, s.comp.cut = false → x.captions = d :: rest → exec .captionSent s = .next { s with
       comp := { s.comp with held := some { x with captions := rest } },
       lane := { lane with inFlight := some (match d with
         | .cell i => .captionCell i (s.line1Of x i) (s.line2Of x i)
         | .row r => .captionRow r ((captionedCells x t r).map (s.line1Of x))) } }) ∧
     (s.comp.cut = false → x.captions = [] → x.bandsSent < x.bandCount → s.comp.state = .waitingTile →
       exec .captionSent s = .next { s with lane := lane }) ∧
     (s.comp.cut = false → x.captions = [] → x.bandsSent < x.bandCount → s.comp.state ≠ .waitingTile →
       exec .captionSent s = .next { s with
         comp := { s.comp with state := .streaming },
         lane := { lane with inFlight := some (s.preparedBand x t) } }) ∧
     (s.comp.cut = false → x.captions = [] → x.bandCount ≤ x.bandsSent → x.late = false →
       exec .captionSent s = .next { s with
         fetch := { s.fetch with wants := [] },
         lane := { lane with inFlight := some (.pageClose false x.bandsSent) } }) ∧
     (s.comp.cut = false → x.captions = [] → x.bandCount ≤ x.bandsSent → x.late = true →
       exec .captionSent s = .next { s with comp := { s.comp with cut := true }, lane := lane })) ∧
  (∀ (t : Template) (i b : Nat),
     t.cellLeft i = t.hGutter + i % t.columns * (t.cellW + t.hGutter) ∧
     t.cellTop i = t.titleH + t.vGutter + i / t.columns * (t.cellH + t.captionH + t.vGutter) ∧
     t.cellLast i = t.cellTop i + t.cellH - 1 ∧ t.bandLast b = min (64 * b + 63) (t.pageH - 1) ∧
     (1 ≤ t.cellH → 64 * b < t.pageH → (t.neededBy b i = true ↔
       ∃ line, t.cellTop i ≤ line ∧ line < t.cellTop i + t.cellH ∧ 64 * b ≤ line ∧ line < 64 * b + 64 ∧
         line < t.pageH))) ∧
  (∀ (s : State) (x : Held) (t : Template) (b : Nat),
     let lines := min 64 (t.pageH - 64 * b)
     (s.bandRaster x t b).length = lines * t.pageW * 3 ∧
     ∀ (u v k : Nat), u < t.pageW → v < lines → k < 3 →
       let value := (s.bandRaster x t b)[(v * t.pageW + u) * 3 + k]?
       let inside (i : Nat) : Prop := t.cellLeft i ≤ u ∧ u < t.cellLeft i + t.cellW ∧
         t.cellTop i ≤ 64 * b + v ∧ 64 * b + v < t.cellTop i + t.cellH
       ((∀ (i : Nat) c, x.cells[i]? = some c → inside i → c.place = none) → value = some 255#8) ∧
       (∀ (i n : Nat) c p pid pw ph refs, x.cells[i]? = some c → inside i → c.place = some p →
         s.tiles.slots[n]? = some (.ready pid pw ph refs) → Ref.composing i ∈ refs →
         (∀ (m : Nat) sl, s.tiles.slots[m]? = some sl → Ref.composing i ∈ sl.refs → m = n) →
         let col := u - t.cellLeft i
         value = some (BitVec.ofNat 8 (min 255 (resampled { dram := s.tiles.dram, slot := n, width := pw }
           p.window t.cellW t.cellH (if p.mirror then t.cellW - 1 - col else col) (64 * b + v - t.cellTop i) k *
             p.gain / 16))))) ∧
  (∀ (s : State) (x : Held) (t : Template) (b : Nat),
     let captioned (i r : Nat) : Prop := i / t.columns = r ∧
       ∃ c, x.cells[i]? = some c ∧ (c.cls = some .placeholder ∨ c.cls = some .portrait)
     let top (r : Nat) : Nat := t.titleH + t.vGutter + r * (t.cellH + t.captionH + t.vGutter) + t.cellH
     let due (r : Nat) : Prop := r < t.rows ∧ 64 * b ≤ top r ∧ top r ≤ min (64 * b + 63) (t.pageH - 1)
     (t.caption = 0 → ∃ l : List Nat, captionsDue x t b = l.map .cell ∧ l.Pairwise (fun i j => i < j) ∧
       ∀ i, i ∈ l ↔ ∃ r, due r ∧ captioned i r) ∧
     (t.caption ≠ 0 → ∃ l : List Nat, captionsDue x t b = l.map .row ∧ l.Pairwise (fun i j => i < j) ∧
       ∀ r, r ∈ l ↔ due r ∧ ∃ i, captioned i r) ∧
     (∀ r, (captionedCells x t r).Pairwise (fun i j => i < j) ∧
       ∀ i, i ∈ captionedCells x t r ↔ captioned i r) ∧
     (∀ (i : Nat) c j y, x.cells[i]? = some c → c.subject = some j → s.roster.subjects[j]? = some y →
       s.line1Of x i = y.line1 ∧ s.line2Of x i = y.line2))

/-- R85, R105, R115, R120: the normal PAGE_CLOSE sent: the sheet joins the tail of the list, the first one starting
the head timer at 30 s; the entry is IN_ENGINE with the pass's tallies; no page is held and the lane is IDLE. The waiting
batches are then applied in launch order and handed off (R57, R60, R62), those of a boundary forced while this close was in
flight among them (log 27).

R57, R60, R62, R86, R87: a cut with no packet in flight, or with TRAIN packet 0 asked for and not gone, which is not sent
(log 32), sends PAGE_OPEN if it has not gone, and PAGE_CLOSE with the CUT flag
and the bands sent; the cut sheet joins the list, every composing reference is dropped, no page is held, and the
entry, if it is still there, is QUEUED at the head of the work list with edition and notices absent. The waiting batches, then
those of a forced boundary, are applied in launch order and handed off. The packets are sent in the one step of CUT_CARRIED_OUT, and kept in order, by the model's choice (log 22, log 23).

R162, R164, R167: carried out in RECOVERING the cut completes that local step, and a flush that waited for it is made at
once, the cut sheet among the lost ones (the return bytes: log 43). While a page is awaited or the halt is open the recovery goes on; else it ends
in HELD with the first FAULT_REPORT. The batches are applied as outside it.

R86: with no page held, no cut requested, or another packet in flight no cut is carried out. -/
def Obligations.PageCloseAndCutEndThePage : Prop :=
  (∀ (s : State) (x : Held) (n : Nat), s.lane.inFlight = some (.pageClose false n) → s.comp.held = some x →
     let batches := s.launch.queue ++ s.launch.forced
     ∃ u, exec .pageCloseSent s = .next u ∧
       u = { s with lane := u.lane, claims := u.claims, comp := u.comp, tiles := u.tiles, fetch := u.fetch,
                    roster := batches.foldl Roster.applyBatch s.roster, launch := ⟨[], []⟩ } ∧
       u.handedOff batches ∧
       u.lane = { s.lane with
         phase := .idle, inFlight := none,
         sent := s.lane.sent ++ [.pageClose false n],
         sheets := s.lane.sheets ++ [{ page := x.page, edition := x.edition, cut := false }],
         headTimer := if s.lane.sheets = [] then some 30000 else s.lane.headTimer } ∧
       u.comp = { s.comp with state := .idle, held := none, cut := false } ∧
       u.claims = { s.claims with work := s.claims.work.map (fun e =>
         if e.page = x.page ∧ e.phase = .composing then { e with phase := .inEngine, notices := some x.tallies }
         else e) } ∧
       (∀ r ∈ u.fetch.prefetch, r.page ≠ x.page) ∧
       (∀ sl ∈ u.tiles.slots, ∀ i, Ref.prefetch x.page i ∉ sl.refs)) ∧
  (∀ (s : State) (x : Held), s.comp.held = some x → s.comp.cut = true →
     (s.lane.inFlight = none ∨ ∃ ix g pattern, s.lane.inFlight = some (.train ix 0 g pattern)) →
     s.fault.phase ≠ .recovering → s.fault.flushStep = false →
     let batches := s.launch.queue ++ s.launch.forced
     ∃ u, exec .cutCarriedOut s = .next u ∧ u.comp = { s.comp with state := .idle, held := none, cut := false } ∧
       u.lane = { s.lane with
         phase := .idle, inFlight := none,
         sent := s.lane.sent ++ (if x.opened then [] else [.pageOpen x.page x.edition x.template]) ++
           [.pageClose true x.bandsSent],
         sheets := s.lane.sheets ++ [{ page := x.page, edition := x.edition, cut := true }],
         headTimer := if s.lane.sheets = [] then some 30000 else s.lane.headTimer } ∧
       u.fetch.wants = [] ∧ (∀ sl ∈ u.tiles.slots, ∀ i, Ref.composing i ∉ sl.refs) ∧
       (∀ e before after, s.claims.work = before ++ e :: after → e.page = x.page →
         (∀ y ∈ before ++ after, y.page ≠ x.page) →
         u.claims.work = { e with phase := .queued, edition := none, notices := none } :: (before ++ after)) ∧
       ((∀ y ∈ s.claims.work, y.page ≠ x.page) → u.claims.work = s.claims.work) ∧
       u.roster = batches.foldl Roster.applyBatch s.roster ∧ u.launch = ⟨[], []⟩ ∧ u.handedOff batches ∧ u.board = s.board ∧ u.port = s.port ∧ u.ctl = s.ctl ∧ u.link = s.link) ∧
  (∀ (s : State) (x : Held) (w : FaultRecord), s.comp.held = some x → s.comp.cut = true →
     (s.lane.inFlight = none ∨ ∃ ix g pattern, s.lane.inFlight = some (.train ix 0 g pattern)) →
     s.fault.phase = .recovering → s.fault.record = some w →
     let batches := s.launch.queue ++ s.launch.forced
     let sheets := s.lane.sheets ++ [{ page := x.page, edition := x.edition, cut := true }]
     ∃ u, exec .cutCarriedOut s = .next u ∧ u.comp = { s.comp with state := .idle, held := none, cut := false } ∧
       u.lane.phase = .idle ∧ u.lane.inFlight = none ∧ u.fault.record = some w ∧ u.fault.cutStep = false ∧
       u.fault.flushStep = false ∧ u.fault.awaited = s.fault.awaited ∧ u.fault.haltStep = s.fault.haltStep ∧
       u.roster = batches.foldl Roster.applyBatch s.roster ∧ u.launch = ⟨[], []⟩ ∧ u.handedOff batches ∧
       u.board = s.board ∧ u.ctl = s.ctl ∧
       (s.fault.flushStep = false → u.lane.sheets = sheets ∧ u.lane.lost = s.lane.lost ∧
         u.lane.hold = s.lane.hold ∧ u.fault.lost = s.fault.lost) ∧
       (s.fault.flushStep = true → u.lane.sheets = [] ∧ u.lane.headTimer = none ∧
         u.lane.lastTemplate = none ∧ u.lane.hold = true ∧ u.lane.hunt = [] ∧ u.fault.lost = sheets.length ∧
         u.lane.lost = (s.lane.lost + sheets.length) % 2 ^ 32) ∧
       (s.fault.awaited ≠ [] ∨ s.fault.haltStep = true → u.fault.phase = .recovering ∧
         u.fault.deferred = s.fault.deferred ∧ u.link = s.link ∧ u.port = s.port) ∧
       (s.fault.awaited = [] → s.fault.haltStep = false → u.fault.phase = .held ∧ u.fault.deferred = [] ∧
         u.fault.reportTimer = some 1000 ∧ u.fault.repeats = 0 ∧
         (s.link.outbound.length + s.fault.deferred.length ≤ 62 →
           ∃ before q, u.link.outbound = before ++ [⟨s.straps.station, .faultReport q⟩] ∧ q.record = w ∧
             q.state = s.ctl.state ∧ q.closed = s.fault.closed ∧ q.lost = u.fault.lost ∧ q.repeats = 0))) ∧
  (∀ s : State, (s.comp.held = none ∨ s.comp.cut = false ∨
       ∃ p, s.lane.inFlight = some p ∧ ∀ ix g pattern, p ≠ .train ix 0 g pattern) →
     exec .cutCarriedOut s = .next s)

/-! ## Fetching (R100 to R107) -/

/-- R102, R104: the head want takes the lowest-numbered FREE slot: FILLING with its portrait and references, the
entry at the tail of the fetch list under the tag counter's value, and FETCH upstream; while the list is full,
the link DOWN or the hold set nothing happens.

R105: a prefetch walk that comes to one cell takes the lowest-numbered FREE slot for its portrait and asks for it,
when there are such a slot, fewer than 24 PREFETCH slots, a place in the fetch list, the link UP and no hold; where
one of them is missing, and while the want list is not empty, nothing happens.

R72, R103: a reference counted for a cell: a portrait id held in no slot and in no want of the list joins the tail
of the want list, one already wanted gains the cell, one in a slot gains a reference there.

R104: a want whose portrait a slot has come to hold adds its references there and leaves the list without a FETCH. With no FREE slot
the READY slot without composing reference that is latest in the fill order is evicted, its marks with it, and takes the
want; where there is none the want waits.

R105: the walk visits the cells of the QUEUED entries in list order and, within each, in ascending cell index; it passes over a
cell that is HELD or SETTLED, shows no subject, a withdrawn one or one without a portrait, or is in the learned-placeholder
record at the roster edition. A portrait that a slot holds gains the cell's prefetch reference there without a FETCH, and the
walk goes on. Else, with fewer than 24 PREFETCH slots, a FREE slot and the fetching conditions, it takes the lowest-numbered
FREE slot, asks and goes on; without one of them it stops at the cell, whatever cells are behind it.

R103: a cell of the held page whose prefetch reference is counted on a slot has it turned into a composing reference there: the
slot's count stays, no want is made and no FETCH sent (its place: log 16).

R100, R104: the FREE slot that is taken is the lowest-numbered one; a portrait is held by the slot that is FILLING or READY with its id. -/
def Obligations.WantsAndThePrefetchWalkAskAhead : Prop :=
  (∀ (s : State) (w : Want) (rest : List Want), s.fetch.wants = w :: rest →
     (∀ n, s.fetch.list.length < 8 → s.link.up = true → s.fetch.hold = false →
       s.tiles.slotOf w.portrait = none → s.tiles.firstFree = some n → w.cells ≠ [] →
       exec .fetchWantRequest s = .next { s with
         tiles := { s.tiles with slots := s.tiles.slots.set n (.filling w.portrait (w.cells.map .composing)) },
         fetch := { s.fetch with
           wants := rest,
           list := s.fetch.list ++ [{ tag := s.fetch.tag, portrait := w.portrait, slot := n, stale := false,
                                      retry := false }],
           tag := (s.fetch.tag + 1) % 256,
           timer := if s.fetch.list = [] then some s.fetchMs else s.fetch.timer },
         link := s.link.handed ⟨s.straps.station, .fetch s.fetch.tag w.portrait⟩ }) ∧
     (8 ≤ s.fetch.list.length ∨ s.link.up = false ∨ s.fetch.hold = true →
       exec .fetchWantRequest s = .next s)) ∧
  (∀ (s : State),
     (s.fetch.wants ≠ [] → exec .prefetchWalk s = .next s) ∧
     (∀ page cell pid n, s.fetch.wants = [] → s.walkCells = [(page, cell)] →
       s.walkNeeds page cell = some pid → s.tiles.slotOf pid = none → s.tiles.firstFree = some n →
       s.tiles.prefetchSlots < 24 → s.fetch.list.length < 8 → s.link.up = true → s.fetch.hold = false →
       exec .prefetchWalk s = .next { s with
         tiles := { s.tiles with slots := s.tiles.slots.set n (.filling pid [.prefetch page cell]) },
         fetch := { s.fetch with
           list := s.fetch.list ++ [{ tag := s.fetch.tag, portrait := pid, slot := n, stale := false,
                                      retry := false }],
           tag := (s.fetch.tag + 1) % 256,
           timer := if s.fetch.list = [] then some s.fetchMs else s.fetch.timer },
         link := s.link.handed ⟨s.straps.station, .fetch s.fetch.tag pid⟩ }) ∧
     (∀ page cell pid, s.fetch.wants = [] → s.walkCells = [(page, cell)] →
       s.walkNeeds page cell = some pid → s.tiles.slotOf pid = none →
       (s.tiles.firstFree = none ∨ 24 ≤ s.tiles.prefetchSlots ∨ 8 ≤ s.fetch.list.length ∨ s.link.up = false ∨
         s.fetch.hold = true) → exec .prefetchWalk s = .next s)) ∧
  (∀ (s : State) (page cell : Nat) (pid : Id32),
     (∀ sl ∈ s.tiles.slots, Ref.prefetch page cell ∉ sl.refs) →
     (s.tiles.slotOf pid = none → (∀ w ∈ s.fetch.wants, w.portrait ≠ pid) →
       s.countComposing page cell pid = { s with fetch := { s.fetch with
         wants := s.fetch.wants ++ [{ portrait := pid, cells := [cell] }] } }) ∧
     (s.tiles.slotOf pid = none → (∃ w ∈ s.fetch.wants, w.portrait = pid) →
       s.countComposing page cell pid = { s with fetch := { s.fetch with
         wants := s.fetch.wants.map (fun w =>
           if w.portrait = pid then { w with cells := w.cells ++ [cell] } else w) } }) ∧
     (∀ n sl, s.tiles.slotOf pid = some n → s.tiles.slots[n]? = some sl →
       (s.countComposing page cell pid).fetch.wants = s.fetch.wants ∧
       ∃ sl', (s.countComposing page cell pid).tiles.slots[n]? = some sl' ∧
         sl'.refs = sl.refs ++ [.composing cell])) ∧
  (∀ (s : State) (w : Want) (rest : List Want), s.fetch.wants = w :: rest → s.fetch.list.length < 8 →
     s.link.up = true → s.fetch.hold = false →
     let evictable (n : Nat) : Prop := ∃ pid pw ph refs, s.tiles.slots[n]? = some (.ready pid pw ph refs) ∧
       ∀ i, Ref.composing i ∉ refs
     (∀ n sl, s.tiles.slotOf w.portrait = some n → s.tiles.slots[n]? = some sl →
       ∃ u sl', exec .fetchWantRequest s = .next u ∧ u = { s with tiles := u.tiles, fetch := u.fetch } ∧
         u.fetch.wants = rest ∧ u.fetch.tag = s.fetch.tag ∧ u.fetch.timer = s.fetch.timer ∧
         u.fetch.list.map (fun e => (e.tag, e.portrait, e.slot, e.retry)) =
           s.fetch.list.map (fun e => (e.tag, e.portrait, e.slot, e.retry)) ∧
         u.tiles.slots[n]? = some sl' ∧ sl'.refs = sl.refs ++ w.cells.map .composing ∧
         ∀ m, m ≠ n → (u.tiles.slots[m]?).map Slot.refs = (s.tiles.slots[m]?).map Slot.refs) ∧
     (s.tiles.slotOf w.portrait = none → (∀ sl ∈ s.tiles.slots, sl ≠ .free) →
       (∀ n earlier later, s.tiles.fillOrder = earlier ++ n :: later → evictable n →
         (∀ m ∈ later, ¬ evictable m) → w.cells ≠ [] →
         exec .fetchWantRequest s = .next { s with
           tiles := { s.tiles with
             slots := s.tiles.slots.set n (.filling w.portrait (w.cells.map .composing)),
             fillOrder := s.tiles.fillOrder.filter (fun m => decide (m ≠ n)) },
           fetch := { s.fetch with
             wants := rest,
             list := s.fetch.list ++ [{ tag := s.fetch.tag, portrait := w.portrait, slot := n, stale := false,
                                        retry := false }],
             tag := (s.fetch.tag + 1) % 256,
             timer := if s.fetch.list = [] then some s.fetchMs else s.fetch.timer },
           link := s.link.handed ⟨s.straps.station, .fetch s.fetch.tag w.portrait⟩ }) ∧
       ((∀ m ∈ s.tiles.fillOrder, ¬ evictable m) → exec .fetchWantRequest s = .next s))) ∧
  (∀ (s : State) (page cell : Nat),
     (∀ pid, s.walkNeeds page cell = some pid ↔ (∀ sl ∈ s.tiles.slots, Ref.prefetch page cell ∉ sl.refs) ∧
       (∀ r ∈ s.fetch.prefetch, r.page = page → cell ∉ r.settled) ∧
       learnedKind s.comp.learned page s.roster.edition cell = none ∧
       ∃ j y, s.roster.subjectAt page cell = some j ∧ s.roster.subjects[j]? = some y ∧ y.withdrawn = false ∧
         y.portrait = some pid) ∧
     ((page, cell) ∈ s.walkCells ↔ ∃ e p t, e ∈ s.claims.work ∧ e.phase = .queued ∧ e.page = page ∧
       s.roster.page? page = some p ∧ s.roster.templates[p.template]? = some t ∧ cell < t.columns * t.rows) ∧
     s.walkCells = (s.claims.work.map (fun e =>
       match e.phase, s.roster.page? e.page with
       | .queued, some p => match s.roster.templates[p.template]? with
         | some t => (List.range (t.columns * t.rows)).map (fun i => (e.page, i))
         | none => []
       | _, _ => [])).flatten ∧
     (s.fetch.wants = [] → exec .prefetchWalk s = .next (State.walk s.walkCells s)) ∧ State.walk [] s = s ∧
     ∀ rest : List (Nat × Nat),
       (∀ pid n, s.walkNeeds page cell = some pid → s.tiles.slotOf pid = none → s.tiles.firstFree = some n →
         s.tiles.prefetchSlots < 24 → s.fetch.list.length < 8 → s.link.up = true → s.fetch.hold = false →
         State.walk ((page, cell) :: rest) s = State.walk rest { s with
           tiles := { s.tiles with slots := s.tiles.slots.set n (.filling pid [.prefetch page cell]) },
           fetch := { s.fetch with
             list := s.fetch.list ++ [{ tag := s.fetch.tag, portrait := pid, slot := n, stale := false,
                                        retry := false }],
             tag := (s.fetch.tag + 1) % 256,
             timer := if s.fetch.list = [] then some s.fetchMs else s.fetch.timer },
           link := s.link.handed ⟨s.straps.station, .fetch s.fetch.tag pid⟩ }) ∧
       (∀ pid, s.walkNeeds page cell = some pid → s.tiles.slotOf pid = none →
         (s.tiles.firstFree = none ∨ 24 ≤ s.tiles.prefetchSlots ∨ 8 ≤ s.fetch.list.length ∨ s.link.up = false ∨
           s.fetch.hold = true) → State.walk ((page, cell) :: rest) s = s) ∧
       (s.walkNeeds page cell = none → State.walk ((page, cell) :: rest) s = State.walk rest s) ∧
       (∀ pid n sl, s.walkNeeds page cell = some pid → s.tiles.slotOf pid = some n →
         s.tiles.slots[n]? = some sl → ∃ u sl', State.walk ((page, cell) :: rest) s = State.walk rest u ∧
           u = { s with tiles := u.tiles, fetch := u.fetch } ∧ u.fetch.wants = s.fetch.wants ∧
           u.fetch.tag = s.fetch.tag ∧ u.fetch.list.length = s.fetch.list.length ∧
           u.tiles.slots[n]? = some sl' ∧ sl'.refs = sl.refs ++ [.prefetch page cell] ∧
           ∀ m, m ≠ n → (u.tiles.slots[m]?).map Slot.refs = (s.tiles.slots[m]?).map Slot.refs)) ∧
  (∀ (s : State) (page cell n : Nat) (pid : Id32) (sl : Slot), s.tiles.slots[n]? = some sl →
     Ref.prefetch page cell ∈ sl.refs → sl.refs.Nodup →
     (∀ (m : Nat) sm, s.tiles.slots[m]? = some sm → m ≠ n → Ref.prefetch page cell ∉ sm.refs) →
     ∃ u sl', s.countComposing page cell pid = u ∧ u = { s with tiles := u.tiles, fetch := u.fetch } ∧
       u.fetch.wants = s.fetch.wants ∧ u.fetch.tag = s.fetch.tag ∧ u.fetch.prefetch = s.fetch.prefetch ∧
       u.tiles.slots[n]? = some sl' ∧ sl'.portrait? = sl.portrait? ∧ sl'.refs.length = sl.refs.length ∧
       sl'.refs = sl.refs.filter (fun r => decide (r ≠ .prefetch page cell)) ++ [.composing cell] ∧
       ∀ m, m ≠ n → (u.tiles.slots[m]?).map Slot.refs = (s.tiles.slots[m]?).map Slot.refs) ∧
  (∀ (t : Tiles) (pid : Id32),
     (∀ n, t.firstFree = some n ↔ t.slots[n]? = some .free ∧ ∀ m, m < n → t.slots[m]? ≠ some .free) ∧
     (t.firstFree = none ↔ ∀ sl ∈ t.slots, sl ≠ .free) ∧
     (∀ n, t.slotOf pid = some n → ∃ sl, t.slots[n]? = some sl ∧
       ((∃ refs, sl = .filling pid refs) ∨ ∃ pw ph refs, sl = .ready pid pw ph refs)) ∧
     (t.slotOf pid = none ↔ ∀ sl ∈ t.slots, (∀ refs, sl ≠ .filling pid refs) ∧
       ∀ pw ph refs, sl ≠ .ready pid pw ph refs))

/-! ## The print engine (R42 to R46, R121 to R128, R168) -/

/-- R42 to R46, R122: the head sheet's outcome takes it off the list, restarts or stops the head timer and counts;
outside RECOVERING a matching uncut sheet's DELIVERED asks for DONE at the edition used, a first spoil returns
the entry to QUEUED at the head of the work list, a second asks for FAIL SPOILED, and an unmatched sheet is
reported LOST; in RECOVERING the outcome is deferred. -/
def Obligations.OutcomeOfTheHeadSheet : Prop :=
  ∀ (s : State) (sh : Sheet) (rest : List Sheet) (o : EngineOutcome), s.lane.hold = false →
    s.lane.sheets = sh :: rest → sh.page < 1024 →
    ∃ t, exec (.outcomeRecord sh.page o) s = .next t ∧ t.lane.sheets = rest ∧
      t.lane.headTimer = (if rest = [] then none else some 30000) ∧ t.lane.phase = s.lane.phase ∧
      t.lane.delivered = (if o = .delivered then (s.lane.delivered + 1) % 2 ^ 32 else s.lane.delivered) ∧
      t.lane.spoiled = (if o = .spoiled then (s.lane.spoiled + 1) % 2 ^ 32 else s.lane.spoiled) ∧
      t.lane.withdrawn = (if o = .withdrawn then (s.lane.withdrawn + 1) % 2 ^ 32 else s.lane.withdrawn) ∧
      t.board = s.board ∧ t.roster = s.roster ∧ t.comp = s.comp ∧ t.ctl = s.ctl ∧
      (s.fault.phase = .recovering → t.fault = { s.fault with deferred := s.fault.deferred ++ [(sh, o)] } ∧
        t.claims = s.claims ∧ t.port = s.port ∧ t.link = s.link) ∧
      (s.fault.phase ≠ .recovering → t.fault = s.fault ∧
        (sh.cut = true → t.claims.work = s.claims.work ∧ t.link = s.link) ∧
        (∀ e before after, sh.cut = false → s.claims.work = before ++ e :: after → e.page = sh.page →
          e.phase = .inEngine → (∀ y ∈ before ++ after, y.page ≠ sh.page) →
          t.link = s.link ∧
          (o = .delivered → t.claims.work = s.claims.work ∧ (s.closing sh.page = false →
            s.claims.waiting = [] → s.participation = .full → s.port.queue.length < 16 →
            ∃ y ∈ t.port.queue, y.body = .frame (.done sh.page (e.edition.getD 0)))) ∧
          (o ≠ .delivered → e.spoils = 0 → t.claims.work =
            { e with phase := .queued, spoils := 1, edition := none, notices := none } :: (before ++ after)) ∧
          (o ≠ .delivered → e.spoils ≠ 0 → t.claims.work = s.claims.work ∧ (s.closing sh.page = false →
            s.claims.waiting = [] → s.participation = .full → s.port.queue.length < 16 →
            ∃ y ∈ t.port.queue, y.body = .frame (.fail sh.page 2)))) ∧
        (sh.cut = false → (∀ y ∈ s.claims.work, y.page = sh.page → y.phase ≠ .inEngine) →
          t.claims.work = s.claims.work ∧ t.link = s.link.handed
            ⟨s.straps.station, .pageReport sh.page (some sh.edition) .lost none⟩))

/-- R121, R123, R128, R181: an outcome for another page than the head sheet's, or with no sheet outstanding, raises
ENGINE_MISMATCH with its page. A bad record raises it with no page, in whatever pieces its bytes come: one whose header check
fails (the CRC-8 differs, or the kind is not 0x10), one of a wrong length (found when its payload has come: log 43), and one
with a page of 1024 or more or an outcome code that is none of the three; so does a whole record with such a page. The detail is
the head sheet's page, or 65535. While the outcome hold is set every record is discarded unexamined, and with it, by the
model's choice, the bytes of a record not yet complete (log 21). -/
def Obligations.WrongOutcomeRaisesEngineMismatch : Prop :=
  ∀ s : State,
    (s.lane.hold = true → (∀ page o, exec (.outcomeRecord page o) s = .next { s with lane := { s.lane with hunt := [] } }) ∧
      ∀ bs, exec (.badOutcomeRecord bs) s = .next { s with lane := { s.lane with hunt := [] } }) ∧
    (∀ page o, s.lane.hold = false → s.fault.phase = .clear → page < 1024 →
      (∀ sh rest, s.lane.sheets = sh :: rest → sh.page ≠ page) →
      ∃ t x, exec (.outcomeRecord page o) s = .next t ∧ t.fault.record = some x ∧ x.cause = .engineMismatch ∧
        x.page = some page ∧ x.cell = none ∧ x.detail = (match s.lane.sheets with | sh :: _ => sh.page | [] => 65535) ∧
        t.lane.delivered = s.lane.delivered ∧ t.lane.spoiled = s.lane.spoiled ∧
        t.lane.withdrawn = s.lane.withdrawn ∧ t.board = s.board) ∧
    (∀ c : Instr, s.lane.hold = false → s.fault.phase = .clear →
      ((∃ page o, c = .outcomeRecord page o ∧ 1024 ≤ page) ∨
       (∃ bs, c = .badOutcomeRecord bs ∧
         ((∃ k l2 l1 l0 check rest, s.lane.hunt ++ bs = 0xA5#8 :: k :: l2 :: l1 :: l0 :: check :: rest ∧
             (crc8 [k, l2, l1, l0] ≠ check ∨ k ≠ 0x10#8) ∧ 0xA5#8 ∉ k :: l2 :: l1 :: l0 :: check :: rest) ∨
          (∃ l2 l1 l0 payload, s.lane.hunt ++ bs =
              0xA5#8 :: 0x10#8 :: l2 :: l1 :: l0 :: crc8 [0x10#8, l2, l1, l0] :: payload ∧
             payload.length = l2.toNat * 65536 + l1.toNat * 256 + l0.toNat ∧ payload.length ≠ 3) ∨
          (∃ p1 p0 o : Byte, s.lane.hunt ++ bs =
              [0xA5#8, 0x10#8, 0#8, 0#8, 3#8, crc8 [0x10#8, 0#8, 0#8, 3#8], p1, p0, o] ∧
             (1024 ≤ p1.toNat * 256 + p0.toNat ∨ o.toNat = 0 ∨ 3 < o.toNat))))) →
      ∃ t x, exec c s = .next t ∧ t.fault.record = some x ∧ x.cause = .engineMismatch ∧ x.page = none ∧ x.cell = none ∧
        x.detail = (match s.lane.sheets with | sh :: _ => sh.page | [] => 65535) ∧
        t.lane.delivered = s.lane.delivered ∧ t.lane.spoiled = s.lane.spoiled ∧
        t.lane.withdrawn = s.lane.withdrawn ∧ t.board = s.board)

/-- R124, R126, R127, R164: the head timer, and ENGINE_OFFLINE as it is asserted, raise their faults with page and
detail of the sheet list; with no page held the engine-class recovery empties the list at once, adds its sheets
to the lost counter, forgets the last template, sets the outcome hold and leaves the lane IDLE; the bytes of a return record
not yet complete go with it (log 43).

R86, R127, R161, R162, R164: that recovery, of the head timer and of ENGINE_OFFLINE alike, has the held page cut and RELEASE asked for
every work-list entry in list order (log 45), each awaited; the record shows the band being prepared where its page is the
held one. While there is a page to cut the flush waits for it, else it is made at once and leaves the lane IDLE (a close in
flight: log 34; the bytes of a return record not yet complete: log 43). The level ENGINE_OFFLINE stands asserted.

R125, R126: the two levels are sampled; SHEET_READY changes nothing else, and ENGINE_OFFLINE asserted again, or
in SETUP_WAIT and PLAN_LOAD with no sheet outstanding, raises nothing. -/
def Obligations.EngineFaultsAndLevels : Prop :=
  (∀ (s : State) (c : Instr) (x : FaultRecord), s.fault.phase = .clear → s.comp.held = none →
     ((∃ sh rest, c = .headTimerExpiry ∧ s.lane.headTimer.isSome = true ∧ s.lane.sheets = sh :: rest ∧
         x = (s.fault.first .engineTimeout (some sh.page) none none sh.edition)) ∨
      (c = .engineOfflineAsserted ∧ s.lane.offline = false ∧
         ¬ ((s.ctl.state = .setupWait ∨ s.ctl.state = .planLoad) ∧ s.lane.sheets = []) ∧
         x = (s.fault.first .engineOffline (s.lane.sheets.head?.map (fun sh => sh.page)) none none s.lane.sheets.length))) →
     ∃ t, exec c s = .next t ∧ t.fault.record = some x ∧ t.lane.sheets = [] ∧ t.lane.headTimer = none ∧
       t.lane.lost = (s.lane.lost + s.lane.sheets.length) % 2 ^ 32 ∧ t.lane.lastTemplate = none ∧
       t.lane.hold = true ∧ t.lane.phase = .idle ∧ t.lane.hunt = [] ∧ t.fault.lost = s.lane.sheets.length ∧ t.board = s.board ∧ t.roster = s.roster ∧
       t.lane.offline = (if c = .engineOfflineAsserted then true else s.lane.offline) ∧
       t.ctl = s.ctl ∧ t.pool = s.pool ∧ t.setup = s.setup) ∧
  (∀ (s : State) (c : Instr) (cause : Cause) (page : Option Nat) (detail : Nat) (lane : Lane),
     s.fault.phase = .clear → (s.claims.work.map (fun w => w.page)).Nodup →
     ((∃ sh rest, c = .headTimerExpiry ∧ s.lane.headTimer.isSome = true ∧ s.lane.sheets = sh :: rest ∧
         cause = .engineTimeout ∧ page = some sh.page ∧ detail = sh.edition ∧
         lane = { s.lane with headTimer := none }) ∨
      (c = .engineOfflineAsserted ∧ s.lane.offline = false ∧
         ¬ ((s.ctl.state = .setupWait ∨ s.ctl.state = .planLoad) ∧ s.lane.sheets = []) ∧
         cause = .engineOffline ∧ page = s.lane.sheets.head?.map (fun sh => sh.page) ∧
         detail = s.lane.sheets.length ∧ lane = { s.lane with offline := true })) →
     ∃ t, exec c s = .next t ∧ t.claims.work = s.claims.work ∧
       t.fault.awaited = s.claims.work.map (fun w => w.page) ∧
       (∀ w ∈ s.claims.work, t.closing w.page = true ∧ (s.closing w.page = false → t.asked (.release w.page))) ∧
       t.comp.cut = (s.comp.cut || s.cuttable) ∧ t.fault.cutStep = s.cuttable ∧ t.fault.flushStep = s.cuttable ∧
       t.fault.haltStep = false ∧
       t.fault.record = some (s.fault.first cause page none
         (s.comp.held.bind (fun x => if page = some x.page then some x.band else none)) detail) ∧
       (s.cuttable = true → t.lane = lane) ∧
       (s.cuttable = false → t.lane = { lane with
         phase := .idle, hunt := [], headTimer := none, sheets := [], lastTemplate := none, hold := true,
         lost := (s.lane.lost + s.lane.sheets.length) % 2 ^ 32 }) ∧
       t.fault.phase = (if s.claims.work = [] ∧ s.cuttable = false then .held else .recovering)) ∧
  (∀ s : State,
     exec .sheetReadyAsserted s = .next { s with lane := { s.lane with sheetReady := true } } ∧
     exec .sheetReadyDeasserted s = .next { s with lane := { s.lane with sheetReady := false } } ∧
     (s.lane.offline = true → exec .engineOfflineAsserted s = .next s) ∧
     ((s.ctl.state = .setupWait ∨ s.ctl.state = .planLoad) → s.lane.sheets = [] → s.claims.pending = none →
       exec .engineOfflineAsserted s = .next { s with lane := { s.lane with offline := true } }) ∧
     (∃ t, exec .engineOfflineDeasserted s = .next t ∧
       t = { s with lane := { s.lane with offline := false }, port := t.port,
                    claims := { s.claims with pending := t.claims.pending } } ∧
       (s.ctl.state ≠ .active → t.port = s.port ∧ t.claims = s.claims)))

/-! ## Wire formats (R131, R133, R178 to R181) -/

/-- R131, R133, R179: the bits of a hall frame whose fields fit are a good frame, of 33 + 8 x length bits, and
spell that frame.

R151, R180: reading an entry's 7 bytes gives the entry back, for every entry whose fields fit and which is
FAILED when its lapse count is 3.

R171, R177, R178, R181: an outbound record's bytes are 0x7E, its kind, its length in two bytes, its payload and the CRC-32 of these
three, most significant byte first, and its payload has the length of its kind; the payload of a FETCH is written out (the
fields' order and flags: log 42). -/
def Obligations.FramesAndEntriesRoundTrip : Prop :=
  (∀ (c : Instr) (h : FrameHdr) (f : Frame), frameOf c = some (h, f) → c.wf = true →
     (frameBits h.sender h.hold f).length = 33 + 8 * f.payload.length ∧
     readWhole (frameBits h.sender h.hold f) = some (h.sender, h.hold, f)) ∧
  (∀ e : Entry, e.mark < 256 → e.need < 65536 → e.lapses ≤ 3 → e.reprints ≤ 15 →
     (∀ h, e.status.holder = some h → h < 16) → (∀ n, e.status.printedEdition = some n → n < 65536) →
     (e.lapses = 3 → ∃ h c, e.status = .failed h c) →
     e.bytes.length = 7 ∧ ∀ rest es, readEntries rest = some es → readEntries (e.bytes ++ rest) = some (e :: es)) ∧
  (∀ r : OutRecord,
     (∀ x, r.body = .status x → x.work.length < 256 ∧ x.sheets.length < 256) →
     outboundFits r.body.kind r.payload = true ∧
     (let core := BitVec.ofNat 8 r.body.kind :: (bytes2 r.payload.length ++ r.payload)
      r.bytes = 0x7E#8 :: (core ++ bytes4 (crc32On crc32Init core))) ∧
     (∀ st tag pid, r = ⟨st, .fetch tag pid⟩ →
       let core := [0x82#8, 0#8, 6#8, BitVec.ofNat 8 st, BitVec.ofNat 8 tag] ++ bytes4 pid
       r.bytes = 0x7E#8 :: (core ++ bytes4 (crc32On crc32Init core))))

/-! ## The laws every step keeps -/

/-- R136, R141, R143: every step keeps the transmit queue within 16 entries, the counts below 32, and a SILENT
port without a frame to send. -/
def Obligations.PortLawIsKept : Prop := ∀ s t : State, s.portLaw → step s = .next t → t.portLaw

/-- R49, R51: every step keeps the Amendment Store and a collected run within 64 records.

R139, R140, R145, R152: every step keeps that a run is collected only in SYNCING with no installed replica, at a port that takes
full part, and while its responder holds it.

R68, R102, R120, R177: every step keeps the sheet list within 4, the fetch list within 8 and the outbound list
within 64.

The DRAM keeps its canonical form at every step. -/
def Obligations.ListAndMemoryLawsAreKept : Prop :=
  (∀ s t : State, s.storeLaw → step s = .next t → t.storeLaw) ∧
  (∀ s t : State, s.collectLaw → step s = .next t → t.collectLaw) ∧
  (∀ s t : State, s.sheetLaw → s.listLaw → step s = .next t → t.sheetLaw ∧ t.listLaw) ∧
  (∀ s t : State, s.dramLaw → step s = .next t → t.dramLaw)

/-- R160, R161: every step keeps a fault record outside CLEAR alone; and while the phase is not CLEAR before and
after a command other than a reset and a stream of link bytes (which may hold an acknowledgement), its cause,
page, cell, band, detail and serial stand. -/
def Obligations.FaultRecordStands : Prop :=
  (∀ s t : State, s.faultLaw → step s = .next t → t.faultLaw) ∧
  ∀ (s t : State) (c : Instr) (x y : FaultRecord), s.faultLaw → exec c s = .next t →
    (∀ st rate, c ≠ .coldReset st rate) → (∀ bs, c ≠ .badInboundRecord bs) → s.fault.record = some x →
    t.fault.record = some y → y = { x with followOn := y.followOn }

/-- R24, R27, R28: while a station collects no run, no step breaks a law of its board: no lapse count passes 3 and
at 3 the page is FAILED, a printed edition is not below the need edition, and the holder of a claim is present. -/
def Obligations.BoardLawIsKept : Prop :=
  ∀ s t : State, s.boardLaw → s.ctl.collection = none → step s = .next t → t.boardLaw

/-- R100, R101, R113: every step keeps the law of the tile slots: a slot is FREE exactly when it has no reference
and no fetch-list entry names it. -/
def Obligations.SlotLawIsKept : Prop := ∀ s t : State, s.slotLaw → step s = .next t → t.slotLaw

/-- R23: two stations with equal replicas, Amendment Stores, last launched editions and plans that apply the same
frame, neither collecting a run and neither leaving, hold equal ones after it. -/
def Obligations.EqualReplicasStayEqual : Prop :=
  ∀ (c : Instr) (h : FrameHdr) (f : Frame) (s1 s2 t1 t2 : State) (r : Replica), frameOf c = some (h, f) →
    (∀ st, f = .leave st → h.sender ≠ s1.straps.station ∧ h.sender ≠ s2.straps.station) →
    s1.hears → s2.hears → s1.board.replica = some r → s2.board.replica = some r → s1.pool = s2.pool →
    s1.board.lastLaunched = s2.board.lastLaunched → s1.roster.head = s2.roster.head →
    s1.roster.status = .loaded → s2.roster.status = .loaded → s1.roster.pages = s2.roster.pages →
    s1.roster.templates = s2.roster.templates → s1.roster.sections = s2.roster.sections →
    exec c s1 = .next t1 → exec c s2 = .next t2 →
    t1.pool = t2.pool ∧ t1.board.lastLaunched = t2.board.lastLaunched ∧
    t1.board.replica.map (fun q => (q.entries, q.present)) = t2.board.replica.map (fun q => (q.entries, q.present))
end

