-- ==== Sys2Proof/Laws/Memory.lean ====
section
/-! SUPPORT. The DRAM (R100): every write keeps the canonical form, a written byte reads back, every other
byte reads as before, and memories in canonical form that read alike are equal. -/

namespace Sys2Proof.Laws

open Sys2Proof Sys2Proof.Machine

theorem cellsFrom_range (bs : List Byte) (a : Nat) (c : Host.Cell) (h : c ∈ Mem.cellsFrom a bs) :
    a ≤ c.1 ∧ c.1 < a + bs.length ∧ c.2 ≠ 0 := by
  induction bs generalizing a with
  | nil => simp [Mem.cellsFrom] at h
  | cons b bs ih =>
    simp only [Mem.cellsFrom] at h
    split at h
    · have := ih (a + 1) h
      simp only [List.length_cons]
      exact ⟨by omega, by omega, this.2.2⟩
    · rcases List.mem_cons.1 h with rfl | h
      · refine ⟨Nat.le_refl _, ?_, ‹_›⟩
        simp only [List.length_cons]; omega
      · have := ih (a + 1) h
        simp only [List.length_cons]
        exact ⟨by omega, by omega, this.2.2⟩

theorem cellsFrom_sorted (bs : List Byte) (a : Nat) :
    (Mem.cellsFrom a bs).Pairwise (fun x y => x.1 < y.1) := by
  induction bs generalizing a with
  | nil => simp [Mem.cellsFrom]
  | cons b bs ih =>
    simp only [Mem.cellsFrom]
    split
    · exact ih (a + 1)
    · refine List.pairwise_cons.2 ⟨fun c hc => ?_, ih (a + 1)⟩
      have := (cellsFrom_range bs (a + 1) c hc).1
      dsimp only; omega

/-- A write keeps the canonical form. -/
theorem write_wf (m : List Host.Cell) (a : Nat) (bs : List Byte) (h : Mem.wf m) : Mem.wf (Mem.write m a bs) := by
  obtain ⟨hs, hn⟩ := h
  constructor
  · unfold Mem.write
    rw [List.append_assoc]
    refine List.pairwise_append.2 ⟨hs.filter _, List.pairwise_append.2 ⟨cellsFrom_sorted bs a, hs.filter _, ?_⟩, ?_⟩
    · intro x hx y hy
      have := (cellsFrom_range bs a x hx).2.1
      simp only [List.mem_filter, decide_eq_true_eq] at hy
      omega
    · intro x hx y hy
      simp only [List.mem_filter, decide_eq_true_eq] at hx
      rcases List.mem_append.1 hy with hy | hy
      · have := (cellsFrom_range bs a y hy).1
        omega
      · simp only [List.mem_filter, decide_eq_true_eq] at hy
        omega
  · intro c hc
    unfold Mem.write at hc
    rcases List.mem_append.1 hc with hc | hc
    · rcases List.mem_append.1 hc with hc | hc
      · exact hn c (List.mem_filter.1 hc).1
      · exact (cellsFrom_range bs a c hc).2.2
    · exact hn c (List.mem_filter.1 hc).1

/-- The memory after reset is in canonical form. -/
theorem reset_wf : Mem.wf State.reset.tiles.dram := by
  simp [State.reset, Tiles.cleared, Mem.wf]

theorem find_filter_of {m : List Host.Cell} {p : Host.Cell → Bool} {x : Nat} (h : ∀ c : Host.Cell, c.1 = x → p c = true) :
    (m.filter p).find? (fun c => decide (c.1 = x)) = m.find? (fun c => decide (c.1 = x)) := by
  induction m with
  | nil => rfl
  | cons c m ih =>
    by_cases hc : c.1 = x
    · rw [List.filter_cons_of_pos (h c hc)]; simp [hc]
    · by_cases hp : p c = true
      · rw [List.filter_cons_of_pos hp]; simp [hc, ih]
      · rw [List.filter_cons_of_neg hp]; simp [hc, ih]

theorem find_none_of {m : List Host.Cell} {x : Nat} (h : ∀ c ∈ m, c.1 ≠ x) :
    m.find? (fun c => decide (c.1 = x)) = none := by
  rw [List.find?_eq_none]; intro c hc; simpa using h c hc

/-- A byte outside the written run reads as before. -/
theorem read_write_outside (m : List Host.Cell) (a x : Nat) (bs : List Byte)
    (h : ¬ (a ≤ x ∧ x < a + bs.length)) : Mem.read (Mem.write m a bs) x = Mem.read m x := by
  have hmid : (Mem.cellsFrom a bs).find? (fun c => decide (c.1 = x)) = none :=
    find_none_of (fun c hc hx => h (by have := cellsFrom_range bs a c hc; omega))
  unfold Mem.read Mem.write
  rw [List.find?_append, List.find?_append, hmid]
  by_cases hx : x < a
  · rw [find_filter_of (fun c hc => by simp [hc, hx]),
      find_none_of (m := m.filter (fun c => decide (a + bs.length ≤ c.1)))
        (fun c hc he => by simp only [List.mem_filter, decide_eq_true_eq] at hc; omega)]
    simp
  · rw [find_none_of (m := m.filter (fun c => decide (c.1 < a)))
        (fun c hc he => by simp only [List.mem_filter, decide_eq_true_eq] at hc; omega),
      find_filter_of (fun c hc => by simp only [decide_eq_true_eq]; omega)]
    simp

theorem read_cellsFrom (bs : List Byte) (a k : Nat) (b : Byte) (h : bs[k]? = some b) :
    Mem.read (Mem.cellsFrom a bs) (a + k) = b := by
  unfold Mem.read
  induction bs generalizing a k with
  | nil => simp at h
  | cons b0 bs ih =>
    cases k with
    | zero =>
      simp only [List.getElem?_cons_zero, Option.some.injEq] at h
      subst h
      unfold Mem.cellsFrom
      by_cases h0 : b0 = Mem.unlisted
      · rw [if_pos h0, find_none_of (fun c hc he => by have := cellsFrom_range bs (a + 1) c hc; omega)]
        exact h0.symm
      · rw [if_neg h0, List.find?_cons_of_pos (by simp)]
    | succ k =>
      simp only [List.getElem?_cons_succ] at h
      have hk := ih (a + 1) k h
      rw [show a + 1 + k = a + (k + 1) by omega] at hk
      unfold Mem.cellsFrom
      by_cases h0 : b0 = Mem.unlisted
      · rw [if_pos h0]; exact hk
      · rw [if_neg h0, List.find?_cons_of_neg (by simp)]
        exact hk

/-- A written byte reads back. -/
theorem read_write_inside (m : List Host.Cell) (a k : Nat) (bs : List Byte) (b : Byte) (h : bs[k]? = some b) :
    Mem.read (Mem.write m a bs) (a + k) = b := by
  have hk : k < bs.length := by
    rcases Nat.lt_or_ge k bs.length with hl | hl
    · exact hl
    · rw [List.getElem?_eq_none hl] at h; cases h
  have hmid := read_cellsFrom bs a k b h
  rw [← hmid]
  unfold Mem.read Mem.write
  rw [List.find?_append, List.find?_append,
    find_none_of (m := m.filter (fun c => decide (c.1 < a)))
      (fun c hc he => by simp only [List.mem_filter, decide_eq_true_eq] at hc; omega),
    find_none_of (m := m.filter (fun c => decide (a + bs.length ≤ c.1)))
      (fun c hc he => by simp only [List.mem_filter, decide_eq_true_eq] at hc; omega)]
  simp

/-- In a sorted memory an address is listed once. -/
theorem unique_address {m : List Host.Cell} (hs : m.Pairwise (fun x y => x.1 < y.1)) {u v : Host.Cell}
    (hu : u ∈ m) (hv : v ∈ m) (h : u.1 = v.1) : u = v := by
  induction m with
  | nil => cases hu
  | cons c m ih =>
    obtain ⟨hc, hm⟩ := List.pairwise_cons.1 hs
    rcases List.mem_cons.1 hu with eu | hu' <;> rcases List.mem_cons.1 hv with ev | hv'
    · rw [eu, ev]
    · have := hc v hv'; rw [eu] at h; omega
    · have := hc u hu'; rw [ev] at h; omega
    · exact ih hm hu' hv'

/-- In canonical form the cells are exactly the bytes that do not read as unlisted. -/
theorem mem_iff_read (m : List Host.Cell) (h : Mem.wf m) (c : Host.Cell) :
    c ∈ m ↔ c.2 ≠ 0 ∧ Mem.read m c.1 = c.2 := by
  obtain ⟨hs, hn⟩ := h
  constructor
  · intro hc
    refine ⟨hn c hc, ?_⟩
    unfold Mem.read
    cases hf : m.find? (fun y => decide (y.1 = c.1)) with
    | none => rw [List.find?_eq_none] at hf; exact absurd (hf c hc) (by simp)
    | some y =>
      have hy : y.1 = c.1 := by simpa using List.find?_some hf
      have hym := List.mem_of_find?_eq_some hf
      exact congrArg Prod.snd (unique_address hs hym hc hy)
  · rintro ⟨h0, hr⟩
    unfold Mem.read at hr
    cases hf : m.find? (fun y => decide (y.1 = c.1)) with
    | none => rw [hf] at hr; exact absurd hr.symm h0
    | some y =>
      rw [hf] at hr
      have hy : y.1 = c.1 := by simpa using List.find?_some hf
      have : y = c := Prod.ext hy hr
      exact this ▸ List.mem_of_find?_eq_some hf

/-- Memories in canonical form that read alike are equal data. -/
theorem eq_of_read (m n : List Host.Cell) (hm : Mem.wf m) (hn : Mem.wf n)
    (h : ∀ a, Mem.read m a = Mem.read n a) : m = n := by
  have nodup : ∀ l : List Host.Cell, Mem.wf l → l.Nodup := fun l hl =>
    hl.1.imp (fun hxy e => by subst e; exact Nat.lt_irrefl _ hxy)
  have hp : m.Perm n := (List.perm_ext_iff_of_nodup (nodup m hm) (nodup n hn)).2
    (fun c => by rw [mem_iff_read m hm, mem_iff_read n hn, h])
  exact hp.eq_of_pairwise (fun a b _ _ h1 h2 => absurd h1 (Nat.not_lt.2 (Nat.le_of_lt h2))) hm.1 hn.1

end Sys2Proof.Laws
end

