-- ==== Sys2Proof/Laws/State.lean ====
section
/-! SUPPORT. Each setter against each field: the field it sets reads as the new value, every other field as
before. All by rfl. -/

namespace Sys2Proof.Laws

open Sys2Proof.Machine

@[simp] theorem setStraps_pending (s : State) (x : Straps) : (s.setStraps x).pending = s.pending := rfl
@[simp] theorem setStraps_straps (s : State) (x : Straps) : (s.setStraps x).straps = x := rfl
@[simp] theorem setStraps_ctl (s : State) (x : Straps) : (s.setStraps x).ctl = s.ctl := rfl
@[simp] theorem setStraps_setup (s : State) (x : Straps) : (s.setStraps x).setup = s.setup := rfl
@[simp] theorem setStraps_roster (s : State) (x : Straps) : (s.setStraps x).roster = s.roster := rfl
@[simp] theorem setStraps_board (s : State) (x : Straps) : (s.setStraps x).board = s.board := rfl
@[simp] theorem setStraps_claims (s : State) (x : Straps) : (s.setStraps x).claims = s.claims := rfl
@[simp] theorem setStraps_pool (s : State) (x : Straps) : (s.setStraps x).pool = s.pool := rfl
@[simp] theorem setStraps_launch (s : State) (x : Straps) : (s.setStraps x).launch = s.launch := rfl
@[simp] theorem setStraps_comp (s : State) (x : Straps) : (s.setStraps x).comp = s.comp := rfl
@[simp] theorem setStraps_tiles (s : State) (x : Straps) : (s.setStraps x).tiles = s.tiles := rfl
@[simp] theorem setStraps_fetch (s : State) (x : Straps) : (s.setStraps x).fetch = s.fetch := rfl
@[simp] theorem setStraps_lane (s : State) (x : Straps) : (s.setStraps x).lane = s.lane := rfl
@[simp] theorem setStraps_port (s : State) (x : Straps) : (s.setStraps x).port = s.port := rfl
@[simp] theorem setStraps_fault (s : State) (x : Straps) : (s.setStraps x).fault = s.fault := rfl
@[simp] theorem setStraps_link (s : State) (x : Straps) : (s.setStraps x).link = s.link := rfl

@[simp] theorem setCtl_pending (s : State) (x : Ctl) : (s.setCtl x).pending = s.pending := rfl
@[simp] theorem setCtl_straps (s : State) (x : Ctl) : (s.setCtl x).straps = s.straps := rfl
@[simp] theorem setCtl_ctl (s : State) (x : Ctl) : (s.setCtl x).ctl = x := rfl
@[simp] theorem setCtl_setup (s : State) (x : Ctl) : (s.setCtl x).setup = s.setup := rfl
@[simp] theorem setCtl_roster (s : State) (x : Ctl) : (s.setCtl x).roster = s.roster := rfl
@[simp] theorem setCtl_board (s : State) (x : Ctl) : (s.setCtl x).board = s.board := rfl
@[simp] theorem setCtl_claims (s : State) (x : Ctl) : (s.setCtl x).claims = s.claims := rfl
@[simp] theorem setCtl_pool (s : State) (x : Ctl) : (s.setCtl x).pool = s.pool := rfl
@[simp] theorem setCtl_launch (s : State) (x : Ctl) : (s.setCtl x).launch = s.launch := rfl
@[simp] theorem setCtl_comp (s : State) (x : Ctl) : (s.setCtl x).comp = s.comp := rfl
@[simp] theorem setCtl_tiles (s : State) (x : Ctl) : (s.setCtl x).tiles = s.tiles := rfl
@[simp] theorem setCtl_fetch (s : State) (x : Ctl) : (s.setCtl x).fetch = s.fetch := rfl
@[simp] theorem setCtl_lane (s : State) (x : Ctl) : (s.setCtl x).lane = s.lane := rfl
@[simp] theorem setCtl_port (s : State) (x : Ctl) : (s.setCtl x).port = s.port := rfl
@[simp] theorem setCtl_fault (s : State) (x : Ctl) : (s.setCtl x).fault = s.fault := rfl
@[simp] theorem setCtl_link (s : State) (x : Ctl) : (s.setCtl x).link = s.link := rfl

@[simp] theorem setSetup_pending (s : State) (x : Option Setup) : (s.setSetup x).pending = s.pending := rfl
@[simp] theorem setSetup_straps (s : State) (x : Option Setup) : (s.setSetup x).straps = s.straps := rfl
@[simp] theorem setSetup_ctl (s : State) (x : Option Setup) : (s.setSetup x).ctl = s.ctl := rfl
@[simp] theorem setSetup_setup (s : State) (x : Option Setup) : (s.setSetup x).setup = x := rfl
@[simp] theorem setSetup_roster (s : State) (x : Option Setup) : (s.setSetup x).roster = s.roster := rfl
@[simp] theorem setSetup_board (s : State) (x : Option Setup) : (s.setSetup x).board = s.board := rfl
@[simp] theorem setSetup_claims (s : State) (x : Option Setup) : (s.setSetup x).claims = s.claims := rfl
@[simp] theorem setSetup_pool (s : State) (x : Option Setup) : (s.setSetup x).pool = s.pool := rfl
@[simp] theorem setSetup_launch (s : State) (x : Option Setup) : (s.setSetup x).launch = s.launch := rfl
@[simp] theorem setSetup_comp (s : State) (x : Option Setup) : (s.setSetup x).comp = s.comp := rfl
@[simp] theorem setSetup_tiles (s : State) (x : Option Setup) : (s.setSetup x).tiles = s.tiles := rfl
@[simp] theorem setSetup_fetch (s : State) (x : Option Setup) : (s.setSetup x).fetch = s.fetch := rfl
@[simp] theorem setSetup_lane (s : State) (x : Option Setup) : (s.setSetup x).lane = s.lane := rfl
@[simp] theorem setSetup_port (s : State) (x : Option Setup) : (s.setSetup x).port = s.port := rfl
@[simp] theorem setSetup_fault (s : State) (x : Option Setup) : (s.setSetup x).fault = s.fault := rfl
@[simp] theorem setSetup_link (s : State) (x : Option Setup) : (s.setSetup x).link = s.link := rfl

@[simp] theorem setRoster_pending (s : State) (x : Roster) : (s.setRoster x).pending = s.pending := rfl
@[simp] theorem setRoster_straps (s : State) (x : Roster) : (s.setRoster x).straps = s.straps := rfl
@[simp] theorem setRoster_ctl (s : State) (x : Roster) : (s.setRoster x).ctl = s.ctl := rfl
@[simp] theorem setRoster_setup (s : State) (x : Roster) : (s.setRoster x).setup = s.setup := rfl
@[simp] theorem setRoster_roster (s : State) (x : Roster) : (s.setRoster x).roster = x := rfl
@[simp] theorem setRoster_board (s : State) (x : Roster) : (s.setRoster x).board = s.board := rfl
@[simp] theorem setRoster_claims (s : State) (x : Roster) : (s.setRoster x).claims = s.claims := rfl
@[simp] theorem setRoster_pool (s : State) (x : Roster) : (s.setRoster x).pool = s.pool := rfl
@[simp] theorem setRoster_launch (s : State) (x : Roster) : (s.setRoster x).launch = s.launch := rfl
@[simp] theorem setRoster_comp (s : State) (x : Roster) : (s.setRoster x).comp = s.comp := rfl
@[simp] theorem setRoster_tiles (s : State) (x : Roster) : (s.setRoster x).tiles = s.tiles := rfl
@[simp] theorem setRoster_fetch (s : State) (x : Roster) : (s.setRoster x).fetch = s.fetch := rfl
@[simp] theorem setRoster_lane (s : State) (x : Roster) : (s.setRoster x).lane = s.lane := rfl
@[simp] theorem setRoster_port (s : State) (x : Roster) : (s.setRoster x).port = s.port := rfl
@[simp] theorem setRoster_fault (s : State) (x : Roster) : (s.setRoster x).fault = s.fault := rfl
@[simp] theorem setRoster_link (s : State) (x : Roster) : (s.setRoster x).link = s.link := rfl

@[simp] theorem setBoard_pending (s : State) (x : Board) : (s.setBoard x).pending = s.pending := rfl
@[simp] theorem setBoard_straps (s : State) (x : Board) : (s.setBoard x).straps = s.straps := rfl
@[simp] theorem setBoard_ctl (s : State) (x : Board) : (s.setBoard x).ctl = s.ctl := rfl
@[simp] theorem setBoard_setup (s : State) (x : Board) : (s.setBoard x).setup = s.setup := rfl
@[simp] theorem setBoard_roster (s : State) (x : Board) : (s.setBoard x).roster = s.roster := rfl
@[simp] theorem setBoard_board (s : State) (x : Board) : (s.setBoard x).board = x := rfl
@[simp] theorem setBoard_claims (s : State) (x : Board) : (s.setBoard x).claims = s.claims := rfl
@[simp] theorem setBoard_pool (s : State) (x : Board) : (s.setBoard x).pool = s.pool := rfl
@[simp] theorem setBoard_launch (s : State) (x : Board) : (s.setBoard x).launch = s.launch := rfl
@[simp] theorem setBoard_comp (s : State) (x : Board) : (s.setBoard x).comp = s.comp := rfl
@[simp] theorem setBoard_tiles (s : State) (x : Board) : (s.setBoard x).tiles = s.tiles := rfl
@[simp] theorem setBoard_fetch (s : State) (x : Board) : (s.setBoard x).fetch = s.fetch := rfl
@[simp] theorem setBoard_lane (s : State) (x : Board) : (s.setBoard x).lane = s.lane := rfl
@[simp] theorem setBoard_port (s : State) (x : Board) : (s.setBoard x).port = s.port := rfl
@[simp] theorem setBoard_fault (s : State) (x : Board) : (s.setBoard x).fault = s.fault := rfl
@[simp] theorem setBoard_link (s : State) (x : Board) : (s.setBoard x).link = s.link := rfl

@[simp] theorem setClaims_pending (s : State) (x : Claims) : (s.setClaims x).pending = s.pending := rfl
@[simp] theorem setClaims_straps (s : State) (x : Claims) : (s.setClaims x).straps = s.straps := rfl
@[simp] theorem setClaims_ctl (s : State) (x : Claims) : (s.setClaims x).ctl = s.ctl := rfl
@[simp] theorem setClaims_setup (s : State) (x : Claims) : (s.setClaims x).setup = s.setup := rfl
@[simp] theorem setClaims_roster (s : State) (x : Claims) : (s.setClaims x).roster = s.roster := rfl
@[simp] theorem setClaims_board (s : State) (x : Claims) : (s.setClaims x).board = s.board := rfl
@[simp] theorem setClaims_claims (s : State) (x : Claims) : (s.setClaims x).claims = x := rfl
@[simp] theorem setClaims_pool (s : State) (x : Claims) : (s.setClaims x).pool = s.pool := rfl
@[simp] theorem setClaims_launch (s : State) (x : Claims) : (s.setClaims x).launch = s.launch := rfl
@[simp] theorem setClaims_comp (s : State) (x : Claims) : (s.setClaims x).comp = s.comp := rfl
@[simp] theorem setClaims_tiles (s : State) (x : Claims) : (s.setClaims x).tiles = s.tiles := rfl
@[simp] theorem setClaims_fetch (s : State) (x : Claims) : (s.setClaims x).fetch = s.fetch := rfl
@[simp] theorem setClaims_lane (s : State) (x : Claims) : (s.setClaims x).lane = s.lane := rfl
@[simp] theorem setClaims_port (s : State) (x : Claims) : (s.setClaims x).port = s.port := rfl
@[simp] theorem setClaims_fault (s : State) (x : Claims) : (s.setClaims x).fault = s.fault := rfl
@[simp] theorem setClaims_link (s : State) (x : Claims) : (s.setClaims x).link = s.link := rfl

@[simp] theorem setPool_pending (s : State) (x : List Amendment) : (s.setPool x).pending = s.pending := rfl
@[simp] theorem setPool_straps (s : State) (x : List Amendment) : (s.setPool x).straps = s.straps := rfl
@[simp] theorem setPool_ctl (s : State) (x : List Amendment) : (s.setPool x).ctl = s.ctl := rfl
@[simp] theorem setPool_setup (s : State) (x : List Amendment) : (s.setPool x).setup = s.setup := rfl
@[simp] theorem setPool_roster (s : State) (x : List Amendment) : (s.setPool x).roster = s.roster := rfl
@[simp] theorem setPool_board (s : State) (x : List Amendment) : (s.setPool x).board = s.board := rfl
@[simp] theorem setPool_claims (s : State) (x : List Amendment) : (s.setPool x).claims = s.claims := rfl
@[simp] theorem setPool_pool (s : State) (x : List Amendment) : (s.setPool x).pool = x := rfl
@[simp] theorem setPool_launch (s : State) (x : List Amendment) : (s.setPool x).launch = s.launch := rfl
@[simp] theorem setPool_comp (s : State) (x : List Amendment) : (s.setPool x).comp = s.comp := rfl
@[simp] theorem setPool_tiles (s : State) (x : List Amendment) : (s.setPool x).tiles = s.tiles := rfl
@[simp] theorem setPool_fetch (s : State) (x : List Amendment) : (s.setPool x).fetch = s.fetch := rfl
@[simp] theorem setPool_lane (s : State) (x : List Amendment) : (s.setPool x).lane = s.lane := rfl
@[simp] theorem setPool_port (s : State) (x : List Amendment) : (s.setPool x).port = s.port := rfl
@[simp] theorem setPool_fault (s : State) (x : List Amendment) : (s.setPool x).fault = s.fault := rfl
@[simp] theorem setPool_link (s : State) (x : List Amendment) : (s.setPool x).link = s.link := rfl

@[simp] theorem setLaunch_pending (s : State) (x : Launch) : (s.setLaunch x).pending = s.pending := rfl
@[simp] theorem setLaunch_straps (s : State) (x : Launch) : (s.setLaunch x).straps = s.straps := rfl
@[simp] theorem setLaunch_ctl (s : State) (x : Launch) : (s.setLaunch x).ctl = s.ctl := rfl
@[simp] theorem setLaunch_setup (s : State) (x : Launch) : (s.setLaunch x).setup = s.setup := rfl
@[simp] theorem setLaunch_roster (s : State) (x : Launch) : (s.setLaunch x).roster = s.roster := rfl
@[simp] theorem setLaunch_board (s : State) (x : Launch) : (s.setLaunch x).board = s.board := rfl
@[simp] theorem setLaunch_claims (s : State) (x : Launch) : (s.setLaunch x).claims = s.claims := rfl
@[simp] theorem setLaunch_pool (s : State) (x : Launch) : (s.setLaunch x).pool = s.pool := rfl
@[simp] theorem setLaunch_launch (s : State) (x : Launch) : (s.setLaunch x).launch = x := rfl
@[simp] theorem setLaunch_comp (s : State) (x : Launch) : (s.setLaunch x).comp = s.comp := rfl
@[simp] theorem setLaunch_tiles (s : State) (x : Launch) : (s.setLaunch x).tiles = s.tiles := rfl
@[simp] theorem setLaunch_fetch (s : State) (x : Launch) : (s.setLaunch x).fetch = s.fetch := rfl
@[simp] theorem setLaunch_lane (s : State) (x : Launch) : (s.setLaunch x).lane = s.lane := rfl
@[simp] theorem setLaunch_port (s : State) (x : Launch) : (s.setLaunch x).port = s.port := rfl
@[simp] theorem setLaunch_fault (s : State) (x : Launch) : (s.setLaunch x).fault = s.fault := rfl
@[simp] theorem setLaunch_link (s : State) (x : Launch) : (s.setLaunch x).link = s.link := rfl

@[simp] theorem setComp_pending (s : State) (x : Comp) : (s.setComp x).pending = s.pending := rfl
@[simp] theorem setComp_straps (s : State) (x : Comp) : (s.setComp x).straps = s.straps := rfl
@[simp] theorem setComp_ctl (s : State) (x : Comp) : (s.setComp x).ctl = s.ctl := rfl
@[simp] theorem setComp_setup (s : State) (x : Comp) : (s.setComp x).setup = s.setup := rfl
@[simp] theorem setComp_roster (s : State) (x : Comp) : (s.setComp x).roster = s.roster := rfl
@[simp] theorem setComp_board (s : State) (x : Comp) : (s.setComp x).board = s.board := rfl
@[simp] theorem setComp_claims (s : State) (x : Comp) : (s.setComp x).claims = s.claims := rfl
@[simp] theorem setComp_pool (s : State) (x : Comp) : (s.setComp x).pool = s.pool := rfl
@[simp] theorem setComp_launch (s : State) (x : Comp) : (s.setComp x).launch = s.launch := rfl
@[simp] theorem setComp_comp (s : State) (x : Comp) : (s.setComp x).comp = x := rfl
@[simp] theorem setComp_tiles (s : State) (x : Comp) : (s.setComp x).tiles = s.tiles := rfl
@[simp] theorem setComp_fetch (s : State) (x : Comp) : (s.setComp x).fetch = s.fetch := rfl
@[simp] theorem setComp_lane (s : State) (x : Comp) : (s.setComp x).lane = s.lane := rfl
@[simp] theorem setComp_port (s : State) (x : Comp) : (s.setComp x).port = s.port := rfl
@[simp] theorem setComp_fault (s : State) (x : Comp) : (s.setComp x).fault = s.fault := rfl
@[simp] theorem setComp_link (s : State) (x : Comp) : (s.setComp x).link = s.link := rfl

@[simp] theorem setTiles_pending (s : State) (x : Tiles) : (s.setTiles x).pending = s.pending := rfl
@[simp] theorem setTiles_straps (s : State) (x : Tiles) : (s.setTiles x).straps = s.straps := rfl
@[simp] theorem setTiles_ctl (s : State) (x : Tiles) : (s.setTiles x).ctl = s.ctl := rfl
@[simp] theorem setTiles_setup (s : State) (x : Tiles) : (s.setTiles x).setup = s.setup := rfl
@[simp] theorem setTiles_roster (s : State) (x : Tiles) : (s.setTiles x).roster = s.roster := rfl
@[simp] theorem setTiles_board (s : State) (x : Tiles) : (s.setTiles x).board = s.board := rfl
@[simp] theorem setTiles_claims (s : State) (x : Tiles) : (s.setTiles x).claims = s.claims := rfl
@[simp] theorem setTiles_pool (s : State) (x : Tiles) : (s.setTiles x).pool = s.pool := rfl
@[simp] theorem setTiles_launch (s : State) (x : Tiles) : (s.setTiles x).launch = s.launch := rfl
@[simp] theorem setTiles_comp (s : State) (x : Tiles) : (s.setTiles x).comp = s.comp := rfl
@[simp] theorem setTiles_tiles (s : State) (x : Tiles) : (s.setTiles x).tiles = x := rfl
@[simp] theorem setTiles_fetch (s : State) (x : Tiles) : (s.setTiles x).fetch = s.fetch := rfl
@[simp] theorem setTiles_lane (s : State) (x : Tiles) : (s.setTiles x).lane = s.lane := rfl
@[simp] theorem setTiles_port (s : State) (x : Tiles) : (s.setTiles x).port = s.port := rfl
@[simp] theorem setTiles_fault (s : State) (x : Tiles) : (s.setTiles x).fault = s.fault := rfl
@[simp] theorem setTiles_link (s : State) (x : Tiles) : (s.setTiles x).link = s.link := rfl

@[simp] theorem setFetch_pending (s : State) (x : Fetch) : (s.setFetch x).pending = s.pending := rfl
@[simp] theorem setFetch_straps (s : State) (x : Fetch) : (s.setFetch x).straps = s.straps := rfl
@[simp] theorem setFetch_ctl (s : State) (x : Fetch) : (s.setFetch x).ctl = s.ctl := rfl
@[simp] theorem setFetch_setup (s : State) (x : Fetch) : (s.setFetch x).setup = s.setup := rfl
@[simp] theorem setFetch_roster (s : State) (x : Fetch) : (s.setFetch x).roster = s.roster := rfl
@[simp] theorem setFetch_board (s : State) (x : Fetch) : (s.setFetch x).board = s.board := rfl
@[simp] theorem setFetch_claims (s : State) (x : Fetch) : (s.setFetch x).claims = s.claims := rfl
@[simp] theorem setFetch_pool (s : State) (x : Fetch) : (s.setFetch x).pool = s.pool := rfl
@[simp] theorem setFetch_launch (s : State) (x : Fetch) : (s.setFetch x).launch = s.launch := rfl
@[simp] theorem setFetch_comp (s : State) (x : Fetch) : (s.setFetch x).comp = s.comp := rfl
@[simp] theorem setFetch_tiles (s : State) (x : Fetch) : (s.setFetch x).tiles = s.tiles := rfl
@[simp] theorem setFetch_fetch (s : State) (x : Fetch) : (s.setFetch x).fetch = x := rfl
@[simp] theorem setFetch_lane (s : State) (x : Fetch) : (s.setFetch x).lane = s.lane := rfl
@[simp] theorem setFetch_port (s : State) (x : Fetch) : (s.setFetch x).port = s.port := rfl
@[simp] theorem setFetch_fault (s : State) (x : Fetch) : (s.setFetch x).fault = s.fault := rfl
@[simp] theorem setFetch_link (s : State) (x : Fetch) : (s.setFetch x).link = s.link := rfl

@[simp] theorem setLane_pending (s : State) (x : Lane) : (s.setLane x).pending = s.pending := rfl
@[simp] theorem setLane_straps (s : State) (x : Lane) : (s.setLane x).straps = s.straps := rfl
@[simp] theorem setLane_ctl (s : State) (x : Lane) : (s.setLane x).ctl = s.ctl := rfl
@[simp] theorem setLane_setup (s : State) (x : Lane) : (s.setLane x).setup = s.setup := rfl
@[simp] theorem setLane_roster (s : State) (x : Lane) : (s.setLane x).roster = s.roster := rfl
@[simp] theorem setLane_board (s : State) (x : Lane) : (s.setLane x).board = s.board := rfl
@[simp] theorem setLane_claims (s : State) (x : Lane) : (s.setLane x).claims = s.claims := rfl
@[simp] theorem setLane_pool (s : State) (x : Lane) : (s.setLane x).pool = s.pool := rfl
@[simp] theorem setLane_launch (s : State) (x : Lane) : (s.setLane x).launch = s.launch := rfl
@[simp] theorem setLane_comp (s : State) (x : Lane) : (s.setLane x).comp = s.comp := rfl
@[simp] theorem setLane_tiles (s : State) (x : Lane) : (s.setLane x).tiles = s.tiles := rfl
@[simp] theorem setLane_fetch (s : State) (x : Lane) : (s.setLane x).fetch = s.fetch := rfl
@[simp] theorem setLane_lane (s : State) (x : Lane) : (s.setLane x).lane = x := rfl
@[simp] theorem setLane_port (s : State) (x : Lane) : (s.setLane x).port = s.port := rfl
@[simp] theorem setLane_fault (s : State) (x : Lane) : (s.setLane x).fault = s.fault := rfl
@[simp] theorem setLane_link (s : State) (x : Lane) : (s.setLane x).link = s.link := rfl

@[simp] theorem setPort_pending (s : State) (x : Port) : (s.setPort x).pending = s.pending := rfl
@[simp] theorem setPort_straps (s : State) (x : Port) : (s.setPort x).straps = s.straps := rfl
@[simp] theorem setPort_ctl (s : State) (x : Port) : (s.setPort x).ctl = s.ctl := rfl
@[simp] theorem setPort_setup (s : State) (x : Port) : (s.setPort x).setup = s.setup := rfl
@[simp] theorem setPort_roster (s : State) (x : Port) : (s.setPort x).roster = s.roster := rfl
@[simp] theorem setPort_board (s : State) (x : Port) : (s.setPort x).board = s.board := rfl
@[simp] theorem setPort_claims (s : State) (x : Port) : (s.setPort x).claims = s.claims := rfl
@[simp] theorem setPort_pool (s : State) (x : Port) : (s.setPort x).pool = s.pool := rfl
@[simp] theorem setPort_launch (s : State) (x : Port) : (s.setPort x).launch = s.launch := rfl
@[simp] theorem setPort_comp (s : State) (x : Port) : (s.setPort x).comp = s.comp := rfl
@[simp] theorem setPort_tiles (s : State) (x : Port) : (s.setPort x).tiles = s.tiles := rfl
@[simp] theorem setPort_fetch (s : State) (x : Port) : (s.setPort x).fetch = s.fetch := rfl
@[simp] theorem setPort_lane (s : State) (x : Port) : (s.setPort x).lane = s.lane := rfl
@[simp] theorem setPort_port (s : State) (x : Port) : (s.setPort x).port = x := rfl
@[simp] theorem setPort_fault (s : State) (x : Port) : (s.setPort x).fault = s.fault := rfl
@[simp] theorem setPort_link (s : State) (x : Port) : (s.setPort x).link = s.link := rfl

@[simp] theorem setFault_pending (s : State) (x : FaultUnit) : (s.setFault x).pending = s.pending := rfl
@[simp] theorem setFault_straps (s : State) (x : FaultUnit) : (s.setFault x).straps = s.straps := rfl
@[simp] theorem setFault_ctl (s : State) (x : FaultUnit) : (s.setFault x).ctl = s.ctl := rfl
@[simp] theorem setFault_setup (s : State) (x : FaultUnit) : (s.setFault x).setup = s.setup := rfl
@[simp] theorem setFault_roster (s : State) (x : FaultUnit) : (s.setFault x).roster = s.roster := rfl
@[simp] theorem setFault_board (s : State) (x : FaultUnit) : (s.setFault x).board = s.board := rfl
@[simp] theorem setFault_claims (s : State) (x : FaultUnit) : (s.setFault x).claims = s.claims := rfl
@[simp] theorem setFault_pool (s : State) (x : FaultUnit) : (s.setFault x).pool = s.pool := rfl
@[simp] theorem setFault_launch (s : State) (x : FaultUnit) : (s.setFault x).launch = s.launch := rfl
@[simp] theorem setFault_comp (s : State) (x : FaultUnit) : (s.setFault x).comp = s.comp := rfl
@[simp] theorem setFault_tiles (s : State) (x : FaultUnit) : (s.setFault x).tiles = s.tiles := rfl
@[simp] theorem setFault_fetch (s : State) (x : FaultUnit) : (s.setFault x).fetch = s.fetch := rfl
@[simp] theorem setFault_lane (s : State) (x : FaultUnit) : (s.setFault x).lane = s.lane := rfl
@[simp] theorem setFault_port (s : State) (x : FaultUnit) : (s.setFault x).port = s.port := rfl
@[simp] theorem setFault_fault (s : State) (x : FaultUnit) : (s.setFault x).fault = x := rfl
@[simp] theorem setFault_link (s : State) (x : FaultUnit) : (s.setFault x).link = s.link := rfl

@[simp] theorem setLink_pending (s : State) (x : Link) : (s.setLink x).pending = s.pending := rfl
@[simp] theorem setLink_straps (s : State) (x : Link) : (s.setLink x).straps = s.straps := rfl
@[simp] theorem setLink_ctl (s : State) (x : Link) : (s.setLink x).ctl = s.ctl := rfl
@[simp] theorem setLink_setup (s : State) (x : Link) : (s.setLink x).setup = s.setup := rfl
@[simp] theorem setLink_roster (s : State) (x : Link) : (s.setLink x).roster = s.roster := rfl
@[simp] theorem setLink_board (s : State) (x : Link) : (s.setLink x).board = s.board := rfl
@[simp] theorem setLink_claims (s : State) (x : Link) : (s.setLink x).claims = s.claims := rfl
@[simp] theorem setLink_pool (s : State) (x : Link) : (s.setLink x).pool = s.pool := rfl
@[simp] theorem setLink_launch (s : State) (x : Link) : (s.setLink x).launch = s.launch := rfl
@[simp] theorem setLink_comp (s : State) (x : Link) : (s.setLink x).comp = s.comp := rfl
@[simp] theorem setLink_tiles (s : State) (x : Link) : (s.setLink x).tiles = s.tiles := rfl
@[simp] theorem setLink_fetch (s : State) (x : Link) : (s.setLink x).fetch = s.fetch := rfl
@[simp] theorem setLink_lane (s : State) (x : Link) : (s.setLink x).lane = s.lane := rfl
@[simp] theorem setLink_port (s : State) (x : Link) : (s.setLink x).port = s.port := rfl
@[simp] theorem setLink_fault (s : State) (x : Link) : (s.setLink x).fault = s.fault := rfl
@[simp] theorem setLink_link (s : State) (x : Link) : (s.setLink x).link = x := rfl

end Sys2Proof.Laws
end

