-- ==== Sys2Proof/Laws/FrameOps.lean ====
section
/-! SUPPORT. What each shared operation leaves unchanged: the unit operations, the launches, the claims and the faults. -/

namespace Sys2Proof.Laws

open Sys2Proof Sys2Proof.Machine

set_option linter.all false

/-- A fold keeps what each of its steps keeps. -/
theorem foldl_keeps {α β : Type} (p : State → β) (f : State → α → State)
    (h : ∀ s a, p (f s a) = p s) (l : List α) (s : State) : p (l.foldl f s) = p s := by
  induction l generalizing s with
  | nil => rfl
  | cons a l ih => rw [List.foldl_cons, ih, h]

@[simp] theorem emit_frame (s : State) (b : OutBody) :
    (s.emit b).pending = s.pending ∧ (s.emit b).straps = s.straps ∧ (s.emit b).ctl = s.ctl ∧ (s.emit b).setup = s.setup ∧ (s.emit b).roster = s.roster ∧ (s.emit b).board = s.board ∧ (s.emit b).claims = s.claims ∧ (s.emit b).pool = s.pool ∧ (s.emit b).launch = s.launch ∧ (s.emit b).comp = s.comp ∧ (s.emit b).tiles = s.tiles ∧ (s.emit b).fetch = s.fetch ∧ (s.emit b).lane = s.lane ∧ (s.emit b).port = s.port ∧ (s.emit b).fault = s.fault := by
  refine ⟨?_, ?_, ?_, ?_, ?_, ?_, ?_, ?_, ?_, ?_, ?_, ?_, ?_, ?_, ?_⟩ <;> (unfold State.emit; (try dsimp only); (repeat' split) <;> (first | (simp; done) | rfl))

@[simp] theorem dropInbound_frame (s : State)  :
    (s.dropInbound).pending = s.pending ∧ (s.dropInbound).straps = s.straps ∧ (s.dropInbound).ctl = s.ctl ∧ (s.dropInbound).setup = s.setup ∧ (s.dropInbound).roster = s.roster ∧ (s.dropInbound).board = s.board ∧ (s.dropInbound).claims = s.claims ∧ (s.dropInbound).pool = s.pool ∧ (s.dropInbound).launch = s.launch ∧ (s.dropInbound).comp = s.comp ∧ (s.dropInbound).tiles = s.tiles ∧ (s.dropInbound).fetch = s.fetch ∧ (s.dropInbound).lane = s.lane ∧ (s.dropInbound).port = s.port ∧ (s.dropInbound).fault = s.fault := by
  refine ⟨?_, ?_, ?_, ?_, ?_, ?_, ?_, ?_, ?_, ?_, ?_, ?_, ?_, ?_, ?_⟩ <;> (unfold State.dropInbound; (try dsimp only); (repeat' split) <;> (first | (simp; done) | rfl))

@[simp] theorem enqueue_frame (s : State) (b : TxBody) :
    (s.enqueue b).pending = s.pending ∧ (s.enqueue b).straps = s.straps ∧ (s.enqueue b).ctl = s.ctl ∧ (s.enqueue b).setup = s.setup ∧ (s.enqueue b).roster = s.roster ∧ (s.enqueue b).board = s.board ∧ (s.enqueue b).claims = s.claims ∧ (s.enqueue b).pool = s.pool ∧ (s.enqueue b).launch = s.launch ∧ (s.enqueue b).comp = s.comp ∧ (s.enqueue b).tiles = s.tiles ∧ (s.enqueue b).fetch = s.fetch ∧ (s.enqueue b).lane = s.lane ∧ (s.enqueue b).fault = s.fault ∧ (s.enqueue b).link = s.link := by
  refine ⟨?_, ?_, ?_, ?_, ?_, ?_, ?_, ?_, ?_, ?_, ?_, ?_, ?_, ?_, ?_⟩ <;> (unfold State.enqueue; (try dsimp only); (repeat' split) <;> (first | (simp; done) | rfl))

@[simp] theorem withdraw_frame (s : State) (names : TxBody → Bool) :
    (s.withdraw names).pending = s.pending ∧ (s.withdraw names).straps = s.straps ∧ (s.withdraw names).ctl = s.ctl ∧ (s.withdraw names).setup = s.setup ∧ (s.withdraw names).roster = s.roster ∧ (s.withdraw names).board = s.board ∧ (s.withdraw names).claims = s.claims ∧ (s.withdraw names).pool = s.pool ∧ (s.withdraw names).launch = s.launch ∧ (s.withdraw names).comp = s.comp ∧ (s.withdraw names).tiles = s.tiles ∧ (s.withdraw names).fetch = s.fetch ∧ (s.withdraw names).lane = s.lane ∧ (s.withdraw names).fault = s.fault ∧ (s.withdraw names).link = s.link := by
  refine ⟨?_, ?_, ?_, ?_, ?_, ?_, ?_, ?_, ?_, ?_, ?_, ?_, ?_, ?_, ?_⟩ <;> (unfold State.withdraw; (try dsimp only); (repeat' split) <;> (first | (simp; done) | rfl))

theorem offerCtl_eq (s : State) (i : CtlItem) :
    s.offerCtl i = if s.canQueue then s.enqueue (s.ctlBody i)
      else s.setCtl { s.ctl with waiting := s.ctl.waiting ++ [i] } := by
  unfold State.offerCtl State.offer
  cases s.canQueue <;> rfl

@[simp] theorem offerCtl_frame (s : State) (i : CtlItem) :
    (s.offerCtl i).pending = s.pending ∧ (s.offerCtl i).straps = s.straps ∧ (s.offerCtl i).setup = s.setup ∧ (s.offerCtl i).roster = s.roster ∧ (s.offerCtl i).board = s.board ∧ (s.offerCtl i).claims = s.claims ∧ (s.offerCtl i).pool = s.pool ∧ (s.offerCtl i).launch = s.launch ∧ (s.offerCtl i).comp = s.comp ∧ (s.offerCtl i).tiles = s.tiles ∧ (s.offerCtl i).fetch = s.fetch ∧ (s.offerCtl i).lane = s.lane ∧ (s.offerCtl i).fault = s.fault ∧ (s.offerCtl i).link = s.link := by
  refine ⟨?_, ?_, ?_, ?_, ?_, ?_, ?_, ?_, ?_, ?_, ?_, ?_, ?_, ?_⟩ <;> (rw [offerCtl_eq]; split <;> simp)

@[simp] theorem offerAsk_frame (s : State)  :
    (s.offerAsk).pending = s.pending ∧ (s.offerAsk).straps = s.straps ∧ (s.offerAsk).setup = s.setup ∧ (s.offerAsk).roster = s.roster ∧ (s.offerAsk).board = s.board ∧ (s.offerAsk).claims = s.claims ∧ (s.offerAsk).pool = s.pool ∧ (s.offerAsk).launch = s.launch ∧ (s.offerAsk).comp = s.comp ∧ (s.offerAsk).tiles = s.tiles ∧ (s.offerAsk).fetch = s.fetch ∧ (s.offerAsk).lane = s.lane ∧ (s.offerAsk).fault = s.fault ∧ (s.offerAsk).link = s.link := by
  refine ⟨?_, ?_, ?_, ?_, ?_, ?_, ?_, ?_, ?_, ?_, ?_, ?_, ?_, ?_⟩ <;> (unfold State.offerAsk; (try dsimp only); (repeat' split) <;> (first | (simp; done) | rfl))

@[simp] theorem withSlots_frame (s : State) (slots : List Slot) :
    (s.withSlots slots).pending = s.pending ∧ (s.withSlots slots).straps = s.straps ∧ (s.withSlots slots).ctl = s.ctl ∧ (s.withSlots slots).setup = s.setup ∧ (s.withSlots slots).roster = s.roster ∧ (s.withSlots slots).board = s.board ∧ (s.withSlots slots).claims = s.claims ∧ (s.withSlots slots).pool = s.pool ∧ (s.withSlots slots).launch = s.launch ∧ (s.withSlots slots).comp = s.comp ∧ (s.withSlots slots).lane = s.lane ∧ (s.withSlots slots).port = s.port ∧ (s.withSlots slots).fault = s.fault ∧ (s.withSlots slots).link = s.link := by
  refine ⟨?_, ?_, ?_, ?_, ?_, ?_, ?_, ?_, ?_, ?_, ?_, ?_, ?_, ?_⟩ <;> (unfold State.withSlots; (try dsimp only); (repeat' split) <;> (first | (simp; done) | rfl))

@[simp] theorem keepRefs_frame (s : State) (keep : Ref → Bool) :
    (s.keepRefs keep).pending = s.pending ∧ (s.keepRefs keep).straps = s.straps ∧ (s.keepRefs keep).ctl = s.ctl ∧ (s.keepRefs keep).setup = s.setup ∧ (s.keepRefs keep).roster = s.roster ∧ (s.keepRefs keep).board = s.board ∧ (s.keepRefs keep).claims = s.claims ∧ (s.keepRefs keep).pool = s.pool ∧ (s.keepRefs keep).launch = s.launch ∧ (s.keepRefs keep).comp = s.comp ∧ (s.keepRefs keep).lane = s.lane ∧ (s.keepRefs keep).port = s.port ∧ (s.keepRefs keep).fault = s.fault ∧ (s.keepRefs keep).link = s.link := by
  refine ⟨?_, ?_, ?_, ?_, ?_, ?_, ?_, ?_, ?_, ?_, ?_, ?_, ?_, ?_⟩ <;> (unfold State.keepRefs; (try dsimp only); (repeat' split) <;> (first | (simp; done) | rfl))

@[simp] theorem addRefs_frame (s : State) (slot : Nat) (new : List Ref) :
    (s.addRefs slot new).pending = s.pending ∧ (s.addRefs slot new).straps = s.straps ∧ (s.addRefs slot new).ctl = s.ctl ∧ (s.addRefs slot new).setup = s.setup ∧ (s.addRefs slot new).roster = s.roster ∧ (s.addRefs slot new).board = s.board ∧ (s.addRefs slot new).claims = s.claims ∧ (s.addRefs slot new).pool = s.pool ∧ (s.addRefs slot new).launch = s.launch ∧ (s.addRefs slot new).comp = s.comp ∧ (s.addRefs slot new).lane = s.lane ∧ (s.addRefs slot new).port = s.port ∧ (s.addRefs slot new).fault = s.fault ∧ (s.addRefs slot new).link = s.link := by
  refine ⟨?_, ?_, ?_, ?_, ?_, ?_, ?_, ?_, ?_, ?_, ?_, ?_, ?_, ?_⟩ <;> (unfold State.addRefs; (try dsimp only); (repeat' split) <;> (first | (simp; done) | rfl))

@[simp] theorem dropPrefetch_frame (s : State) (page : Nat) :
    (s.dropPrefetch page).pending = s.pending ∧ (s.dropPrefetch page).straps = s.straps ∧ (s.dropPrefetch page).ctl = s.ctl ∧ (s.dropPrefetch page).setup = s.setup ∧ (s.dropPrefetch page).roster = s.roster ∧ (s.dropPrefetch page).board = s.board ∧ (s.dropPrefetch page).claims = s.claims ∧ (s.dropPrefetch page).pool = s.pool ∧ (s.dropPrefetch page).launch = s.launch ∧ (s.dropPrefetch page).comp = s.comp ∧ (s.dropPrefetch page).lane = s.lane ∧ (s.dropPrefetch page).port = s.port ∧ (s.dropPrefetch page).fault = s.fault ∧ (s.dropPrefetch page).link = s.link := by
  refine ⟨?_, ?_, ?_, ?_, ?_, ?_, ?_, ?_, ?_, ?_, ?_, ?_, ?_, ?_⟩ <;> (unfold State.dropPrefetch; (try dsimp only); (repeat' split) <;> (first | (simp; done) | rfl))

@[simp] theorem newPrefetch_frame (s : State) (page : Nat) :
    (s.newPrefetch page).pending = s.pending ∧ (s.newPrefetch page).straps = s.straps ∧ (s.newPrefetch page).ctl = s.ctl ∧ (s.newPrefetch page).setup = s.setup ∧ (s.newPrefetch page).roster = s.roster ∧ (s.newPrefetch page).board = s.board ∧ (s.newPrefetch page).claims = s.claims ∧ (s.newPrefetch page).pool = s.pool ∧ (s.newPrefetch page).launch = s.launch ∧ (s.newPrefetch page).comp = s.comp ∧ (s.newPrefetch page).tiles = s.tiles ∧ (s.newPrefetch page).lane = s.lane ∧ (s.newPrefetch page).port = s.port ∧ (s.newPrefetch page).fault = s.fault ∧ (s.newPrefetch page).link = s.link := by
  refine ⟨?_, ?_, ?_, ?_, ?_, ?_, ?_, ?_, ?_, ?_, ?_, ?_, ?_, ?_, ?_⟩ <;> (unfold State.newPrefetch; (try dsimp only); (repeat' split) <;> (first | (simp; done) | rfl))

@[simp] theorem request_frame (s : State) (slot : Nat) (pid : Id32) (refs : List Ref) (retry : Bool) :
    (s.request slot pid refs retry).pending = s.pending ∧ (s.request slot pid refs retry).straps = s.straps ∧ (s.request slot pid refs retry).ctl = s.ctl ∧ (s.request slot pid refs retry).setup = s.setup ∧ (s.request slot pid refs retry).roster = s.roster ∧ (s.request slot pid refs retry).board = s.board ∧ (s.request slot pid refs retry).claims = s.claims ∧ (s.request slot pid refs retry).pool = s.pool ∧ (s.request slot pid refs retry).launch = s.launch ∧ (s.request slot pid refs retry).comp = s.comp ∧ (s.request slot pid refs retry).lane = s.lane ∧ (s.request slot pid refs retry).port = s.port ∧ (s.request slot pid refs retry).fault = s.fault := by
  refine ⟨?_, ?_, ?_, ?_, ?_, ?_, ?_, ?_, ?_, ?_, ?_, ?_, ?_⟩ <;> (unfold State.request; (try dsimp only); (repeat' split) <;> (first | (simp; done) | rfl))

@[simp] theorem freeSlot_frame (s : State) (slot : Nat) :
    (s.freeSlot slot).pending = s.pending ∧ (s.freeSlot slot).straps = s.straps ∧ (s.freeSlot slot).ctl = s.ctl ∧ (s.freeSlot slot).setup = s.setup ∧ (s.freeSlot slot).roster = s.roster ∧ (s.freeSlot slot).board = s.board ∧ (s.freeSlot slot).claims = s.claims ∧ (s.freeSlot slot).pool = s.pool ∧ (s.freeSlot slot).launch = s.launch ∧ (s.freeSlot slot).comp = s.comp ∧ (s.freeSlot slot).fetch = s.fetch ∧ (s.freeSlot slot).lane = s.lane ∧ (s.freeSlot slot).port = s.port ∧ (s.freeSlot slot).fault = s.fault ∧ (s.freeSlot slot).link = s.link := by
  refine ⟨?_, ?_, ?_, ?_, ?_, ?_, ?_, ?_, ?_, ?_, ?_, ?_, ?_, ?_, ?_⟩ <;> (unfold State.freeSlot; (try dsimp only); (repeat' split) <;> (first | (simp; done) | rfl))

@[simp] theorem clearRefs_frame (s : State) (gone : Nat → Bool) :
    (s.clearRefs gone).pending = s.pending ∧ (s.clearRefs gone).straps = s.straps ∧ (s.clearRefs gone).ctl = s.ctl ∧ (s.clearRefs gone).setup = s.setup ∧ (s.clearRefs gone).roster = s.roster ∧ (s.clearRefs gone).board = s.board ∧ (s.clearRefs gone).claims = s.claims ∧ (s.clearRefs gone).pool = s.pool ∧ (s.clearRefs gone).launch = s.launch ∧ (s.clearRefs gone).tiles = s.tiles ∧ (s.clearRefs gone).fetch = s.fetch ∧ (s.clearRefs gone).lane = s.lane ∧ (s.clearRefs gone).port = s.port ∧ (s.clearRefs gone).fault = s.fault ∧ (s.clearRefs gone).link = s.link := by
  refine ⟨?_, ?_, ?_, ?_, ?_, ?_, ?_, ?_, ?_, ?_, ?_, ?_, ?_, ?_, ?_⟩ <;> (unfold State.clearRefs; (try dsimp only); (repeat' split) <;> (first | (simp; done) | rfl))

@[simp] theorem flushFetch_frame (s : State)  :
    (s.flushFetch).pending = s.pending ∧ (s.flushFetch).straps = s.straps ∧ (s.flushFetch).ctl = s.ctl ∧ (s.flushFetch).setup = s.setup ∧ (s.flushFetch).roster = s.roster ∧ (s.flushFetch).board = s.board ∧ (s.flushFetch).claims = s.claims ∧ (s.flushFetch).pool = s.pool ∧ (s.flushFetch).launch = s.launch ∧ (s.flushFetch).lane = s.lane ∧ (s.flushFetch).port = s.port ∧ (s.flushFetch).fault = s.fault ∧ (s.flushFetch).link = s.link :=
  ⟨by unfold State.flushFetch; (try dsimp only); (repeat' split) <;> (first | (simp; done) | rfl | (simp [foldl_keeps (fun t : State => t.pending)]; done) | (rw [foldl_keeps (fun t : State => t.pending)] <;> first | (simp; done) | (intros; simp; done) | (intros; split <;> simp; done))), by unfold State.flushFetch; (try dsimp only); (repeat' split) <;> (first | (simp; done) | rfl | (simp [foldl_keeps (fun t : State => t.straps)]; done) | (rw [foldl_keeps (fun t : State => t.straps)] <;> first | (simp; done) | (intros; simp; done) | (intros; split <;> simp; done))), by unfold State.flushFetch; (try dsimp only); (repeat' split) <;> (first | (simp; done) | rfl | (simp [foldl_keeps (fun t : State => t.ctl)]; done) | (rw [foldl_keeps (fun t : State => t.ctl)] <;> first | (simp; done) | (intros; simp; done) | (intros; split <;> simp; done))), by unfold State.flushFetch; (try dsimp only); (repeat' split) <;> (first | (simp; done) | rfl | (simp [foldl_keeps (fun t : State => t.setup)]; done) | (rw [foldl_keeps (fun t : State => t.setup)] <;> first | (simp; done) | (intros; simp; done) | (intros; split <;> simp; done))), by unfold State.flushFetch; (try dsimp only); (repeat' split) <;> (first | (simp; done) | rfl | (simp [foldl_keeps (fun t : State => t.roster)]; done) | (rw [foldl_keeps (fun t : State => t.roster)] <;> first | (simp; done) | (intros; simp; done) | (intros; split <;> simp; done))), by unfold State.flushFetch; (try dsimp only); (repeat' split) <;> (first | (simp; done) | rfl | (simp [foldl_keeps (fun t : State => t.board)]; done) | (rw [foldl_keeps (fun t : State => t.board)] <;> first | (simp; done) | (intros; simp; done) | (intros; split <;> simp; done))), by unfold State.flushFetch; (try dsimp only); (repeat' split) <;> (first | (simp; done) | rfl | (simp [foldl_keeps (fun t : State => t.claims)]; done) | (rw [foldl_keeps (fun t : State => t.claims)] <;> first | (simp; done) | (intros; simp; done) | (intros; split <;> simp; done))), by unfold State.flushFetch; (try dsimp only); (repeat' split) <;> (first | (simp; done) | rfl | (simp [foldl_keeps (fun t : State => t.pool)]; done) | (rw [foldl_keeps (fun t : State => t.pool)] <;> first | (simp; done) | (intros; simp; done) | (intros; split <;> simp; done))), by unfold State.flushFetch; (try dsimp only); (repeat' split) <;> (first | (simp; done) | rfl | (simp [foldl_keeps (fun t : State => t.launch)]; done) | (rw [foldl_keeps (fun t : State => t.launch)] <;> first | (simp; done) | (intros; simp; done) | (intros; split <;> simp; done))), by unfold State.flushFetch; (try dsimp only); (repeat' split) <;> (first | (simp; done) | rfl | (simp [foldl_keeps (fun t : State => t.lane)]; done) | (rw [foldl_keeps (fun t : State => t.lane)] <;> first | (simp; done) | (intros; simp; done) | (intros; split <;> simp; done))), by unfold State.flushFetch; (try dsimp only); (repeat' split) <;> (first | (simp; done) | rfl | (simp [foldl_keeps (fun t : State => t.port)]; done) | (rw [foldl_keeps (fun t : State => t.port)] <;> first | (simp; done) | (intros; simp; done) | (intros; split <;> simp; done))), by unfold State.flushFetch; (try dsimp only); (repeat' split) <;> (first | (simp; done) | rfl | (simp [foldl_keeps (fun t : State => t.fault)]; done) | (rw [foldl_keeps (fun t : State => t.fault)] <;> first | (simp; done) | (intros; simp; done) | (intros; split <;> simp; done))), by unfold State.flushFetch; (try dsimp only); (repeat' split) <;> (first | (simp; done) | rfl | (simp [foldl_keeps (fun t : State => t.link)]; done) | (rw [foldl_keeps (fun t : State => t.link)] <;> first | (simp; done) | (intros; simp; done) | (intros; split <;> simp; done)))⟩

@[simp] theorem leaveWork_frame (s : State) (page : Nat) :
    (s.leaveWork page).pending = s.pending ∧ (s.leaveWork page).straps = s.straps ∧ (s.leaveWork page).ctl = s.ctl ∧ (s.leaveWork page).setup = s.setup ∧ (s.leaveWork page).roster = s.roster ∧ (s.leaveWork page).board = s.board ∧ (s.leaveWork page).pool = s.pool ∧ (s.leaveWork page).launch = s.launch ∧ (s.leaveWork page).comp = s.comp ∧ (s.leaveWork page).lane = s.lane ∧ (s.leaveWork page).fault = s.fault ∧ (s.leaveWork page).link = s.link := by
  refine ⟨?_, ?_, ?_, ?_, ?_, ?_, ?_, ?_, ?_, ?_, ?_, ?_⟩ <;> (unfold State.leaveWork; (try dsimp only); (repeat' split) <;> (first | (simp; done) | rfl))

@[simp] theorem askClosing_frame (s : State) (f : Frame) (page : Nat) :
    (s.askClosing f page).pending = s.pending ∧ (s.askClosing f page).straps = s.straps ∧ (s.askClosing f page).ctl = s.ctl ∧ (s.askClosing f page).setup = s.setup ∧ (s.askClosing f page).roster = s.roster ∧ (s.askClosing f page).board = s.board ∧ (s.askClosing f page).pool = s.pool ∧ (s.askClosing f page).launch = s.launch ∧ (s.askClosing f page).comp = s.comp ∧ (s.askClosing f page).tiles = s.tiles ∧ (s.askClosing f page).fetch = s.fetch ∧ (s.askClosing f page).lane = s.lane ∧ (s.askClosing f page).fault = s.fault ∧ (s.askClosing f page).link = s.link := by
  refine ⟨?_, ?_, ?_, ?_, ?_, ?_, ?_, ?_, ?_, ?_, ?_, ?_, ?_, ?_⟩ <;> (unfold State.askClosing; (try dsimp only); (repeat' split) <;> (first | (simp; done) | rfl))

@[simp] theorem reviewPending_frame (s : State)  :
    (s.reviewPending).pending = s.pending ∧ (s.reviewPending).straps = s.straps ∧ (s.reviewPending).ctl = s.ctl ∧ (s.reviewPending).setup = s.setup ∧ (s.reviewPending).roster = s.roster ∧ (s.reviewPending).board = s.board ∧ (s.reviewPending).pool = s.pool ∧ (s.reviewPending).launch = s.launch ∧ (s.reviewPending).comp = s.comp ∧ (s.reviewPending).tiles = s.tiles ∧ (s.reviewPending).fetch = s.fetch ∧ (s.reviewPending).lane = s.lane ∧ (s.reviewPending).fault = s.fault ∧ (s.reviewPending).link = s.link := by
  refine ⟨?_, ?_, ?_, ?_, ?_, ?_, ?_, ?_, ?_, ?_, ?_, ?_, ?_, ?_⟩ <;> (unfold State.reviewPending; (try dsimp only); (repeat' split) <;> (first | (simp; done) | rfl))

@[simp] theorem queueClaim_frame (s : State) (page : Nat) :
    (s.queueClaim page).pending = s.pending ∧ (s.queueClaim page).straps = s.straps ∧ (s.queueClaim page).ctl = s.ctl ∧ (s.queueClaim page).setup = s.setup ∧ (s.queueClaim page).roster = s.roster ∧ (s.queueClaim page).board = s.board ∧ (s.queueClaim page).pool = s.pool ∧ (s.queueClaim page).launch = s.launch ∧ (s.queueClaim page).comp = s.comp ∧ (s.queueClaim page).tiles = s.tiles ∧ (s.queueClaim page).fetch = s.fetch ∧ (s.queueClaim page).lane = s.lane ∧ (s.queueClaim page).fault = s.fault ∧ (s.queueClaim page).link = s.link := by
  refine ⟨?_, ?_, ?_, ?_, ?_, ?_, ?_, ?_, ?_, ?_, ?_, ?_, ?_, ?_⟩ <;> (unfold State.queueClaim; (try dsimp only); (repeat' split) <;> (first | (simp; done) | rfl))

@[simp] theorem evalClaim_frame (s : State)  :
    (s.evalClaim).pending = s.pending ∧ (s.evalClaim).straps = s.straps ∧ (s.evalClaim).ctl = s.ctl ∧ (s.evalClaim).setup = s.setup ∧ (s.evalClaim).roster = s.roster ∧ (s.evalClaim).board = s.board ∧ (s.evalClaim).pool = s.pool ∧ (s.evalClaim).launch = s.launch ∧ (s.evalClaim).comp = s.comp ∧ (s.evalClaim).tiles = s.tiles ∧ (s.evalClaim).fetch = s.fetch ∧ (s.evalClaim).lane = s.lane ∧ (s.evalClaim).fault = s.fault ∧ (s.evalClaim).link = s.link := by
  refine ⟨?_, ?_, ?_, ?_, ?_, ?_, ?_, ?_, ?_, ?_, ?_, ?_, ?_, ?_⟩ <;> (unfold State.evalClaim; (try dsimp only); (repeat' split) <;> (first | (simp; done) | rfl))

@[simp] theorem offerLapse_frame (s : State) (page : Nat) :
    (s.offerLapse page).pending = s.pending ∧ (s.offerLapse page).straps = s.straps ∧ (s.offerLapse page).ctl = s.ctl ∧ (s.offerLapse page).setup = s.setup ∧ (s.offerLapse page).roster = s.roster ∧ (s.offerLapse page).claims = s.claims ∧ (s.offerLapse page).pool = s.pool ∧ (s.offerLapse page).launch = s.launch ∧ (s.offerLapse page).comp = s.comp ∧ (s.offerLapse page).tiles = s.tiles ∧ (s.offerLapse page).fetch = s.fetch ∧ (s.offerLapse page).lane = s.lane ∧ (s.offerLapse page).fault = s.fault ∧ (s.offerLapse page).link = s.link := by
  refine ⟨?_, ?_, ?_, ?_, ?_, ?_, ?_, ?_, ?_, ?_, ?_, ?_, ?_, ?_⟩ <;> (unfold State.offerLapse; (try dsimp only); (repeat' split) <;> (first | (simp; done) | rfl))

@[simp] theorem offerFirst_frame (s : State)  :
    (s.offerFirst).pending = s.pending ∧ (s.offerFirst).straps = s.straps ∧ (s.offerFirst).ctl = s.ctl ∧ (s.offerFirst).setup = s.setup ∧ (s.offerFirst).roster = s.roster ∧ (s.offerFirst).claims = s.claims ∧ (s.offerFirst).pool = s.pool ∧ (s.offerFirst).launch = s.launch ∧ (s.offerFirst).comp = s.comp ∧ (s.offerFirst).tiles = s.tiles ∧ (s.offerFirst).fetch = s.fetch ∧ (s.offerFirst).lane = s.lane ∧ (s.offerFirst).fault = s.fault ∧ (s.offerFirst).link = s.link := by
  refine ⟨?_, ?_, ?_, ?_, ?_, ?_, ?_, ?_, ?_, ?_, ?_, ?_, ?_, ?_⟩ <;> (unfold State.offerFirst; (try dsimp only); (repeat' split) <;> (first | (simp; done) | rfl))

@[simp] theorem handOff_frame (s : State) (subjects : List Nat) :
    (s.handOff subjects).pending = s.pending ∧ (s.handOff subjects).straps = s.straps ∧ (s.handOff subjects).ctl = s.ctl ∧ (s.handOff subjects).setup = s.setup ∧ (s.handOff subjects).roster = s.roster ∧ (s.handOff subjects).board = s.board ∧ (s.handOff subjects).claims = s.claims ∧ (s.handOff subjects).pool = s.pool ∧ (s.handOff subjects).launch = s.launch ∧ (s.handOff subjects).comp = s.comp ∧ (s.handOff subjects).lane = s.lane ∧ (s.handOff subjects).port = s.port ∧ (s.handOff subjects).fault = s.fault ∧ (s.handOff subjects).link = s.link := by
  refine ⟨?_, ?_, ?_, ?_, ?_, ?_, ?_, ?_, ?_, ?_, ?_, ?_, ?_, ?_⟩ <;> (unfold State.handOff; (try dsimp only); (repeat' split) <;> (first | (simp; done) | rfl))

@[simp] theorem applyBatch_frame (s : State) (b : Batch) :
    (s.applyBatch b).pending = s.pending ∧ (s.applyBatch b).straps = s.straps ∧ (s.applyBatch b).ctl = s.ctl ∧ (s.applyBatch b).setup = s.setup ∧ (s.applyBatch b).board = s.board ∧ (s.applyBatch b).claims = s.claims ∧ (s.applyBatch b).pool = s.pool ∧ (s.applyBatch b).launch = s.launch ∧ (s.applyBatch b).comp = s.comp ∧ (s.applyBatch b).lane = s.lane ∧ (s.applyBatch b).port = s.port ∧ (s.applyBatch b).fault = s.fault ∧ (s.applyBatch b).link = s.link := by
  refine ⟨?_, ?_, ?_, ?_, ?_, ?_, ?_, ?_, ?_, ?_, ?_, ?_, ?_⟩ <;> (unfold State.applyBatch; (try dsimp only); (repeat' split) <;> (first | (simp; done) | rfl))

@[simp] theorem applyWaiting_frame (s : State)  :
    (s.applyWaiting).pending = s.pending ∧ (s.applyWaiting).straps = s.straps ∧ (s.applyWaiting).ctl = s.ctl ∧ (s.applyWaiting).setup = s.setup ∧ (s.applyWaiting).board = s.board ∧ (s.applyWaiting).claims = s.claims ∧ (s.applyWaiting).pool = s.pool ∧ (s.applyWaiting).comp = s.comp ∧ (s.applyWaiting).lane = s.lane ∧ (s.applyWaiting).port = s.port ∧ (s.applyWaiting).fault = s.fault ∧ (s.applyWaiting).link = s.link :=
  ⟨by unfold State.applyWaiting; (try dsimp only); (repeat' split) <;> (first | (simp; done) | rfl | (simp [foldl_keeps (fun t : State => t.pending)]; done) | (rw [foldl_keeps (fun t : State => t.pending)] <;> first | (simp; done) | (intros; simp; done) | (intros; split <;> simp; done))), by unfold State.applyWaiting; (try dsimp only); (repeat' split) <;> (first | (simp; done) | rfl | (simp [foldl_keeps (fun t : State => t.straps)]; done) | (rw [foldl_keeps (fun t : State => t.straps)] <;> first | (simp; done) | (intros; simp; done) | (intros; split <;> simp; done))), by unfold State.applyWaiting; (try dsimp only); (repeat' split) <;> (first | (simp; done) | rfl | (simp [foldl_keeps (fun t : State => t.ctl)]; done) | (rw [foldl_keeps (fun t : State => t.ctl)] <;> first | (simp; done) | (intros; simp; done) | (intros; split <;> simp; done))), by unfold State.applyWaiting; (try dsimp only); (repeat' split) <;> (first | (simp; done) | rfl | (simp [foldl_keeps (fun t : State => t.setup)]; done) | (rw [foldl_keeps (fun t : State => t.setup)] <;> first | (simp; done) | (intros; simp; done) | (intros; split <;> simp; done))), by unfold State.applyWaiting; (try dsimp only); (repeat' split) <;> (first | (simp; done) | rfl | (simp [foldl_keeps (fun t : State => t.board)]; done) | (rw [foldl_keeps (fun t : State => t.board)] <;> first | (simp; done) | (intros; simp; done) | (intros; split <;> simp; done))), by unfold State.applyWaiting; (try dsimp only); (repeat' split) <;> (first | (simp; done) | rfl | (simp [foldl_keeps (fun t : State => t.claims)]; done) | (rw [foldl_keeps (fun t : State => t.claims)] <;> first | (simp; done) | (intros; simp; done) | (intros; split <;> simp; done))), by unfold State.applyWaiting; (try dsimp only); (repeat' split) <;> (first | (simp; done) | rfl | (simp [foldl_keeps (fun t : State => t.pool)]; done) | (rw [foldl_keeps (fun t : State => t.pool)] <;> first | (simp; done) | (intros; simp; done) | (intros; split <;> simp; done))), by unfold State.applyWaiting; (try dsimp only); (repeat' split) <;> (first | (simp; done) | rfl | (simp [foldl_keeps (fun t : State => t.comp)]; done) | (rw [foldl_keeps (fun t : State => t.comp)] <;> first | (simp; done) | (intros; simp; done) | (intros; split <;> simp; done))), by unfold State.applyWaiting; (try dsimp only); (repeat' split) <;> (first | (simp; done) | rfl | (simp [foldl_keeps (fun t : State => t.lane)]; done) | (rw [foldl_keeps (fun t : State => t.lane)] <;> first | (simp; done) | (intros; simp; done) | (intros; split <;> simp; done))), by unfold State.applyWaiting; (try dsimp only); (repeat' split) <;> (first | (simp; done) | rfl | (simp [foldl_keeps (fun t : State => t.port)]; done) | (rw [foldl_keeps (fun t : State => t.port)] <;> first | (simp; done) | (intros; simp; done) | (intros; split <;> simp; done))), by unfold State.applyWaiting; (try dsimp only); (repeat' split) <;> (first | (simp; done) | rfl | (simp [foldl_keeps (fun t : State => t.fault)]; done) | (rw [foldl_keeps (fun t : State => t.fault)] <;> first | (simp; done) | (intros; simp; done) | (intros; split <;> simp; done))), by unfold State.applyWaiting; (try dsimp only); (repeat' split) <;> (first | (simp; done) | rfl | (simp [foldl_keeps (fun t : State => t.link)]; done) | (rw [foldl_keeps (fun t : State => t.link)] <;> first | (simp; done) | (intros; simp; done) | (intros; split <;> simp; done)))⟩

@[simp] theorem requestCut_frame (s : State)  :
    (s.requestCut).pending = s.pending ∧ (s.requestCut).straps = s.straps ∧ (s.requestCut).ctl = s.ctl ∧ (s.requestCut).setup = s.setup ∧ (s.requestCut).roster = s.roster ∧ (s.requestCut).board = s.board ∧ (s.requestCut).claims = s.claims ∧ (s.requestCut).pool = s.pool ∧ (s.requestCut).launch = s.launch ∧ (s.requestCut).tiles = s.tiles ∧ (s.requestCut).fetch = s.fetch ∧ (s.requestCut).lane = s.lane ∧ (s.requestCut).port = s.port ∧ (s.requestCut).fault = s.fault ∧ (s.requestCut).link = s.link := by
  refine ⟨?_, ?_, ?_, ?_, ?_, ?_, ?_, ?_, ?_, ?_, ?_, ?_, ?_, ?_, ?_⟩ <;> (unfold State.requestCut; (try dsimp only); (repeat' split) <;> (first | (simp; done) | rfl))

@[simp] theorem enqueueBatch_frame (s : State) (b : Batch) :
    (s.enqueueBatch b).pending = s.pending ∧ (s.enqueueBatch b).straps = s.straps ∧ (s.enqueueBatch b).ctl = s.ctl ∧ (s.enqueueBatch b).setup = s.setup ∧ (s.enqueueBatch b).board = s.board ∧ (s.enqueueBatch b).claims = s.claims ∧ (s.enqueueBatch b).pool = s.pool ∧ (s.enqueueBatch b).lane = s.lane ∧ (s.enqueueBatch b).port = s.port ∧ (s.enqueueBatch b).fault = s.fault ∧ (s.enqueueBatch b).link = s.link := by
  refine ⟨?_, ?_, ?_, ?_, ?_, ?_, ?_, ?_, ?_, ?_, ?_⟩ <;> (unfold State.enqueueBatch; (try dsimp only); (repeat' split) <;> (first | (simp; done) | rfl))

@[simp] theorem reportPage_frame (s : State) (page : Nat) (edition : Option Nat) (o : PageOutcome) (n : Option Notices) :
    (s.reportPage page edition o n).pending = s.pending ∧ (s.reportPage page edition o n).straps = s.straps ∧ (s.reportPage page edition o n).ctl = s.ctl ∧ (s.reportPage page edition o n).setup = s.setup ∧ (s.reportPage page edition o n).roster = s.roster ∧ (s.reportPage page edition o n).board = s.board ∧ (s.reportPage page edition o n).claims = s.claims ∧ (s.reportPage page edition o n).pool = s.pool ∧ (s.reportPage page edition o n).launch = s.launch ∧ (s.reportPage page edition o n).comp = s.comp ∧ (s.reportPage page edition o n).tiles = s.tiles ∧ (s.reportPage page edition o n).fetch = s.fetch ∧ (s.reportPage page edition o n).lane = s.lane ∧ (s.reportPage page edition o n).port = s.port ∧ (s.reportPage page edition o n).fault = s.fault := by
  refine ⟨?_, ?_, ?_, ?_, ?_, ?_, ?_, ?_, ?_, ?_, ?_, ?_, ?_, ?_, ?_⟩ <;> (unfold State.reportPage; (try dsimp only); (repeat' split) <;> (first | (simp; done) | rfl))

@[simp] theorem requeueSpoiled_frame (s : State) (e : WorkEntry) :
    (s.requeueSpoiled e).pending = s.pending ∧ (s.requeueSpoiled e).straps = s.straps ∧ (s.requeueSpoiled e).ctl = s.ctl ∧ (s.requeueSpoiled e).setup = s.setup ∧ (s.requeueSpoiled e).roster = s.roster ∧ (s.requeueSpoiled e).board = s.board ∧ (s.requeueSpoiled e).pool = s.pool ∧ (s.requeueSpoiled e).launch = s.launch ∧ (s.requeueSpoiled e).comp = s.comp ∧ (s.requeueSpoiled e).tiles = s.tiles ∧ (s.requeueSpoiled e).lane = s.lane ∧ (s.requeueSpoiled e).port = s.port ∧ (s.requeueSpoiled e).fault = s.fault ∧ (s.requeueSpoiled e).link = s.link := by
  refine ⟨?_, ?_, ?_, ?_, ?_, ?_, ?_, ?_, ?_, ?_, ?_, ?_, ?_, ?_⟩ <;> (unfold State.requeueSpoiled; (try dsimp only); (repeat' split) <;> (first | (simp; done) | rfl))

@[simp] theorem claimOutcome_frame (s : State) (sh : Sheet) (o : EngineOutcome) :
    (s.claimOutcome sh o).pending = s.pending ∧ (s.claimOutcome sh o).straps = s.straps ∧ (s.claimOutcome sh o).ctl = s.ctl ∧ (s.claimOutcome sh o).setup = s.setup ∧ (s.claimOutcome sh o).roster = s.roster ∧ (s.claimOutcome sh o).board = s.board ∧ (s.claimOutcome sh o).pool = s.pool ∧ (s.claimOutcome sh o).launch = s.launch ∧ (s.claimOutcome sh o).comp = s.comp ∧ (s.claimOutcome sh o).tiles = s.tiles ∧ (s.claimOutcome sh o).lane = s.lane ∧ (s.claimOutcome sh o).fault = s.fault := by
  refine ⟨?_, ?_, ?_, ?_, ?_, ?_, ?_, ?_, ?_, ?_, ?_, ?_⟩ <;> (unfold State.claimOutcome; (try dsimp only); (repeat' split) <;> (first | (simp; done) | rfl))

@[simp] theorem dropWork_frame (s : State)  :
    (s.dropWork).pending = s.pending ∧ (s.dropWork).straps = s.straps ∧ (s.dropWork).ctl = s.ctl ∧ (s.dropWork).setup = s.setup ∧ (s.dropWork).roster = s.roster ∧ (s.dropWork).board = s.board ∧ (s.dropWork).pool = s.pool ∧ (s.dropWork).launch = s.launch ∧ (s.dropWork).comp = s.comp ∧ (s.dropWork).lane = s.lane ∧ (s.dropWork).link = s.link := by
  refine ⟨?_, ?_, ?_, ?_, ?_, ?_, ?_, ?_, ?_, ?_, ?_⟩ <;> (unfold State.dropWork; (try dsimp only); (repeat' split) <;> (first | (simp; done) | rfl))

@[simp] theorem reviewComplete_frame (s : State)  :
    (s.reviewComplete).pending = s.pending ∧ (s.reviewComplete).straps = s.straps ∧ (s.reviewComplete).ctl = s.ctl ∧ (s.reviewComplete).setup = s.setup ∧ (s.reviewComplete).roster = s.roster ∧ (s.reviewComplete).claims = s.claims ∧ (s.reviewComplete).pool = s.pool ∧ (s.reviewComplete).launch = s.launch ∧ (s.reviewComplete).comp = s.comp ∧ (s.reviewComplete).tiles = s.tiles ∧ (s.reviewComplete).fetch = s.fetch ∧ (s.reviewComplete).lane = s.lane ∧ (s.reviewComplete).port = s.port ∧ (s.reviewComplete).fault = s.fault := by
  refine ⟨?_, ?_, ?_, ?_, ?_, ?_, ?_, ?_, ?_, ?_, ?_, ?_, ?_, ?_⟩ <;> (unfold State.reviewComplete; (try dsimp only); (repeat' split) <;> (first | (simp; done) | rfl))

@[simp] theorem sendFaultReport_frame (s : State) (repeats : Nat) :
    (s.sendFaultReport repeats).pending = s.pending ∧ (s.sendFaultReport repeats).straps = s.straps ∧ (s.sendFaultReport repeats).ctl = s.ctl ∧ (s.sendFaultReport repeats).setup = s.setup ∧ (s.sendFaultReport repeats).roster = s.roster ∧ (s.sendFaultReport repeats).board = s.board ∧ (s.sendFaultReport repeats).claims = s.claims ∧ (s.sendFaultReport repeats).pool = s.pool ∧ (s.sendFaultReport repeats).launch = s.launch ∧ (s.sendFaultReport repeats).comp = s.comp ∧ (s.sendFaultReport repeats).tiles = s.tiles ∧ (s.sendFaultReport repeats).fetch = s.fetch ∧ (s.sendFaultReport repeats).lane = s.lane ∧ (s.sendFaultReport repeats).port = s.port := by
  refine ⟨?_, ?_, ?_, ?_, ?_, ?_, ?_, ?_, ?_, ?_, ?_, ?_, ?_, ?_⟩ <;> (unfold State.sendFaultReport; (try dsimp only); (repeat' split) <;> (first | (simp; done) | rfl))

@[simp] theorem repeatFaultReport_frame (s : State)  :
    (s.repeatFaultReport).pending = s.pending ∧ (s.repeatFaultReport).straps = s.straps ∧ (s.repeatFaultReport).ctl = s.ctl ∧ (s.repeatFaultReport).setup = s.setup ∧ (s.repeatFaultReport).roster = s.roster ∧ (s.repeatFaultReport).board = s.board ∧ (s.repeatFaultReport).claims = s.claims ∧ (s.repeatFaultReport).pool = s.pool ∧ (s.repeatFaultReport).launch = s.launch ∧ (s.repeatFaultReport).comp = s.comp ∧ (s.repeatFaultReport).tiles = s.tiles ∧ (s.repeatFaultReport).fetch = s.fetch ∧ (s.repeatFaultReport).lane = s.lane ∧ (s.repeatFaultReport).port = s.port := by
  refine ⟨?_, ?_, ?_, ?_, ?_, ?_, ?_, ?_, ?_, ?_, ?_, ?_, ?_, ?_⟩ <;> (unfold State.repeatFaultReport; (try dsimp only); (repeat' split) <;> (first | (simp; done) | rfl))

@[simp] theorem tryEnd_frame (s : State)  :
    (s.tryEnd).pending = s.pending ∧ (s.tryEnd).straps = s.straps ∧ (s.tryEnd).ctl = s.ctl ∧ (s.tryEnd).setup = s.setup ∧ (s.tryEnd).roster = s.roster ∧ (s.tryEnd).board = s.board ∧ (s.tryEnd).pool = s.pool ∧ (s.tryEnd).launch = s.launch ∧ (s.tryEnd).comp = s.comp ∧ (s.tryEnd).tiles = s.tiles ∧ (s.tryEnd).lane = s.lane :=
  ⟨by unfold State.tryEnd; (try dsimp only); (repeat' split) <;> (first | (simp; done) | rfl | (simp [foldl_keeps (fun t : State => t.pending)]; done) | (rw [foldl_keeps (fun t : State => t.pending)] <;> first | (simp; done) | (intros; simp; done) | (intros; split <;> simp; done))), by unfold State.tryEnd; (try dsimp only); (repeat' split) <;> (first | (simp; done) | rfl | (simp [foldl_keeps (fun t : State => t.straps)]; done) | (rw [foldl_keeps (fun t : State => t.straps)] <;> first | (simp; done) | (intros; simp; done) | (intros; split <;> simp; done))), by unfold State.tryEnd; (try dsimp only); (repeat' split) <;> (first | (simp; done) | rfl | (simp [foldl_keeps (fun t : State => t.ctl)]; done) | (rw [foldl_keeps (fun t : State => t.ctl)] <;> first | (simp; done) | (intros; simp; done) | (intros; split <;> simp; done))), by unfold State.tryEnd; (try dsimp only); (repeat' split) <;> (first | (simp; done) | rfl | (simp [foldl_keeps (fun t : State => t.setup)]; done) | (rw [foldl_keeps (fun t : State => t.setup)] <;> first | (simp; done) | (intros; simp; done) | (intros; split <;> simp; done))), by unfold State.tryEnd; (try dsimp only); (repeat' split) <;> (first | (simp; done) | rfl | (simp [foldl_keeps (fun t : State => t.roster)]; done) | (rw [foldl_keeps (fun t : State => t.roster)] <;> first | (simp; done) | (intros; simp; done) | (intros; split <;> simp; done))), by unfold State.tryEnd; (try dsimp only); (repeat' split) <;> (first | (simp; done) | rfl | (simp [foldl_keeps (fun t : State => t.board)]; done) | (rw [foldl_keeps (fun t : State => t.board)] <;> first | (simp; done) | (intros; simp; done) | (intros; split <;> simp; done))), by unfold State.tryEnd; (try dsimp only); (repeat' split) <;> (first | (simp; done) | rfl | (simp [foldl_keeps (fun t : State => t.pool)]; done) | (rw [foldl_keeps (fun t : State => t.pool)] <;> first | (simp; done) | (intros; simp; done) | (intros; split <;> simp; done))), by unfold State.tryEnd; (try dsimp only); (repeat' split) <;> (first | (simp; done) | rfl | (simp [foldl_keeps (fun t : State => t.launch)]; done) | (rw [foldl_keeps (fun t : State => t.launch)] <;> first | (simp; done) | (intros; simp; done) | (intros; split <;> simp; done))), by unfold State.tryEnd; (try dsimp only); (repeat' split) <;> (first | (simp; done) | rfl | (simp [foldl_keeps (fun t : State => t.comp)]; done) | (rw [foldl_keeps (fun t : State => t.comp)] <;> first | (simp; done) | (intros; simp; done) | (intros; split <;> simp; done))), by unfold State.tryEnd; (try dsimp only); (repeat' split) <;> (first | (simp; done) | rfl | (simp [foldl_keeps (fun t : State => t.tiles)]; done) | (rw [foldl_keeps (fun t : State => t.tiles)] <;> first | (simp; done) | (intros; simp; done) | (intros; split <;> simp; done))), by unfold State.tryEnd; (try dsimp only); (repeat' split) <;> (first | (simp; done) | rfl | (simp [foldl_keeps (fun t : State => t.lane)]; done) | (rw [foldl_keeps (fun t : State => t.lane)] <;> first | (simp; done) | (intros; simp; done) | (intros; split <;> simp; done)))⟩

@[simp] theorem settlePage_frame (s : State) (page : Nat) (byFrame : Bool) :
    (s.settlePage page byFrame).pending = s.pending ∧ (s.settlePage page byFrame).straps = s.straps ∧ (s.settlePage page byFrame).ctl = s.ctl ∧ (s.settlePage page byFrame).setup = s.setup ∧ (s.settlePage page byFrame).roster = s.roster ∧ (s.settlePage page byFrame).board = s.board ∧ (s.settlePage page byFrame).claims = s.claims ∧ (s.settlePage page byFrame).pool = s.pool ∧ (s.settlePage page byFrame).launch = s.launch ∧ (s.settlePage page byFrame).comp = s.comp ∧ (s.settlePage page byFrame).tiles = s.tiles ∧ (s.settlePage page byFrame).fetch = s.fetch ∧ (s.settlePage page byFrame).lane = s.lane ∧ (s.settlePage page byFrame).port = s.port ∧ (s.settlePage page byFrame).link = s.link := by
  refine ⟨?_, ?_, ?_, ?_, ?_, ?_, ?_, ?_, ?_, ?_, ?_, ?_, ?_, ?_, ?_⟩ <;> (unfold State.settlePage; (try dsimp only); (repeat' split) <;> (first | (simp; done) | rfl))

@[simp] theorem awaitClose_frame (s : State) (f : Frame) (page : Nat) :
    (s.awaitClose f page).pending = s.pending ∧ (s.awaitClose f page).straps = s.straps ∧ (s.awaitClose f page).ctl = s.ctl ∧ (s.awaitClose f page).setup = s.setup ∧ (s.awaitClose f page).roster = s.roster ∧ (s.awaitClose f page).board = s.board ∧ (s.awaitClose f page).pool = s.pool ∧ (s.awaitClose f page).launch = s.launch ∧ (s.awaitClose f page).comp = s.comp ∧ (s.awaitClose f page).tiles = s.tiles ∧ (s.awaitClose f page).fetch = s.fetch ∧ (s.awaitClose f page).lane = s.lane ∧ (s.awaitClose f page).link = s.link := by
  refine ⟨?_, ?_, ?_, ?_, ?_, ?_, ?_, ?_, ?_, ?_, ?_, ?_, ?_⟩ <;> (unfold State.awaitClose; (try dsimp only); (repeat' split) <;> (first | (simp; done) | rfl))

@[simp] theorem flushSheets_frame (s : State)  :
    (s.flushSheets).pending = s.pending ∧ (s.flushSheets).straps = s.straps ∧ (s.flushSheets).ctl = s.ctl ∧ (s.flushSheets).setup = s.setup ∧ (s.flushSheets).roster = s.roster ∧ (s.flushSheets).board = s.board ∧ (s.flushSheets).claims = s.claims ∧ (s.flushSheets).pool = s.pool ∧ (s.flushSheets).launch = s.launch ∧ (s.flushSheets).comp = s.comp ∧ (s.flushSheets).tiles = s.tiles ∧ (s.flushSheets).fetch = s.fetch ∧ (s.flushSheets).port = s.port ∧ (s.flushSheets).link = s.link := by
  refine ⟨?_, ?_, ?_, ?_, ?_, ?_, ?_, ?_, ?_, ?_, ?_, ?_, ?_, ?_⟩ <;> (unfold State.flushSheets; (try dsimp only); (repeat' split) <;> (first | (simp; done) | rfl))

@[simp] theorem cutForRecovery_frame (s : State)  :
    (s.cutForRecovery).pending = s.pending ∧ (s.cutForRecovery).straps = s.straps ∧ (s.cutForRecovery).ctl = s.ctl ∧ (s.cutForRecovery).setup = s.setup ∧ (s.cutForRecovery).roster = s.roster ∧ (s.cutForRecovery).board = s.board ∧ (s.cutForRecovery).claims = s.claims ∧ (s.cutForRecovery).pool = s.pool ∧ (s.cutForRecovery).launch = s.launch ∧ (s.cutForRecovery).tiles = s.tiles ∧ (s.cutForRecovery).fetch = s.fetch ∧ (s.cutForRecovery).lane = s.lane ∧ (s.cutForRecovery).port = s.port ∧ (s.cutForRecovery).link = s.link := by
  refine ⟨?_, ?_, ?_, ?_, ?_, ?_, ?_, ?_, ?_, ?_, ?_, ?_, ?_, ?_⟩ <;> (unfold State.cutForRecovery; (try dsimp only); (repeat' split) <;> (first | (simp; done) | rfl))

@[simp] theorem recoverLink_frame (s : State) (cause : Cause) (named : Option Nat) :
    (s.recoverLink cause named).pending = s.pending ∧ (s.recoverLink cause named).straps = s.straps ∧ (s.recoverLink cause named).ctl = s.ctl ∧ (s.recoverLink cause named).setup = s.setup ∧ (s.recoverLink cause named).roster = s.roster ∧ (s.recoverLink cause named).board = s.board ∧ (s.recoverLink cause named).pool = s.pool ∧ (s.recoverLink cause named).launch = s.launch ∧ (s.recoverLink cause named).lane = s.lane ∧ (s.recoverLink cause named).link = s.link :=
  ⟨by unfold State.recoverLink; (try dsimp only); (repeat' split) <;> (first | (simp; done) | rfl | (simp [foldl_keeps (fun t : State => t.pending)]; done) | (rw [foldl_keeps (fun t : State => t.pending)] <;> first | (simp; done) | (intros; simp; done) | (intros; split <;> simp; done))), by unfold State.recoverLink; (try dsimp only); (repeat' split) <;> (first | (simp; done) | rfl | (simp [foldl_keeps (fun t : State => t.straps)]; done) | (rw [foldl_keeps (fun t : State => t.straps)] <;> first | (simp; done) | (intros; simp; done) | (intros; split <;> simp; done))), by unfold State.recoverLink; (try dsimp only); (repeat' split) <;> (first | (simp; done) | rfl | (simp [foldl_keeps (fun t : State => t.ctl)]; done) | (rw [foldl_keeps (fun t : State => t.ctl)] <;> first | (simp; done) | (intros; simp; done) | (intros; split <;> simp; done))), by unfold State.recoverLink; (try dsimp only); (repeat' split) <;> (first | (simp; done) | rfl | (simp [foldl_keeps (fun t : State => t.setup)]; done) | (rw [foldl_keeps (fun t : State => t.setup)] <;> first | (simp; done) | (intros; simp; done) | (intros; split <;> simp; done))), by unfold State.recoverLink; (try dsimp only); (repeat' split) <;> (first | (simp; done) | rfl | (simp [foldl_keeps (fun t : State => t.roster)]; done) | (rw [foldl_keeps (fun t : State => t.roster)] <;> first | (simp; done) | (intros; simp; done) | (intros; split <;> simp; done))), by unfold State.recoverLink; (try dsimp only); (repeat' split) <;> (first | (simp; done) | rfl | (simp [foldl_keeps (fun t : State => t.board)]; done) | (rw [foldl_keeps (fun t : State => t.board)] <;> first | (simp; done) | (intros; simp; done) | (intros; split <;> simp; done))), by unfold State.recoverLink; (try dsimp only); (repeat' split) <;> (first | (simp; done) | rfl | (simp [foldl_keeps (fun t : State => t.pool)]; done) | (rw [foldl_keeps (fun t : State => t.pool)] <;> first | (simp; done) | (intros; simp; done) | (intros; split <;> simp; done))), by unfold State.recoverLink; (try dsimp only); (repeat' split) <;> (first | (simp; done) | rfl | (simp [foldl_keeps (fun t : State => t.launch)]; done) | (rw [foldl_keeps (fun t : State => t.launch)] <;> first | (simp; done) | (intros; simp; done) | (intros; split <;> simp; done))), by unfold State.recoverLink; (try dsimp only); (repeat' split) <;> (first | (simp; done) | rfl | (simp [foldl_keeps (fun t : State => t.lane)]; done) | (rw [foldl_keeps (fun t : State => t.lane)] <;> first | (simp; done) | (intros; simp; done) | (intros; split <;> simp; done))), by unfold State.recoverLink; (try dsimp only); (repeat' split) <;> (first | (simp; done) | rfl | (simp [foldl_keeps (fun t : State => t.link)]; done) | (rw [foldl_keeps (fun t : State => t.link)] <;> first | (simp; done) | (intros; simp; done) | (intros; split <;> simp; done)))⟩

@[simp] theorem recoverEngine_frame (s : State)  :
    (s.recoverEngine).pending = s.pending ∧ (s.recoverEngine).straps = s.straps ∧ (s.recoverEngine).ctl = s.ctl ∧ (s.recoverEngine).setup = s.setup ∧ (s.recoverEngine).roster = s.roster ∧ (s.recoverEngine).board = s.board ∧ (s.recoverEngine).pool = s.pool ∧ (s.recoverEngine).launch = s.launch ∧ (s.recoverEngine).tiles = s.tiles ∧ (s.recoverEngine).fetch = s.fetch ∧ (s.recoverEngine).link = s.link :=
  ⟨by unfold State.recoverEngine; (try dsimp only); (repeat' split) <;> (first | (simp; done) | rfl | (simp [foldl_keeps (fun t : State => t.pending)]; done) | (rw [foldl_keeps (fun t : State => t.pending)] <;> first | (simp; done) | (intros; simp; done) | (intros; split <;> simp; done))), by unfold State.recoverEngine; (try dsimp only); (repeat' split) <;> (first | (simp; done) | rfl | (simp [foldl_keeps (fun t : State => t.straps)]; done) | (rw [foldl_keeps (fun t : State => t.straps)] <;> first | (simp; done) | (intros; simp; done) | (intros; split <;> simp; done))), by unfold State.recoverEngine; (try dsimp only); (repeat' split) <;> (first | (simp; done) | rfl | (simp [foldl_keeps (fun t : State => t.ctl)]; done) | (rw [foldl_keeps (fun t : State => t.ctl)] <;> first | (simp; done) | (intros; simp; done) | (intros; split <;> simp; done))), by unfold State.recoverEngine; (try dsimp only); (repeat' split) <;> (first | (simp; done) | rfl | (simp [foldl_keeps (fun t : State => t.setup)]; done) | (rw [foldl_keeps (fun t : State => t.setup)] <;> first | (simp; done) | (intros; simp; done) | (intros; split <;> simp; done))), by unfold State.recoverEngine; (try dsimp only); (repeat' split) <;> (first | (simp; done) | rfl | (simp [foldl_keeps (fun t : State => t.roster)]; done) | (rw [foldl_keeps (fun t : State => t.roster)] <;> first | (simp; done) | (intros; simp; done) | (intros; split <;> simp; done))), by unfold State.recoverEngine; (try dsimp only); (repeat' split) <;> (first | (simp; done) | rfl | (simp [foldl_keeps (fun t : State => t.board)]; done) | (rw [foldl_keeps (fun t : State => t.board)] <;> first | (simp; done) | (intros; simp; done) | (intros; split <;> simp; done))), by unfold State.recoverEngine; (try dsimp only); (repeat' split) <;> (first | (simp; done) | rfl | (simp [foldl_keeps (fun t : State => t.pool)]; done) | (rw [foldl_keeps (fun t : State => t.pool)] <;> first | (simp; done) | (intros; simp; done) | (intros; split <;> simp; done))), by unfold State.recoverEngine; (try dsimp only); (repeat' split) <;> (first | (simp; done) | rfl | (simp [foldl_keeps (fun t : State => t.launch)]; done) | (rw [foldl_keeps (fun t : State => t.launch)] <;> first | (simp; done) | (intros; simp; done) | (intros; split <;> simp; done))), by unfold State.recoverEngine; (try dsimp only); (repeat' split) <;> (first | (simp; done) | rfl | (simp [foldl_keeps (fun t : State => t.tiles)]; done) | (rw [foldl_keeps (fun t : State => t.tiles)] <;> first | (simp; done) | (intros; simp; done) | (intros; split <;> simp; done))), by unfold State.recoverEngine; (try dsimp only); (repeat' split) <;> (first | (simp; done) | rfl | (simp [foldl_keeps (fun t : State => t.fetch)]; done) | (rw [foldl_keeps (fun t : State => t.fetch)] <;> first | (simp; done) | (intros; simp; done) | (intros; split <;> simp; done))), by unfold State.recoverEngine; (try dsimp only); (repeat' split) <;> (first | (simp; done) | rfl | (simp [foldl_keeps (fun t : State => t.link)]; done) | (rw [foldl_keeps (fun t : State => t.link)] <;> first | (simp; done) | (intros; simp; done) | (intros; split <;> simp; done)))⟩

@[simp] theorem cutIfHeld_frame (s : State) (page : Option Nat) :
    (s.cutIfHeld page).pending = s.pending ∧ (s.cutIfHeld page).straps = s.straps ∧ (s.cutIfHeld page).ctl = s.ctl ∧ (s.cutIfHeld page).setup = s.setup ∧ (s.cutIfHeld page).roster = s.roster ∧ (s.cutIfHeld page).board = s.board ∧ (s.cutIfHeld page).claims = s.claims ∧ (s.cutIfHeld page).pool = s.pool ∧ (s.cutIfHeld page).launch = s.launch ∧ (s.cutIfHeld page).tiles = s.tiles ∧ (s.cutIfHeld page).fetch = s.fetch ∧ (s.cutIfHeld page).lane = s.lane ∧ (s.cutIfHeld page).port = s.port ∧ (s.cutIfHeld page).fault = s.fault ∧ (s.cutIfHeld page).link = s.link := by
  refine ⟨?_, ?_, ?_, ?_, ?_, ?_, ?_, ?_, ?_, ?_, ?_, ?_, ?_, ?_, ?_⟩ <;> (unfold State.cutIfHeld; (try dsimp only); (repeat' split) <;> (first | (simp; done) | rfl))

@[simp] theorem recoverClaimLost_frame (s : State) (page : Option Nat) :
    (s.recoverClaimLost page).pending = s.pending ∧ (s.recoverClaimLost page).straps = s.straps ∧ (s.recoverClaimLost page).ctl = s.ctl ∧ (s.recoverClaimLost page).setup = s.setup ∧ (s.recoverClaimLost page).roster = s.roster ∧ (s.recoverClaimLost page).board = s.board ∧ (s.recoverClaimLost page).claims = s.claims ∧ (s.recoverClaimLost page).pool = s.pool ∧ (s.recoverClaimLost page).launch = s.launch ∧ (s.recoverClaimLost page).tiles = s.tiles ∧ (s.recoverClaimLost page).fetch = s.fetch ∧ (s.recoverClaimLost page).lane = s.lane ∧ (s.recoverClaimLost page).port = s.port ∧ (s.recoverClaimLost page).link = s.link := by
  refine ⟨?_, ?_, ?_, ?_, ?_, ?_, ?_, ?_, ?_, ?_, ?_, ?_, ?_, ?_⟩ <;> (unfold State.recoverClaimLost; (try dsimp only); (repeat' split) <;> (first | (simp; done) | rfl))

@[simp] theorem recoverSilent_frame (s : State)  :
    (s.recoverSilent).pending = s.pending ∧ (s.recoverSilent).straps = s.straps ∧ (s.recoverSilent).ctl = s.ctl ∧ (s.recoverSilent).setup = s.setup ∧ (s.recoverSilent).roster = s.roster ∧ (s.recoverSilent).board = s.board ∧ (s.recoverSilent).pool = s.pool ∧ (s.recoverSilent).launch = s.launch ∧ (s.recoverSilent).lane = s.lane ∧ (s.recoverSilent).link = s.link := by
  refine ⟨?_, ?_, ?_, ?_, ?_, ?_, ?_, ?_, ?_, ?_⟩ <;> (unfold State.recoverSilent; (try dsimp only); (repeat' split) <;> (first | (simp; done) | rfl))

@[simp] theorem enterHalted_frame (s : State)  :
    (s.enterHalted).pending = s.pending ∧ (s.enterHalted).straps = s.straps ∧ (s.enterHalted).setup = s.setup ∧ (s.enterHalted).roster = s.roster ∧ (s.enterHalted).board = s.board ∧ (s.enterHalted).claims = s.claims ∧ (s.enterHalted).pool = s.pool ∧ (s.enterHalted).launch = s.launch ∧ (s.enterHalted).comp = s.comp ∧ (s.enterHalted).tiles = s.tiles ∧ (s.enterHalted).fetch = s.fetch ∧ (s.enterHalted).lane = s.lane ∧ (s.enterHalted).fault = s.fault ∧ (s.enterHalted).link = s.link := by
  refine ⟨?_, ?_, ?_, ?_, ?_, ?_, ?_, ?_, ?_, ?_, ?_, ?_, ?_, ?_⟩ <;> (unfold State.enterHalted; (try dsimp only); (repeat' split) <;> (first | (simp; done) | rfl))

@[simp] theorem releaseAll_frame (s : State)  :
    (s.releaseAll).pending = s.pending ∧ (s.releaseAll).straps = s.straps ∧ (s.releaseAll).ctl = s.ctl ∧ (s.releaseAll).setup = s.setup ∧ (s.releaseAll).roster = s.roster ∧ (s.releaseAll).board = s.board ∧ (s.releaseAll).pool = s.pool ∧ (s.releaseAll).launch = s.launch ∧ (s.releaseAll).comp = s.comp ∧ (s.releaseAll).tiles = s.tiles ∧ (s.releaseAll).fetch = s.fetch ∧ (s.releaseAll).lane = s.lane ∧ (s.releaseAll).link = s.link :=
  ⟨by unfold State.releaseAll; rw [foldl_keeps (fun t => t.pending)]; intros; (try dsimp only); split <;> simp, by unfold State.releaseAll; rw [foldl_keeps (fun t => t.straps)]; intros; (try dsimp only); split <;> simp, by unfold State.releaseAll; rw [foldl_keeps (fun t => t.ctl)]; intros; (try dsimp only); split <;> simp, by unfold State.releaseAll; rw [foldl_keeps (fun t => t.setup)]; intros; (try dsimp only); split <;> simp, by unfold State.releaseAll; rw [foldl_keeps (fun t => t.roster)]; intros; (try dsimp only); split <;> simp, by unfold State.releaseAll; rw [foldl_keeps (fun t => t.board)]; intros; (try dsimp only); split <;> simp, by unfold State.releaseAll; rw [foldl_keeps (fun t => t.pool)]; intros; (try dsimp only); split <;> simp, by unfold State.releaseAll; rw [foldl_keeps (fun t => t.launch)]; intros; (try dsimp only); split <;> simp, by unfold State.releaseAll; rw [foldl_keeps (fun t => t.comp)]; intros; (try dsimp only); split <;> simp, by unfold State.releaseAll; rw [foldl_keeps (fun t => t.tiles)]; intros; (try dsimp only); split <;> simp, by unfold State.releaseAll; rw [foldl_keeps (fun t => t.fetch)]; intros; (try dsimp only); split <;> simp, by unfold State.releaseAll; rw [foldl_keeps (fun t => t.lane)]; intros; (try dsimp only); split <;> simp, by unfold State.releaseAll; rw [foldl_keeps (fun t => t.link)]; intros; (try dsimp only); split <;> simp⟩

@[simp] theorem halt_frame (s : State)  :
    (s.halt).pending = s.pending ∧ (s.halt).straps = s.straps ∧ (s.halt).setup = s.setup ∧ (s.halt).roster = s.roster ∧ (s.halt).board = s.board ∧ (s.halt).pool = s.pool ∧ (s.halt).launch = s.launch ∧ (s.halt).lane = s.lane := by
  refine ⟨?_, ?_, ?_, ?_, ?_, ?_, ?_, ?_⟩ <;> (unfold State.halt; (try dsimp only); (repeat' split) <;> (first | (simp; done) | rfl))

@[simp] theorem recordFault_frame (s : State) (cause : Cause) (page cell : Option Nat) (detail : Nat) :
    (s.recordFault cause page cell detail).pending = s.pending ∧ (s.recordFault cause page cell detail).straps = s.straps ∧ (s.recordFault cause page cell detail).ctl = s.ctl ∧ (s.recordFault cause page cell detail).setup = s.setup ∧ (s.recordFault cause page cell detail).roster = s.roster ∧ (s.recordFault cause page cell detail).board = s.board ∧ (s.recordFault cause page cell detail).claims = s.claims ∧ (s.recordFault cause page cell detail).pool = s.pool ∧ (s.recordFault cause page cell detail).launch = s.launch ∧ (s.recordFault cause page cell detail).comp = s.comp ∧ (s.recordFault cause page cell detail).tiles = s.tiles ∧ (s.recordFault cause page cell detail).fetch = s.fetch ∧ (s.recordFault cause page cell detail).lane = s.lane ∧ (s.recordFault cause page cell detail).port = s.port ∧ (s.recordFault cause page cell detail).link = s.link := by
  refine ⟨?_, ?_, ?_, ?_, ?_, ?_, ?_, ?_, ?_, ?_, ?_, ?_, ?_, ?_, ?_⟩ <;> (unfold State.recordFault; (try dsimp only); (repeat' split) <;> (first | (simp; done) | rfl))

@[simp] theorem recover_frame (s : State) (cause : Cause) (page : Option Nat) :
    (s.recover cause page).pending = s.pending ∧ (s.recover cause page).straps = s.straps ∧ (s.recover cause page).setup = s.setup ∧ (s.recover cause page).roster = s.roster ∧ (s.recover cause page).board = s.board ∧ (s.recover cause page).pool = s.pool ∧ (s.recover cause page).launch = s.launch := by
  refine ⟨?_, ?_, ?_, ?_, ?_, ?_, ?_⟩ <;> (unfold State.recover; (try dsimp only); (repeat' split) <;> (first | (simp; done) | rfl))

@[simp] theorem followOnActs_frame (s : State) (cause : Cause) (page : Option Nat) :
    (s.followOnActs cause page).pending = s.pending ∧ (s.followOnActs cause page).straps = s.straps ∧ (s.followOnActs cause page).setup = s.setup ∧ (s.followOnActs cause page).roster = s.roster ∧ (s.followOnActs cause page).board = s.board ∧ (s.followOnActs cause page).pool = s.pool ∧ (s.followOnActs cause page).launch = s.launch ∧ (s.followOnActs cause page).lane = s.lane := by
  refine ⟨?_, ?_, ?_, ?_, ?_, ?_, ?_, ?_⟩ <;> (unfold State.followOnActs; (try dsimp only); (repeat' split) <;> (first | (simp; done) | rfl))

@[simp] theorem raise_frame (s : State) (cause : Cause) (page cell : Option Nat) (detail : Nat) :
    (s.raise cause page cell detail).pending = s.pending ∧ (s.raise cause page cell detail).straps = s.straps ∧ (s.raise cause page cell detail).setup = s.setup ∧ (s.raise cause page cell detail).roster = s.roster ∧ (s.raise cause page cell detail).board = s.board ∧ (s.raise cause page cell detail).pool = s.pool ∧ (s.raise cause page cell detail).launch = s.launch := by
  refine ⟨?_, ?_, ?_, ?_, ?_, ?_, ?_⟩ <;> (unfold State.raise; (try dsimp only); (repeat' split) <;> (first | (simp; done) | rfl))

end Sys2Proof.Laws
end

