-- ==== Sys2Proof/Laws/FrameBus.lean ====
section
/-! SUPPORT. What each shared operation leaves unchanged: the station controller, the port and the applied frames. -/

namespace Sys2Proof.Laws

open Sys2Proof Sys2Proof.Machine

set_option linter.all false

@[simp] theorem startSync_frame (s : State)  :
    (s.startSync).pending = s.pending ∧ (s.startSync).straps = s.straps ∧ (s.startSync).setup = s.setup ∧ (s.startSync).roster = s.roster ∧ (s.startSync).board = s.board ∧ (s.startSync).claims = s.claims ∧ (s.startSync).pool = s.pool ∧ (s.startSync).launch = s.launch ∧ (s.startSync).comp = s.comp ∧ (s.startSync).tiles = s.tiles ∧ (s.startSync).fetch = s.fetch ∧ (s.startSync).lane = s.lane ∧ (s.startSync).port = s.port ∧ (s.startSync).fault = s.fault ∧ (s.startSync).link = s.link := by
  refine ⟨?_, ?_, ?_, ?_, ?_, ?_, ?_, ?_, ?_, ?_, ?_, ?_, ?_, ?_, ?_⟩ <;> (unfold State.startSync; (try dsimp only); (repeat' split) <;> (first | (simp; done) | rfl))

@[simp] theorem enterSyncing_frame (s : State)  :
    (s.enterSyncing).pending = s.pending ∧ (s.enterSyncing).straps = s.straps ∧ (s.enterSyncing).setup = s.setup ∧ (s.enterSyncing).roster = s.roster ∧ (s.enterSyncing).board = s.board ∧ (s.enterSyncing).claims = s.claims ∧ (s.enterSyncing).pool = s.pool ∧ (s.enterSyncing).launch = s.launch ∧ (s.enterSyncing).comp = s.comp ∧ (s.enterSyncing).tiles = s.tiles ∧ (s.enterSyncing).fetch = s.fetch ∧ (s.enterSyncing).lane = s.lane ∧ (s.enterSyncing).fault = s.fault ∧ (s.enterSyncing).link = s.link := by
  refine ⟨?_, ?_, ?_, ?_, ?_, ?_, ?_, ?_, ?_, ?_, ?_, ?_, ?_, ?_⟩ <;> (unfold State.enterSyncing; (try dsimp only); (repeat' split) <;> (first | (simp; done) | rfl))

@[simp] theorem abandon_frame (s : State) (case : Nat) :
    (s.abandon case).pending = s.pending ∧ (s.abandon case).straps = s.straps ∧ (s.abandon case).setup = s.setup ∧ (s.abandon case).roster = s.roster ∧ (s.abandon case).board = s.board ∧ (s.abandon case).pool = s.pool ∧ (s.abandon case).launch = s.launch := by
  refine ⟨?_, ?_, ?_, ?_, ?_, ?_, ?_⟩ <;> (unfold State.abandon; (try dsimp only); (repeat' split) <;> (first | (simp; done) | rfl))

@[simp] theorem unexpected_frame (s : State) :
    (s.unexpected).pending = s.pending ∧ (s.unexpected).straps = s.straps ∧ (s.unexpected).setup = s.setup ∧ (s.unexpected).roster = s.roster ∧ (s.unexpected).board = s.board ∧ (s.unexpected).pool = s.pool ∧ (s.unexpected).launch = s.launch := by
  refine ⟨?_, ?_, ?_, ?_, ?_, ?_, ?_⟩ <;> (unfold State.unexpected; (try dsimp only); (repeat' split) <;> (first | (simp; done) | rfl))

@[simp] theorem holdReplica_frame (s : State) (es : List Entry) (present : StationSet) (lastLaunched : Nat) (pool : List Amendment) :
    (s.holdReplica es present lastLaunched pool).pending = s.pending ∧ (s.holdReplica es present lastLaunched pool).straps = s.straps ∧ (s.holdReplica es present lastLaunched pool).ctl = s.ctl ∧ (s.holdReplica es present lastLaunched pool).setup = s.setup ∧ (s.holdReplica es present lastLaunched pool).roster = s.roster ∧ (s.holdReplica es present lastLaunched pool).claims = s.claims ∧ (s.holdReplica es present lastLaunched pool).launch = s.launch ∧ (s.holdReplica es present lastLaunched pool).comp = s.comp ∧ (s.holdReplica es present lastLaunched pool).tiles = s.tiles ∧ (s.holdReplica es present lastLaunched pool).fetch = s.fetch ∧ (s.holdReplica es present lastLaunched pool).lane = s.lane ∧ (s.holdReplica es present lastLaunched pool).port = s.port ∧ (s.holdReplica es present lastLaunched pool).fault = s.fault := by
  refine ⟨?_, ?_, ?_, ?_, ?_, ?_, ?_, ?_, ?_, ?_, ?_, ?_, ?_⟩ <;> (unfold State.holdReplica; (try dsimp only); (repeat' split) <;> (first | (simp; done) | rfl))

@[simp] theorem install_frame (s : State) (c : Collection) :
    (s.install c).pending = s.pending ∧ (s.install c).straps = s.straps ∧ (s.install c).setup = s.setup ∧ (s.install c).roster = s.roster ∧ (s.install c).claims = s.claims ∧ (s.install c).launch = s.launch ∧ (s.install c).comp = s.comp ∧ (s.install c).tiles = s.tiles ∧ (s.install c).fetch = s.fetch ∧ (s.install c).lane = s.lane ∧ (s.install c).fault = s.fault := by
  refine ⟨?_, ?_, ?_, ?_, ?_, ?_, ?_, ?_, ?_, ?_, ?_⟩ <;> (unfold State.install; (try dsimp only); (repeat' split) <;> (first | (simp; done) | rfl))

@[simp] theorem reaskPlan_frame (s : State) (wanted : Nat) :
    (s.reaskPlan wanted).pending = s.pending ∧ (s.reaskPlan wanted).straps = s.straps ∧ (s.reaskPlan wanted).setup = s.setup ∧ (s.reaskPlan wanted).roster = s.roster ∧ (s.reaskPlan wanted).board = s.board ∧ (s.reaskPlan wanted).claims = s.claims ∧ (s.reaskPlan wanted).pool = s.pool ∧ (s.reaskPlan wanted).launch = s.launch ∧ (s.reaskPlan wanted).comp = s.comp ∧ (s.reaskPlan wanted).tiles = s.tiles ∧ (s.reaskPlan wanted).fetch = s.fetch ∧ (s.reaskPlan wanted).lane = s.lane ∧ (s.reaskPlan wanted).port = s.port ∧ (s.reaskPlan wanted).fault = s.fault := by
  refine ⟨?_, ?_, ?_, ?_, ?_, ?_, ?_, ?_, ?_, ?_, ?_, ?_, ?_, ?_⟩ <;> (unfold State.reaskPlan; (try dsimp only); (repeat' split) <;> (first | (simp; done) | rfl))

@[simp] theorem judgeCollection_frame (s : State) (c : Collection) :
    (s.judgeCollection c).pending = s.pending ∧ (s.judgeCollection c).straps = s.straps ∧ (s.judgeCollection c).setup = s.setup ∧ (s.judgeCollection c).roster = s.roster ∧ (s.judgeCollection c).launch = s.launch := by
  refine ⟨?_, ?_, ?_, ?_, ?_⟩ <;> (unfold State.judgeCollection; (try dsimp only); (repeat' split) <;> (first | (simp; done) | rfl))

@[simp] theorem advance_frame (s : State) (c : Collection) :
    (s.advance c).pending = s.pending ∧ (s.advance c).straps = s.straps ∧ (s.advance c).setup = s.setup ∧ (s.advance c).roster = s.roster ∧ (s.advance c).launch = s.launch := by
  refine ⟨?_, ?_, ?_, ?_, ?_⟩ <;> (unfold State.advance; (try dsimp only); (repeat' split) <;> (first | (simp; done) | rfl))

@[simp] theorem collect_frame (s : State) (kept : Option Collection) :
    (s.collect kept).pending = s.pending ∧ (s.collect kept).straps = s.straps ∧ (s.collect kept).setup = s.setup ∧ (s.collect kept).roster = s.roster ∧ (s.collect kept).launch = s.launch := by
  refine ⟨?_, ?_, ?_, ?_, ?_⟩ <;> (unfold State.collect; (try dsimp only); (repeat' split) <;> (first | (simp; done) | rfl))

@[simp] theorem withdrawAsk_frame (s : State) :
    (s.withdrawAsk).pending = s.pending ∧ (s.withdrawAsk).straps = s.straps ∧ (s.withdrawAsk).setup = s.setup ∧ (s.withdrawAsk).roster = s.roster ∧ (s.withdrawAsk).board = s.board ∧ (s.withdrawAsk).claims = s.claims ∧ (s.withdrawAsk).pool = s.pool ∧ (s.withdrawAsk).launch = s.launch ∧ (s.withdrawAsk).comp = s.comp ∧ (s.withdrawAsk).tiles = s.tiles ∧ (s.withdrawAsk).fetch = s.fetch ∧ (s.withdrawAsk).lane = s.lane ∧ (s.withdrawAsk).fault = s.fault ∧ (s.withdrawAsk).link = s.link := by
  refine ⟨?_, ?_, ?_, ?_, ?_, ?_, ?_, ?_, ?_, ?_, ?_, ?_, ?_, ?_⟩ <;> (unfold State.withdrawAsk; (try dsimp only); (repeat' split) <;> (first | (simp; done) | rfl))

@[simp] theorem withdrawRun_frame (s : State) (sender requester : Nat) :
    (s.withdrawRun sender requester).pending = s.pending ∧ (s.withdrawRun sender requester).straps = s.straps ∧ (s.withdrawRun sender requester).setup = s.setup ∧ (s.withdrawRun sender requester).roster = s.roster ∧ (s.withdrawRun sender requester).board = s.board ∧ (s.withdrawRun sender requester).claims = s.claims ∧ (s.withdrawRun sender requester).pool = s.pool ∧ (s.withdrawRun sender requester).launch = s.launch ∧ (s.withdrawRun sender requester).comp = s.comp ∧ (s.withdrawRun sender requester).tiles = s.tiles ∧ (s.withdrawRun sender requester).fetch = s.fetch ∧ (s.withdrawRun sender requester).lane = s.lane ∧ (s.withdrawRun sender requester).fault = s.fault ∧ (s.withdrawRun sender requester).link = s.link := by
  refine ⟨?_, ?_, ?_, ?_, ?_, ?_, ?_, ?_, ?_, ?_, ?_, ?_, ?_, ?_⟩ <;> (unfold State.withdrawRun; (try dsimp only); (repeat' split) <;> (first | (simp; done) | rfl))

@[simp] theorem startCollection_frame (s : State) (responder : Nat) (c : Collection) :
    (s.startCollection responder c).pending = s.pending ∧ (s.startCollection responder c).straps = s.straps ∧ (s.startCollection responder c).setup = s.setup ∧ (s.startCollection responder c).roster = s.roster ∧ (s.startCollection responder c).launch = s.launch := by
  refine ⟨?_, ?_, ?_, ?_, ?_⟩ <;> (unfold State.startCollection; (try dsimp only); (repeat' split) <;> (first | (simp; done) | rfl))

@[simp] theorem answerAsk_frame (s : State) (sender : Nat) (identity : Id32) :
    (s.answerAsk sender identity).pending = s.pending ∧ (s.answerAsk sender identity).straps = s.straps ∧ (s.answerAsk sender identity).setup = s.setup ∧ (s.answerAsk sender identity).roster = s.roster ∧ (s.answerAsk sender identity).board = s.board ∧ (s.answerAsk sender identity).claims = s.claims ∧ (s.answerAsk sender identity).pool = s.pool ∧ (s.answerAsk sender identity).launch = s.launch ∧ (s.answerAsk sender identity).comp = s.comp ∧ (s.answerAsk sender identity).tiles = s.tiles ∧ (s.answerAsk sender identity).fetch = s.fetch ∧ (s.answerAsk sender identity).lane = s.lane ∧ (s.answerAsk sender identity).fault = s.fault ∧ (s.answerAsk sender identity).link = s.link := by
  refine ⟨?_, ?_, ?_, ?_, ?_, ?_, ?_, ?_, ?_, ?_, ?_, ?_, ?_, ?_⟩ <;> (unfold State.answerAsk; (try dsimp only); (repeat' split) <;> (first | (simp; done) | rfl))

@[simp] theorem offerUpTo_frame (n : Nat) (s : State) :
    (State.offerUpTo n s).pending = s.pending ∧ (State.offerUpTo n s).straps = s.straps ∧ (State.offerUpTo n s).ctl = s.ctl ∧ (State.offerUpTo n s).setup = s.setup ∧ (State.offerUpTo n s).roster = s.roster ∧ (State.offerUpTo n s).claims = s.claims ∧ (State.offerUpTo n s).pool = s.pool ∧ (State.offerUpTo n s).launch = s.launch ∧ (State.offerUpTo n s).comp = s.comp ∧ (State.offerUpTo n s).tiles = s.tiles ∧ (State.offerUpTo n s).fetch = s.fetch ∧ (State.offerUpTo n s).lane = s.lane ∧ (State.offerUpTo n s).fault = s.fault ∧ (State.offerUpTo n s).link = s.link := by
  induction n generalizing s with
  | zero => simp [State.offerUpTo]
  | succ n ih => simp [State.offerUpTo, ih s.offerFirst]

@[simp] theorem activate_frame (s : State)  :
    (s.activate).pending = s.pending ∧ (s.activate).straps = s.straps ∧ (s.activate).setup = s.setup ∧ (s.activate).roster = s.roster ∧ (s.activate).claims = s.claims ∧ (s.activate).pool = s.pool ∧ (s.activate).launch = s.launch ∧ (s.activate).comp = s.comp ∧ (s.activate).tiles = s.tiles ∧ (s.activate).fetch = s.fetch ∧ (s.activate).lane = s.lane ∧ (s.activate).fault = s.fault ∧ (s.activate).link = s.link := by
  refine ⟨?_, ?_, ?_, ?_, ?_, ?_, ?_, ?_, ?_, ?_, ?_, ?_, ?_⟩ <;> (unfold State.activate; (try dsimp only); (repeat' split) <;> (first | (simp; done) | rfl))

@[simp] theorem freshStart_frame (s : State)  :
    (s.freshStart).pending = s.pending ∧ (s.freshStart).straps = s.straps ∧ (s.freshStart).setup = s.setup ∧ (s.freshStart).roster = s.roster ∧ (s.freshStart).claims = s.claims ∧ (s.freshStart).launch = s.launch ∧ (s.freshStart).comp = s.comp ∧ (s.freshStart).tiles = s.tiles ∧ (s.freshStart).fetch = s.fetch ∧ (s.freshStart).lane = s.lane ∧ (s.freshStart).fault = s.fault := by
  refine ⟨?_, ?_, ?_, ?_, ?_, ?_, ?_, ?_, ?_, ?_, ?_⟩ <;> (unfold State.freshStart; (try dsimp only); (repeat' split) <;> (first | (simp; done) | rfl))

@[simp] theorem relayUnsent_frame (s : State)  :
    (s.relayUnsent).pending = s.pending ∧ (s.relayUnsent).straps = s.straps ∧ (s.relayUnsent).ctl = s.ctl ∧ (s.relayUnsent).setup = s.setup ∧ (s.relayUnsent).roster = s.roster ∧ (s.relayUnsent).board = s.board ∧ (s.relayUnsent).claims = s.claims ∧ (s.relayUnsent).pool = s.pool ∧ (s.relayUnsent).launch = s.launch ∧ (s.relayUnsent).comp = s.comp ∧ (s.relayUnsent).tiles = s.tiles ∧ (s.relayUnsent).fetch = s.fetch ∧ (s.relayUnsent).lane = s.lane ∧ (s.relayUnsent).fault = s.fault := by
  refine ⟨?_, ?_, ?_, ?_, ?_, ?_, ?_, ?_, ?_, ?_, ?_, ?_, ?_, ?_⟩ <;> (unfold State.relayUnsent; (try dsimp only); (repeat' split) <;> (first | (simp; done) | rfl))

@[simp] theorem dropReplica_frame (s : State)  :
    (s.dropReplica).pending = s.pending ∧ (s.dropReplica).straps = s.straps ∧ (s.dropReplica).ctl = s.ctl ∧ (s.dropReplica).setup = s.setup ∧ (s.dropReplica).roster = s.roster ∧ (s.dropReplica).claims = s.claims ∧ (s.dropReplica).launch = s.launch ∧ (s.dropReplica).comp = s.comp ∧ (s.dropReplica).tiles = s.tiles ∧ (s.dropReplica).fetch = s.fetch ∧ (s.dropReplica).lane = s.lane ∧ (s.dropReplica).fault = s.fault := by
  refine ⟨?_, ?_, ?_, ?_, ?_, ?_, ?_, ?_, ?_, ?_, ?_, ?_⟩ <;> (unfold State.dropReplica; (try dsimp only); (repeat' split) <;> (first | (simp; done) | rfl))

@[simp] theorem meetCollection_frame (s : State) (sender : Nat) (f : Frame) :
    (s.meetCollection sender f).pending = s.pending ∧ (s.meetCollection sender f).straps = s.straps ∧ (s.meetCollection sender f).setup = s.setup ∧ (s.meetCollection sender f).roster = s.roster ∧ (s.meetCollection sender f).board = s.board ∧ (s.meetCollection sender f).pool = s.pool ∧ (s.meetCollection sender f).launch = s.launch := by
  refine ⟨?_, ?_, ?_, ?_, ?_, ?_, ?_⟩ <;> (unfold State.meetCollection; (try dsimp only); (repeat' split) <;> (first | (simp; done) | rfl))

@[simp] theorem passFrame_frame (s : State) (h : FrameHdr) (f : Frame) :
    (s.passFrame h f).pending = s.pending ∧ (s.passFrame h f).straps = s.straps ∧ (s.passFrame h f).setup = s.setup ∧ (s.passFrame h f).roster = s.roster ∧ (s.passFrame h f).board = s.board ∧ (s.passFrame h f).pool = s.pool ∧ (s.passFrame h f).launch = s.launch := by
  refine ⟨?_, ?_, ?_, ?_, ?_, ?_, ?_⟩ <;> (unfold State.passFrame; (try dsimp only); (repeat' split) <;> (first | (simp; done) | rfl))

@[simp] theorem controllerSilent_frame (s : State)  :
    (s.controllerSilent).pending = s.pending ∧ (s.controllerSilent).straps = s.straps ∧ (s.controllerSilent).setup = s.setup ∧ (s.controllerSilent).roster = s.roster ∧ (s.controllerSilent).board = s.board ∧ (s.controllerSilent).claims = s.claims ∧ (s.controllerSilent).pool = s.pool ∧ (s.controllerSilent).launch = s.launch ∧ (s.controllerSilent).comp = s.comp ∧ (s.controllerSilent).tiles = s.tiles ∧ (s.controllerSilent).fetch = s.fetch ∧ (s.controllerSilent).lane = s.lane ∧ (s.controllerSilent).port = s.port ∧ (s.controllerSilent).fault = s.fault ∧ (s.controllerSilent).link = s.link := by
  refine ⟨?_, ?_, ?_, ?_, ?_, ?_, ?_, ?_, ?_, ?_, ?_, ?_, ?_, ?_, ?_⟩ <;> (unfold State.controllerSilent; (try dsimp only); (repeat' split) <;> (first | (simp; done) | rfl))

@[simp] theorem enterSilent_frame (s : State) (detail : Nat) :
    (s.enterSilent detail).pending = s.pending ∧ (s.enterSilent detail).straps = s.straps ∧ (s.enterSilent detail).setup = s.setup ∧ (s.enterSilent detail).roster = s.roster ∧ (s.enterSilent detail).launch = s.launch := by
  refine ⟨?_, ?_, ?_, ?_, ?_⟩ <;> (unfold State.enterSilent; (try dsimp only); (repeat' split) <;> (first | (simp; done) | rfl))

@[simp] theorem confine_frame (s : State)  :
    (s.confine).pending = s.pending ∧ (s.confine).straps = s.straps ∧ (s.confine).setup = s.setup ∧ (s.confine).roster = s.roster ∧ (s.confine).launch = s.launch := by
  refine ⟨?_, ?_, ?_, ?_, ?_⟩ <;> (unfold State.confine; (try dsimp only); (repeat' split) <;> (first | (simp; done) | rfl))

@[simp] theorem leaveSilent_frame (s : State)  :
    (s.leaveSilent).pending = s.pending ∧ (s.leaveSilent).straps = s.straps ∧ (s.leaveSilent).setup = s.setup ∧ (s.leaveSilent).roster = s.roster ∧ (s.leaveSilent).board = s.board ∧ (s.leaveSilent).claims = s.claims ∧ (s.leaveSilent).pool = s.pool ∧ (s.leaveSilent).launch = s.launch ∧ (s.leaveSilent).comp = s.comp ∧ (s.leaveSilent).tiles = s.tiles ∧ (s.leaveSilent).fetch = s.fetch ∧ (s.leaveSilent).lane = s.lane ∧ (s.leaveSilent).fault = s.fault ∧ (s.leaveSilent).link = s.link := by
  refine ⟨?_, ?_, ?_, ?_, ?_, ?_, ?_, ?_, ?_, ?_, ?_, ?_, ?_, ?_⟩ <;> (unfold State.leaveSilent; (try dsimp only); (repeat' split) <;> (first | (simp; done) | rfl))

@[simp] theorem silentPassed_frame (s : State) (run : Option RunHeld) :
    (s.silentPassed run).pending = s.pending ∧ (s.silentPassed run).straps = s.straps ∧ (s.silentPassed run).setup = s.setup ∧ (s.silentPassed run).roster = s.roster ∧ (s.silentPassed run).board = s.board ∧ (s.silentPassed run).claims = s.claims ∧ (s.silentPassed run).pool = s.pool ∧ (s.silentPassed run).launch = s.launch ∧ (s.silentPassed run).comp = s.comp ∧ (s.silentPassed run).tiles = s.tiles ∧ (s.silentPassed run).fetch = s.fetch ∧ (s.silentPassed run).lane = s.lane ∧ (s.silentPassed run).fault = s.fault ∧ (s.silentPassed run).link = s.link := by
  refine ⟨?_, ?_, ?_, ?_, ?_, ?_, ?_, ?_, ?_, ?_, ?_, ?_, ?_, ?_⟩ <;> (unfold State.silentPassed; (try dsimp only); (repeat' split) <;> (first | (simp; done) | rfl))

@[simp] theorem silentBad_frame (s : State) (run : Option RunHeld)  :
    (s.silentBad run).pending = s.pending ∧ (s.silentBad run).straps = s.straps ∧ (s.silentBad run).ctl = s.ctl ∧ (s.silentBad run).setup = s.setup ∧ (s.silentBad run).roster = s.roster ∧ (s.silentBad run).board = s.board ∧ (s.silentBad run).claims = s.claims ∧ (s.silentBad run).pool = s.pool ∧ (s.silentBad run).launch = s.launch ∧ (s.silentBad run).comp = s.comp ∧ (s.silentBad run).tiles = s.tiles ∧ (s.silentBad run).fetch = s.fetch ∧ (s.silentBad run).lane = s.lane ∧ (s.silentBad run).fault = s.fault ∧ (s.silentBad run).link = s.link := by
  refine ⟨?_, ?_, ?_, ?_, ?_, ?_, ?_, ?_, ?_, ?_, ?_, ?_, ?_, ?_, ?_⟩ <;> (unfold State.silentBad; (try dsimp only); (repeat' split) <;> (first | (simp; done) | rfl))

@[simp] theorem readSilently_frame (s : State) (bits : List Bool) (vetoed : Bool) :
    (s.readSilently bits vetoed).pending = s.pending ∧ (s.readSilently bits vetoed).straps = s.straps ∧ (s.readSilently bits vetoed).setup = s.setup ∧ (s.readSilently bits vetoed).roster = s.roster ∧ (s.readSilently bits vetoed).board = s.board ∧ (s.readSilently bits vetoed).claims = s.claims ∧ (s.readSilently bits vetoed).pool = s.pool ∧ (s.readSilently bits vetoed).launch = s.launch ∧ (s.readSilently bits vetoed).comp = s.comp ∧ (s.readSilently bits vetoed).tiles = s.tiles ∧ (s.readSilently bits vetoed).fetch = s.fetch ∧ (s.readSilently bits vetoed).lane = s.lane ∧ (s.readSilently bits vetoed).fault = s.fault ∧ (s.readSilently bits vetoed).link = s.link := by
  refine ⟨?_, ?_, ?_, ?_, ?_, ?_, ?_, ?_, ?_, ?_, ?_, ?_, ?_, ?_⟩ <;> (unfold State.readSilently; (try dsimp only); (repeat' split) <;> (first | (simp; done) | rfl))

@[simp] theorem runBroken_frame (s : State)  :
    (s.runBroken).pending = s.pending ∧ (s.runBroken).straps = s.straps ∧ (s.runBroken).setup = s.setup ∧ (s.runBroken).roster = s.roster ∧ (s.runBroken).board = s.board ∧ (s.runBroken).pool = s.pool ∧ (s.runBroken).launch = s.launch := by
  refine ⟨?_, ?_, ?_, ?_, ?_, ?_, ?_⟩ <;> (unfold State.runBroken; (try dsimp only); (repeat' split) <;> (first | (simp; done) | rfl))

@[simp] theorem begun_frame (s : State) :
    (s.begun).pending = s.pending ∧ (s.begun).straps = s.straps ∧ (s.begun).ctl = s.ctl ∧ (s.begun).setup = s.setup ∧ (s.begun).roster = s.roster ∧ (s.begun).board = s.board ∧ (s.begun).claims = s.claims ∧ (s.begun).pool = s.pool ∧ (s.begun).launch = s.launch ∧ (s.begun).comp = s.comp ∧ (s.begun).tiles = s.tiles ∧ (s.begun).fetch = s.fetch ∧ (s.begun).lane = s.lane ∧ (s.begun).fault = s.fault ∧ (s.begun).link = s.link := by
  refine ⟨?_, ?_, ?_, ?_, ?_, ?_, ?_, ?_, ?_, ?_, ?_, ?_, ?_, ?_, ?_⟩ <;> rfl

@[simp] theorem letBy_frame (s : State) (began : FrameBegan) (run : Option RunHeld) :
    (s.letBy began run).pending = s.pending ∧ (s.letBy began run).straps = s.straps ∧ (s.letBy began run).ctl = s.ctl ∧ (s.letBy began run).setup = s.setup ∧ (s.letBy began run).roster = s.roster ∧ (s.letBy began run).board = s.board ∧ (s.letBy began run).claims = s.claims ∧ (s.letBy began run).pool = s.pool ∧ (s.letBy began run).launch = s.launch ∧ (s.letBy began run).comp = s.comp ∧ (s.letBy began run).tiles = s.tiles ∧ (s.letBy began run).fetch = s.fetch ∧ (s.letBy began run).lane = s.lane ∧ (s.letBy began run).fault = s.fault ∧ (s.letBy began run).link = s.link := by
  refine ⟨?_, ?_, ?_, ?_, ?_, ?_, ?_, ?_, ?_, ?_, ?_, ?_, ?_, ?_, ?_⟩ <;> rfl

@[simp] theorem startBit_frame (s : State) :
    (s.startBit).pending = s.pending ∧ (s.startBit).straps = s.straps ∧ (s.startBit).ctl = s.ctl ∧ (s.startBit).setup = s.setup ∧ (s.startBit).roster = s.roster ∧ (s.startBit).board = s.board ∧ (s.startBit).claims = s.claims ∧ (s.startBit).pool = s.pool ∧ (s.startBit).launch = s.launch ∧ (s.startBit).comp = s.comp ∧ (s.startBit).tiles = s.tiles ∧ (s.startBit).fetch = s.fetch ∧ (s.startBit).lane = s.lane ∧ (s.startBit).fault = s.fault ∧ (s.startBit).link = s.link := by
  refine ⟨?_, ?_, ?_, ?_, ?_, ?_, ?_, ?_, ?_, ?_, ?_, ?_, ?_, ?_, ?_⟩ <;> (unfold State.startBit; split <;> rfl)

@[simp] theorem takeVeto_frame (s : State) (bits : List Bool) :
    (s.takeVeto bits).pending = s.pending ∧ (s.takeVeto bits).straps = s.straps ∧ (s.takeVeto bits).setup = s.setup ∧ (s.takeVeto bits).roster = s.roster ∧ (s.takeVeto bits).launch = s.launch := by
  refine ⟨?_, ?_, ?_, ?_, ?_⟩ <;> (unfold State.takeVeto; (try dsimp only); (repeat' split) <;> (first | (simp; done) | rfl))

@[simp] theorem vetoFrame_frame (s : State) (x : Heard) :
    (s.vetoFrame x).pending = s.pending ∧ (s.vetoFrame x).straps = s.straps ∧ (s.vetoFrame x).setup = s.setup ∧ (s.vetoFrame x).roster = s.roster ∧ (s.vetoFrame x).launch = s.launch := by
  refine ⟨?_, ?_, ?_, ?_, ?_⟩ <;> (unfold State.vetoFrame; (try dsimp only); (repeat' split) <;> (first | (simp; done) | rfl))

@[simp] theorem endRun_frame (s : State)  :
    (s.endRun).pending = s.pending ∧ (s.endRun).straps = s.straps ∧ (s.endRun).setup = s.setup ∧ (s.endRun).roster = s.roster ∧ (s.endRun).board = s.board ∧ (s.endRun).pool = s.pool ∧ (s.endRun).launch = s.launch := by
  refine ⟨?_, ?_, ?_, ?_, ?_, ?_, ?_⟩ <;> (unfold State.endRun; (try dsimp only); (repeat' split) <;> (first | (simp; done) | rfl))

@[simp] theorem sendEntry_frame (s : State) (e : TxEntry) :
    (s.sendEntry e).pending = s.pending ∧ (s.sendEntry e).straps = s.straps ∧ (s.sendEntry e).ctl = s.ctl ∧ (s.sendEntry e).setup = s.setup ∧ (s.sendEntry e).roster = s.roster ∧ (s.sendEntry e).board = s.board ∧ (s.sendEntry e).claims = s.claims ∧ (s.sendEntry e).pool = s.pool ∧ (s.sendEntry e).launch = s.launch ∧ (s.sendEntry e).comp = s.comp ∧ (s.sendEntry e).tiles = s.tiles ∧ (s.sendEntry e).fetch = s.fetch ∧ (s.sendEntry e).lane = s.lane ∧ (s.sendEntry e).fault = s.fault ∧ (s.sendEntry e).link = s.link := by
  refine ⟨?_, ?_, ?_, ?_, ?_, ?_, ?_, ?_, ?_, ?_, ?_, ?_, ?_, ?_, ?_⟩ <;> (unfold State.sendEntry; (try dsimp only); (repeat' split) <;> (first | (simp; done) | rfl))

@[simp] theorem startHead_frame (s : State) (others : List Nat) :
    (s.startHead others).pending = s.pending ∧ (s.startHead others).straps = s.straps ∧ (s.startHead others).ctl = s.ctl ∧ (s.startHead others).setup = s.setup ∧ (s.startHead others).roster = s.roster ∧ (s.startHead others).board = s.board ∧ (s.startHead others).claims = s.claims ∧ (s.startHead others).pool = s.pool ∧ (s.startHead others).launch = s.launch ∧ (s.startHead others).comp = s.comp ∧ (s.startHead others).tiles = s.tiles ∧ (s.startHead others).fetch = s.fetch ∧ (s.startHead others).lane = s.lane ∧ (s.startHead others).fault = s.fault ∧ (s.startHead others).link = s.link := by
  refine ⟨?_, ?_, ?_, ?_, ?_, ?_, ?_, ?_, ?_, ?_, ?_, ?_, ?_, ?_, ?_⟩ <;> (unfold State.startHead; (try dsimp only); (repeat' split) <;> (first | (simp; done) | rfl))

@[simp] theorem startNext_frame (s : State) (others : List Nat) :
    (s.startNext others).pending = s.pending ∧ (s.startNext others).straps = s.straps ∧ (s.startNext others).ctl = s.ctl ∧ (s.startNext others).setup = s.setup ∧ (s.startNext others).roster = s.roster ∧ (s.startNext others).board = s.board ∧ (s.startNext others).claims = s.claims ∧ (s.startNext others).pool = s.pool ∧ (s.startNext others).launch = s.launch ∧ (s.startNext others).comp = s.comp ∧ (s.startNext others).tiles = s.tiles ∧ (s.startNext others).fetch = s.fetch ∧ (s.startNext others).lane = s.lane ∧ (s.startNext others).fault = s.fault ∧ (s.startNext others).link = s.link := by
  refine ⟨?_, ?_, ?_, ?_, ?_, ?_, ?_, ?_, ?_, ?_, ?_, ?_, ?_, ?_, ?_⟩ <;> (unfold State.startNext; (try dsimp only); (repeat' split) <;> (first | (simp; done) | rfl))

@[simp] theorem grantPlace_frame (s : State)  :
    (s.grantPlace).pending = s.pending ∧ (s.grantPlace).straps = s.straps ∧ (s.grantPlace).setup = s.setup ∧ (s.grantPlace).roster = s.roster ∧ (s.grantPlace).pool = s.pool ∧ (s.grantPlace).launch = s.launch ∧ (s.grantPlace).comp = s.comp ∧ (s.grantPlace).tiles = s.tiles ∧ (s.grantPlace).fetch = s.fetch ∧ (s.grantPlace).lane = s.lane ∧ (s.grantPlace).fault = s.fault ∧ (s.grantPlace).link = s.link := by
  refine ⟨?_, ?_, ?_, ?_, ?_, ?_, ?_, ?_, ?_, ?_, ?_, ?_⟩ <;> (unfold State.grantPlace; (try dsimp only); (repeat' split) <;> (first | (simp; done) | rfl))

@[simp] theorem renewDue_frame (s : State) (page : Nat) :
    (s.renewDue page).pending = s.pending ∧ (s.renewDue page).straps = s.straps ∧ (s.renewDue page).ctl = s.ctl ∧ (s.renewDue page).setup = s.setup ∧ (s.renewDue page).roster = s.roster ∧ (s.renewDue page).board = s.board ∧ (s.renewDue page).claims = s.claims ∧ (s.renewDue page).pool = s.pool ∧ (s.renewDue page).launch = s.launch ∧ (s.renewDue page).comp = s.comp ∧ (s.renewDue page).tiles = s.tiles ∧ (s.renewDue page).fetch = s.fetch ∧ (s.renewDue page).lane = s.lane ∧ (s.renewDue page).fault = s.fault ∧ (s.renewDue page).link = s.link := by
  refine ⟨?_, ?_, ?_, ?_, ?_, ?_, ?_, ?_, ?_, ?_, ?_, ?_, ?_, ?_, ?_⟩ <;> (unfold State.renewDue; (try dsimp only); (repeat' split) <;> (first | (simp; done) | rfl))

@[simp] theorem expireLease_frame (s : State) (page : Nat) :
    (s.expireLease page).pending = s.pending ∧ (s.expireLease page).straps = s.straps ∧ (s.expireLease page).ctl = s.ctl ∧ (s.expireLease page).setup = s.setup ∧ (s.expireLease page).roster = s.roster ∧ (s.expireLease page).claims = s.claims ∧ (s.expireLease page).pool = s.pool ∧ (s.expireLease page).launch = s.launch ∧ (s.expireLease page).comp = s.comp ∧ (s.expireLease page).tiles = s.tiles ∧ (s.expireLease page).fetch = s.fetch ∧ (s.expireLease page).lane = s.lane ∧ (s.expireLease page).fault = s.fault ∧ (s.expireLease page).link = s.link := by
  refine ⟨?_, ?_, ?_, ?_, ?_, ?_, ?_, ?_, ?_, ?_, ?_, ?_, ?_, ?_⟩ <;> (unfold State.expireLease; (try dsimp only); (repeat' split) <;> (first | (simp; done) | rfl))

@[simp] theorem afterFrame_frame (s : State)  :
    (s.afterFrame).pending = s.pending ∧ (s.afterFrame).straps = s.straps ∧ (s.afterFrame).ctl = s.ctl ∧ (s.afterFrame).setup = s.setup ∧ (s.afterFrame).roster = s.roster ∧ (s.afterFrame).board = s.board ∧ (s.afterFrame).pool = s.pool ∧ (s.afterFrame).launch = s.launch ∧ (s.afterFrame).comp = s.comp ∧ (s.afterFrame).tiles = s.tiles ∧ (s.afterFrame).fetch = s.fetch ∧ (s.afterFrame).lane = s.lane ∧ (s.afterFrame).fault = s.fault ∧ (s.afterFrame).link = s.link := by
  refine ⟨?_, ?_, ?_, ?_, ?_, ?_, ?_, ?_, ?_, ?_, ?_, ?_, ?_, ?_⟩ <;> (unfold State.afterFrame; (try dsimp only); (repeat' split) <;> (first | (simp; done) | rfl))


@[simp] theorem boardFrame_frame (s : State) (sender : Nat) (f : Frame) :
    (s.boardFrame sender f).pending = s.pending ∧ (s.boardFrame sender f).straps = s.straps ∧ (s.boardFrame sender f).ctl = s.ctl ∧ (s.boardFrame sender f).setup = s.setup ∧ (s.boardFrame sender f).roster = s.roster ∧ (s.boardFrame sender f).claims = s.claims ∧ (s.boardFrame sender f).pool = s.pool ∧ (s.boardFrame sender f).launch = s.launch ∧ (s.boardFrame sender f).comp = s.comp ∧ (s.boardFrame sender f).tiles = s.tiles ∧ (s.boardFrame sender f).fetch = s.fetch ∧ (s.boardFrame sender f).lane = s.lane ∧ (s.boardFrame sender f).port = s.port ∧ (s.boardFrame sender f).fault = s.fault ∧ (s.boardFrame sender f).link = s.link := by
  refine ⟨?_, ?_, ?_, ?_, ?_, ?_, ?_, ?_, ?_, ?_, ?_, ?_, ?_, ?_, ?_⟩ <;> (unfold State.boardFrame; (try dsimp only); (repeat' split) <;> (first | (simp; done) | rfl))

@[simp] theorem releaseIfBarred_frame (s : State) (page : Nat) :
    (s.releaseIfBarred page).pending = s.pending ∧ (s.releaseIfBarred page).straps = s.straps ∧ (s.releaseIfBarred page).ctl = s.ctl ∧ (s.releaseIfBarred page).setup = s.setup ∧ (s.releaseIfBarred page).roster = s.roster ∧ (s.releaseIfBarred page).board = s.board ∧ (s.releaseIfBarred page).pool = s.pool ∧ (s.releaseIfBarred page).launch = s.launch ∧ (s.releaseIfBarred page).comp = s.comp ∧ (s.releaseIfBarred page).tiles = s.tiles ∧ (s.releaseIfBarred page).fetch = s.fetch ∧ (s.releaseIfBarred page).lane = s.lane ∧ (s.releaseIfBarred page).link = s.link := by
  refine ⟨?_, ?_, ?_, ?_, ?_, ?_, ?_, ?_, ?_, ?_, ?_, ?_, ?_⟩ <;> (unfold State.releaseIfBarred; (try dsimp only); (repeat' split) <;> (first | (simp; done) | rfl))

@[simp] theorem takeWork_frame (s : State) (page : Nat) :
    (s.takeWork page).pending = s.pending ∧ (s.takeWork page).straps = s.straps ∧ (s.takeWork page).ctl = s.ctl ∧ (s.takeWork page).setup = s.setup ∧ (s.takeWork page).roster = s.roster ∧ (s.takeWork page).board = s.board ∧ (s.takeWork page).pool = s.pool ∧ (s.takeWork page).launch = s.launch ∧ (s.takeWork page).comp = s.comp ∧ (s.takeWork page).tiles = s.tiles ∧ (s.takeWork page).lane = s.lane ∧ (s.takeWork page).port = s.port ∧ (s.takeWork page).fault = s.fault ∧ (s.takeWork page).link = s.link := by
  refine ⟨?_, ?_, ?_, ?_, ?_, ?_, ?_, ?_, ?_, ?_, ?_, ?_, ?_, ?_⟩ <;> (unfold State.takeWork; (try dsimp only); (repeat' split) <;> (first | (simp; done) | rfl))

@[simp] theorem claimFrame_frame (s : State) (h : FrameHdr) (page claimant : Nat) :
    (s.claimFrame h page claimant).pending = s.pending ∧ (s.claimFrame h page claimant).straps = s.straps ∧ (s.claimFrame h page claimant).ctl = s.ctl ∧ (s.claimFrame h page claimant).setup = s.setup ∧ (s.claimFrame h page claimant).roster = s.roster ∧ (s.claimFrame h page claimant).pool = s.pool ∧ (s.claimFrame h page claimant).launch = s.launch ∧ (s.claimFrame h page claimant).comp = s.comp ∧ (s.claimFrame h page claimant).tiles = s.tiles ∧ (s.claimFrame h page claimant).lane = s.lane := by
  refine ⟨?_, ?_, ?_, ?_, ?_, ?_, ?_, ?_, ?_, ?_⟩ <;> (unfold State.claimFrame; (try dsimp only); (repeat' split) <;> (first | (simp; done) | rfl))

@[simp] theorem renewFrame_frame (s : State) (h : FrameHdr) (page : Nat) :
    (s.renewFrame h page).pending = s.pending ∧ (s.renewFrame h page).straps = s.straps ∧ (s.renewFrame h page).ctl = s.ctl ∧ (s.renewFrame h page).setup = s.setup ∧ (s.renewFrame h page).roster = s.roster ∧ (s.renewFrame h page).claims = s.claims ∧ (s.renewFrame h page).pool = s.pool ∧ (s.renewFrame h page).launch = s.launch ∧ (s.renewFrame h page).comp = s.comp ∧ (s.renewFrame h page).tiles = s.tiles ∧ (s.renewFrame h page).fetch = s.fetch ∧ (s.renewFrame h page).lane = s.lane ∧ (s.renewFrame h page).port = s.port ∧ (s.renewFrame h page).fault = s.fault := by
  refine ⟨?_, ?_, ?_, ?_, ?_, ?_, ?_, ?_, ?_, ?_, ?_, ?_, ?_, ?_⟩ <;> (unfold State.renewFrame; (try dsimp only); (repeat' split) <;> (first | (simp; done) | rfl))

@[simp] theorem loseUnlisted_frame (s : State) (page : Nat) :
    (s.loseUnlisted page).pending = s.pending ∧ (s.loseUnlisted page).straps = s.straps ∧ (s.loseUnlisted page).setup = s.setup ∧ (s.loseUnlisted page).roster = s.roster ∧ (s.loseUnlisted page).pool = s.pool ∧ (s.loseUnlisted page).launch = s.launch := by
  refine ⟨?_, ?_, ?_, ?_, ?_, ?_⟩ <;> (unfold State.loseUnlisted; (try dsimp only); (repeat' split) <;> (first | (simp; done) | rfl))

@[simp] theorem loseClaim_frame (s : State) (page : Nat) :
    (s.loseClaim page).pending = s.pending ∧ (s.loseClaim page).straps = s.straps ∧ (s.loseClaim page).setup = s.setup ∧ (s.loseClaim page).roster = s.roster ∧ (s.loseClaim page).pool = s.pool ∧ (s.loseClaim page).launch = s.launch := by
  refine ⟨?_, ?_, ?_, ?_, ?_, ?_⟩ <;> (unfold State.loseClaim; (try dsimp only); (repeat' split) <;> (first | (simp; done) | rfl))

@[simp] theorem restartLease_frame (s : State) (page : Nat) :
    (s.restartLease page).pending = s.pending ∧ (s.restartLease page).straps = s.straps ∧ (s.restartLease page).ctl = s.ctl ∧ (s.restartLease page).setup = s.setup ∧ (s.restartLease page).roster = s.roster ∧ (s.restartLease page).claims = s.claims ∧ (s.restartLease page).pool = s.pool ∧ (s.restartLease page).launch = s.launch ∧ (s.restartLease page).comp = s.comp ∧ (s.restartLease page).tiles = s.tiles ∧ (s.restartLease page).fetch = s.fetch ∧ (s.restartLease page).lane = s.lane ∧ (s.restartLease page).port = s.port ∧ (s.restartLease page).fault = s.fault ∧ (s.restartLease page).link = s.link := by
  refine ⟨?_, ?_, ?_, ?_, ?_, ?_, ?_, ?_, ?_, ?_, ?_, ?_, ?_, ?_, ?_⟩ <;> (unfold State.restartLease; (try dsimp only); (repeat' split) <;> (first | (simp; done) | rfl))

@[simp] theorem lapseFrame_frame (s : State) (h : FrameHdr) (page holder mark : Nat) :
    (s.lapseFrame h page holder mark).pending = s.pending ∧ (s.lapseFrame h page holder mark).straps = s.straps ∧ (s.lapseFrame h page holder mark).setup = s.setup ∧ (s.lapseFrame h page holder mark).roster = s.roster ∧ (s.lapseFrame h page holder mark).pool = s.pool ∧ (s.lapseFrame h page holder mark).launch = s.launch := by
  refine ⟨?_, ?_, ?_, ?_, ?_, ?_⟩ <;> (unfold State.lapseFrame; (try dsimp only); (repeat' split) <;> (first | (simp; done) | rfl))

@[simp] theorem closeApplied_frame (s : State) (page : Nat) :
    (s.closeApplied page).pending = s.pending ∧ (s.closeApplied page).straps = s.straps ∧ (s.closeApplied page).ctl = s.ctl ∧ (s.closeApplied page).setup = s.setup ∧ (s.closeApplied page).roster = s.roster ∧ (s.closeApplied page).pool = s.pool ∧ (s.closeApplied page).launch = s.launch ∧ (s.closeApplied page).comp = s.comp ∧ (s.closeApplied page).tiles = s.tiles ∧ (s.closeApplied page).lane = s.lane := by
  refine ⟨?_, ?_, ?_, ?_, ?_, ?_, ?_, ?_, ?_, ?_⟩ <;> (unfold State.closeApplied; (try dsimp only); (repeat' split) <;> (first | (simp; done) | rfl))

@[simp] theorem doneFrame_frame (s : State) (h : FrameHdr) (page edition : Nat) :
    (s.doneFrame h page edition).pending = s.pending ∧ (s.doneFrame h page edition).straps = s.straps ∧ (s.doneFrame h page edition).ctl = s.ctl ∧ (s.doneFrame h page edition).setup = s.setup ∧ (s.doneFrame h page edition).roster = s.roster ∧ (s.doneFrame h page edition).pool = s.pool ∧ (s.doneFrame h page edition).launch = s.launch ∧ (s.doneFrame h page edition).comp = s.comp ∧ (s.doneFrame h page edition).lane = s.lane := by
  refine ⟨?_, ?_, ?_, ?_, ?_, ?_, ?_, ?_, ?_⟩ <;> (unfold State.doneFrame; (try dsimp only); (repeat' split) <;> (first | (simp; done) | rfl))

@[simp] theorem releaseFrame_frame (s : State) (h : FrameHdr) (page : Nat) :
    (s.releaseFrame h page).pending = s.pending ∧ (s.releaseFrame h page).straps = s.straps ∧ (s.releaseFrame h page).ctl = s.ctl ∧ (s.releaseFrame h page).setup = s.setup ∧ (s.releaseFrame h page).roster = s.roster ∧ (s.releaseFrame h page).pool = s.pool ∧ (s.releaseFrame h page).launch = s.launch ∧ (s.releaseFrame h page).comp = s.comp ∧ (s.releaseFrame h page).lane = s.lane := by
  refine ⟨?_, ?_, ?_, ?_, ?_, ?_, ?_, ?_, ?_⟩ <;> (unfold State.releaseFrame; (try dsimp only); (repeat' split) <;> (first | (simp; done) | rfl))

@[simp] theorem failFrame_frame (s : State) (h : FrameHdr) (page cause : Nat) :
    (s.failFrame h page cause).pending = s.pending ∧ (s.failFrame h page cause).straps = s.straps ∧ (s.failFrame h page cause).ctl = s.ctl ∧ (s.failFrame h page cause).setup = s.setup ∧ (s.failFrame h page cause).roster = s.roster ∧ (s.failFrame h page cause).pool = s.pool ∧ (s.failFrame h page cause).launch = s.launch ∧ (s.failFrame h page cause).comp = s.comp ∧ (s.failFrame h page cause).lane = s.lane := by
  refine ⟨?_, ?_, ?_, ?_, ?_, ?_, ?_, ?_, ?_⟩ <;> (unfold State.failFrame; (try dsimp only); (repeat' split) <;> (first | (simp; done) | rfl))

@[simp] theorem joinOwn_frame (s : State) (fate : BoardFate) :
    (s.joinOwn fate).pending = s.pending ∧ (s.joinOwn fate).straps = s.straps ∧ (s.joinOwn fate).setup = s.setup ∧ (s.joinOwn fate).roster = s.roster ∧ (s.joinOwn fate).claims = s.claims ∧ (s.joinOwn fate).pool = s.pool ∧ (s.joinOwn fate).launch = s.launch ∧ (s.joinOwn fate).comp = s.comp ∧ (s.joinOwn fate).tiles = s.tiles ∧ (s.joinOwn fate).fetch = s.fetch ∧ (s.joinOwn fate).lane = s.lane ∧ (s.joinOwn fate).fault = s.fault ∧ (s.joinOwn fate).link = s.link := by
  refine ⟨?_, ?_, ?_, ?_, ?_, ?_, ?_, ?_, ?_, ?_, ?_, ?_, ?_⟩ <;> (unfold State.joinOwn; (try dsimp only); (repeat' split) <;> (first | (simp; done) | rfl))

@[simp] theorem joinHeard_frame (s : State) (identity : Id32) :
    (s.joinHeard identity).pending = s.pending ∧ (s.joinHeard identity).straps = s.straps ∧ (s.joinHeard identity).setup = s.setup ∧ (s.joinHeard identity).roster = s.roster ∧ (s.joinHeard identity).board = s.board ∧ (s.joinHeard identity).claims = s.claims ∧ (s.joinHeard identity).pool = s.pool ∧ (s.joinHeard identity).launch = s.launch ∧ (s.joinHeard identity).comp = s.comp ∧ (s.joinHeard identity).tiles = s.tiles ∧ (s.joinHeard identity).fetch = s.fetch ∧ (s.joinHeard identity).lane = s.lane ∧ (s.joinHeard identity).fault = s.fault ∧ (s.joinHeard identity).link = s.link := by
  refine ⟨?_, ?_, ?_, ?_, ?_, ?_, ?_, ?_, ?_, ?_, ?_, ?_, ?_, ?_⟩ <;> (unfold State.joinHeard; (try dsimp only); (repeat' split) <;> (first | (simp; done) | rfl))

@[simp] theorem joinFrame_frame (s : State) (h : FrameHdr) (station : Nat) (identity : Id32) :
    (s.joinFrame h station identity).pending = s.pending ∧ (s.joinFrame h station identity).straps = s.straps ∧ (s.joinFrame h station identity).setup = s.setup ∧ (s.joinFrame h station identity).roster = s.roster ∧ (s.joinFrame h station identity).claims = s.claims ∧ (s.joinFrame h station identity).pool = s.pool ∧ (s.joinFrame h station identity).launch = s.launch ∧ (s.joinFrame h station identity).comp = s.comp ∧ (s.joinFrame h station identity).tiles = s.tiles ∧ (s.joinFrame h station identity).fetch = s.fetch ∧ (s.joinFrame h station identity).lane = s.lane ∧ (s.joinFrame h station identity).fault = s.fault := by
  refine ⟨?_, ?_, ?_, ?_, ?_, ?_, ?_, ?_, ?_, ?_, ?_, ?_⟩ <;> (unfold State.joinFrame; (try dsimp only); (repeat' split) <;> (first | (simp; done) | rfl))

@[simp] theorem leaveOwn_frame (s : State)  :
    (s.leaveOwn).pending = s.pending ∧ (s.leaveOwn).straps = s.straps ∧ (s.leaveOwn).ctl = s.ctl ∧ (s.leaveOwn).setup = s.setup ∧ (s.leaveOwn).roster = s.roster ∧ (s.leaveOwn).launch = s.launch ∧ (s.leaveOwn).comp = s.comp ∧ (s.leaveOwn).lane = s.lane := by
  refine ⟨?_, ?_, ?_, ?_, ?_, ?_, ?_, ?_⟩ <;> (unfold State.leaveOwn; (try dsimp only); (repeat' split) <;> (first | (simp; done) | rfl))

@[simp] theorem leaveFrame_frame (s : State) (h : FrameHdr) (station : Nat) :
    (s.leaveFrame h station).pending = s.pending ∧ (s.leaveFrame h station).straps = s.straps ∧ (s.leaveFrame h station).ctl = s.ctl ∧ (s.leaveFrame h station).setup = s.setup ∧ (s.leaveFrame h station).roster = s.roster ∧ (s.leaveFrame h station).launch = s.launch ∧ (s.leaveFrame h station).comp = s.comp ∧ (s.leaveFrame h station).lane = s.lane := by
  refine ⟨?_, ?_, ?_, ?_, ?_, ?_, ?_, ?_⟩ <;> (unfold State.leaveFrame; (try dsimp only); (repeat' split) <;> (first | (simp; done) | rfl))

@[simp] theorem relayApplied_frame (s : State) (h : FrameHdr) (r : RelayResult) :
    (s.relayApplied h r).pending = s.pending ∧ (s.relayApplied h r).straps = s.straps ∧ (s.relayApplied h r).ctl = s.ctl ∧ (s.relayApplied h r).setup = s.setup ∧ (s.relayApplied h r).roster = s.roster ∧ (s.relayApplied h r).board = s.board ∧ (s.relayApplied h r).claims = s.claims ∧ (s.relayApplied h r).pool = s.pool ∧ (s.relayApplied h r).launch = s.launch ∧ (s.relayApplied h r).comp = s.comp ∧ (s.relayApplied h r).tiles = s.tiles ∧ (s.relayApplied h r).fetch = s.fetch ∧ (s.relayApplied h r).lane = s.lane ∧ (s.relayApplied h r).port = s.port ∧ (s.relayApplied h r).fault = s.fault := by
  refine ⟨?_, ?_, ?_, ?_, ?_, ?_, ?_, ?_, ?_, ?_, ?_, ?_, ?_, ?_, ?_⟩ <;> (unfold State.relayApplied; (try dsimp only); (repeat' split) <;> (first | (simp; done) | rfl))

@[simp] theorem amendFrame_frame (s : State) (h : FrameHdr) (b : AmendBody) :
    (s.amendFrame h b).pending = s.pending ∧ (s.amendFrame h b).straps = s.straps ∧ (s.amendFrame h b).ctl = s.ctl ∧ (s.amendFrame h b).setup = s.setup ∧ (s.amendFrame h b).roster = s.roster ∧ (s.amendFrame h b).board = s.board ∧ (s.amendFrame h b).claims = s.claims ∧ (s.amendFrame h b).launch = s.launch ∧ (s.amendFrame h b).comp = s.comp ∧ (s.amendFrame h b).tiles = s.tiles ∧ (s.amendFrame h b).fetch = s.fetch ∧ (s.amendFrame h b).lane = s.lane ∧ (s.amendFrame h b).port = s.port ∧ (s.amendFrame h b).fault = s.fault := by
  refine ⟨?_, ?_, ?_, ?_, ?_, ?_, ?_, ?_, ?_, ?_, ?_, ?_, ?_, ?_⟩ <;> (unfold State.amendFrame; (try dsimp only); (repeat' split) <;> (first | (simp; done) | rfl))

@[simp] theorem launchBoard_frame (s : State) (b : Batch) (pool : List Amendment) :
    (s.launchBoard b pool).pending = s.pending ∧ (s.launchBoard b pool).straps = s.straps ∧ (s.launchBoard b pool).ctl = s.ctl ∧ (s.launchBoard b pool).setup = s.setup ∧ (s.launchBoard b pool).roster = s.roster ∧ (s.launchBoard b pool).claims = s.claims ∧ (s.launchBoard b pool).launch = s.launch ∧ (s.launchBoard b pool).comp = s.comp ∧ (s.launchBoard b pool).tiles = s.tiles ∧ (s.launchBoard b pool).fetch = s.fetch ∧ (s.launchBoard b pool).lane = s.lane ∧ (s.launchBoard b pool).port = s.port ∧ (s.launchBoard b pool).fault = s.fault ∧ (s.launchBoard b pool).link = s.link := by
  refine ⟨?_, ?_, ?_, ?_, ?_, ?_, ?_, ?_, ?_, ?_, ?_, ?_, ?_, ?_⟩ <;> (unfold State.launchBoard; (try dsimp only); (repeat' split) <;> (first | (simp; done) | rfl))

@[simp] theorem launchFrame_frame (s : State) (h : FrameHdr) (b : Nat) :
    (s.launchFrame h b).pending = s.pending ∧ (s.launchFrame h b).straps = s.straps ∧ (s.launchFrame h b).ctl = s.ctl ∧ (s.launchFrame h b).setup = s.setup ∧ (s.launchFrame h b).claims = s.claims ∧ (s.launchFrame h b).lane = s.lane ∧ (s.launchFrame h b).port = s.port ∧ (s.launchFrame h b).fault = s.fault := by
  refine ⟨?_, ?_, ?_, ?_, ?_, ?_, ?_, ?_⟩ <;> (unfold State.launchFrame; (try dsimp only); (repeat' split) <;> (first | (simp; done) | rfl))

@[simp] theorem dropFrame_frame (s : State) (h : FrameHdr) (b : Nat) :
    (s.dropFrame h b).pending = s.pending ∧ (s.dropFrame h b).straps = s.straps ∧ (s.dropFrame h b).ctl = s.ctl ∧ (s.dropFrame h b).setup = s.setup ∧ (s.dropFrame h b).roster = s.roster ∧ (s.dropFrame h b).board = s.board ∧ (s.dropFrame h b).claims = s.claims ∧ (s.dropFrame h b).launch = s.launch ∧ (s.dropFrame h b).comp = s.comp ∧ (s.dropFrame h b).tiles = s.tiles ∧ (s.dropFrame h b).fetch = s.fetch ∧ (s.dropFrame h b).lane = s.lane ∧ (s.dropFrame h b).port = s.port ∧ (s.dropFrame h b).fault = s.fault := by
  refine ⟨?_, ?_, ?_, ?_, ?_, ?_, ?_, ?_, ?_, ?_, ?_, ?_, ?_, ?_⟩ <;> (unfold State.dropFrame; (try dsimp only); (repeat' split) <;> (first | (simp; done) | rfl))

@[simp] theorem headFrame_frame (s : State) (fresh : Bool) (sender requester responder : Nat) (c : Collection) :
    (s.headFrame fresh sender requester responder c).pending = s.pending ∧ (s.headFrame fresh sender requester responder c).straps = s.straps ∧ (s.headFrame fresh sender requester responder c).setup = s.setup ∧ (s.headFrame fresh sender requester responder c).roster = s.roster ∧ (s.headFrame fresh sender requester responder c).launch = s.launch := by
  refine ⟨?_, ?_, ?_, ?_, ?_⟩ <;> (unfold State.headFrame; (try dsimp only); (repeat' split) <;> (first | (simp; done) | rfl))

@[simp] theorem pagesFrame_frame (s : State) (requester index : Nat) (entries : List Byte) :
    (s.pagesFrame requester index entries).pending = s.pending ∧ (s.pagesFrame requester index entries).straps = s.straps ∧ (s.pagesFrame requester index entries).setup = s.setup ∧ (s.pagesFrame requester index entries).roster = s.roster ∧ (s.pagesFrame requester index entries).launch = s.launch := by
  refine ⟨?_, ?_, ?_, ?_, ?_⟩ <;> (unfold State.pagesFrame; (try dsimp only); (repeat' split) <;> (first | (simp; done) | rfl))

@[simp] theorem snapAmendFrame_frame (s : State) (requester index : Nat) (b : AmendBody) :
    (s.snapAmendFrame requester index b).pending = s.pending ∧ (s.snapAmendFrame requester index b).straps = s.straps ∧ (s.snapAmendFrame requester index b).setup = s.setup ∧ (s.snapAmendFrame requester index b).roster = s.roster ∧ (s.snapAmendFrame requester index b).launch = s.launch := by
  refine ⟨?_, ?_, ?_, ?_, ?_⟩ <;> (unfold State.snapAmendFrame; (try dsimp only); (repeat' split) <;> (first | (simp; done) | rfl))

end Sys2Proof.Laws
end

