-- ==== Sys2Proof/Laws/FrameLane.lean ====
section
/-! SUPPORT. What each shared operation leaves unchanged: composing, fetching, the engine and the link. -/

namespace Sys2Proof.Laws

open Sys2Proof Sys2Proof.Machine

set_option linter.all false

@[simp] theorem setHeld_frame (s : State) (h : Held) :
    (s.setHeld h).pending = s.pending ∧ (s.setHeld h).straps = s.straps ∧ (s.setHeld h).ctl = s.ctl ∧ (s.setHeld h).setup = s.setup ∧ (s.setHeld h).roster = s.roster ∧ (s.setHeld h).board = s.board ∧ (s.setHeld h).claims = s.claims ∧ (s.setHeld h).pool = s.pool ∧ (s.setHeld h).launch = s.launch ∧ (s.setHeld h).tiles = s.tiles ∧ (s.setHeld h).fetch = s.fetch ∧ (s.setHeld h).lane = s.lane ∧ (s.setHeld h).port = s.port ∧ (s.setHeld h).fault = s.fault ∧ (s.setHeld h).link = s.link := by
  refine ⟨?_, ?_, ?_, ?_, ?_, ?_, ?_, ?_, ?_, ?_, ?_, ?_, ?_, ?_, ?_⟩ <;> (unfold State.setHeld; (try dsimp only); (repeat' split) <;> (first | (simp; done) | rfl))

@[simp] theorem modifyCell_frame (s : State) (i : Nat) (f : Cell → Cell) :
    (s.modifyCell i f).pending = s.pending ∧ (s.modifyCell i f).straps = s.straps ∧ (s.modifyCell i f).ctl = s.ctl ∧ (s.modifyCell i f).setup = s.setup ∧ (s.modifyCell i f).roster = s.roster ∧ (s.modifyCell i f).board = s.board ∧ (s.modifyCell i f).claims = s.claims ∧ (s.modifyCell i f).pool = s.pool ∧ (s.modifyCell i f).launch = s.launch ∧ (s.modifyCell i f).tiles = s.tiles ∧ (s.modifyCell i f).fetch = s.fetch ∧ (s.modifyCell i f).lane = s.lane ∧ (s.modifyCell i f).port = s.port ∧ (s.modifyCell i f).fault = s.fault ∧ (s.modifyCell i f).link = s.link := by
  refine ⟨?_, ?_, ?_, ?_, ?_, ?_, ?_, ?_, ?_, ?_, ?_, ?_, ?_, ?_, ?_⟩ <;> (unfold State.modifyCell; (try dsimp only); (repeat' split) <;> (first | (simp; done) | rfl))

@[simp] theorem countComposing_frame (s : State) (page cell : Nat) (pid : Id32) :
    (s.countComposing page cell pid).pending = s.pending ∧ (s.countComposing page cell pid).straps = s.straps ∧ (s.countComposing page cell pid).ctl = s.ctl ∧ (s.countComposing page cell pid).setup = s.setup ∧ (s.countComposing page cell pid).roster = s.roster ∧ (s.countComposing page cell pid).board = s.board ∧ (s.countComposing page cell pid).claims = s.claims ∧ (s.countComposing page cell pid).pool = s.pool ∧ (s.countComposing page cell pid).launch = s.launch ∧ (s.countComposing page cell pid).comp = s.comp ∧ (s.countComposing page cell pid).lane = s.lane ∧ (s.countComposing page cell pid).port = s.port ∧ (s.countComposing page cell pid).fault = s.fault ∧ (s.countComposing page cell pid).link = s.link := by
  refine ⟨?_, ?_, ?_, ?_, ?_, ?_, ?_, ?_, ?_, ?_, ?_, ?_, ?_, ?_⟩ <;> (unfold State.countComposing; (try dsimp only); (repeat' split) <;> (first | (simp; done) | rfl))

@[simp] theorem takeCell_frame (s : State) (t : Template) (i : Nat) :
    (s.takeCell t i).pending = s.pending ∧ (s.takeCell t i).straps = s.straps ∧ (s.takeCell t i).ctl = s.ctl ∧ (s.takeCell t i).setup = s.setup ∧ (s.takeCell t i).roster = s.roster ∧ (s.takeCell t i).board = s.board ∧ (s.takeCell t i).claims = s.claims ∧ (s.takeCell t i).pool = s.pool ∧ (s.takeCell t i).launch = s.launch ∧ (s.takeCell t i).lane = s.lane ∧ (s.takeCell t i).port = s.port ∧ (s.takeCell t i).fault = s.fault ∧ (s.takeCell t i).link = s.link := by
  refine ⟨?_, ?_, ?_, ?_, ?_, ?_, ?_, ?_, ?_, ?_, ?_, ?_, ?_⟩ <;> (unfold State.takeCell; (try dsimp only); (repeat' split) <;> (first | (simp; done) | rfl))

@[simp] theorem takeReferences_frame (s : State) (t : Template) (b : Nat) :
    (s.takeReferences t b).pending = s.pending ∧ (s.takeReferences t b).straps = s.straps ∧ (s.takeReferences t b).ctl = s.ctl ∧ (s.takeReferences t b).setup = s.setup ∧ (s.takeReferences t b).roster = s.roster ∧ (s.takeReferences t b).board = s.board ∧ (s.takeReferences t b).claims = s.claims ∧ (s.takeReferences t b).pool = s.pool ∧ (s.takeReferences t b).launch = s.launch ∧ (s.takeReferences t b).lane = s.lane ∧ (s.takeReferences t b).port = s.port ∧ (s.takeReferences t b).fault = s.fault ∧ (s.takeReferences t b).link = s.link :=
  ⟨by unfold State.takeReferences; (try dsimp only); (repeat' split) <;> (first | (simp; done) | rfl | (simp [foldl_keeps (fun t : State => t.pending)]; done) | (rw [foldl_keeps (fun t : State => t.pending)] <;> first | (simp; done) | (intros; simp; done) | (intros; split <;> simp; done))), by unfold State.takeReferences; (try dsimp only); (repeat' split) <;> (first | (simp; done) | rfl | (simp [foldl_keeps (fun t : State => t.straps)]; done) | (rw [foldl_keeps (fun t : State => t.straps)] <;> first | (simp; done) | (intros; simp; done) | (intros; split <;> simp; done))), by unfold State.takeReferences; (try dsimp only); (repeat' split) <;> (first | (simp; done) | rfl | (simp [foldl_keeps (fun t : State => t.ctl)]; done) | (rw [foldl_keeps (fun t : State => t.ctl)] <;> first | (simp; done) | (intros; simp; done) | (intros; split <;> simp; done))), by unfold State.takeReferences; (try dsimp only); (repeat' split) <;> (first | (simp; done) | rfl | (simp [foldl_keeps (fun t : State => t.setup)]; done) | (rw [foldl_keeps (fun t : State => t.setup)] <;> first | (simp; done) | (intros; simp; done) | (intros; split <;> simp; done))), by unfold State.takeReferences; (try dsimp only); (repeat' split) <;> (first | (simp; done) | rfl | (simp [foldl_keeps (fun t : State => t.roster)]; done) | (rw [foldl_keeps (fun t : State => t.roster)] <;> first | (simp; done) | (intros; simp; done) | (intros; split <;> simp; done))), by unfold State.takeReferences; (try dsimp only); (repeat' split) <;> (first | (simp; done) | rfl | (simp [foldl_keeps (fun t : State => t.board)]; done) | (rw [foldl_keeps (fun t : State => t.board)] <;> first | (simp; done) | (intros; simp; done) | (intros; split <;> simp; done))), by unfold State.takeReferences; (try dsimp only); (repeat' split) <;> (first | (simp; done) | rfl | (simp [foldl_keeps (fun t : State => t.claims)]; done) | (rw [foldl_keeps (fun t : State => t.claims)] <;> first | (simp; done) | (intros; simp; done) | (intros; split <;> simp; done))), by unfold State.takeReferences; (try dsimp only); (repeat' split) <;> (first | (simp; done) | rfl | (simp [foldl_keeps (fun t : State => t.pool)]; done) | (rw [foldl_keeps (fun t : State => t.pool)] <;> first | (simp; done) | (intros; simp; done) | (intros; split <;> simp; done))), by unfold State.takeReferences; (try dsimp only); (repeat' split) <;> (first | (simp; done) | rfl | (simp [foldl_keeps (fun t : State => t.launch)]; done) | (rw [foldl_keeps (fun t : State => t.launch)] <;> first | (simp; done) | (intros; simp; done) | (intros; split <;> simp; done))), by unfold State.takeReferences; (try dsimp only); (repeat' split) <;> (first | (simp; done) | rfl | (simp [foldl_keeps (fun t : State => t.lane)]; done) | (rw [foldl_keeps (fun t : State => t.lane)] <;> first | (simp; done) | (intros; simp; done) | (intros; split <;> simp; done))), by unfold State.takeReferences; (try dsimp only); (repeat' split) <;> (first | (simp; done) | rfl | (simp [foldl_keeps (fun t : State => t.port)]; done) | (rw [foldl_keeps (fun t : State => t.port)] <;> first | (simp; done) | (intros; simp; done) | (intros; split <;> simp; done))), by unfold State.takeReferences; (try dsimp only); (repeat' split) <;> (first | (simp; done) | rfl | (simp [foldl_keeps (fun t : State => t.fault)]; done) | (rw [foldl_keeps (fun t : State => t.fault)] <;> first | (simp; done) | (intros; simp; done) | (intros; split <;> simp; done))), by unfold State.takeReferences; (try dsimp only); (repeat' split) <;> (first | (simp; done) | rfl | (simp [foldl_keeps (fun t : State => t.link)]; done) | (rw [foldl_keeps (fun t : State => t.link)] <;> first | (simp; done) | (intros; simp; done) | (intros; split <;> simp; done)))⟩

@[simp] theorem recordPlaced_frame (s : State) (h : Held) (i : Nat) (p : Placed) :
    (s.recordPlaced h i p).pending = s.pending ∧ (s.recordPlaced h i p).straps = s.straps ∧ (s.recordPlaced h i p).ctl = s.ctl ∧ (s.recordPlaced h i p).setup = s.setup ∧ (s.recordPlaced h i p).roster = s.roster ∧ (s.recordPlaced h i p).board = s.board ∧ (s.recordPlaced h i p).claims = s.claims ∧ (s.recordPlaced h i p).pool = s.pool ∧ (s.recordPlaced h i p).launch = s.launch ∧ (s.recordPlaced h i p).lane = s.lane ∧ (s.recordPlaced h i p).port = s.port ∧ (s.recordPlaced h i p).fault = s.fault ∧ (s.recordPlaced h i p).link = s.link :=
  ⟨by unfold State.recordPlaced; (try dsimp only); (repeat' split) <;> (first | (simp; done) | rfl | (simp [foldl_keeps (fun t : State => t.pending)]; done) | (rw [foldl_keeps (fun t : State => t.pending)] <;> first | (simp; done) | (intros; simp; done) | (intros; split <;> simp; done))), by unfold State.recordPlaced; (try dsimp only); (repeat' split) <;> (first | (simp; done) | rfl | (simp [foldl_keeps (fun t : State => t.straps)]; done) | (rw [foldl_keeps (fun t : State => t.straps)] <;> first | (simp; done) | (intros; simp; done) | (intros; split <;> simp; done))), by unfold State.recordPlaced; (try dsimp only); (repeat' split) <;> (first | (simp; done) | rfl | (simp [foldl_keeps (fun t : State => t.ctl)]; done) | (rw [foldl_keeps (fun t : State => t.ctl)] <;> first | (simp; done) | (intros; simp; done) | (intros; split <;> simp; done))), by unfold State.recordPlaced; (try dsimp only); (repeat' split) <;> (first | (simp; done) | rfl | (simp [foldl_keeps (fun t : State => t.setup)]; done) | (rw [foldl_keeps (fun t : State => t.setup)] <;> first | (simp; done) | (intros; simp; done) | (intros; split <;> simp; done))), by unfold State.recordPlaced; (try dsimp only); (repeat' split) <;> (first | (simp; done) | rfl | (simp [foldl_keeps (fun t : State => t.roster)]; done) | (rw [foldl_keeps (fun t : State => t.roster)] <;> first | (simp; done) | (intros; simp; done) | (intros; split <;> simp; done))), by unfold State.recordPlaced; (try dsimp only); (repeat' split) <;> (first | (simp; done) | rfl | (simp [foldl_keeps (fun t : State => t.board)]; done) | (rw [foldl_keeps (fun t : State => t.board)] <;> first | (simp; done) | (intros; simp; done) | (intros; split <;> simp; done))), by unfold State.recordPlaced; (try dsimp only); (repeat' split) <;> (first | (simp; done) | rfl | (simp [foldl_keeps (fun t : State => t.claims)]; done) | (rw [foldl_keeps (fun t : State => t.claims)] <;> first | (simp; done) | (intros; simp; done) | (intros; split <;> simp; done))), by unfold State.recordPlaced; (try dsimp only); (repeat' split) <;> (first | (simp; done) | rfl | (simp [foldl_keeps (fun t : State => t.pool)]; done) | (rw [foldl_keeps (fun t : State => t.pool)] <;> first | (simp; done) | (intros; simp; done) | (intros; split <;> simp; done))), by unfold State.recordPlaced; (try dsimp only); (repeat' split) <;> (first | (simp; done) | rfl | (simp [foldl_keeps (fun t : State => t.launch)]; done) | (rw [foldl_keeps (fun t : State => t.launch)] <;> first | (simp; done) | (intros; simp; done) | (intros; split <;> simp; done))), by unfold State.recordPlaced; (try dsimp only); (repeat' split) <;> (first | (simp; done) | rfl | (simp [foldl_keeps (fun t : State => t.lane)]; done) | (rw [foldl_keeps (fun t : State => t.lane)] <;> first | (simp; done) | (intros; simp; done) | (intros; split <;> simp; done))), by unfold State.recordPlaced; (try dsimp only); (repeat' split) <;> (first | (simp; done) | rfl | (simp [foldl_keeps (fun t : State => t.port)]; done) | (rw [foldl_keeps (fun t : State => t.port)] <;> first | (simp; done) | (intros; simp; done) | (intros; split <;> simp; done))), by unfold State.recordPlaced; (try dsimp only); (repeat' split) <;> (first | (simp; done) | rfl | (simp [foldl_keeps (fun t : State => t.fault)]; done) | (rw [foldl_keeps (fun t : State => t.fault)] <;> first | (simp; done) | (intros; simp; done) | (intros; split <;> simp; done))), by unfold State.recordPlaced; (try dsimp only); (repeat' split) <;> (first | (simp; done) | rfl | (simp [foldl_keeps (fun t : State => t.link)]; done) | (rw [foldl_keeps (fun t : State => t.link)] <;> first | (simp; done) | (intros; simp; done) | (intros; split <;> simp; done)))⟩

@[simp] theorem handPacket_frame (s : State) (p : Packet) :
    (s.handPacket p).pending = s.pending ∧ (s.handPacket p).straps = s.straps ∧ (s.handPacket p).ctl = s.ctl ∧ (s.handPacket p).setup = s.setup ∧ (s.handPacket p).roster = s.roster ∧ (s.handPacket p).board = s.board ∧ (s.handPacket p).claims = s.claims ∧ (s.handPacket p).pool = s.pool ∧ (s.handPacket p).launch = s.launch ∧ (s.handPacket p).comp = s.comp ∧ (s.handPacket p).tiles = s.tiles ∧ (s.handPacket p).fetch = s.fetch ∧ (s.handPacket p).port = s.port ∧ (s.handPacket p).fault = s.fault ∧ (s.handPacket p).link = s.link := by
  refine ⟨?_, ?_, ?_, ?_, ?_, ?_, ?_, ?_, ?_, ?_, ?_, ?_, ?_, ?_, ?_⟩ <;> (unfold State.handPacket; (try dsimp only); (repeat' split) <;> (first | (simp; done) | rfl))

@[simp] theorem setCompState_frame (s : State) (c : CompState) :
    (s.setCompState c).pending = s.pending ∧ (s.setCompState c).straps = s.straps ∧ (s.setCompState c).ctl = s.ctl ∧ (s.setCompState c).setup = s.setup ∧ (s.setCompState c).roster = s.roster ∧ (s.setCompState c).board = s.board ∧ (s.setCompState c).claims = s.claims ∧ (s.setCompState c).pool = s.pool ∧ (s.setCompState c).launch = s.launch ∧ (s.setCompState c).tiles = s.tiles ∧ (s.setCompState c).fetch = s.fetch ∧ (s.setCompState c).lane = s.lane ∧ (s.setCompState c).port = s.port ∧ (s.setCompState c).fault = s.fault ∧ (s.setCompState c).link = s.link := by
  refine ⟨?_, ?_, ?_, ?_, ?_, ?_, ?_, ?_, ?_, ?_, ?_, ?_, ?_, ?_, ?_⟩ <;> (unfold State.setCompState; (try dsimp only); (repeat' split) <;> (first | (simp; done) | rfl))

@[simp] theorem placeCells_frame (t : Template) (l : List Nat) (s : State) :
    (State.placeCells t l s).1.pending = s.pending ∧ (State.placeCells t l s).1.straps = s.straps ∧ (State.placeCells t l s).1.ctl = s.ctl ∧ (State.placeCells t l s).1.setup = s.setup ∧ (State.placeCells t l s).1.roster = s.roster ∧ (State.placeCells t l s).1.board = s.board ∧ (State.placeCells t l s).1.claims = s.claims ∧ (State.placeCells t l s).1.pool = s.pool ∧ (State.placeCells t l s).1.launch = s.launch ∧ (State.placeCells t l s).1.lane = s.lane ∧ (State.placeCells t l s).1.port = s.port ∧ (State.placeCells t l s).1.fault = s.fault ∧ (State.placeCells t l s).1.link = s.link := by
  induction l generalizing s with
  | nil => simp [State.placeCells]
  | cons i l ih =>
    unfold State.placeCells
    (repeat' split) <;> simp [ih]

@[simp] theorem handBand_frame (s : State) (t : Template) :
    (s.handBand t).pending = s.pending ∧ (s.handBand t).straps = s.straps ∧ (s.handBand t).ctl = s.ctl ∧ (s.handBand t).setup = s.setup ∧ (s.handBand t).roster = s.roster ∧ (s.handBand t).board = s.board ∧ (s.handBand t).claims = s.claims ∧ (s.handBand t).pool = s.pool ∧ (s.handBand t).launch = s.launch ∧ (s.handBand t).tiles = s.tiles ∧ (s.handBand t).fetch = s.fetch ∧ (s.handBand t).port = s.port ∧ (s.handBand t).fault = s.fault ∧ (s.handBand t).link = s.link := by
  refine ⟨?_, ?_, ?_, ?_, ?_, ?_, ?_, ?_, ?_, ?_, ?_, ?_, ?_, ?_⟩ <;> (unfold State.handBand; (try dsimp only); (repeat' split) <;> (first | (simp; done) | rfl))

@[simp] theorem placeBand_frame (s : State)  :
    (s.placeBand).pending = s.pending ∧ (s.placeBand).straps = s.straps ∧ (s.placeBand).ctl = s.ctl ∧ (s.placeBand).setup = s.setup ∧ (s.placeBand).roster = s.roster ∧ (s.placeBand).board = s.board ∧ (s.placeBand).claims = s.claims ∧ (s.placeBand).pool = s.pool ∧ (s.placeBand).launch = s.launch ∧ (s.placeBand).port = s.port ∧ (s.placeBand).fault = s.fault ∧ (s.placeBand).link = s.link := by
  refine ⟨?_, ?_, ?_, ?_, ?_, ?_, ?_, ?_, ?_, ?_, ?_, ?_⟩ <;> (unfold State.placeBand; dsimp only; (repeat' split) <;> simp)

@[simp] theorem startBand_frame (s : State) (b : Nat) :
    (s.startBand b).pending = s.pending ∧ (s.startBand b).straps = s.straps ∧ (s.startBand b).ctl = s.ctl ∧ (s.startBand b).setup = s.setup ∧ (s.startBand b).roster = s.roster ∧ (s.startBand b).board = s.board ∧ (s.startBand b).claims = s.claims ∧ (s.startBand b).pool = s.pool ∧ (s.startBand b).launch = s.launch ∧ (s.startBand b).port = s.port ∧ (s.startBand b).fault = s.fault ∧ (s.startBand b).link = s.link := by
  refine ⟨?_, ?_, ?_, ?_, ?_, ?_, ?_, ?_, ?_, ?_, ?_, ?_⟩ <;> (unfold State.startBand; (try dsimp only); (repeat' split) <;> (first | (simp; done) | rfl))

@[simp] theorem handClose_frame (s : State) (h : Held) :
    (s.handClose h).pending = s.pending ∧ (s.handClose h).straps = s.straps ∧ (s.handClose h).ctl = s.ctl ∧ (s.handClose h).setup = s.setup ∧ (s.handClose h).roster = s.roster ∧ (s.handClose h).board = s.board ∧ (s.handClose h).claims = s.claims ∧ (s.handClose h).pool = s.pool ∧ (s.handClose h).launch = s.launch ∧ (s.handClose h).comp = s.comp ∧ (s.handClose h).tiles = s.tiles ∧ (s.handClose h).port = s.port ∧ (s.handClose h).fault = s.fault ∧ (s.handClose h).link = s.link := by
  refine ⟨?_, ?_, ?_, ?_, ?_, ?_, ?_, ?_, ?_, ?_, ?_, ?_, ?_, ?_⟩ <;> (unfold State.handClose; (try dsimp only); (repeat' split) <;> (first | (simp; done) | rfl))

@[simp] theorem handReady_frame (s : State)  :
    (s.handReady).pending = s.pending ∧ (s.handReady).straps = s.straps ∧ (s.handReady).ctl = s.ctl ∧ (s.handReady).setup = s.setup ∧ (s.handReady).roster = s.roster ∧ (s.handReady).board = s.board ∧ (s.handReady).claims = s.claims ∧ (s.handReady).pool = s.pool ∧ (s.handReady).launch = s.launch ∧ (s.handReady).port = s.port ∧ (s.handReady).fault = s.fault ∧ (s.handReady).link = s.link := by
  refine ⟨?_, ?_, ?_, ?_, ?_, ?_, ?_, ?_, ?_, ?_, ?_, ?_⟩ <;> (unfold State.handReady; (try dsimp only); (repeat' split) <;> (first | (simp; done) | rfl))

@[simp] theorem proceed_frame (s : State)  :
    (s.proceed).pending = s.pending ∧ (s.proceed).straps = s.straps ∧ (s.proceed).ctl = s.ctl ∧ (s.proceed).setup = s.setup ∧ (s.proceed).roster = s.roster ∧ (s.proceed).board = s.board ∧ (s.proceed).claims = s.claims ∧ (s.proceed).pool = s.pool ∧ (s.proceed).launch = s.launch ∧ (s.proceed).port = s.port ∧ (s.proceed).fault = s.fault ∧ (s.proceed).link = s.link := by
  refine ⟨?_, ?_, ?_, ?_, ?_, ?_, ?_, ?_, ?_, ?_, ?_, ?_⟩ <;> (unfold State.proceed; (try dsimp only); (repeat' split) <;> (first | (simp; done) | rfl))

@[simp] theorem beginBand_frame (s : State) (b : Nat)  :
    (s.beginBand b).pending = s.pending ∧ (s.beginBand b).straps = s.straps ∧ (s.beginBand b).ctl = s.ctl ∧ (s.beginBand b).setup = s.setup ∧ (s.beginBand b).roster = s.roster ∧ (s.beginBand b).board = s.board ∧ (s.beginBand b).claims = s.claims ∧ (s.beginBand b).pool = s.pool ∧ (s.beginBand b).launch = s.launch ∧ (s.beginBand b).port = s.port ∧ (s.beginBand b).fault = s.fault ∧ (s.beginBand b).link = s.link := by
  refine ⟨?_, ?_, ?_, ?_, ?_, ?_, ?_, ?_, ?_, ?_, ?_, ?_⟩ <;> (unfold State.beginBand; (try dsimp only); (repeat' split) <;> (first | (simp; done) | rfl))

@[simp] theorem afterBand_frame (s : State)  :
    (s.afterBand).pending = s.pending ∧ (s.afterBand).straps = s.straps ∧ (s.afterBand).ctl = s.ctl ∧ (s.afterBand).setup = s.setup ∧ (s.afterBand).roster = s.roster ∧ (s.afterBand).board = s.board ∧ (s.afterBand).claims = s.claims ∧ (s.afterBand).pool = s.pool ∧ (s.afterBand).launch = s.launch ∧ (s.afterBand).port = s.port ∧ (s.afterBand).fault = s.fault ∧ (s.afterBand).link = s.link := by
  refine ⟨?_, ?_, ?_, ?_, ?_, ?_, ?_, ?_, ?_, ?_, ?_, ?_⟩ <;> (unfold State.afterBand; (try dsimp only); (repeat' split) <;> (first | (simp; done) | rfl))


@[simp] theorem sentPacket_frame (s : State) (p : Packet) :
    (s.sentPacket p).pending = s.pending ∧ (s.sentPacket p).straps = s.straps ∧ (s.sentPacket p).ctl = s.ctl ∧ (s.sentPacket p).setup = s.setup ∧ (s.sentPacket p).roster = s.roster ∧ (s.sentPacket p).board = s.board ∧ (s.sentPacket p).claims = s.claims ∧ (s.sentPacket p).pool = s.pool ∧ (s.sentPacket p).launch = s.launch ∧ (s.sentPacket p).comp = s.comp ∧ (s.sentPacket p).tiles = s.tiles ∧ (s.sentPacket p).fetch = s.fetch ∧ (s.sentPacket p).port = s.port ∧ (s.sentPacket p).fault = s.fault ∧ (s.sentPacket p).link = s.link := by
  refine ⟨?_, ?_, ?_, ?_, ?_, ?_, ?_, ?_, ?_, ?_, ?_, ?_, ?_, ?_, ?_⟩ <;> (unfold State.sentPacket; (try dsimp only); (repeat' split) <;> (first | (simp; done) | rfl))

@[simp] theorem handOpen_frame (s : State)  :
    (s.handOpen).pending = s.pending ∧ (s.handOpen).straps = s.straps ∧ (s.handOpen).ctl = s.ctl ∧ (s.handOpen).setup = s.setup ∧ (s.handOpen).roster = s.roster ∧ (s.handOpen).board = s.board ∧ (s.handOpen).claims = s.claims ∧ (s.handOpen).pool = s.pool ∧ (s.handOpen).launch = s.launch ∧ (s.handOpen).tiles = s.tiles ∧ (s.handOpen).fetch = s.fetch ∧ (s.handOpen).port = s.port ∧ (s.handOpen).fault = s.fault ∧ (s.handOpen).link = s.link := by
  refine ⟨?_, ?_, ?_, ?_, ?_, ?_, ?_, ?_, ?_, ?_, ?_, ?_, ?_, ?_⟩ <;> (unfold State.handOpen; (try dsimp only); (repeat' split) <;> (first | (simp; done) | rfl))

@[simp] theorem modifyWork_frame (s : State) (page : Nat) (f : WorkEntry → WorkEntry) :
    (s.modifyWork page f).pending = s.pending ∧ (s.modifyWork page f).straps = s.straps ∧ (s.modifyWork page f).ctl = s.ctl ∧ (s.modifyWork page f).setup = s.setup ∧ (s.modifyWork page f).roster = s.roster ∧ (s.modifyWork page f).board = s.board ∧ (s.modifyWork page f).pool = s.pool ∧ (s.modifyWork page f).launch = s.launch ∧ (s.modifyWork page f).comp = s.comp ∧ (s.modifyWork page f).tiles = s.tiles ∧ (s.modifyWork page f).fetch = s.fetch ∧ (s.modifyWork page f).lane = s.lane ∧ (s.modifyWork page f).port = s.port ∧ (s.modifyWork page f).fault = s.fault ∧ (s.modifyWork page f).link = s.link := by
  refine ⟨?_, ?_, ?_, ?_, ?_, ?_, ?_, ?_, ?_, ?_, ?_, ?_, ?_, ?_, ?_⟩ <;> (unfold State.modifyWork; (try dsimp only); (repeat' split) <;> (first | (simp; done) | rfl))

@[simp] theorem trainOrOpen_frame (s : State) (ix : Nat) (t : Template) :
    (s.trainOrOpen ix t).pending = s.pending ∧ (s.trainOrOpen ix t).straps = s.straps ∧ (s.trainOrOpen ix t).ctl = s.ctl ∧ (s.trainOrOpen ix t).setup = s.setup ∧ (s.trainOrOpen ix t).roster = s.roster ∧ (s.trainOrOpen ix t).board = s.board ∧ (s.trainOrOpen ix t).claims = s.claims ∧ (s.trainOrOpen ix t).pool = s.pool ∧ (s.trainOrOpen ix t).launch = s.launch ∧ (s.trainOrOpen ix t).tiles = s.tiles ∧ (s.trainOrOpen ix t).fetch = s.fetch ∧ (s.trainOrOpen ix t).port = s.port ∧ (s.trainOrOpen ix t).fault = s.fault ∧ (s.trainOrOpen ix t).link = s.link := by
  refine ⟨?_, ?_, ?_, ?_, ?_, ?_, ?_, ?_, ?_, ?_, ?_, ?_, ?_, ?_⟩ <;> (unfold State.trainOrOpen; (try dsimp only); (repeat' split) <;> (first | (simp; done) | rfl))

@[simp] theorem enterPage_frame (s : State) (p : PageRec) (t : Template) :
    (s.enterPage p t).pending = s.pending ∧ (s.enterPage p t).straps = s.straps ∧ (s.enterPage p t).ctl = s.ctl ∧ (s.enterPage p t).setup = s.setup ∧ (s.enterPage p t).roster = s.roster ∧ (s.enterPage p t).board = s.board ∧ (s.enterPage p t).pool = s.pool ∧ (s.enterPage p t).launch = s.launch ∧ (s.enterPage p t).port = s.port ∧ (s.enterPage p t).fault = s.fault ∧ (s.enterPage p t).link = s.link := by
  refine ⟨?_, ?_, ?_, ?_, ?_, ?_, ?_, ?_, ?_, ?_, ?_⟩ <;> (unfold State.enterPage; (try dsimp only); (repeat' split) <;> (first | (simp; done) | rfl))

@[simp] theorem boundaryStep_frame (s : State)  :
    (s.boundaryStep).pending = s.pending ∧ (s.boundaryStep).straps = s.straps ∧ (s.boundaryStep).ctl = s.ctl ∧ (s.boundaryStep).setup = s.setup ∧ (s.boundaryStep).board = s.board ∧ (s.boundaryStep).pool = s.pool ∧ (s.boundaryStep).port = s.port ∧ (s.boundaryStep).fault = s.fault ∧ (s.boundaryStep).link = s.link := by
  refine ⟨?_, ?_, ?_, ?_, ?_, ?_, ?_, ?_, ?_⟩ <;> (unfold State.boundaryStep; (try dsimp only); (repeat' split) <;> (first | (simp; done) | rfl))

@[simp] theorem releaseRefs_frame (s : State) (past : Nat) :
    (s.releaseRefs past).pending = s.pending ∧ (s.releaseRefs past).straps = s.straps ∧ (s.releaseRefs past).ctl = s.ctl ∧ (s.releaseRefs past).setup = s.setup ∧ (s.releaseRefs past).roster = s.roster ∧ (s.releaseRefs past).board = s.board ∧ (s.releaseRefs past).claims = s.claims ∧ (s.releaseRefs past).pool = s.pool ∧ (s.releaseRefs past).launch = s.launch ∧ (s.releaseRefs past).lane = s.lane ∧ (s.releaseRefs past).port = s.port ∧ (s.releaseRefs past).fault = s.fault ∧ (s.releaseRefs past).link = s.link := by
  refine ⟨?_, ?_, ?_, ?_, ?_, ?_, ?_, ?_, ?_, ?_, ?_, ?_, ?_⟩ <;> (unfold State.releaseRefs; (try dsimp only); (repeat' split) <;> (first | (simp; done) | rfl))

@[simp] theorem trainSent_frame (s : State) (ix n : Nat) (p : Packet) :
    (s.trainSent ix n p).pending = s.pending ∧ (s.trainSent ix n p).straps = s.straps ∧ (s.trainSent ix n p).ctl = s.ctl ∧ (s.trainSent ix n p).setup = s.setup ∧ (s.trainSent ix n p).roster = s.roster ∧ (s.trainSent ix n p).board = s.board ∧ (s.trainSent ix n p).claims = s.claims ∧ (s.trainSent ix n p).pool = s.pool ∧ (s.trainSent ix n p).launch = s.launch ∧ (s.trainSent ix n p).tiles = s.tiles ∧ (s.trainSent ix n p).fetch = s.fetch ∧ (s.trainSent ix n p).port = s.port ∧ (s.trainSent ix n p).fault = s.fault ∧ (s.trainSent ix n p).link = s.link := by
  refine ⟨?_, ?_, ?_, ?_, ?_, ?_, ?_, ?_, ?_, ?_, ?_, ?_, ?_, ?_⟩ <;> (unfold State.trainSent State.unlessCut; (try dsimp only); (repeat' split) <;> (first | (simp; done) | rfl))

@[simp] theorem openSent_frame (s : State) (p : Packet) :
    (s.openSent p).pending = s.pending ∧ (s.openSent p).straps = s.straps ∧ (s.openSent p).ctl = s.ctl ∧ (s.openSent p).setup = s.setup ∧ (s.openSent p).roster = s.roster ∧ (s.openSent p).board = s.board ∧ (s.openSent p).claims = s.claims ∧ (s.openSent p).pool = s.pool ∧ (s.openSent p).launch = s.launch ∧ (s.openSent p).tiles = s.tiles ∧ (s.openSent p).fetch = s.fetch ∧ (s.openSent p).port = s.port ∧ (s.openSent p).fault = s.fault ∧ (s.openSent p).link = s.link := by
  refine ⟨?_, ?_, ?_, ?_, ?_, ?_, ?_, ?_, ?_, ?_, ?_, ?_, ?_, ?_⟩ <;> (unfold State.openSent State.unlessCut; (try dsimp only); (repeat' split) <;> (first | (simp; done) | rfl))

@[simp] theorem metaSent_frame (s : State) (p : Packet) :
    (s.metaSent p).pending = s.pending ∧ (s.metaSent p).straps = s.straps ∧ (s.metaSent p).ctl = s.ctl ∧ (s.metaSent p).setup = s.setup ∧ (s.metaSent p).roster = s.roster ∧ (s.metaSent p).board = s.board ∧ (s.metaSent p).claims = s.claims ∧ (s.metaSent p).pool = s.pool ∧ (s.metaSent p).launch = s.launch ∧ (s.metaSent p).port = s.port ∧ (s.metaSent p).fault = s.fault ∧ (s.metaSent p).link = s.link := by
  refine ⟨?_, ?_, ?_, ?_, ?_, ?_, ?_, ?_, ?_, ?_, ?_, ?_⟩ <;> (unfold State.metaSent State.unlessCut; (try dsimp only); (repeat' split) <;> (first | (simp; done) | rfl))

@[simp] theorem titleSent_frame (s : State) (p : Packet) :
    (s.titleSent p).pending = s.pending ∧ (s.titleSent p).straps = s.straps ∧ (s.titleSent p).ctl = s.ctl ∧ (s.titleSent p).setup = s.setup ∧ (s.titleSent p).roster = s.roster ∧ (s.titleSent p).board = s.board ∧ (s.titleSent p).claims = s.claims ∧ (s.titleSent p).pool = s.pool ∧ (s.titleSent p).launch = s.launch ∧ (s.titleSent p).port = s.port ∧ (s.titleSent p).fault = s.fault ∧ (s.titleSent p).link = s.link := by
  refine ⟨?_, ?_, ?_, ?_, ?_, ?_, ?_, ?_, ?_, ?_, ?_, ?_⟩ <;> (unfold State.titleSent State.unlessCut; (try dsimp only); (repeat' split) <;> (first | (simp; done) | rfl))

@[simp] theorem countBand_frame (s : State) (h : Held) (due : List CaptionDue) :
    (s.countBand h due).pending = s.pending ∧ (s.countBand h due).straps = s.straps ∧ (s.countBand h due).ctl = s.ctl ∧ (s.countBand h due).setup = s.setup ∧ (s.countBand h due).roster = s.roster ∧ (s.countBand h due).board = s.board ∧ (s.countBand h due).claims = s.claims ∧ (s.countBand h due).pool = s.pool ∧ (s.countBand h due).launch = s.launch ∧ (s.countBand h due).tiles = s.tiles ∧ (s.countBand h due).fetch = s.fetch ∧ (s.countBand h due).lane = s.lane ∧ (s.countBand h due).port = s.port ∧ (s.countBand h due).fault = s.fault ∧ (s.countBand h due).link = s.link :=
  ⟨rfl, rfl, rfl, rfl, rfl, rfl, rfl, rfl, rfl, rfl, rfl, rfl, rfl, rfl, rfl⟩

@[simp] theorem bandSent_frame (s : State) (p : Packet) (b past : Nat) :
    (s.bandSent p b past).pending = s.pending ∧ (s.bandSent p b past).straps = s.straps ∧ (s.bandSent p b past).ctl = s.ctl ∧ (s.bandSent p b past).setup = s.setup ∧ (s.bandSent p b past).roster = s.roster ∧ (s.bandSent p b past).board = s.board ∧ (s.bandSent p b past).claims = s.claims ∧ (s.bandSent p b past).pool = s.pool ∧ (s.bandSent p b past).launch = s.launch ∧ (s.bandSent p b past).port = s.port ∧ (s.bandSent p b past).fault = s.fault ∧ (s.bandSent p b past).link = s.link := by
  refine ⟨?_, ?_, ?_, ?_, ?_, ?_, ?_, ?_, ?_, ?_, ?_, ?_⟩ <;> (unfold State.bandSent State.unlessCut; (try dsimp only); (repeat' split) <;> (first | (simp; done) | rfl))

@[simp] theorem captionSent_frame (s : State) (p : Packet) :
    (s.captionSent p).pending = s.pending ∧ (s.captionSent p).straps = s.straps ∧ (s.captionSent p).ctl = s.ctl ∧ (s.captionSent p).setup = s.setup ∧ (s.captionSent p).roster = s.roster ∧ (s.captionSent p).board = s.board ∧ (s.captionSent p).claims = s.claims ∧ (s.captionSent p).pool = s.pool ∧ (s.captionSent p).launch = s.launch ∧ (s.captionSent p).port = s.port ∧ (s.captionSent p).fault = s.fault ∧ (s.captionSent p).link = s.link := by
  refine ⟨?_, ?_, ?_, ?_, ?_, ?_, ?_, ?_, ?_, ?_, ?_, ?_⟩ <;> (unfold State.captionSent State.unlessCut; (try dsimp only); (repeat' split) <;> (first | (simp; done) | rfl))

@[simp] theorem closeSent_frame (s : State) (p : Packet) (h : Held) :
    (s.closeSent p h).pending = s.pending ∧ (s.closeSent p h).straps = s.straps ∧ (s.closeSent p h).ctl = s.ctl ∧ (s.closeSent p h).setup = s.setup ∧ (s.closeSent p h).board = s.board ∧ (s.closeSent p h).pool = s.pool ∧ (s.closeSent p h).port = s.port ∧ (s.closeSent p h).fault = s.fault ∧ (s.closeSent p h).link = s.link := by
  refine ⟨?_, ?_, ?_, ?_, ?_, ?_, ?_, ?_, ?_⟩ <;> (unfold State.closeSent; (try dsimp only); (repeat' split) <;> (first | (simp; done) | rfl))

@[simp] theorem cutSettled_frame (s : State)  :
    (s.cutSettled).pending = s.pending ∧ (s.cutSettled).straps = s.straps ∧ (s.cutSettled).ctl = s.ctl ∧ (s.cutSettled).setup = s.setup ∧ (s.cutSettled).roster = s.roster ∧ (s.cutSettled).board = s.board ∧ (s.cutSettled).pool = s.pool ∧ (s.cutSettled).launch = s.launch ∧ (s.cutSettled).comp = s.comp ∧ (s.cutSettled).tiles = s.tiles := by
  refine ⟨?_, ?_, ?_, ?_, ?_, ?_, ?_, ?_, ?_, ?_⟩ <;> (unfold State.cutSettled; (try dsimp only); (repeat' split) <;> (first | (simp; done) | rfl))

@[simp] theorem carryOutCut_frame (s : State) (h : Held) :
    (s.carryOutCut h).pending = s.pending ∧ (s.carryOutCut h).straps = s.straps ∧ (s.carryOutCut h).ctl = s.ctl ∧ (s.carryOutCut h).setup = s.setup ∧ (s.carryOutCut h).board = s.board ∧ (s.carryOutCut h).pool = s.pool := by
  refine ⟨?_, ?_, ?_, ?_, ?_, ?_⟩ <;> (unfold State.carryOutCut; (try dsimp only); (repeat' split) <;> (first | (simp; done) | rfl))

@[simp] theorem dropWant_frame (s : State)  :
    (s.dropWant).pending = s.pending ∧ (s.dropWant).straps = s.straps ∧ (s.dropWant).ctl = s.ctl ∧ (s.dropWant).setup = s.setup ∧ (s.dropWant).roster = s.roster ∧ (s.dropWant).board = s.board ∧ (s.dropWant).claims = s.claims ∧ (s.dropWant).pool = s.pool ∧ (s.dropWant).launch = s.launch ∧ (s.dropWant).comp = s.comp ∧ (s.dropWant).tiles = s.tiles ∧ (s.dropWant).lane = s.lane ∧ (s.dropWant).port = s.port ∧ (s.dropWant).fault = s.fault ∧ (s.dropWant).link = s.link := by
  refine ⟨?_, ?_, ?_, ?_, ?_, ?_, ?_, ?_, ?_, ?_, ?_, ?_, ?_, ?_, ?_⟩ <;> (unfold State.dropWant; (try dsimp only); (repeat' split) <;> (first | (simp; done) | rfl))

@[simp] theorem placeWant_frame (s : State) (w : Want) :
    (s.placeWant w).pending = s.pending ∧ (s.placeWant w).straps = s.straps ∧ (s.placeWant w).ctl = s.ctl ∧ (s.placeWant w).setup = s.setup ∧ (s.placeWant w).roster = s.roster ∧ (s.placeWant w).board = s.board ∧ (s.placeWant w).claims = s.claims ∧ (s.placeWant w).pool = s.pool ∧ (s.placeWant w).launch = s.launch ∧ (s.placeWant w).comp = s.comp ∧ (s.placeWant w).lane = s.lane ∧ (s.placeWant w).port = s.port ∧ (s.placeWant w).fault = s.fault := by
  refine ⟨?_, ?_, ?_, ?_, ?_, ?_, ?_, ?_, ?_, ?_, ?_, ?_, ?_⟩ <;> (unfold State.placeWant; (try dsimp only); (repeat' split) <;> (first | (simp; done) | rfl))

@[simp] theorem wantStep_frame (s : State)  :
    (s.wantStep).pending = s.pending ∧ (s.wantStep).straps = s.straps ∧ (s.wantStep).ctl = s.ctl ∧ (s.wantStep).setup = s.setup ∧ (s.wantStep).roster = s.roster ∧ (s.wantStep).board = s.board ∧ (s.wantStep).claims = s.claims ∧ (s.wantStep).pool = s.pool ∧ (s.wantStep).launch = s.launch ∧ (s.wantStep).comp = s.comp ∧ (s.wantStep).lane = s.lane ∧ (s.wantStep).port = s.port ∧ (s.wantStep).fault = s.fault := by
  refine ⟨?_, ?_, ?_, ?_, ?_, ?_, ?_, ?_, ?_, ?_, ?_, ?_, ?_⟩ <;> (unfold State.wantStep; (try dsimp only); (repeat' split) <;> (first | (simp; done) | rfl))

@[simp] theorem walk_frame (l : List (Nat × Nat)) (s : State) :
    (State.walk l s).pending = s.pending ∧ (State.walk l s).straps = s.straps ∧ (State.walk l s).ctl = s.ctl ∧ (State.walk l s).setup = s.setup ∧ (State.walk l s).roster = s.roster ∧ (State.walk l s).board = s.board ∧ (State.walk l s).claims = s.claims ∧ (State.walk l s).pool = s.pool ∧ (State.walk l s).launch = s.launch ∧ (State.walk l s).comp = s.comp ∧ (State.walk l s).lane = s.lane ∧ (State.walk l s).port = s.port ∧ (State.walk l s).fault = s.fault := by
  induction l generalizing s with
  | nil => simp [State.walk]
  | cons i l ih =>
    unfold State.walk
    (repeat' split) <;> simp [ih]

@[simp] theorem walkStep_frame (s : State)  :
    (s.walkStep).pending = s.pending ∧ (s.walkStep).straps = s.straps ∧ (s.walkStep).ctl = s.ctl ∧ (s.walkStep).setup = s.setup ∧ (s.walkStep).roster = s.roster ∧ (s.walkStep).board = s.board ∧ (s.walkStep).claims = s.claims ∧ (s.walkStep).pool = s.pool ∧ (s.walkStep).launch = s.launch ∧ (s.walkStep).comp = s.comp ∧ (s.walkStep).lane = s.lane ∧ (s.walkStep).port = s.port ∧ (s.walkStep).fault = s.fault := by
  refine ⟨?_, ?_, ?_, ?_, ?_, ?_, ?_, ?_, ?_, ?_, ?_, ?_, ?_⟩ <;> (unfold State.walkStep; (try dsimp only); (repeat' split) <;> (first | (simp; done) | rfl))

@[simp] theorem popHead_frame (s : State)  :
    (s.popHead).pending = s.pending ∧ (s.popHead).straps = s.straps ∧ (s.popHead).ctl = s.ctl ∧ (s.popHead).setup = s.setup ∧ (s.popHead).roster = s.roster ∧ (s.popHead).board = s.board ∧ (s.popHead).claims = s.claims ∧ (s.popHead).pool = s.pool ∧ (s.popHead).launch = s.launch ∧ (s.popHead).comp = s.comp ∧ (s.popHead).tiles = s.tiles ∧ (s.popHead).lane = s.lane ∧ (s.popHead).port = s.port ∧ (s.popHead).fault = s.fault ∧ (s.popHead).link = s.link := by
  refine ⟨?_, ?_, ?_, ?_, ?_, ?_, ?_, ?_, ?_, ?_, ?_, ?_, ?_, ?_, ?_⟩ <;> (unfold State.popHead; (try dsimp only); (repeat' split) <;> (first | (simp; done) | rfl))

@[simp] theorem protocolLoss_frame (s : State) (tag : Nat) :
    (s.protocolLoss tag).pending = s.pending ∧ (s.protocolLoss tag).straps = s.straps ∧ (s.protocolLoss tag).setup = s.setup ∧ (s.protocolLoss tag).roster = s.roster ∧ (s.protocolLoss tag).board = s.board ∧ (s.protocolLoss tag).pool = s.pool ∧ (s.protocolLoss tag).launch = s.launch := by
  refine ⟨?_, ?_, ?_, ?_, ?_, ?_, ?_⟩ <;> (unfold State.protocolLoss; (try dsimp only); (repeat' split) <;> (first | (simp; done) | rfl))

@[simp] theorem resume_frame (s : State)  :
    (s.resume).pending = s.pending ∧ (s.resume).straps = s.straps ∧ (s.resume).ctl = s.ctl ∧ (s.resume).setup = s.setup ∧ (s.resume).roster = s.roster ∧ (s.resume).board = s.board ∧ (s.resume).claims = s.claims ∧ (s.resume).pool = s.pool ∧ (s.resume).launch = s.launch ∧ (s.resume).port = s.port ∧ (s.resume).fault = s.fault ∧ (s.resume).link = s.link := by
  refine ⟨?_, ?_, ?_, ?_, ?_, ?_, ?_, ?_, ?_, ?_, ?_, ?_⟩ <;> (unfold State.resume; (try dsimp only); (repeat' split) <;> (first | (simp; done) | rfl))

@[simp] theorem tell_frame (s : State) (a : FetchAnswer) (r : Ref) :
    (s.tell a r).pending = s.pending ∧ (s.tell a r).straps = s.straps ∧ (s.tell a r).ctl = s.ctl ∧ (s.tell a r).setup = s.setup ∧ (s.tell a r).roster = s.roster ∧ (s.tell a r).board = s.board ∧ (s.tell a r).claims = s.claims ∧ (s.tell a r).pool = s.pool ∧ (s.tell a r).launch = s.launch ∧ (s.tell a r).tiles = s.tiles ∧ (s.tell a r).fetch = s.fetch ∧ (s.tell a r).lane = s.lane ∧ (s.tell a r).port = s.port ∧ (s.tell a r).fault = s.fault ∧ (s.tell a r).link = s.link := by
  refine ⟨?_, ?_, ?_, ?_, ?_, ?_, ?_, ?_, ?_, ?_, ?_, ?_, ?_, ?_, ?_⟩ <;> (unfold State.tell; (try dsimp only); (repeat' split) <;> (first | (simp; done) | rfl))

@[simp] theorem refusePortrait_frame (s : State) (slot : Nat) (a : FetchAnswer) :
    (s.refusePortrait slot a).pending = s.pending ∧ (s.refusePortrait slot a).straps = s.straps ∧ (s.refusePortrait slot a).ctl = s.ctl ∧ (s.refusePortrait slot a).setup = s.setup ∧ (s.refusePortrait slot a).roster = s.roster ∧ (s.refusePortrait slot a).board = s.board ∧ (s.refusePortrait slot a).claims = s.claims ∧ (s.refusePortrait slot a).pool = s.pool ∧ (s.refusePortrait slot a).launch = s.launch ∧ (s.refusePortrait slot a).port = s.port ∧ (s.refusePortrait slot a).fault = s.fault ∧ (s.refusePortrait slot a).link = s.link :=
  ⟨by unfold State.refusePortrait; dsimp only; simp only [resume_frame]; rw [foldl_keeps (fun t : State => t.pending) _ (by intros; simp)]; simp, by unfold State.refusePortrait; dsimp only; simp only [resume_frame]; rw [foldl_keeps (fun t : State => t.straps) _ (by intros; simp)]; simp, by unfold State.refusePortrait; dsimp only; simp only [resume_frame]; rw [foldl_keeps (fun t : State => t.ctl) _ (by intros; simp)]; simp, by unfold State.refusePortrait; dsimp only; simp only [resume_frame]; rw [foldl_keeps (fun t : State => t.setup) _ (by intros; simp)]; simp, by unfold State.refusePortrait; dsimp only; simp only [resume_frame]; rw [foldl_keeps (fun t : State => t.roster) _ (by intros; simp)]; simp, by unfold State.refusePortrait; dsimp only; simp only [resume_frame]; rw [foldl_keeps (fun t : State => t.board) _ (by intros; simp)]; simp, by unfold State.refusePortrait; dsimp only; simp only [resume_frame]; rw [foldl_keeps (fun t : State => t.claims) _ (by intros; simp)]; simp, by unfold State.refusePortrait; dsimp only; simp only [resume_frame]; rw [foldl_keeps (fun t : State => t.pool) _ (by intros; simp)]; simp, by unfold State.refusePortrait; dsimp only; simp only [resume_frame]; rw [foldl_keeps (fun t : State => t.launch) _ (by intros; simp)]; simp, by unfold State.refusePortrait; dsimp only; simp only [resume_frame]; rw [foldl_keeps (fun t : State => t.port) _ (by intros; simp)]; simp, by unfold State.refusePortrait; dsimp only; simp only [resume_frame]; rw [foldl_keeps (fun t : State => t.fault) _ (by intros; simp)]; simp, by unfold State.refusePortrait; dsimp only; simp only [resume_frame]; rw [foldl_keeps (fun t : State => t.link) _ (by intros; simp)]; simp⟩

@[simp] theorem acceptPortrait_frame (s : State) (e : FetchEntry) (a : Answer) :
    (s.acceptPortrait e a).pending = s.pending ∧ (s.acceptPortrait e a).straps = s.straps ∧ (s.acceptPortrait e a).ctl = s.ctl ∧ (s.acceptPortrait e a).setup = s.setup ∧ (s.acceptPortrait e a).roster = s.roster ∧ (s.acceptPortrait e a).board = s.board ∧ (s.acceptPortrait e a).claims = s.claims ∧ (s.acceptPortrait e a).pool = s.pool ∧ (s.acceptPortrait e a).launch = s.launch ∧ (s.acceptPortrait e a).port = s.port ∧ (s.acceptPortrait e a).fault = s.fault ∧ (s.acceptPortrait e a).link = s.link := by
  refine ⟨?_, ?_, ?_, ?_, ?_, ?_, ?_, ?_, ?_, ?_, ?_, ?_⟩ <;> (unfold State.acceptPortrait; (try dsimp only); (repeat' split) <;> (first | (simp; done) | rfl))

@[simp] theorem corrupt_frame (s : State) (e : FetchEntry) :
    (s.corrupt e).pending = s.pending ∧ (s.corrupt e).straps = s.straps ∧ (s.corrupt e).setup = s.setup ∧ (s.corrupt e).roster = s.roster ∧ (s.corrupt e).board = s.board ∧ (s.corrupt e).pool = s.pool ∧ (s.corrupt e).launch = s.launch := by
  refine ⟨?_, ?_, ?_, ?_, ?_, ?_, ?_⟩ <;> (unfold State.corrupt; (try dsimp only); (repeat' split) <;> (first | (simp; done) | rfl))

@[simp] theorem badAnswer_frame (s : State) (e : FetchEntry) :
    (s.badAnswer e).pending = s.pending ∧ (s.badAnswer e).straps = s.straps ∧ (s.badAnswer e).setup = s.setup ∧ (s.badAnswer e).roster = s.roster ∧ (s.badAnswer e).board = s.board ∧ (s.badAnswer e).pool = s.pool ∧ (s.badAnswer e).launch = s.launch := by
  refine ⟨?_, ?_, ?_, ?_, ?_, ?_, ?_⟩ <;> (unfold State.badAnswer; (try dsimp only); (repeat' split) <;> (first | (simp; done) | rfl))

@[simp] theorem endAnswer_frame (s : State) (e : FetchEntry) (a : Answer) (crc : BitVec 32) :
    (s.endAnswer e a crc).pending = s.pending ∧ (s.endAnswer e a crc).straps = s.straps ∧ (s.endAnswer e a crc).setup = s.setup ∧ (s.endAnswer e a crc).roster = s.roster ∧ (s.endAnswer e a crc).board = s.board ∧ (s.endAnswer e a crc).pool = s.pool ∧ (s.endAnswer e a crc).launch = s.launch := by
  refine ⟨?_, ?_, ?_, ?_, ?_, ?_, ?_⟩ <;> (unfold State.endAnswer; (try dsimp only); (repeat' split) <;> (first | (simp; done) | rfl))

@[simp] theorem endAbsent_frame (s : State) (e : FetchEntry) :
    (s.endAbsent e).pending = s.pending ∧ (s.endAbsent e).straps = s.straps ∧ (s.endAbsent e).ctl = s.ctl ∧ (s.endAbsent e).setup = s.setup ∧ (s.endAbsent e).roster = s.roster ∧ (s.endAbsent e).board = s.board ∧ (s.endAbsent e).claims = s.claims ∧ (s.endAbsent e).pool = s.pool ∧ (s.endAbsent e).launch = s.launch ∧ (s.endAbsent e).port = s.port ∧ (s.endAbsent e).fault = s.fault ∧ (s.endAbsent e).link = s.link := by
  refine ⟨?_, ?_, ?_, ?_, ?_, ?_, ?_, ?_, ?_, ?_, ?_, ?_⟩ <;> (unfold State.endAbsent; (try dsimp only); (repeat' split) <;> (first | (simp; done) | rfl))

@[simp] theorem setAnswer_frame (s : State) (a : Answer) :
    (s.setAnswer a).pending = s.pending ∧ (s.setAnswer a).straps = s.straps ∧ (s.setAnswer a).ctl = s.ctl ∧ (s.setAnswer a).setup = s.setup ∧ (s.setAnswer a).roster = s.roster ∧ (s.setAnswer a).board = s.board ∧ (s.setAnswer a).claims = s.claims ∧ (s.setAnswer a).pool = s.pool ∧ (s.setAnswer a).launch = s.launch ∧ (s.setAnswer a).comp = s.comp ∧ (s.setAnswer a).tiles = s.tiles ∧ (s.setAnswer a).lane = s.lane ∧ (s.setAnswer a).port = s.port ∧ (s.setAnswer a).fault = s.fault ∧ (s.setAnswer a).link = s.link := by
  refine ⟨?_, ?_, ?_, ?_, ?_, ?_, ?_, ?_, ?_, ?_, ?_, ?_, ?_, ?_, ?_⟩ <;> (unfold State.setAnswer; (try dsimp only); (repeat' split) <;> (first | (simp; done) | rfl))

@[simp] theorem takeData_frame (s : State) (e : FetchEntry) (a : Answer) (bs : List Byte) :
    (s.takeData e a bs).pending = s.pending ∧ (s.takeData e a bs).straps = s.straps ∧ (s.takeData e a bs).ctl = s.ctl ∧ (s.takeData e a bs).setup = s.setup ∧ (s.takeData e a bs).roster = s.roster ∧ (s.takeData e a bs).board = s.board ∧ (s.takeData e a bs).claims = s.claims ∧ (s.takeData e a bs).pool = s.pool ∧ (s.takeData e a bs).launch = s.launch ∧ (s.takeData e a bs).comp = s.comp ∧ (s.takeData e a bs).lane = s.lane ∧ (s.takeData e a bs).port = s.port ∧ (s.takeData e a bs).fault = s.fault ∧ (s.takeData e a bs).link = s.link := by
  refine ⟨?_, ?_, ?_, ?_, ?_, ?_, ?_, ?_, ?_, ?_, ?_, ?_, ?_, ?_⟩ <;> (unfold State.takeData; (try dsimp only); (repeat' split) <;> (first | (simp; done) | rfl))

@[simp] theorem portraitHeadRecord_frame (s : State) (tag : Nat) (pid : Id32) (width height : Nat) :
    (s.portraitHeadRecord tag pid width height).pending = s.pending ∧ (s.portraitHeadRecord tag pid width height).straps = s.straps ∧ (s.portraitHeadRecord tag pid width height).setup = s.setup ∧ (s.portraitHeadRecord tag pid width height).roster = s.roster ∧ (s.portraitHeadRecord tag pid width height).board = s.board ∧ (s.portraitHeadRecord tag pid width height).pool = s.pool ∧ (s.portraitHeadRecord tag pid width height).launch = s.launch := by
  refine ⟨?_, ?_, ?_, ?_, ?_, ?_, ?_⟩ <;> (unfold State.portraitHeadRecord; (try dsimp only); (repeat' split) <;> (first | (simp; done) | rfl))

@[simp] theorem portraitDataRecord_frame (s : State) (tag : Nat) (bs : List Byte) :
    (s.portraitDataRecord tag bs).pending = s.pending ∧ (s.portraitDataRecord tag bs).straps = s.straps ∧ (s.portraitDataRecord tag bs).setup = s.setup ∧ (s.portraitDataRecord tag bs).roster = s.roster ∧ (s.portraitDataRecord tag bs).board = s.board ∧ (s.portraitDataRecord tag bs).pool = s.pool ∧ (s.portraitDataRecord tag bs).launch = s.launch := by
  refine ⟨?_, ?_, ?_, ?_, ?_, ?_, ?_⟩ <;> (unfold State.portraitDataRecord; (try dsimp only); (repeat' split) <;> (first | (simp; done) | rfl))

@[simp] theorem portraitEndRecord_frame (s : State) (tag : Nat) (crc : BitVec 32) :
    (s.portraitEndRecord tag crc).pending = s.pending ∧ (s.portraitEndRecord tag crc).straps = s.straps ∧ (s.portraitEndRecord tag crc).setup = s.setup ∧ (s.portraitEndRecord tag crc).roster = s.roster ∧ (s.portraitEndRecord tag crc).board = s.board ∧ (s.portraitEndRecord tag crc).pool = s.pool ∧ (s.portraitEndRecord tag crc).launch = s.launch := by
  refine ⟨?_, ?_, ?_, ?_, ?_, ?_, ?_⟩ <;> (unfold State.portraitEndRecord; (try dsimp only); (repeat' split) <;> (first | (simp; done) | rfl))

@[simp] theorem portraitAbsentRecord_frame (s : State) (tag : Nat) (pid : Id32) :
    (s.portraitAbsentRecord tag pid).pending = s.pending ∧ (s.portraitAbsentRecord tag pid).straps = s.straps ∧ (s.portraitAbsentRecord tag pid).setup = s.setup ∧ (s.portraitAbsentRecord tag pid).roster = s.roster ∧ (s.portraitAbsentRecord tag pid).board = s.board ∧ (s.portraitAbsentRecord tag pid).pool = s.pool ∧ (s.portraitAbsentRecord tag pid).launch = s.launch := by
  refine ⟨?_, ?_, ?_, ?_, ?_, ?_, ?_⟩ <;> (unfold State.portraitAbsentRecord; (try dsimp only); (repeat' split) <;> (first | (simp; done) | rfl))


@[simp] theorem fetchTimeout_frame (s : State)  :
    (s.fetchTimeout).pending = s.pending ∧ (s.fetchTimeout).straps = s.straps ∧ (s.fetchTimeout).setup = s.setup ∧ (s.fetchTimeout).roster = s.roster ∧ (s.fetchTimeout).board = s.board ∧ (s.fetchTimeout).pool = s.pool ∧ (s.fetchTimeout).launch = s.launch := by
  refine ⟨?_, ?_, ?_, ?_, ?_, ?_, ?_⟩ <;> (unfold State.fetchTimeout; (try dsimp only); (repeat' split) <;> (first | (simp; done) | rfl))

@[simp] theorem handOutcome_frame (s : State) (sh : Sheet) (o : EngineOutcome) :
    (s.handOutcome sh o).pending = s.pending ∧ (s.handOutcome sh o).straps = s.straps ∧ (s.handOutcome sh o).ctl = s.ctl ∧ (s.handOutcome sh o).setup = s.setup ∧ (s.handOutcome sh o).roster = s.roster ∧ (s.handOutcome sh o).board = s.board ∧ (s.handOutcome sh o).pool = s.pool ∧ (s.handOutcome sh o).launch = s.launch ∧ (s.handOutcome sh o).comp = s.comp ∧ (s.handOutcome sh o).tiles = s.tiles ∧ (s.handOutcome sh o).lane = s.lane := by
  refine ⟨?_, ?_, ?_, ?_, ?_, ?_, ?_, ?_, ?_, ?_, ?_⟩ <;> (unfold State.handOutcome; (try dsimp only); (repeat' split) <;> (first | (simp; done) | rfl))

@[simp] theorem goodOutcome_frame (s : State) (page : Nat) (o : EngineOutcome) :
    (s.goodOutcome page o).pending = s.pending ∧ (s.goodOutcome page o).straps = s.straps ∧ (s.goodOutcome page o).setup = s.setup ∧ (s.goodOutcome page o).roster = s.roster ∧ (s.goodOutcome page o).board = s.board ∧ (s.goodOutcome page o).pool = s.pool ∧ (s.goodOutcome page o).launch = s.launch := by
  refine ⟨?_, ?_, ?_, ?_, ?_, ?_, ?_⟩ <;> (unfold State.goodOutcome; (try dsimp only); (repeat' split) <;> (first | (simp; done) | rfl))

@[simp] theorem badOutcome_frame (s : State)  :
    (s.badOutcome).pending = s.pending ∧ (s.badOutcome).straps = s.straps ∧ (s.badOutcome).setup = s.setup ∧ (s.badOutcome).roster = s.roster ∧ (s.badOutcome).board = s.board ∧ (s.badOutcome).pool = s.pool ∧ (s.badOutcome).launch = s.launch := by
  refine ⟨?_, ?_, ?_, ?_, ?_, ?_, ?_⟩ <;> (unfold State.badOutcome; (try dsimp only); (repeat' split) <;> (first | (simp; done) | rfl))

@[simp] theorem returnEvent_frame (s : State) (e : ReturnEvent) :
    (s.returnEvent e).pending = s.pending ∧ (s.returnEvent e).straps = s.straps ∧ (s.returnEvent e).setup = s.setup ∧ (s.returnEvent e).roster = s.roster ∧ (s.returnEvent e).board = s.board ∧ (s.returnEvent e).pool = s.pool ∧ (s.returnEvent e).launch = s.launch := by
  refine ⟨?_, ?_, ?_, ?_, ?_, ?_, ?_⟩ <;> (unfold State.returnEvent; (try dsimp only); (repeat' split) <;> (first | (simp; done) | rfl))

@[simp] theorem setHunt_frame (s : State) (bs : List Byte) :
    (s.setHunt bs).pending = s.pending ∧ (s.setHunt bs).straps = s.straps ∧ (s.setHunt bs).ctl = s.ctl ∧ (s.setHunt bs).setup = s.setup ∧ (s.setHunt bs).roster = s.roster ∧ (s.setHunt bs).board = s.board ∧ (s.setHunt bs).claims = s.claims ∧ (s.setHunt bs).pool = s.pool ∧ (s.setHunt bs).launch = s.launch ∧ (s.setHunt bs).comp = s.comp ∧ (s.setHunt bs).tiles = s.tiles ∧ (s.setHunt bs).fetch = s.fetch ∧ (s.setHunt bs).port = s.port ∧ (s.setHunt bs).fault = s.fault ∧ (s.setHunt bs).link = s.link := by
  refine ⟨?_, ?_, ?_, ?_, ?_, ?_, ?_, ?_, ?_, ?_, ?_, ?_, ?_, ?_, ?_⟩ <;> (unfold State.setHunt; (try dsimp only); (repeat' split) <;> (first | (simp; done) | rfl))

@[simp] theorem returnBytes_frame (s : State) (bs : List Byte) :
    (s.returnBytes bs).pending = s.pending ∧ (s.returnBytes bs).straps = s.straps ∧ (s.returnBytes bs).setup = s.setup ∧ (s.returnBytes bs).roster = s.roster ∧ (s.returnBytes bs).board = s.board ∧ (s.returnBytes bs).pool = s.pool ∧ (s.returnBytes bs).launch = s.launch :=
  ⟨by unfold State.returnBytes; (try dsimp only); (repeat' split) <;> (first | (simp; done) | rfl | (simp [foldl_keeps (fun t : State => t.pending)]; done) | (rw [foldl_keeps (fun t : State => t.pending)] <;> first | (simp; done) | (intros; simp; done) | (intros; split <;> simp; done))), by unfold State.returnBytes; (try dsimp only); (repeat' split) <;> (first | (simp; done) | rfl | (simp [foldl_keeps (fun t : State => t.straps)]; done) | (rw [foldl_keeps (fun t : State => t.straps)] <;> first | (simp; done) | (intros; simp; done) | (intros; split <;> simp; done))), by unfold State.returnBytes; (try dsimp only); (repeat' split) <;> (first | (simp; done) | rfl | (simp [foldl_keeps (fun t : State => t.setup)]; done) | (rw [foldl_keeps (fun t : State => t.setup)] <;> first | (simp; done) | (intros; simp; done) | (intros; split <;> simp; done))), by unfold State.returnBytes; (try dsimp only); (repeat' split) <;> (first | (simp; done) | rfl | (simp [foldl_keeps (fun t : State => t.roster)]; done) | (rw [foldl_keeps (fun t : State => t.roster)] <;> first | (simp; done) | (intros; simp; done) | (intros; split <;> simp; done))), by unfold State.returnBytes; (try dsimp only); (repeat' split) <;> (first | (simp; done) | rfl | (simp [foldl_keeps (fun t : State => t.board)]; done) | (rw [foldl_keeps (fun t : State => t.board)] <;> first | (simp; done) | (intros; simp; done) | (intros; split <;> simp; done))), by unfold State.returnBytes; (try dsimp only); (repeat' split) <;> (first | (simp; done) | rfl | (simp [foldl_keeps (fun t : State => t.pool)]; done) | (rw [foldl_keeps (fun t : State => t.pool)] <;> first | (simp; done) | (intros; simp; done) | (intros; split <;> simp; done))), by unfold State.returnBytes; (try dsimp only); (repeat' split) <;> (first | (simp; done) | rfl | (simp [foldl_keeps (fun t : State => t.launch)]; done) | (rw [foldl_keeps (fun t : State => t.launch)] <;> first | (simp; done) | (intros; simp; done) | (intros; split <;> simp; done)))⟩

@[simp] theorem outcomeRecord_frame (s : State) (page : Nat) (o : EngineOutcome) :
    (s.outcomeRecord page o).pending = s.pending ∧ (s.outcomeRecord page o).straps = s.straps ∧ (s.outcomeRecord page o).setup = s.setup ∧ (s.outcomeRecord page o).roster = s.roster ∧ (s.outcomeRecord page o).board = s.board ∧ (s.outcomeRecord page o).pool = s.pool ∧ (s.outcomeRecord page o).launch = s.launch := by
  refine ⟨?_, ?_, ?_, ?_, ?_, ?_, ?_⟩ <;> (unfold State.outcomeRecord; (try dsimp only); (repeat' split) <;> (first | (simp; done) | rfl))

@[simp] theorem headTimeout_frame (s : State)  :
    (s.headTimeout).pending = s.pending ∧ (s.headTimeout).straps = s.straps ∧ (s.headTimeout).setup = s.setup ∧ (s.headTimeout).roster = s.roster ∧ (s.headTimeout).board = s.board ∧ (s.headTimeout).pool = s.pool ∧ (s.headTimeout).launch = s.launch := by
  refine ⟨?_, ?_, ?_, ?_, ?_, ?_, ?_⟩ <;> (unfold State.headTimeout; (try dsimp only); (repeat' split) <;> (first | (simp; done) | rfl))

@[simp] theorem goOffline_frame (s : State)  :
    (s.goOffline).pending = s.pending ∧ (s.goOffline).straps = s.straps ∧ (s.goOffline).setup = s.setup ∧ (s.goOffline).roster = s.roster ∧ (s.goOffline).board = s.board ∧ (s.goOffline).pool = s.pool ∧ (s.goOffline).launch = s.launch := by
  refine ⟨?_, ?_, ?_, ?_, ?_, ?_, ?_⟩ <;> (unfold State.goOffline; (try dsimp only); (repeat' split) <;> (first | (simp; done) | rfl))

@[simp] theorem goOnline_frame (s : State)  :
    (s.goOnline).pending = s.pending ∧ (s.goOnline).straps = s.straps ∧ (s.goOnline).ctl = s.ctl ∧ (s.goOnline).setup = s.setup ∧ (s.goOnline).roster = s.roster ∧ (s.goOnline).board = s.board ∧ (s.goOnline).pool = s.pool ∧ (s.goOnline).launch = s.launch ∧ (s.goOnline).comp = s.comp ∧ (s.goOnline).tiles = s.tiles ∧ (s.goOnline).fetch = s.fetch ∧ (s.goOnline).fault = s.fault ∧ (s.goOnline).link = s.link := by
  refine ⟨?_, ?_, ?_, ?_, ?_, ?_, ?_, ?_, ?_, ?_, ?_, ?_, ?_⟩ <;> (unfold State.goOnline; (try dsimp only); (repeat' split) <;> (first | (simp; done) | rfl))

@[simp] theorem reportExpiry_frame (s : State)  :
    (s.reportExpiry).pending = s.pending ∧ (s.reportExpiry).straps = s.straps ∧ (s.reportExpiry).ctl = s.ctl ∧ (s.reportExpiry).setup = s.setup ∧ (s.reportExpiry).roster = s.roster ∧ (s.reportExpiry).board = s.board ∧ (s.reportExpiry).claims = s.claims ∧ (s.reportExpiry).pool = s.pool ∧ (s.reportExpiry).launch = s.launch ∧ (s.reportExpiry).comp = s.comp ∧ (s.reportExpiry).tiles = s.tiles ∧ (s.reportExpiry).fetch = s.fetch ∧ (s.reportExpiry).lane = s.lane ∧ (s.reportExpiry).port = s.port := by
  refine ⟨?_, ?_, ?_, ?_, ?_, ?_, ?_, ?_, ?_, ?_, ?_, ?_, ?_, ?_⟩ <;> (unfold State.reportExpiry; (try dsimp only); (repeat' split) <;> (first | (simp; done) | rfl))

@[simp] theorem goodRecord_frame (s : State)  :
    (s.goodRecord).pending = s.pending ∧ (s.goodRecord).straps = s.straps ∧ (s.goodRecord).ctl = s.ctl ∧ (s.goodRecord).setup = s.setup ∧ (s.goodRecord).roster = s.roster ∧ (s.goodRecord).board = s.board ∧ (s.goodRecord).claims = s.claims ∧ (s.goodRecord).pool = s.pool ∧ (s.goodRecord).launch = s.launch ∧ (s.goodRecord).comp = s.comp ∧ (s.goodRecord).tiles = s.tiles ∧ (s.goodRecord).fetch = s.fetch ∧ (s.goodRecord).lane = s.lane ∧ (s.goodRecord).port = s.port ∧ (s.goodRecord).fault = s.fault := by
  refine ⟨?_, ?_, ?_, ?_, ?_, ?_, ?_, ?_, ?_, ?_, ?_, ?_, ?_, ?_, ?_⟩ <;> (unfold State.goodRecord; (try dsimp only); (repeat' split) <;> (first | (simp; done) | rfl))

@[simp] theorem badRecord_frame (s : State)  :
    (s.badRecord).pending = s.pending ∧ (s.badRecord).straps = s.straps ∧ (s.badRecord).ctl = s.ctl ∧ (s.badRecord).setup = s.setup ∧ (s.badRecord).roster = s.roster ∧ (s.badRecord).board = s.board ∧ (s.badRecord).claims = s.claims ∧ (s.badRecord).pool = s.pool ∧ (s.badRecord).launch = s.launch ∧ (s.badRecord).comp = s.comp ∧ (s.badRecord).tiles = s.tiles ∧ (s.badRecord).lane = s.lane ∧ (s.badRecord).port = s.port ∧ (s.badRecord).fault = s.fault := by
  refine ⟨?_, ?_, ?_, ?_, ?_, ?_, ?_, ?_, ?_, ?_, ?_, ?_, ?_, ?_⟩ <;> (unfold State.badRecord; (try dsimp only); (repeat' split) <;> (first | (simp; done) | rfl))

@[simp] theorem takeSetup_frame (s : State) (lease depth fetch : Nat) :
    (s.takeSetup lease depth fetch).pending = s.pending ∧ (s.takeSetup lease depth fetch).straps = s.straps ∧ (s.takeSetup lease depth fetch).roster = s.roster ∧ (s.takeSetup lease depth fetch).board = s.board ∧ (s.takeSetup lease depth fetch).claims = s.claims ∧ (s.takeSetup lease depth fetch).pool = s.pool ∧ (s.takeSetup lease depth fetch).launch = s.launch ∧ (s.takeSetup lease depth fetch).comp = s.comp ∧ (s.takeSetup lease depth fetch).tiles = s.tiles ∧ (s.takeSetup lease depth fetch).fetch = s.fetch ∧ (s.takeSetup lease depth fetch).lane = s.lane ∧ (s.takeSetup lease depth fetch).port = s.port ∧ (s.takeSetup lease depth fetch).fault = s.fault := by
  refine ⟨?_, ?_, ?_, ?_, ?_, ?_, ?_, ?_, ?_, ?_, ?_, ?_, ?_⟩ <;> (unfold State.takeSetup; (try dsimp only); (repeat' split) <;> (first | (simp; done) | rfl))

@[simp] theorem takePlanHead_frame (s : State) (p : PlanHead) :
    (s.takePlanHead p).pending = s.pending ∧ (s.takePlanHead p).straps = s.straps ∧ (s.takePlanHead p).ctl = s.ctl ∧ (s.takePlanHead p).setup = s.setup ∧ (s.takePlanHead p).board = s.board ∧ (s.takePlanHead p).claims = s.claims ∧ (s.takePlanHead p).pool = s.pool ∧ (s.takePlanHead p).comp = s.comp ∧ (s.takePlanHead p).tiles = s.tiles ∧ (s.takePlanHead p).fetch = s.fetch ∧ (s.takePlanHead p).lane = s.lane ∧ (s.takePlanHead p).port = s.port ∧ (s.takePlanHead p).fault = s.fault := by
  refine ⟨?_, ?_, ?_, ?_, ?_, ?_, ?_, ?_, ?_, ?_, ?_, ?_, ?_⟩ <;> (unfold State.takePlanHead; (try dsimp only); (repeat' split) <;> (first | (simp; done) | rfl))


@[simp] theorem takePlanTemplate_frame (s : State) (t : Template) :
    (s.takePlanTemplate t).pending = s.pending ∧ (s.takePlanTemplate t).straps = s.straps ∧ (s.takePlanTemplate t).ctl = s.ctl ∧ (s.takePlanTemplate t).setup = s.setup ∧ (s.takePlanTemplate t).board = s.board ∧ (s.takePlanTemplate t).claims = s.claims ∧ (s.takePlanTemplate t).pool = s.pool ∧ (s.takePlanTemplate t).launch = s.launch ∧ (s.takePlanTemplate t).comp = s.comp ∧ (s.takePlanTemplate t).tiles = s.tiles ∧ (s.takePlanTemplate t).fetch = s.fetch ∧ (s.takePlanTemplate t).lane = s.lane ∧ (s.takePlanTemplate t).port = s.port ∧ (s.takePlanTemplate t).fault = s.fault := by
  refine ⟨?_, ?_, ?_, ?_, ?_, ?_, ?_, ?_, ?_, ?_, ?_, ?_, ?_, ?_⟩ <;> (unfold State.takePlanTemplate State.takePlanBody; (repeat' split) <;> simp)

@[simp] theorem takePlanSection_frame (s : State) (x : Section) :
    (s.takePlanSection x).pending = s.pending ∧ (s.takePlanSection x).straps = s.straps ∧ (s.takePlanSection x).ctl = s.ctl ∧ (s.takePlanSection x).setup = s.setup ∧ (s.takePlanSection x).board = s.board ∧ (s.takePlanSection x).claims = s.claims ∧ (s.takePlanSection x).pool = s.pool ∧ (s.takePlanSection x).launch = s.launch ∧ (s.takePlanSection x).comp = s.comp ∧ (s.takePlanSection x).tiles = s.tiles ∧ (s.takePlanSection x).fetch = s.fetch ∧ (s.takePlanSection x).lane = s.lane ∧ (s.takePlanSection x).port = s.port ∧ (s.takePlanSection x).fault = s.fault := by
  refine ⟨?_, ?_, ?_, ?_, ?_, ?_, ?_, ?_, ?_, ?_, ?_, ?_, ?_, ?_⟩ <;> (unfold State.takePlanSection State.takePlanBody; (repeat' split) <;> simp)

@[simp] theorem takePlanPage_frame (s : State) (p : PageRec) :
    (s.takePlanPage p).pending = s.pending ∧ (s.takePlanPage p).straps = s.straps ∧ (s.takePlanPage p).ctl = s.ctl ∧ (s.takePlanPage p).setup = s.setup ∧ (s.takePlanPage p).board = s.board ∧ (s.takePlanPage p).claims = s.claims ∧ (s.takePlanPage p).pool = s.pool ∧ (s.takePlanPage p).launch = s.launch ∧ (s.takePlanPage p).comp = s.comp ∧ (s.takePlanPage p).tiles = s.tiles ∧ (s.takePlanPage p).fetch = s.fetch ∧ (s.takePlanPage p).lane = s.lane ∧ (s.takePlanPage p).port = s.port ∧ (s.takePlanPage p).fault = s.fault := by
  refine ⟨?_, ?_, ?_, ?_, ?_, ?_, ?_, ?_, ?_, ?_, ?_, ?_, ?_, ?_⟩ <;> (unfold State.takePlanPage State.takePlanBody; (repeat' split) <;> simp)

@[simp] theorem takePlanSubject_frame (s : State) (j : Subject) :
    (s.takePlanSubject j).pending = s.pending ∧ (s.takePlanSubject j).straps = s.straps ∧ (s.takePlanSubject j).ctl = s.ctl ∧ (s.takePlanSubject j).setup = s.setup ∧ (s.takePlanSubject j).board = s.board ∧ (s.takePlanSubject j).claims = s.claims ∧ (s.takePlanSubject j).pool = s.pool ∧ (s.takePlanSubject j).launch = s.launch ∧ (s.takePlanSubject j).comp = s.comp ∧ (s.takePlanSubject j).tiles = s.tiles ∧ (s.takePlanSubject j).fetch = s.fetch ∧ (s.takePlanSubject j).lane = s.lane ∧ (s.takePlanSubject j).port = s.port ∧ (s.takePlanSubject j).fault = s.fault := by
  refine ⟨?_, ?_, ?_, ?_, ?_, ?_, ?_, ?_, ?_, ?_, ?_, ?_, ?_, ?_⟩ <;> (unfold State.takePlanSubject State.takePlanBody; (repeat' split) <;> simp)

@[simp] theorem planLoaded_frame (s : State)  :
    (s.planLoaded).pending = s.pending ∧ (s.planLoaded).straps = s.straps ∧ (s.planLoaded).setup = s.setup ∧ (s.planLoaded).claims = s.claims ∧ (s.planLoaded).pool = s.pool ∧ (s.planLoaded).launch = s.launch ∧ (s.planLoaded).comp = s.comp ∧ (s.planLoaded).tiles = s.tiles ∧ (s.planLoaded).fetch = s.fetch ∧ (s.planLoaded).lane = s.lane ∧ (s.planLoaded).fault = s.fault ∧ (s.planLoaded).link = s.link := by
  refine ⟨?_, ?_, ?_, ?_, ?_, ?_, ?_, ?_, ?_, ?_, ?_, ?_⟩ <;> (unfold State.planLoaded; (try dsimp only); (repeat' split) <;> (first | (simp; done) | rfl))

@[simp] theorem planFailed_frame (s : State) (code index : Nat) :
    (s.planFailed code index).pending = s.pending ∧ (s.planFailed code index).straps = s.straps ∧ (s.planFailed code index).setup = s.setup ∧ (s.planFailed code index).board = s.board ∧ (s.planFailed code index).pool = s.pool ∧ (s.planFailed code index).launch = s.launch := by
  refine ⟨?_, ?_, ?_, ?_, ?_, ?_⟩ <;> (unfold State.planFailed; (try dsimp only); (repeat' split) <;> (first | (simp; done) | rfl))

@[simp] theorem judgePlan_frame (s : State)  :
    (s.judgePlan).pending = s.pending ∧ (s.judgePlan).straps = s.straps ∧ (s.judgePlan).setup = s.setup ∧ (s.judgePlan).pool = s.pool ∧ (s.judgePlan).launch = s.launch := by
  refine ⟨?_, ?_, ?_, ?_, ?_⟩ <;> (unfold State.judgePlan; (try dsimp only); (repeat' split) <;> (first | (simp; done) | rfl))

@[simp] theorem takePlanEnd_frame (s : State) :
    (s.takePlanEnd).pending = s.pending ∧ (s.takePlanEnd).straps = s.straps ∧ (s.takePlanEnd).setup = s.setup ∧ (s.takePlanEnd).pool = s.pool ∧ (s.takePlanEnd).launch = s.launch := by
  refine ⟨?_, ?_, ?_, ?_, ?_⟩ <;> (unfold State.takePlanEnd; (try dsimp only); (repeat' split) <;> (first | (simp; done) | rfl))

@[simp] theorem refuseRelay_frame (s : State) (f : Frame) (reason : Reason) :
    (s.refuseRelay f reason).pending = s.pending ∧ (s.refuseRelay f reason).straps = s.straps ∧ (s.refuseRelay f reason).ctl = s.ctl ∧ (s.refuseRelay f reason).setup = s.setup ∧ (s.refuseRelay f reason).roster = s.roster ∧ (s.refuseRelay f reason).board = s.board ∧ (s.refuseRelay f reason).claims = s.claims ∧ (s.refuseRelay f reason).pool = s.pool ∧ (s.refuseRelay f reason).launch = s.launch ∧ (s.refuseRelay f reason).comp = s.comp ∧ (s.refuseRelay f reason).tiles = s.tiles ∧ (s.refuseRelay f reason).fetch = s.fetch ∧ (s.refuseRelay f reason).lane = s.lane ∧ (s.refuseRelay f reason).port = s.port ∧ (s.refuseRelay f reason).fault = s.fault := by
  refine ⟨?_, ?_, ?_, ?_, ?_, ?_, ?_, ?_, ?_, ?_, ?_, ?_, ?_, ?_, ?_⟩ <;> (unfold State.refuseRelay; (try dsimp only); (repeat' split) <;> (first | (simp; done) | rfl))

@[simp] theorem relay_frame (s : State) (f : Frame) :
    (s.relay f).pending = s.pending ∧ (s.relay f).straps = s.straps ∧ (s.relay f).ctl = s.ctl ∧ (s.relay f).setup = s.setup ∧ (s.relay f).roster = s.roster ∧ (s.relay f).board = s.board ∧ (s.relay f).claims = s.claims ∧ (s.relay f).pool = s.pool ∧ (s.relay f).launch = s.launch ∧ (s.relay f).comp = s.comp ∧ (s.relay f).tiles = s.tiles ∧ (s.relay f).fetch = s.fetch ∧ (s.relay f).lane = s.lane ∧ (s.relay f).fault = s.fault := by
  refine ⟨?_, ?_, ?_, ?_, ?_, ?_, ?_, ?_, ?_, ?_, ?_, ?_, ?_, ?_⟩ <;> (unfold State.relay; (try dsimp only); (repeat' split) <;> (first | (simp; done) | rfl))

@[simp] theorem takeAck_frame (s : State) (serial : Nat) :
    (s.takeAck serial).pending = s.pending ∧ (s.takeAck serial).straps = s.straps ∧ (s.takeAck serial).ctl = s.ctl ∧ (s.takeAck serial).setup = s.setup ∧ (s.takeAck serial).roster = s.roster ∧ (s.takeAck serial).board = s.board ∧ (s.takeAck serial).pool = s.pool ∧ (s.takeAck serial).launch = s.launch ∧ (s.takeAck serial).comp = s.comp ∧ (s.takeAck serial).tiles = s.tiles ∧ (s.takeAck serial).lane = s.lane ∧ (s.takeAck serial).link = s.link := by
  refine ⟨?_, ?_, ?_, ?_, ?_, ?_, ?_, ?_, ?_, ?_, ?_, ?_⟩ <;> (unfold State.takeAck; (try dsimp only); (repeat' split) <;> (first | (simp; done) | rfl))

@[simp] theorem answerStatus_frame (s : State) (request : Nat) :
    (s.answerStatus request).pending = s.pending ∧ (s.answerStatus request).straps = s.straps ∧ (s.answerStatus request).ctl = s.ctl ∧ (s.answerStatus request).setup = s.setup ∧ (s.answerStatus request).roster = s.roster ∧ (s.answerStatus request).board = s.board ∧ (s.answerStatus request).claims = s.claims ∧ (s.answerStatus request).pool = s.pool ∧ (s.answerStatus request).launch = s.launch ∧ (s.answerStatus request).comp = s.comp ∧ (s.answerStatus request).tiles = s.tiles ∧ (s.answerStatus request).fetch = s.fetch ∧ (s.answerStatus request).lane = s.lane ∧ (s.answerStatus request).port = s.port ∧ (s.answerStatus request).fault = s.fault := by
  refine ⟨?_, ?_, ?_, ?_, ?_, ?_, ?_, ?_, ?_, ?_, ?_, ?_, ?_, ?_, ?_⟩ <;> (unfold State.answerStatus; (try dsimp only); (repeat' split) <;> (first | (simp; done) | rfl))

@[simp] theorem lineSilent_frame (s : State)  :
    (s.lineSilent).pending = s.pending ∧ (s.lineSilent).straps = s.straps ∧ (s.lineSilent).setup = s.setup ∧ (s.lineSilent).roster = s.roster ∧ (s.lineSilent).board = s.board ∧ (s.lineSilent).pool = s.pool ∧ (s.lineSilent).launch = s.launch := by
  refine ⟨?_, ?_, ?_, ?_, ?_, ?_, ?_⟩ <;> (unfold State.lineSilent; (try dsimp only); (repeat' split) <;> (first | (simp; done) | rfl))

end Sys2Proof.Laws
end

