-- ==== Sys2Proof/Laws/SubFault.lean ====
section
/-! SUPPORT. What each shared operation leaves unchanged inside the Fault Unit. -/

namespace Sys2Proof.Laws

open Sys2Proof Sys2Proof.Machine

set_option linter.all false

@[simp] theorem dropWork_fault_fields (s : State) :
    (s.dropWork).fault.record = s.fault.record ∧ (s.dropWork).fault.serial = s.fault.serial ∧ (s.dropWork).fault.phase = s.fault.phase ∧ (s.dropWork).fault.deferred = s.fault.deferred ∧ (s.dropWork).fault.reportTimer = s.fault.reportTimer ∧ (s.dropWork).fault.closed = s.fault.closed ∧ (s.dropWork).fault.lost = s.fault.lost ∧ (s.dropWork).fault.repeats = s.fault.repeats ∧ (s.dropWork).fault.cutStep = s.fault.cutStep ∧ (s.dropWork).fault.flushStep = s.fault.flushStep ∧ (s.dropWork).fault.haltStep = s.fault.haltStep := by
  refine ⟨?_, ?_, ?_, ?_, ?_, ?_, ?_, ?_, ?_, ?_, ?_⟩ <;> (unfold State.dropWork; (try dsimp only); (repeat' split) <;> (first | (simp; done) | rfl | (simp_all; done)))

@[simp] theorem sendFaultReport_fault_fields (s : State) (repeats : Nat) :
    (s.sendFaultReport repeats).fault.record = s.fault.record ∧ (s.sendFaultReport repeats).fault.serial = s.fault.serial ∧ (s.sendFaultReport repeats).fault.phase = s.fault.phase ∧ (s.sendFaultReport repeats).fault.awaited = s.fault.awaited ∧ (s.sendFaultReport repeats).fault.deferred = s.fault.deferred ∧ (s.sendFaultReport repeats).fault.closed = s.fault.closed ∧ (s.sendFaultReport repeats).fault.lost = s.fault.lost ∧ (s.sendFaultReport repeats).fault.cutStep = s.fault.cutStep ∧ (s.sendFaultReport repeats).fault.flushStep = s.fault.flushStep ∧ (s.sendFaultReport repeats).fault.haltStep = s.fault.haltStep := by
  refine ⟨?_, ?_, ?_, ?_, ?_, ?_, ?_, ?_, ?_, ?_⟩ <;> (unfold State.sendFaultReport; (try dsimp only); (repeat' split) <;> (first | (simp; done) | rfl | (simp_all; done)))

@[simp] theorem repeatFaultReport_fault_fields (s : State) :
    (s.repeatFaultReport).fault.record = s.fault.record ∧ (s.repeatFaultReport).fault.serial = s.fault.serial ∧ (s.repeatFaultReport).fault.phase = s.fault.phase ∧ (s.repeatFaultReport).fault.awaited = s.fault.awaited ∧ (s.repeatFaultReport).fault.deferred = s.fault.deferred ∧ (s.repeatFaultReport).fault.closed = s.fault.closed ∧ (s.repeatFaultReport).fault.lost = s.fault.lost ∧ (s.repeatFaultReport).fault.cutStep = s.fault.cutStep ∧ (s.repeatFaultReport).fault.flushStep = s.fault.flushStep ∧ (s.repeatFaultReport).fault.haltStep = s.fault.haltStep := by
  refine ⟨?_, ?_, ?_, ?_, ?_, ?_, ?_, ?_, ?_, ?_⟩ <;> (unfold State.repeatFaultReport; (try dsimp only); (repeat' split) <;> (first | (simp; done) | rfl | (simp_all; done)))

@[simp] theorem tryEnd_fault_fields (s : State) :
    (s.tryEnd).fault.record = s.fault.record ∧ (s.tryEnd).fault.serial = s.fault.serial ∧ (s.tryEnd).fault.awaited = s.fault.awaited ∧ (s.tryEnd).fault.closed = s.fault.closed ∧ (s.tryEnd).fault.lost = s.fault.lost ∧ (s.tryEnd).fault.cutStep = s.fault.cutStep ∧ (s.tryEnd).fault.flushStep = s.fault.flushStep ∧ (s.tryEnd).fault.haltStep = s.fault.haltStep :=
  ⟨by unfold State.tryEnd; (try dsimp only); (repeat' split) <;> (first | (simp; done) | rfl | (simp [foldl_keeps (fun t : State => t.fault.record)]; done) | (rw [foldl_keeps (fun t : State => t.fault.record)] <;> first | (simp; done) | (intros; simp; done) | (intros; split <;> simp; done))), by unfold State.tryEnd; (try dsimp only); (repeat' split) <;> (first | (simp; done) | rfl | (simp [foldl_keeps (fun t : State => t.fault.serial)]; done) | (rw [foldl_keeps (fun t : State => t.fault.serial)] <;> first | (simp; done) | (intros; simp; done) | (intros; split <;> simp; done))), by unfold State.tryEnd; (try dsimp only); (repeat' split) <;> (first | (simp; done) | rfl | (simp [foldl_keeps (fun t : State => t.fault.awaited)]; done) | (rw [foldl_keeps (fun t : State => t.fault.awaited)] <;> first | (simp; done) | (intros; simp; done) | (intros; split <;> simp; done))), by unfold State.tryEnd; (try dsimp only); (repeat' split) <;> (first | (simp; done) | rfl | (simp [foldl_keeps (fun t : State => t.fault.closed)]; done) | (rw [foldl_keeps (fun t : State => t.fault.closed)] <;> first | (simp; done) | (intros; simp; done) | (intros; split <;> simp; done))), by unfold State.tryEnd; (try dsimp only); (repeat' split) <;> (first | (simp; done) | rfl | (simp [foldl_keeps (fun t : State => t.fault.lost)]; done) | (rw [foldl_keeps (fun t : State => t.fault.lost)] <;> first | (simp; done) | (intros; simp; done) | (intros; split <;> simp; done))), by unfold State.tryEnd; (try dsimp only); (repeat' split) <;> (first | (simp; done) | rfl | (simp [foldl_keeps (fun t : State => t.fault.cutStep)]; done) | (rw [foldl_keeps (fun t : State => t.fault.cutStep)] <;> first | (simp; done) | (intros; simp; done) | (intros; split <;> simp; done))), by unfold State.tryEnd; (try dsimp only); (repeat' split) <;> (first | (simp; done) | rfl | (simp [foldl_keeps (fun t : State => t.fault.flushStep)]; done) | (rw [foldl_keeps (fun t : State => t.fault.flushStep)] <;> first | (simp; done) | (intros; simp; done) | (intros; split <;> simp; done))), by unfold State.tryEnd; (try dsimp only); (repeat' split) <;> (first | (simp; done) | rfl | (simp [foldl_keeps (fun t : State => t.fault.haltStep)]; done) | (rw [foldl_keeps (fun t : State => t.fault.haltStep)] <;> first | (simp; done) | (intros; simp; done) | (intros; split <;> simp; done)))⟩

@[simp] theorem settlePage_fault_fields (s : State) (page : Nat) (byFrame : Bool) :
    (s.settlePage page byFrame).fault.record = s.fault.record ∧ (s.settlePage page byFrame).fault.serial = s.fault.serial ∧ (s.settlePage page byFrame).fault.phase = s.fault.phase ∧ (s.settlePage page byFrame).fault.deferred = s.fault.deferred ∧ (s.settlePage page byFrame).fault.reportTimer = s.fault.reportTimer ∧ (s.settlePage page byFrame).fault.lost = s.fault.lost ∧ (s.settlePage page byFrame).fault.repeats = s.fault.repeats ∧ (s.settlePage page byFrame).fault.cutStep = s.fault.cutStep ∧ (s.settlePage page byFrame).fault.flushStep = s.fault.flushStep ∧ (s.settlePage page byFrame).fault.haltStep = s.fault.haltStep := by
  refine ⟨?_, ?_, ?_, ?_, ?_, ?_, ?_, ?_, ?_, ?_⟩ <;> (unfold State.settlePage; (try dsimp only); (repeat' split) <;> (first | (simp; done) | rfl | (simp_all; done)))

@[simp] theorem awaitClose_fault_fields (s : State) (f : Frame) (page : Nat) :
    (s.awaitClose f page).fault.record = s.fault.record ∧ (s.awaitClose f page).fault.serial = s.fault.serial ∧ (s.awaitClose f page).fault.phase = s.fault.phase ∧ (s.awaitClose f page).fault.deferred = s.fault.deferred ∧ (s.awaitClose f page).fault.reportTimer = s.fault.reportTimer ∧ (s.awaitClose f page).fault.closed = s.fault.closed ∧ (s.awaitClose f page).fault.lost = s.fault.lost ∧ (s.awaitClose f page).fault.repeats = s.fault.repeats ∧ (s.awaitClose f page).fault.cutStep = s.fault.cutStep ∧ (s.awaitClose f page).fault.flushStep = s.fault.flushStep ∧ (s.awaitClose f page).fault.haltStep = s.fault.haltStep := by
  refine ⟨?_, ?_, ?_, ?_, ?_, ?_, ?_, ?_, ?_, ?_, ?_⟩ <;> (unfold State.awaitClose; (try dsimp only); (repeat' split) <;> (first | (simp; done) | rfl | (simp_all; done)))

@[simp] theorem flushSheets_fault_fields (s : State) :
    (s.flushSheets).fault.record = s.fault.record ∧ (s.flushSheets).fault.serial = s.fault.serial ∧ (s.flushSheets).fault.phase = s.fault.phase ∧ (s.flushSheets).fault.awaited = s.fault.awaited ∧ (s.flushSheets).fault.deferred = s.fault.deferred ∧ (s.flushSheets).fault.reportTimer = s.fault.reportTimer ∧ (s.flushSheets).fault.closed = s.fault.closed ∧ (s.flushSheets).fault.repeats = s.fault.repeats ∧ (s.flushSheets).fault.cutStep = s.fault.cutStep ∧ (s.flushSheets).fault.flushStep = s.fault.flushStep ∧ (s.flushSheets).fault.haltStep = s.fault.haltStep := by
  refine ⟨?_, ?_, ?_, ?_, ?_, ?_, ?_, ?_, ?_, ?_, ?_⟩ <;> (unfold State.flushSheets; (try dsimp only); (repeat' split) <;> (first | (simp; done) | rfl | (simp_all; done)))

@[simp] theorem cutForRecovery_fault_fields (s : State) :
    (s.cutForRecovery).fault.record = s.fault.record ∧ (s.cutForRecovery).fault.serial = s.fault.serial ∧ (s.cutForRecovery).fault.phase = s.fault.phase ∧ (s.cutForRecovery).fault.awaited = s.fault.awaited ∧ (s.cutForRecovery).fault.deferred = s.fault.deferred ∧ (s.cutForRecovery).fault.reportTimer = s.fault.reportTimer ∧ (s.cutForRecovery).fault.closed = s.fault.closed ∧ (s.cutForRecovery).fault.lost = s.fault.lost ∧ (s.cutForRecovery).fault.repeats = s.fault.repeats ∧ (s.cutForRecovery).fault.flushStep = s.fault.flushStep ∧ (s.cutForRecovery).fault.haltStep = s.fault.haltStep := by
  refine ⟨?_, ?_, ?_, ?_, ?_, ?_, ?_, ?_, ?_, ?_, ?_⟩ <;> (unfold State.cutForRecovery; (try dsimp only); (repeat' split) <;> (first | (simp; done) | rfl | (simp_all; done)))

@[simp] theorem recoverLink_fault_fields (s : State) (cause : Cause) (named : Option Nat) :
    (s.recoverLink cause named).fault.record = s.fault.record ∧ (s.recoverLink cause named).fault.serial = s.fault.serial ∧ (s.recoverLink cause named).fault.phase = s.fault.phase ∧ (s.recoverLink cause named).fault.deferred = s.fault.deferred ∧ (s.recoverLink cause named).fault.reportTimer = s.fault.reportTimer ∧ (s.recoverLink cause named).fault.closed = s.fault.closed ∧ (s.recoverLink cause named).fault.lost = s.fault.lost ∧ (s.recoverLink cause named).fault.repeats = s.fault.repeats ∧ (s.recoverLink cause named).fault.flushStep = s.fault.flushStep ∧ (s.recoverLink cause named).fault.haltStep = s.fault.haltStep :=
  ⟨by unfold State.recoverLink; (try dsimp only); (repeat' split) <;> (first | (simp; done) | rfl | (simp [foldl_keeps (fun t : State => t.fault.record)]; done) | (rw [foldl_keeps (fun t : State => t.fault.record)] <;> first | (simp; done) | (intros; simp; done) | (intros; split <;> simp; done))), by unfold State.recoverLink; (try dsimp only); (repeat' split) <;> (first | (simp; done) | rfl | (simp [foldl_keeps (fun t : State => t.fault.serial)]; done) | (rw [foldl_keeps (fun t : State => t.fault.serial)] <;> first | (simp; done) | (intros; simp; done) | (intros; split <;> simp; done))), by unfold State.recoverLink; (try dsimp only); (repeat' split) <;> (first | (simp; done) | rfl | (simp [foldl_keeps (fun t : State => t.fault.phase)]; done) | (rw [foldl_keeps (fun t : State => t.fault.phase)] <;> first | (simp; done) | (intros; simp; done) | (intros; split <;> simp; done))), by unfold State.recoverLink; (try dsimp only); (repeat' split) <;> (first | (simp; done) | rfl | (simp [foldl_keeps (fun t : State => t.fault.deferred)]; done) | (rw [foldl_keeps (fun t : State => t.fault.deferred)] <;> first | (simp; done) | (intros; simp; done) | (intros; split <;> simp; done))), by unfold State.recoverLink; (try dsimp only); (repeat' split) <;> (first | (simp; done) | rfl | (simp [foldl_keeps (fun t : State => t.fault.reportTimer)]; done) | (rw [foldl_keeps (fun t : State => t.fault.reportTimer)] <;> first | (simp; done) | (intros; simp; done) | (intros; split <;> simp; done))), by unfold State.recoverLink; (try dsimp only); (repeat' split) <;> (first | (simp; done) | rfl | (simp [foldl_keeps (fun t : State => t.fault.closed)]; done) | (rw [foldl_keeps (fun t : State => t.fault.closed)] <;> first | (simp; done) | (intros; simp; done) | (intros; split <;> simp; done))), by unfold State.recoverLink; (try dsimp only); (repeat' split) <;> (first | (simp; done) | rfl | (simp [foldl_keeps (fun t : State => t.fault.lost)]; done) | (rw [foldl_keeps (fun t : State => t.fault.lost)] <;> first | (simp; done) | (intros; simp; done) | (intros; split <;> simp; done))), by unfold State.recoverLink; (try dsimp only); (repeat' split) <;> (first | (simp; done) | rfl | (simp [foldl_keeps (fun t : State => t.fault.repeats)]; done) | (rw [foldl_keeps (fun t : State => t.fault.repeats)] <;> first | (simp; done) | (intros; simp; done) | (intros; split <;> simp; done))), by unfold State.recoverLink; (try dsimp only); (repeat' split) <;> (first | (simp; done) | rfl | (simp [foldl_keeps (fun t : State => t.fault.flushStep)]; done) | (rw [foldl_keeps (fun t : State => t.fault.flushStep)] <;> first | (simp; done) | (intros; simp; done) | (intros; split <;> simp; done))), by unfold State.recoverLink; (try dsimp only); (repeat' split) <;> (first | (simp; done) | rfl | (simp [foldl_keeps (fun t : State => t.fault.haltStep)]; done) | (rw [foldl_keeps (fun t : State => t.fault.haltStep)] <;> first | (simp; done) | (intros; simp; done) | (intros; split <;> simp; done)))⟩

@[simp] theorem recoverEngine_fault_fields (s : State) :
    (s.recoverEngine).fault.record = s.fault.record ∧ (s.recoverEngine).fault.serial = s.fault.serial ∧ (s.recoverEngine).fault.phase = s.fault.phase ∧ (s.recoverEngine).fault.deferred = s.fault.deferred ∧ (s.recoverEngine).fault.reportTimer = s.fault.reportTimer ∧ (s.recoverEngine).fault.closed = s.fault.closed ∧ (s.recoverEngine).fault.repeats = s.fault.repeats ∧ (s.recoverEngine).fault.haltStep = s.fault.haltStep :=
  ⟨by unfold State.recoverEngine; (try dsimp only); (repeat' split) <;> (first | (simp; done) | rfl | (simp [foldl_keeps (fun t : State => t.fault.record)]; done) | (rw [foldl_keeps (fun t : State => t.fault.record)] <;> first | (simp; done) | (intros; simp; done) | (intros; split <;> simp; done))), by unfold State.recoverEngine; (try dsimp only); (repeat' split) <;> (first | (simp; done) | rfl | (simp [foldl_keeps (fun t : State => t.fault.serial)]; done) | (rw [foldl_keeps (fun t : State => t.fault.serial)] <;> first | (simp; done) | (intros; simp; done) | (intros; split <;> simp; done))), by unfold State.recoverEngine; (try dsimp only); (repeat' split) <;> (first | (simp; done) | rfl | (simp [foldl_keeps (fun t : State => t.fault.phase)]; done) | (rw [foldl_keeps (fun t : State => t.fault.phase)] <;> first | (simp; done) | (intros; simp; done) | (intros; split <;> simp; done))), by unfold State.recoverEngine; (try dsimp only); (repeat' split) <;> (first | (simp; done) | rfl | (simp [foldl_keeps (fun t : State => t.fault.deferred)]; done) | (rw [foldl_keeps (fun t : State => t.fault.deferred)] <;> first | (simp; done) | (intros; simp; done) | (intros; split <;> simp; done))), by unfold State.recoverEngine; (try dsimp only); (repeat' split) <;> (first | (simp; done) | rfl | (simp [foldl_keeps (fun t : State => t.fault.reportTimer)]; done) | (rw [foldl_keeps (fun t : State => t.fault.reportTimer)] <;> first | (simp; done) | (intros; simp; done) | (intros; split <;> simp; done))), by unfold State.recoverEngine; (try dsimp only); (repeat' split) <;> (first | (simp; done) | rfl | (simp [foldl_keeps (fun t : State => t.fault.closed)]; done) | (rw [foldl_keeps (fun t : State => t.fault.closed)] <;> first | (simp; done) | (intros; simp; done) | (intros; split <;> simp; done))), by unfold State.recoverEngine; (try dsimp only); (repeat' split) <;> (first | (simp; done) | rfl | (simp [foldl_keeps (fun t : State => t.fault.repeats)]; done) | (rw [foldl_keeps (fun t : State => t.fault.repeats)] <;> first | (simp; done) | (intros; simp; done) | (intros; split <;> simp; done))), by unfold State.recoverEngine; (try dsimp only); (repeat' split) <;> (first | (simp; done) | rfl | (simp [foldl_keeps (fun t : State => t.fault.haltStep)]; done) | (rw [foldl_keeps (fun t : State => t.fault.haltStep)] <;> first | (simp; done) | (intros; simp; done) | (intros; split <;> simp; done)))⟩

@[simp] theorem recoverClaimLost_fault_fields (s : State) (page : Option Nat) :
    (s.recoverClaimLost page).fault.record = s.fault.record ∧ (s.recoverClaimLost page).fault.serial = s.fault.serial ∧ (s.recoverClaimLost page).fault.phase = s.fault.phase ∧ (s.recoverClaimLost page).fault.awaited = s.fault.awaited ∧ (s.recoverClaimLost page).fault.deferred = s.fault.deferred ∧ (s.recoverClaimLost page).fault.reportTimer = s.fault.reportTimer ∧ (s.recoverClaimLost page).fault.closed = s.fault.closed ∧ (s.recoverClaimLost page).fault.lost = s.fault.lost ∧ (s.recoverClaimLost page).fault.repeats = s.fault.repeats ∧ (s.recoverClaimLost page).fault.flushStep = s.fault.flushStep ∧ (s.recoverClaimLost page).fault.haltStep = s.fault.haltStep := by
  refine ⟨?_, ?_, ?_, ?_, ?_, ?_, ?_, ?_, ?_, ?_, ?_⟩ <;> (unfold State.recoverClaimLost; (try dsimp only); (repeat' split) <;> (first | (simp; done) | rfl | (simp_all; done)))

@[simp] theorem recoverSilent_fault_fields (s : State) :
    (s.recoverSilent).fault.record = s.fault.record ∧ (s.recoverSilent).fault.serial = s.fault.serial ∧ (s.recoverSilent).fault.phase = s.fault.phase ∧ (s.recoverSilent).fault.deferred = s.fault.deferred ∧ (s.recoverSilent).fault.reportTimer = s.fault.reportTimer ∧ (s.recoverSilent).fault.closed = s.fault.closed ∧ (s.recoverSilent).fault.lost = s.fault.lost ∧ (s.recoverSilent).fault.repeats = s.fault.repeats ∧ (s.recoverSilent).fault.flushStep = s.fault.flushStep ∧ (s.recoverSilent).fault.haltStep = s.fault.haltStep := by
  refine ⟨?_, ?_, ?_, ?_, ?_, ?_, ?_, ?_, ?_, ?_⟩ <;> (unfold State.recoverSilent; (try dsimp only); (repeat' split) <;> (first | (simp; done) | rfl | (simp_all; done)))

@[simp] theorem releaseAll_fault_fields (s : State) :
    (s.releaseAll).fault.record = s.fault.record ∧ (s.releaseAll).fault.serial = s.fault.serial ∧ (s.releaseAll).fault.phase = s.fault.phase ∧ (s.releaseAll).fault.deferred = s.fault.deferred ∧ (s.releaseAll).fault.reportTimer = s.fault.reportTimer ∧ (s.releaseAll).fault.closed = s.fault.closed ∧ (s.releaseAll).fault.lost = s.fault.lost ∧ (s.releaseAll).fault.repeats = s.fault.repeats ∧ (s.releaseAll).fault.cutStep = s.fault.cutStep ∧ (s.releaseAll).fault.flushStep = s.fault.flushStep ∧ (s.releaseAll).fault.haltStep = s.fault.haltStep :=
  ⟨by unfold State.releaseAll; rw [foldl_keeps (fun t => t.fault.record)]; intros; (try dsimp only); split <;> simp, by unfold State.releaseAll; rw [foldl_keeps (fun t => t.fault.serial)]; intros; (try dsimp only); split <;> simp, by unfold State.releaseAll; rw [foldl_keeps (fun t => t.fault.phase)]; intros; (try dsimp only); split <;> simp, by unfold State.releaseAll; rw [foldl_keeps (fun t => t.fault.deferred)]; intros; (try dsimp only); split <;> simp, by unfold State.releaseAll; rw [foldl_keeps (fun t => t.fault.reportTimer)]; intros; (try dsimp only); split <;> simp, by unfold State.releaseAll; rw [foldl_keeps (fun t => t.fault.closed)]; intros; (try dsimp only); split <;> simp, by unfold State.releaseAll; rw [foldl_keeps (fun t => t.fault.lost)]; intros; (try dsimp only); split <;> simp, by unfold State.releaseAll; rw [foldl_keeps (fun t => t.fault.repeats)]; intros; (try dsimp only); split <;> simp, by unfold State.releaseAll; rw [foldl_keeps (fun t => t.fault.cutStep)]; intros; (try dsimp only); split <;> simp, by unfold State.releaseAll; rw [foldl_keeps (fun t => t.fault.flushStep)]; intros; (try dsimp only); split <;> simp, by unfold State.releaseAll; rw [foldl_keeps (fun t => t.fault.haltStep)]; intros; (try dsimp only); split <;> simp⟩

@[simp] theorem halt_fault_fields (s : State) :
    (s.halt).fault.record = s.fault.record ∧ (s.halt).fault.serial = s.fault.serial ∧ (s.halt).fault.phase = s.fault.phase ∧ (s.halt).fault.deferred = s.fault.deferred ∧ (s.halt).fault.closed = s.fault.closed ∧ (s.halt).fault.lost = s.fault.lost ∧ (s.halt).fault.flushStep = s.fault.flushStep := by
  refine ⟨?_, ?_, ?_, ?_, ?_, ?_, ?_⟩ <;> (unfold State.halt; (try dsimp only); (repeat' split) <;> (first | (simp; done) | rfl | (simp_all; done)))

@[simp] theorem recordFault_fault_reportTimer (s : State) (cause : Cause) (page cell : Option Nat) (detail : Nat) :
    (s.recordFault cause page cell detail).fault.reportTimer = s.fault.reportTimer := by
  unfold State.recordFault; (try dsimp only); (repeat' split) <;> (first | (simp; done) | rfl | (simp_all; done))

@[simp] theorem recover_fault_fields (s : State) (cause : Cause) (page : Option Nat) :
    (s.recover cause page).fault.record = s.fault.record ∧ (s.recover cause page).fault.serial = s.fault.serial ∧ (s.recover cause page).fault.phase = s.fault.phase ∧ (s.recover cause page).fault.deferred = s.fault.deferred ∧ (s.recover cause page).fault.closed = s.fault.closed := by
  refine ⟨?_, ?_, ?_, ?_, ?_⟩ <;> (unfold State.recover; (try dsimp only); (repeat' split) <;> (first | (simp; done) | rfl | (simp_all; done)))

@[simp] theorem followOnActs_fault_fields (s : State) (cause : Cause) (page : Option Nat) :
    (s.followOnActs cause page).fault.record = s.fault.record ∧ (s.followOnActs cause page).fault.serial = s.fault.serial ∧ (s.followOnActs cause page).fault.phase = s.fault.phase ∧ (s.followOnActs cause page).fault.deferred = s.fault.deferred ∧ (s.followOnActs cause page).fault.closed = s.fault.closed ∧ (s.followOnActs cause page).fault.lost = s.fault.lost ∧ (s.followOnActs cause page).fault.flushStep = s.fault.flushStep := by
  refine ⟨?_, ?_, ?_, ?_, ?_, ?_, ?_⟩ <;> (unfold State.followOnActs; (try dsimp only); (repeat' split) <;> (first | (simp; done) | rfl | (simp_all; done)))

@[simp] theorem releaseIfBarred_fault_fields (s : State) (page : Nat) :
    (s.releaseIfBarred page).fault.record = s.fault.record ∧ (s.releaseIfBarred page).fault.serial = s.fault.serial ∧ (s.releaseIfBarred page).fault.phase = s.fault.phase ∧ (s.releaseIfBarred page).fault.deferred = s.fault.deferred ∧ (s.releaseIfBarred page).fault.reportTimer = s.fault.reportTimer ∧ (s.releaseIfBarred page).fault.closed = s.fault.closed ∧ (s.releaseIfBarred page).fault.lost = s.fault.lost ∧ (s.releaseIfBarred page).fault.repeats = s.fault.repeats ∧ (s.releaseIfBarred page).fault.cutStep = s.fault.cutStep ∧ (s.releaseIfBarred page).fault.flushStep = s.fault.flushStep ∧ (s.releaseIfBarred page).fault.haltStep = s.fault.haltStep := by
  refine ⟨?_, ?_, ?_, ?_, ?_, ?_, ?_, ?_, ?_, ?_, ?_⟩ <;> (unfold State.releaseIfBarred; (try dsimp only); (repeat' split) <;> (first | (simp; done) | rfl | (simp_all; done)))

@[simp] theorem claimFrame_fault_fields (s : State) (h : FrameHdr) (page claimant : Nat) :
    (s.claimFrame h page claimant).fault.record = s.fault.record ∧ (s.claimFrame h page claimant).fault.serial = s.fault.serial ∧ (s.claimFrame h page claimant).fault.phase = s.fault.phase ∧ (s.claimFrame h page claimant).fault.deferred = s.fault.deferred ∧ (s.claimFrame h page claimant).fault.reportTimer = s.fault.reportTimer ∧ (s.claimFrame h page claimant).fault.closed = s.fault.closed ∧ (s.claimFrame h page claimant).fault.lost = s.fault.lost ∧ (s.claimFrame h page claimant).fault.repeats = s.fault.repeats ∧ (s.claimFrame h page claimant).fault.cutStep = s.fault.cutStep ∧ (s.claimFrame h page claimant).fault.flushStep = s.fault.flushStep ∧ (s.claimFrame h page claimant).fault.haltStep = s.fault.haltStep := by
  refine ⟨?_, ?_, ?_, ?_, ?_, ?_, ?_, ?_, ?_, ?_, ?_⟩ <;> (unfold State.claimFrame; (try dsimp only); (repeat' split) <;> (first | (simp; done) | rfl | (simp_all; done)))

@[simp] theorem closeApplied_fault_fields (s : State) (page : Nat) :
    (s.closeApplied page).fault.record = s.fault.record ∧ (s.closeApplied page).fault.serial = s.fault.serial ∧ (s.closeApplied page).fault.lost = s.fault.lost ∧ (s.closeApplied page).fault.cutStep = s.fault.cutStep ∧ (s.closeApplied page).fault.flushStep = s.fault.flushStep ∧ (s.closeApplied page).fault.haltStep = s.fault.haltStep := by
  refine ⟨?_, ?_, ?_, ?_, ?_, ?_⟩ <;> (unfold State.closeApplied; (try dsimp only); (repeat' split) <;> (first | (simp; done) | rfl | (simp_all; done)))

@[simp] theorem doneFrame_fault_fields (s : State) (h : FrameHdr) (page edition : Nat) :
    (s.doneFrame h page edition).fault.record = s.fault.record ∧ (s.doneFrame h page edition).fault.serial = s.fault.serial ∧ (s.doneFrame h page edition).fault.lost = s.fault.lost ∧ (s.doneFrame h page edition).fault.cutStep = s.fault.cutStep ∧ (s.doneFrame h page edition).fault.flushStep = s.fault.flushStep ∧ (s.doneFrame h page edition).fault.haltStep = s.fault.haltStep := by
  refine ⟨?_, ?_, ?_, ?_, ?_, ?_⟩ <;> (unfold State.doneFrame; (try dsimp only); (repeat' split) <;> (first | (simp; done) | rfl | (simp_all; done)))

@[simp] theorem releaseFrame_fault_fields (s : State) (h : FrameHdr) (page : Nat) :
    (s.releaseFrame h page).fault.record = s.fault.record ∧ (s.releaseFrame h page).fault.serial = s.fault.serial ∧ (s.releaseFrame h page).fault.lost = s.fault.lost ∧ (s.releaseFrame h page).fault.cutStep = s.fault.cutStep ∧ (s.releaseFrame h page).fault.flushStep = s.fault.flushStep ∧ (s.releaseFrame h page).fault.haltStep = s.fault.haltStep := by
  refine ⟨?_, ?_, ?_, ?_, ?_, ?_⟩ <;> (unfold State.releaseFrame; (try dsimp only); (repeat' split) <;> (first | (simp; done) | rfl | (simp_all; done)))

@[simp] theorem failFrame_fault_fields (s : State) (h : FrameHdr) (page cause : Nat) :
    (s.failFrame h page cause).fault.record = s.fault.record ∧ (s.failFrame h page cause).fault.serial = s.fault.serial ∧ (s.failFrame h page cause).fault.lost = s.fault.lost ∧ (s.failFrame h page cause).fault.cutStep = s.fault.cutStep ∧ (s.failFrame h page cause).fault.flushStep = s.fault.flushStep ∧ (s.failFrame h page cause).fault.haltStep = s.fault.haltStep := by
  refine ⟨?_, ?_, ?_, ?_, ?_, ?_⟩ <;> (unfold State.failFrame; (try dsimp only); (repeat' split) <;> (first | (simp; done) | rfl | (simp_all; done)))

@[simp] theorem leaveOwn_fault_fields (s : State) :
    (s.leaveOwn).fault.record = s.fault.record ∧ (s.leaveOwn).fault.serial = s.fault.serial ∧ (s.leaveOwn).fault.closed = s.fault.closed ∧ (s.leaveOwn).fault.lost = s.fault.lost ∧ (s.leaveOwn).fault.cutStep = s.fault.cutStep ∧ (s.leaveOwn).fault.flushStep = s.fault.flushStep := by
  refine ⟨?_, ?_, ?_, ?_, ?_, ?_⟩ <;> (unfold State.leaveOwn; (try dsimp only); (repeat' split) <;> (first | (simp; done) | rfl | (simp_all; done)))

@[simp] theorem leaveFrame_fault_fields (s : State) (h : FrameHdr) (station : Nat) :
    (s.leaveFrame h station).fault.record = s.fault.record ∧ (s.leaveFrame h station).fault.serial = s.fault.serial ∧ (s.leaveFrame h station).fault.closed = s.fault.closed ∧ (s.leaveFrame h station).fault.lost = s.fault.lost ∧ (s.leaveFrame h station).fault.cutStep = s.fault.cutStep ∧ (s.leaveFrame h station).fault.flushStep = s.fault.flushStep := by
  refine ⟨?_, ?_, ?_, ?_, ?_, ?_⟩ <;> (unfold State.leaveFrame; (try dsimp only); (repeat' split) <;> (first | (simp; done) | rfl | (simp_all; done)))

@[simp] theorem cutSettled_fault_fields (s : State) :
    (s.cutSettled).fault.record = s.fault.record ∧ (s.cutSettled).fault.serial = s.fault.serial ∧ (s.cutSettled).fault.awaited = s.fault.awaited ∧ (s.cutSettled).fault.closed = s.fault.closed ∧ (s.cutSettled).fault.haltStep = s.fault.haltStep := by
  refine ⟨?_, ?_, ?_, ?_, ?_⟩ <;> (unfold State.cutSettled; (try dsimp only); (repeat' split) <;> (first | (simp; done) | rfl | (simp_all; done)))

@[simp] theorem carryOutCut_fault_fields (s : State) (h : Held) :
    (s.carryOutCut h).fault.record = s.fault.record ∧ (s.carryOutCut h).fault.serial = s.fault.serial ∧ (s.carryOutCut h).fault.awaited = s.fault.awaited ∧ (s.carryOutCut h).fault.closed = s.fault.closed ∧ (s.carryOutCut h).fault.haltStep = s.fault.haltStep := by
  refine ⟨?_, ?_, ?_, ?_, ?_⟩ <;> (unfold State.carryOutCut; (try dsimp only); (repeat' split) <;> (first | (simp; done) | rfl | (simp_all; done)))

@[simp] theorem handOutcome_fault_fields (s : State) (sh : Sheet) (o : EngineOutcome) :
    (s.handOutcome sh o).fault.record = s.fault.record ∧ (s.handOutcome sh o).fault.serial = s.fault.serial ∧ (s.handOutcome sh o).fault.phase = s.fault.phase ∧ (s.handOutcome sh o).fault.awaited = s.fault.awaited ∧ (s.handOutcome sh o).fault.reportTimer = s.fault.reportTimer ∧ (s.handOutcome sh o).fault.closed = s.fault.closed ∧ (s.handOutcome sh o).fault.lost = s.fault.lost ∧ (s.handOutcome sh o).fault.repeats = s.fault.repeats ∧ (s.handOutcome sh o).fault.cutStep = s.fault.cutStep ∧ (s.handOutcome sh o).fault.flushStep = s.fault.flushStep ∧ (s.handOutcome sh o).fault.haltStep = s.fault.haltStep := by
  refine ⟨?_, ?_, ?_, ?_, ?_, ?_, ?_, ?_, ?_, ?_, ?_⟩ <;> (unfold State.handOutcome; (try dsimp only); (repeat' split) <;> (first | (simp; done) | rfl | (simp_all; done)))

@[simp] theorem reportExpiry_fault_fields (s : State) :
    (s.reportExpiry).fault.record = s.fault.record ∧ (s.reportExpiry).fault.serial = s.fault.serial ∧ (s.reportExpiry).fault.phase = s.fault.phase ∧ (s.reportExpiry).fault.awaited = s.fault.awaited ∧ (s.reportExpiry).fault.deferred = s.fault.deferred ∧ (s.reportExpiry).fault.closed = s.fault.closed ∧ (s.reportExpiry).fault.lost = s.fault.lost ∧ (s.reportExpiry).fault.cutStep = s.fault.cutStep ∧ (s.reportExpiry).fault.flushStep = s.fault.flushStep ∧ (s.reportExpiry).fault.haltStep = s.fault.haltStep := by
  refine ⟨?_, ?_, ?_, ?_, ?_, ?_, ?_, ?_, ?_, ?_⟩ <;> (unfold State.reportExpiry; (try dsimp only); (repeat' split) <;> (first | (simp; done) | rfl | (simp_all; done)))

@[simp] theorem takeAck_fault_fields (s : State) (serial : Nat) :
    (s.takeAck serial).fault.serial = s.fault.serial ∧ (s.takeAck serial).fault.awaited = s.fault.awaited ∧ (s.takeAck serial).fault.deferred = s.fault.deferred ∧ (s.takeAck serial).fault.cutStep = s.fault.cutStep ∧ (s.takeAck serial).fault.flushStep = s.fault.flushStep ∧ (s.takeAck serial).fault.haltStep = s.fault.haltStep := by
  refine ⟨?_, ?_, ?_, ?_, ?_, ?_⟩ <;> (unfold State.takeAck; (try dsimp only); (repeat' split) <;> (first | (simp; done) | rfl | (simp_all; done)))

end Sys2Proof.Laws
end

