-- ==== Sys2Proof/Laws/SubLaneTiles.lean ====
section
/-! SUPPORT. What each shared operation leaves unchanged inside the print lane and the DRAM. -/

namespace Sys2Proof.Laws

open Sys2Proof Sys2Proof.Machine

set_option linter.all false

@[simp] theorem withSlots_tiles_dram (s : State) (slots : List Slot) :
    (s.withSlots slots).tiles.dram = s.tiles.dram := by
  unfold State.withSlots; (try dsimp only); (repeat' split) <;> (first | (simp; done) | rfl | (simp_all; done))

@[simp] theorem withSlots_fetch_fields (s : State) (slots : List Slot) :
    (s.withSlots slots).fetch.tag = s.fetch.tag ∧ (s.withSlots slots).fetch.hold = s.fetch.hold ∧ (s.withSlots slots).fetch.answer = s.fetch.answer ∧ (s.withSlots slots).fetch.timer = s.fetch.timer ∧ (s.withSlots slots).fetch.wants = s.fetch.wants ∧ (s.withSlots slots).fetch.prefetch = s.fetch.prefetch := by
  refine ⟨?_, ?_, ?_, ?_, ?_, ?_⟩ <;> (unfold State.withSlots; (try dsimp only); (repeat' split) <;> (first | (simp; done) | rfl | (simp_all; done)))

@[simp] theorem keepRefs_tiles_dram (s : State) (keep : Ref → Bool) :
    (s.keepRefs keep).tiles.dram = s.tiles.dram := by
  unfold State.keepRefs; (try dsimp only); (repeat' split) <;> (first | (simp; done) | rfl | (simp_all; done))

@[simp] theorem keepRefs_fetch_fields (s : State) (keep : Ref → Bool) :
    (s.keepRefs keep).fetch.tag = s.fetch.tag ∧ (s.keepRefs keep).fetch.hold = s.fetch.hold ∧ (s.keepRefs keep).fetch.answer = s.fetch.answer ∧ (s.keepRefs keep).fetch.timer = s.fetch.timer ∧ (s.keepRefs keep).fetch.wants = s.fetch.wants ∧ (s.keepRefs keep).fetch.prefetch = s.fetch.prefetch := by
  refine ⟨?_, ?_, ?_, ?_, ?_, ?_⟩ <;> (unfold State.keepRefs; (try dsimp only); (repeat' split) <;> (first | (simp; done) | rfl | (simp_all; done)))

@[simp] theorem addRefs_tiles_dram (s : State) (slot : Nat) (new : List Ref) :
    (s.addRefs slot new).tiles.dram = s.tiles.dram := by
  unfold State.addRefs; (try dsimp only); (repeat' split) <;> (first | (simp; done) | rfl | (simp_all; done))

@[simp] theorem addRefs_fetch_fields (s : State) (slot : Nat) (new : List Ref) :
    (s.addRefs slot new).fetch.tag = s.fetch.tag ∧ (s.addRefs slot new).fetch.hold = s.fetch.hold ∧ (s.addRefs slot new).fetch.answer = s.fetch.answer ∧ (s.addRefs slot new).fetch.timer = s.fetch.timer ∧ (s.addRefs slot new).fetch.wants = s.fetch.wants ∧ (s.addRefs slot new).fetch.prefetch = s.fetch.prefetch := by
  refine ⟨?_, ?_, ?_, ?_, ?_, ?_⟩ <;> (unfold State.addRefs; (try dsimp only); (repeat' split) <;> (first | (simp; done) | rfl | (simp_all; done)))

@[simp] theorem dropPrefetch_tiles_dram (s : State) (page : Nat) :
    (s.dropPrefetch page).tiles.dram = s.tiles.dram := by
  unfold State.dropPrefetch; (try dsimp only); (repeat' split) <;> (first | (simp; done) | rfl | (simp_all; done))

@[simp] theorem dropPrefetch_fetch_fields (s : State) (page : Nat) :
    (s.dropPrefetch page).fetch.tag = s.fetch.tag ∧ (s.dropPrefetch page).fetch.hold = s.fetch.hold ∧ (s.dropPrefetch page).fetch.answer = s.fetch.answer ∧ (s.dropPrefetch page).fetch.timer = s.fetch.timer ∧ (s.dropPrefetch page).fetch.wants = s.fetch.wants := by
  refine ⟨?_, ?_, ?_, ?_, ?_⟩ <;> (unfold State.dropPrefetch; (try dsimp only); (repeat' split) <;> (first | (simp; done) | rfl | (simp_all; done)))

@[simp] theorem newPrefetch_fetch_fields (s : State) (page : Nat) :
    (s.newPrefetch page).fetch.list = s.fetch.list ∧ (s.newPrefetch page).fetch.tag = s.fetch.tag ∧ (s.newPrefetch page).fetch.hold = s.fetch.hold ∧ (s.newPrefetch page).fetch.answer = s.fetch.answer ∧ (s.newPrefetch page).fetch.timer = s.fetch.timer ∧ (s.newPrefetch page).fetch.wants = s.fetch.wants := by
  refine ⟨?_, ?_, ?_, ?_, ?_, ?_⟩ <;> (unfold State.newPrefetch; (try dsimp only); (repeat' split) <;> (first | (simp; done) | rfl | (simp_all; done)))

@[simp] theorem request_tiles_dram (s : State) (slot : Nat) (pid : Id32) (refs : List Ref) (retry : Bool) :
    (s.request slot pid refs retry).tiles.dram = s.tiles.dram := by
  unfold State.request; (try dsimp only); (repeat' split) <;> (first | (simp; done) | rfl | (simp_all; done))

@[simp] theorem request_fetch_fields (s : State) (slot : Nat) (pid : Id32) (refs : List Ref) (retry : Bool) :
    (s.request slot pid refs retry).fetch.hold = s.fetch.hold ∧ (s.request slot pid refs retry).fetch.answer = s.fetch.answer ∧ (s.request slot pid refs retry).fetch.wants = s.fetch.wants ∧ (s.request slot pid refs retry).fetch.prefetch = s.fetch.prefetch := by
  refine ⟨?_, ?_, ?_, ?_⟩ <;> (unfold State.request; (try dsimp only); (repeat' split) <;> (first | (simp; done) | rfl | (simp_all; done)))

@[simp] theorem freeSlot_tiles_dram (s : State) (slot : Nat) :
    (s.freeSlot slot).tiles.dram = s.tiles.dram := by
  unfold State.freeSlot; (try dsimp only); (repeat' split) <;> (first | (simp; done) | rfl | (simp_all; done))

@[simp] theorem clearRefs_comp_fields (s : State) (gone : Nat → Bool) :
    (s.clearRefs gone).comp.state = s.comp.state ∧ (s.clearRefs gone).comp.cut = s.comp.cut ∧ (s.clearRefs gone).comp.tracker = s.comp.tracker := by
  refine ⟨?_, ?_, ?_⟩ <;> (unfold State.clearRefs; (try dsimp only); (repeat' split) <;> (first | (simp; done) | rfl | (simp_all; done)))

@[simp] theorem flushFetch_comp_fields (s : State) :
    (s.flushFetch).comp.state = s.comp.state ∧ (s.flushFetch).comp.cut = s.comp.cut ∧ (s.flushFetch).comp.tracker = s.comp.tracker :=
  ⟨by unfold State.flushFetch; (try dsimp only); (repeat' split) <;> (first | (simp; done) | rfl | (simp [foldl_keeps (fun t : State => t.comp.state)]; done) | (rw [foldl_keeps (fun t : State => t.comp.state)] <;> first | (simp; done) | (intros; simp; done) | (intros; split <;> simp; done))), by unfold State.flushFetch; (try dsimp only); (repeat' split) <;> (first | (simp; done) | rfl | (simp [foldl_keeps (fun t : State => t.comp.cut)]; done) | (rw [foldl_keeps (fun t : State => t.comp.cut)] <;> first | (simp; done) | (intros; simp; done) | (intros; split <;> simp; done))), by unfold State.flushFetch; (try dsimp only); (repeat' split) <;> (first | (simp; done) | rfl | (simp [foldl_keeps (fun t : State => t.comp.tracker)]; done) | (rw [foldl_keeps (fun t : State => t.comp.tracker)] <;> first | (simp; done) | (intros; simp; done) | (intros; split <;> simp; done)))⟩

@[simp] theorem flushFetch_tiles_dram (s : State) :
    (s.flushFetch).tiles.dram = s.tiles.dram := by
  unfold State.flushFetch; (try dsimp only); (repeat' split) <;> (first | (simp; done) | rfl | (simp [foldl_keeps (fun t : State => t.tiles.dram)]; done) | (rw [foldl_keeps (fun t : State => t.tiles.dram)] <;> first | (simp; done) | (intros; simp; done) | (intros; split <;> simp; done)))

@[simp] theorem flushFetch_fetch_fields (s : State) :
    (s.flushFetch).fetch.tag = s.fetch.tag ∧ (s.flushFetch).fetch.prefetch = s.fetch.prefetch :=
  ⟨by unfold State.flushFetch; (try dsimp only); (repeat' split) <;> (first | (simp; done) | rfl | (simp [foldl_keeps (fun t : State => t.fetch.tag)]; done) | (rw [foldl_keeps (fun t : State => t.fetch.tag)] <;> first | (simp; done) | (intros; simp; done) | (intros; split <;> simp; done))), by unfold State.flushFetch; (try dsimp only); (repeat' split) <;> (first | (simp; done) | rfl | (simp [foldl_keeps (fun t : State => t.fetch.prefetch)]; done) | (rw [foldl_keeps (fun t : State => t.fetch.prefetch)] <;> first | (simp; done) | (intros; simp; done) | (intros; split <;> simp; done)))⟩

@[simp] theorem leaveWork_tiles_dram (s : State) (page : Nat) :
    (s.leaveWork page).tiles.dram = s.tiles.dram := by
  unfold State.leaveWork; (try dsimp only); (repeat' split) <;> (first | (simp; done) | rfl | (simp_all; done))

@[simp] theorem leaveWork_fetch_fields (s : State) (page : Nat) :
    (s.leaveWork page).fetch.tag = s.fetch.tag ∧ (s.leaveWork page).fetch.hold = s.fetch.hold ∧ (s.leaveWork page).fetch.answer = s.fetch.answer ∧ (s.leaveWork page).fetch.timer = s.fetch.timer ∧ (s.leaveWork page).fetch.wants = s.fetch.wants := by
  refine ⟨?_, ?_, ?_, ?_, ?_⟩ <;> (unfold State.leaveWork; (try dsimp only); (repeat' split) <;> (first | (simp; done) | rfl | (simp_all; done)))

@[simp] theorem handOff_tiles_dram (s : State) (subjects : List Nat) :
    (s.handOff subjects).tiles.dram = s.tiles.dram := by
  unfold State.handOff; (try dsimp only); (repeat' split) <;> (first | (simp; done) | rfl | (simp_all; done))

@[simp] theorem handOff_fetch_fields (s : State) (subjects : List Nat) :
    (s.handOff subjects).fetch.tag = s.fetch.tag ∧ (s.handOff subjects).fetch.hold = s.fetch.hold ∧ (s.handOff subjects).fetch.answer = s.fetch.answer ∧ (s.handOff subjects).fetch.timer = s.fetch.timer ∧ (s.handOff subjects).fetch.wants = s.fetch.wants := by
  refine ⟨?_, ?_, ?_, ?_, ?_⟩ <;> (unfold State.handOff; (try dsimp only); (repeat' split) <;> (first | (simp; done) | rfl | (simp_all; done)))

@[simp] theorem applyBatch_tiles_dram (s : State) (b : Batch) :
    (s.applyBatch b).tiles.dram = s.tiles.dram := by
  unfold State.applyBatch; (try dsimp only); (repeat' split) <;> (first | (simp; done) | rfl | (simp_all; done))

@[simp] theorem applyBatch_fetch_fields (s : State) (b : Batch) :
    (s.applyBatch b).fetch.tag = s.fetch.tag ∧ (s.applyBatch b).fetch.hold = s.fetch.hold ∧ (s.applyBatch b).fetch.answer = s.fetch.answer ∧ (s.applyBatch b).fetch.timer = s.fetch.timer ∧ (s.applyBatch b).fetch.wants = s.fetch.wants := by
  refine ⟨?_, ?_, ?_, ?_, ?_⟩ <;> (unfold State.applyBatch; (try dsimp only); (repeat' split) <;> (first | (simp; done) | rfl | (simp_all; done)))

@[simp] theorem applyWaiting_tiles_dram (s : State) :
    (s.applyWaiting).tiles.dram = s.tiles.dram := by
  unfold State.applyWaiting; (try dsimp only); (repeat' split) <;> (first | (simp; done) | rfl | (simp [foldl_keeps (fun t : State => t.tiles.dram)]; done) | (rw [foldl_keeps (fun t : State => t.tiles.dram)] <;> first | (simp; done) | (intros; simp; done) | (intros; split <;> simp; done)))

@[simp] theorem applyWaiting_fetch_fields (s : State) :
    (s.applyWaiting).fetch.tag = s.fetch.tag ∧ (s.applyWaiting).fetch.hold = s.fetch.hold ∧ (s.applyWaiting).fetch.answer = s.fetch.answer ∧ (s.applyWaiting).fetch.timer = s.fetch.timer ∧ (s.applyWaiting).fetch.wants = s.fetch.wants :=
  ⟨by unfold State.applyWaiting; (try dsimp only); (repeat' split) <;> (first | (simp; done) | rfl | (simp [foldl_keeps (fun t : State => t.fetch.tag)]; done) | (rw [foldl_keeps (fun t : State => t.fetch.tag)] <;> first | (simp; done) | (intros; simp; done) | (intros; split <;> simp; done))), by unfold State.applyWaiting; (try dsimp only); (repeat' split) <;> (first | (simp; done) | rfl | (simp [foldl_keeps (fun t : State => t.fetch.hold)]; done) | (rw [foldl_keeps (fun t : State => t.fetch.hold)] <;> first | (simp; done) | (intros; simp; done) | (intros; split <;> simp; done))), by unfold State.applyWaiting; (try dsimp only); (repeat' split) <;> (first | (simp; done) | rfl | (simp [foldl_keeps (fun t : State => t.fetch.answer)]; done) | (rw [foldl_keeps (fun t : State => t.fetch.answer)] <;> first | (simp; done) | (intros; simp; done) | (intros; split <;> simp; done))), by unfold State.applyWaiting; (try dsimp only); (repeat' split) <;> (first | (simp; done) | rfl | (simp [foldl_keeps (fun t : State => t.fetch.timer)]; done) | (rw [foldl_keeps (fun t : State => t.fetch.timer)] <;> first | (simp; done) | (intros; simp; done) | (intros; split <;> simp; done))), by unfold State.applyWaiting; (try dsimp only); (repeat' split) <;> (first | (simp; done) | rfl | (simp [foldl_keeps (fun t : State => t.fetch.wants)]; done) | (rw [foldl_keeps (fun t : State => t.fetch.wants)] <;> first | (simp; done) | (intros; simp; done) | (intros; split <;> simp; done)))⟩

@[simp] theorem requestCut_comp_fields (s : State) :
    (s.requestCut).comp.state = s.comp.state ∧ (s.requestCut).comp.held = s.comp.held ∧ (s.requestCut).comp.tracker = s.comp.tracker := by
  refine ⟨?_, ?_, ?_⟩ <;> (unfold State.requestCut; (try dsimp only); (repeat' split) <;> (first | (simp; done) | rfl | (simp_all; done)))

@[simp] theorem enqueueBatch_comp_fields (s : State) (b : Batch) :
    (s.enqueueBatch b).comp.state = s.comp.state ∧ (s.enqueueBatch b).comp.held = s.comp.held ∧ (s.enqueueBatch b).comp.tracker = s.comp.tracker := by
  refine ⟨?_, ?_, ?_⟩ <;> (unfold State.enqueueBatch; (try dsimp only); (repeat' split) <;> (first | (simp; done) | rfl | (simp_all; done)))

@[simp] theorem enqueueBatch_tiles_dram (s : State) (b : Batch) :
    (s.enqueueBatch b).tiles.dram = s.tiles.dram := by
  unfold State.enqueueBatch; (try dsimp only); (repeat' split) <;> (first | (simp; done) | rfl | (simp_all; done))

@[simp] theorem enqueueBatch_fetch_fields (s : State) (b : Batch) :
    (s.enqueueBatch b).fetch.tag = s.fetch.tag ∧ (s.enqueueBatch b).fetch.hold = s.fetch.hold ∧ (s.enqueueBatch b).fetch.answer = s.fetch.answer ∧ (s.enqueueBatch b).fetch.timer = s.fetch.timer ∧ (s.enqueueBatch b).fetch.wants = s.fetch.wants := by
  refine ⟨?_, ?_, ?_, ?_, ?_⟩ <;> (unfold State.enqueueBatch; (try dsimp only); (repeat' split) <;> (first | (simp; done) | rfl | (simp_all; done)))

@[simp] theorem requeueSpoiled_fetch_fields (s : State) (e : WorkEntry) :
    (s.requeueSpoiled e).fetch.list = s.fetch.list ∧ (s.requeueSpoiled e).fetch.tag = s.fetch.tag ∧ (s.requeueSpoiled e).fetch.hold = s.fetch.hold ∧ (s.requeueSpoiled e).fetch.answer = s.fetch.answer ∧ (s.requeueSpoiled e).fetch.timer = s.fetch.timer ∧ (s.requeueSpoiled e).fetch.wants = s.fetch.wants := by
  refine ⟨?_, ?_, ?_, ?_, ?_, ?_⟩ <;> (unfold State.requeueSpoiled; (try dsimp only); (repeat' split) <;> (first | (simp; done) | rfl | (simp_all; done)))

@[simp] theorem claimOutcome_fetch_fields (s : State) (sh : Sheet) (o : EngineOutcome) :
    (s.claimOutcome sh o).fetch.list = s.fetch.list ∧ (s.claimOutcome sh o).fetch.tag = s.fetch.tag ∧ (s.claimOutcome sh o).fetch.hold = s.fetch.hold ∧ (s.claimOutcome sh o).fetch.answer = s.fetch.answer ∧ (s.claimOutcome sh o).fetch.timer = s.fetch.timer ∧ (s.claimOutcome sh o).fetch.wants = s.fetch.wants := by
  refine ⟨?_, ?_, ?_, ?_, ?_, ?_⟩ <;> (unfold State.claimOutcome; (try dsimp only); (repeat' split) <;> (first | (simp; done) | rfl | (simp_all; done)))

@[simp] theorem dropWork_tiles_dram (s : State) :
    (s.dropWork).tiles.dram = s.tiles.dram := by
  unfold State.dropWork; (try dsimp only); (repeat' split) <;> (first | (simp; done) | rfl | (simp_all; done))

@[simp] theorem dropWork_fetch_fields (s : State) :
    (s.dropWork).fetch.tag = s.fetch.tag ∧ (s.dropWork).fetch.hold = s.fetch.hold ∧ (s.dropWork).fetch.answer = s.fetch.answer ∧ (s.dropWork).fetch.timer = s.fetch.timer ∧ (s.dropWork).fetch.wants = s.fetch.wants := by
  refine ⟨?_, ?_, ?_, ?_, ?_⟩ <;> (unfold State.dropWork; (try dsimp only); (repeat' split) <;> (first | (simp; done) | rfl | (simp_all; done)))

@[simp] theorem tryEnd_fetch_fields (s : State) :
    (s.tryEnd).fetch.list = s.fetch.list ∧ (s.tryEnd).fetch.tag = s.fetch.tag ∧ (s.tryEnd).fetch.hold = s.fetch.hold ∧ (s.tryEnd).fetch.answer = s.fetch.answer ∧ (s.tryEnd).fetch.timer = s.fetch.timer ∧ (s.tryEnd).fetch.wants = s.fetch.wants :=
  ⟨by unfold State.tryEnd; (try dsimp only); (repeat' split) <;> (first | (simp; done) | rfl | (simp [foldl_keeps (fun t : State => t.fetch.list)]; done) | (rw [foldl_keeps (fun t : State => t.fetch.list)] <;> first | (simp; done) | (intros; simp; done) | (intros; split <;> simp; done))), by unfold State.tryEnd; (try dsimp only); (repeat' split) <;> (first | (simp; done) | rfl | (simp [foldl_keeps (fun t : State => t.fetch.tag)]; done) | (rw [foldl_keeps (fun t : State => t.fetch.tag)] <;> first | (simp; done) | (intros; simp; done) | (intros; split <;> simp; done))), by unfold State.tryEnd; (try dsimp only); (repeat' split) <;> (first | (simp; done) | rfl | (simp [foldl_keeps (fun t : State => t.fetch.hold)]; done) | (rw [foldl_keeps (fun t : State => t.fetch.hold)] <;> first | (simp; done) | (intros; simp; done) | (intros; split <;> simp; done))), by unfold State.tryEnd; (try dsimp only); (repeat' split) <;> (first | (simp; done) | rfl | (simp [foldl_keeps (fun t : State => t.fetch.answer)]; done) | (rw [foldl_keeps (fun t : State => t.fetch.answer)] <;> first | (simp; done) | (intros; simp; done) | (intros; split <;> simp; done))), by unfold State.tryEnd; (try dsimp only); (repeat' split) <;> (first | (simp; done) | rfl | (simp [foldl_keeps (fun t : State => t.fetch.timer)]; done) | (rw [foldl_keeps (fun t : State => t.fetch.timer)] <;> first | (simp; done) | (intros; simp; done) | (intros; split <;> simp; done))), by unfold State.tryEnd; (try dsimp only); (repeat' split) <;> (first | (simp; done) | rfl | (simp [foldl_keeps (fun t : State => t.fetch.wants)]; done) | (rw [foldl_keeps (fun t : State => t.fetch.wants)] <;> first | (simp; done) | (intros; simp; done) | (intros; split <;> simp; done)))⟩

@[simp] theorem flushSheets_lane_fields (s : State) :
    (s.flushSheets).lane.delivered = s.lane.delivered ∧ (s.flushSheets).lane.sent = s.lane.sent ∧ (s.flushSheets).lane.inFlight = s.lane.inFlight := by
  refine ⟨?_, ?_, ?_⟩ <;> (unfold State.flushSheets; (try dsimp only); (repeat' split) <;> (first | (simp; done) | rfl | (simp_all; done)))

@[simp] theorem cutForRecovery_comp_fields (s : State) :
    (s.cutForRecovery).comp.state = s.comp.state ∧ (s.cutForRecovery).comp.held = s.comp.held ∧ (s.cutForRecovery).comp.tracker = s.comp.tracker := by
  refine ⟨?_, ?_, ?_⟩ <;> (unfold State.cutForRecovery; (try dsimp only); (repeat' split) <;> (first | (simp; done) | rfl | (simp_all; done)))

@[simp] theorem recoverLink_comp_fields (s : State) (cause : Cause) (named : Option Nat) :
    (s.recoverLink cause named).comp.state = s.comp.state ∧ (s.recoverLink cause named).comp.tracker = s.comp.tracker :=
  ⟨by unfold State.recoverLink; (try dsimp only); (repeat' split) <;> (first | (simp; done) | rfl | (simp [foldl_keeps (fun t : State => t.comp.state)]; done) | (rw [foldl_keeps (fun t : State => t.comp.state)] <;> first | (simp; done) | (intros; simp; done) | (intros; split <;> simp; done))), by unfold State.recoverLink; (try dsimp only); (repeat' split) <;> (first | (simp; done) | rfl | (simp [foldl_keeps (fun t : State => t.comp.tracker)]; done) | (rw [foldl_keeps (fun t : State => t.comp.tracker)] <;> first | (simp; done) | (intros; simp; done) | (intros; split <;> simp; done)))⟩

@[simp] theorem recoverLink_tiles_dram (s : State) (cause : Cause) (named : Option Nat) :
    (s.recoverLink cause named).tiles.dram = s.tiles.dram := by
  unfold State.recoverLink; (try dsimp only); (repeat' split) <;> (first | (simp; done) | rfl | (simp [foldl_keeps (fun t : State => t.tiles.dram)]; done) | (rw [foldl_keeps (fun t : State => t.tiles.dram)] <;> first | (simp; done) | (intros; simp; done) | (intros; split <;> simp; done)))

@[simp] theorem recoverLink_fetch_fields (s : State) (cause : Cause) (named : Option Nat) :
    (s.recoverLink cause named).fetch.tag = s.fetch.tag ∧ (s.recoverLink cause named).fetch.prefetch = s.fetch.prefetch :=
  ⟨by unfold State.recoverLink; (try dsimp only); (repeat' split) <;> (first | (simp; done) | rfl | (simp [foldl_keeps (fun t : State => t.fetch.tag)]; done) | (rw [foldl_keeps (fun t : State => t.fetch.tag)] <;> first | (simp; done) | (intros; simp; done) | (intros; split <;> simp; done))), by unfold State.recoverLink; (try dsimp only); (repeat' split) <;> (first | (simp; done) | rfl | (simp [foldl_keeps (fun t : State => t.fetch.prefetch)]; done) | (rw [foldl_keeps (fun t : State => t.fetch.prefetch)] <;> first | (simp; done) | (intros; simp; done) | (intros; split <;> simp; done)))⟩

@[simp] theorem recoverEngine_comp_fields (s : State) :
    (s.recoverEngine).comp.state = s.comp.state ∧ (s.recoverEngine).comp.held = s.comp.held ∧ (s.recoverEngine).comp.tracker = s.comp.tracker :=
  ⟨by unfold State.recoverEngine; (try dsimp only); (repeat' split) <;> (first | (simp; done) | rfl | (simp [foldl_keeps (fun t : State => t.comp.state)]; done) | (rw [foldl_keeps (fun t : State => t.comp.state)] <;> first | (simp; done) | (intros; simp; done) | (intros; split <;> simp; done))), by unfold State.recoverEngine; (try dsimp only); (repeat' split) <;> (first | (simp; done) | rfl | (simp [foldl_keeps (fun t : State => t.comp.held)]; done) | (rw [foldl_keeps (fun t : State => t.comp.held)] <;> first | (simp; done) | (intros; simp; done) | (intros; split <;> simp; done))), by unfold State.recoverEngine; (try dsimp only); (repeat' split) <;> (first | (simp; done) | rfl | (simp [foldl_keeps (fun t : State => t.comp.tracker)]; done) | (rw [foldl_keeps (fun t : State => t.comp.tracker)] <;> first | (simp; done) | (intros; simp; done) | (intros; split <;> simp; done)))⟩

@[simp] theorem recoverEngine_lane_fields (s : State) :
    (s.recoverEngine).lane.delivered = s.lane.delivered ∧ (s.recoverEngine).lane.sent = s.lane.sent ∧ (s.recoverEngine).lane.inFlight = s.lane.inFlight :=
  ⟨by unfold State.recoverEngine; (try dsimp only); (repeat' split) <;> (first | (simp; done) | rfl | (simp [foldl_keeps (fun t : State => t.lane.delivered)]; done) | (rw [foldl_keeps (fun t : State => t.lane.delivered)] <;> first | (simp; done) | (intros; simp; done) | (intros; split <;> simp; done))), by unfold State.recoverEngine; (try dsimp only); (repeat' split) <;> (first | (simp; done) | rfl | (simp [foldl_keeps (fun t : State => t.lane.sent)]; done) | (rw [foldl_keeps (fun t : State => t.lane.sent)] <;> first | (simp; done) | (intros; simp; done) | (intros; split <;> simp; done))), by unfold State.recoverEngine; (try dsimp only); (repeat' split) <;> (first | (simp; done) | rfl | (simp [foldl_keeps (fun t : State => t.lane.inFlight)]; done) | (rw [foldl_keeps (fun t : State => t.lane.inFlight)] <;> first | (simp; done) | (intros; simp; done) | (intros; split <;> simp; done)))⟩

@[simp] theorem cutIfHeld_comp_fields (s : State) (page : Option Nat) :
    (s.cutIfHeld page).comp.state = s.comp.state ∧ (s.cutIfHeld page).comp.held = s.comp.held ∧ (s.cutIfHeld page).comp.tracker = s.comp.tracker := by
  refine ⟨?_, ?_, ?_⟩ <;> (unfold State.cutIfHeld; (try dsimp only); (repeat' split) <;> (first | (simp; done) | rfl | (simp_all; done)))

@[simp] theorem recoverClaimLost_comp_fields (s : State) (page : Option Nat) :
    (s.recoverClaimLost page).comp.state = s.comp.state ∧ (s.recoverClaimLost page).comp.held = s.comp.held ∧ (s.recoverClaimLost page).comp.tracker = s.comp.tracker := by
  refine ⟨?_, ?_, ?_⟩ <;> (unfold State.recoverClaimLost; (try dsimp only); (repeat' split) <;> (first | (simp; done) | rfl | (simp_all; done)))

@[simp] theorem recoverSilent_comp_fields (s : State) :
    (s.recoverSilent).comp.state = s.comp.state ∧ (s.recoverSilent).comp.held = s.comp.held ∧ (s.recoverSilent).comp.tracker = s.comp.tracker := by
  refine ⟨?_, ?_, ?_⟩ <;> (unfold State.recoverSilent; (try dsimp only); (repeat' split) <;> (first | (simp; done) | rfl | (simp_all; done)))

@[simp] theorem recoverSilent_tiles_dram (s : State) :
    (s.recoverSilent).tiles.dram = s.tiles.dram := by
  unfold State.recoverSilent; (try dsimp only); (repeat' split) <;> (first | (simp; done) | rfl | (simp_all; done))

@[simp] theorem recoverSilent_fetch_fields (s : State) :
    (s.recoverSilent).fetch.tag = s.fetch.tag ∧ (s.recoverSilent).fetch.hold = s.fetch.hold ∧ (s.recoverSilent).fetch.answer = s.fetch.answer ∧ (s.recoverSilent).fetch.timer = s.fetch.timer ∧ (s.recoverSilent).fetch.wants = s.fetch.wants := by
  refine ⟨?_, ?_, ?_, ?_, ?_⟩ <;> (unfold State.recoverSilent; (try dsimp only); (repeat' split) <;> (first | (simp; done) | rfl | (simp_all; done)))

@[simp] theorem halt_comp_fields (s : State) :
    (s.halt).comp.state = s.comp.state ∧ (s.halt).comp.held = s.comp.held ∧ (s.halt).comp.tracker = s.comp.tracker := by
  refine ⟨?_, ?_, ?_⟩ <;> (unfold State.halt; (try dsimp only); (repeat' split) <;> (first | (simp; done) | rfl | (simp_all; done)))

@[simp] theorem halt_tiles_dram (s : State) :
    (s.halt).tiles.dram = s.tiles.dram := by
  unfold State.halt; (try dsimp only); (repeat' split) <;> (first | (simp; done) | rfl | (simp_all; done))

@[simp] theorem halt_fetch_fields (s : State) :
    (s.halt).fetch.tag = s.fetch.tag ∧ (s.halt).fetch.hold = s.fetch.hold ∧ (s.halt).fetch.answer = s.fetch.answer ∧ (s.halt).fetch.timer = s.fetch.timer ∧ (s.halt).fetch.wants = s.fetch.wants := by
  refine ⟨?_, ?_, ?_, ?_, ?_⟩ <;> (unfold State.halt; (try dsimp only); (repeat' split) <;> (first | (simp; done) | rfl | (simp_all; done)))

@[simp] theorem recover_comp_fields (s : State) (cause : Cause) (page : Option Nat) :
    (s.recover cause page).comp.state = s.comp.state ∧ (s.recover cause page).comp.tracker = s.comp.tracker := by
  refine ⟨?_, ?_⟩ <;> (unfold State.recover; (try dsimp only); (repeat' split) <;> (first | (simp; done) | rfl | (simp_all; done)))

@[simp] theorem recover_tiles_dram (s : State) (cause : Cause) (page : Option Nat) :
    (s.recover cause page).tiles.dram = s.tiles.dram := by
  unfold State.recover; (try dsimp only); (repeat' split) <;> (first | (simp; done) | rfl | (simp_all; done))

@[simp] theorem recover_fetch_tag (s : State) (cause : Cause) (page : Option Nat) :
    (s.recover cause page).fetch.tag = s.fetch.tag := by
  unfold State.recover; (try dsimp only); (repeat' split) <;> (first | (simp; done) | rfl | (simp_all; done))

@[simp] theorem recover_lane_fields (s : State) (cause : Cause) (page : Option Nat) :
    (s.recover cause page).lane.delivered = s.lane.delivered ∧ (s.recover cause page).lane.sent = s.lane.sent ∧ (s.recover cause page).lane.inFlight = s.lane.inFlight := by
  refine ⟨?_, ?_, ?_⟩ <;> (unfold State.recover; (try dsimp only); (repeat' split) <;> (first | (simp; done) | rfl | (simp_all; done)))

@[simp] theorem followOnActs_comp_fields (s : State) (cause : Cause) (page : Option Nat) :
    (s.followOnActs cause page).comp.state = s.comp.state ∧ (s.followOnActs cause page).comp.tracker = s.comp.tracker := by
  refine ⟨?_, ?_⟩ <;> (unfold State.followOnActs; (try dsimp only); (repeat' split) <;> (first | (simp; done) | rfl | (simp_all; done)))

@[simp] theorem followOnActs_tiles_dram (s : State) (cause : Cause) (page : Option Nat) :
    (s.followOnActs cause page).tiles.dram = s.tiles.dram := by
  unfold State.followOnActs; (try dsimp only); (repeat' split) <;> (first | (simp; done) | rfl | (simp_all; done))

@[simp] theorem followOnActs_fetch_tag (s : State) (cause : Cause) (page : Option Nat) :
    (s.followOnActs cause page).fetch.tag = s.fetch.tag := by
  unfold State.followOnActs; (try dsimp only); (repeat' split) <;> (first | (simp; done) | rfl | (simp_all; done))

@[simp] theorem raise_comp_fields (s : State) (cause : Cause) (page cell : Option Nat) (detail : Nat) :
    (s.raise cause page cell detail).comp.state = s.comp.state ∧ (s.raise cause page cell detail).comp.tracker = s.comp.tracker := by
  refine ⟨?_, ?_⟩ <;> (unfold State.raise; (try dsimp only); (repeat' split) <;> (first | (simp; done) | rfl | (simp_all; done)))

@[simp] theorem raise_tiles_dram (s : State) (cause : Cause) (page cell : Option Nat) (detail : Nat) :
    (s.raise cause page cell detail).tiles.dram = s.tiles.dram := by
  unfold State.raise; (try dsimp only); (repeat' split) <;> (first | (simp; done) | rfl | (simp_all; done))

@[simp] theorem raise_fetch_tag (s : State) (cause : Cause) (page cell : Option Nat) (detail : Nat) :
    (s.raise cause page cell detail).fetch.tag = s.fetch.tag := by
  unfold State.raise; (try dsimp only); (repeat' split) <;> (first | (simp; done) | rfl | (simp_all; done))

@[simp] theorem raise_lane_fields (s : State) (cause : Cause) (page cell : Option Nat) (detail : Nat) :
    (s.raise cause page cell detail).lane.delivered = s.lane.delivered ∧ (s.raise cause page cell detail).lane.sent = s.lane.sent ∧ (s.raise cause page cell detail).lane.inFlight = s.lane.inFlight := by
  refine ⟨?_, ?_, ?_⟩ <;> (unfold State.raise; (try dsimp only); (repeat' split) <;> (first | (simp; done) | rfl | (simp_all; done)))

@[simp] theorem abandon_comp_fields (s : State) (case : Nat) :
    (s.abandon case).comp.state = s.comp.state ∧ (s.abandon case).comp.tracker = s.comp.tracker := by
  refine ⟨?_, ?_⟩ <;> (unfold State.abandon; (try dsimp only); (repeat' split) <;> (first | (simp; done) | rfl | (simp_all; done)))

@[simp] theorem unexpected_comp_fields (s : State) :
    (s.unexpected).comp.state = s.comp.state ∧ (s.unexpected).comp.tracker = s.comp.tracker := by
  refine ⟨?_, ?_⟩ <;> (unfold State.unexpected; (try dsimp only); (repeat' split) <;> (first | (simp; done) | rfl | (simp_all; done)))

@[simp] theorem abandon_tiles_dram (s : State) (case : Nat) :
    (s.abandon case).tiles.dram = s.tiles.dram := by
  unfold State.abandon; (try dsimp only); (repeat' split) <;> (first | (simp; done) | rfl | (simp_all; done))

@[simp] theorem unexpected_tiles_dram (s : State) :
    (s.unexpected).tiles.dram = s.tiles.dram := by
  unfold State.unexpected; (try dsimp only); (repeat' split) <;> (first | (simp; done) | rfl | (simp_all; done))

@[simp] theorem abandon_fetch_tag (s : State) (case : Nat) :
    (s.abandon case).fetch.tag = s.fetch.tag := by
  unfold State.abandon; (try dsimp only); (repeat' split) <;> (first | (simp; done) | rfl | (simp_all; done))

@[simp] theorem unexpected_fetch_tag (s : State) :
    (s.unexpected).fetch.tag = s.fetch.tag := by
  unfold State.unexpected; (try dsimp only); (repeat' split) <;> (first | (simp; done) | rfl | (simp_all; done))

@[simp] theorem abandon_lane_fields (s : State) (case : Nat) :
    (s.abandon case).lane.delivered = s.lane.delivered ∧ (s.abandon case).lane.sent = s.lane.sent ∧ (s.abandon case).lane.inFlight = s.lane.inFlight := by
  refine ⟨?_, ?_, ?_⟩ <;> (unfold State.abandon; (try dsimp only); (repeat' split) <;> (first | (simp; done) | rfl | (simp_all; done)))

@[simp] theorem unexpected_lane_fields (s : State) :
    (s.unexpected).lane.delivered = s.lane.delivered ∧ (s.unexpected).lane.sent = s.lane.sent ∧ (s.unexpected).lane.inFlight = s.lane.inFlight := by
  refine ⟨?_, ?_, ?_⟩ <;> (unfold State.unexpected; (try dsimp only); (repeat' split) <;> (first | (simp; done) | rfl | (simp_all; done)))

@[simp] theorem judgeCollection_comp_fields (s : State) (c : Collection) :
    (s.judgeCollection c).comp.state = s.comp.state ∧ (s.judgeCollection c).comp.tracker = s.comp.tracker := by
  refine ⟨?_, ?_⟩ <;> (unfold State.judgeCollection; (try dsimp only); (repeat' split) <;> (first | (simp; done) | rfl | (simp_all; done)))

@[simp] theorem judgeCollection_tiles_dram (s : State) (c : Collection) :
    (s.judgeCollection c).tiles.dram = s.tiles.dram := by
  unfold State.judgeCollection; (try dsimp only); (repeat' split) <;> (first | (simp; done) | rfl | (simp_all; done))

@[simp] theorem judgeCollection_fetch_tag (s : State) (c : Collection) :
    (s.judgeCollection c).fetch.tag = s.fetch.tag := by
  unfold State.judgeCollection; (try dsimp only); (repeat' split) <;> (first | (simp; done) | rfl | (simp_all; done))

@[simp] theorem judgeCollection_lane_fields (s : State) (c : Collection) :
    (s.judgeCollection c).lane.delivered = s.lane.delivered ∧ (s.judgeCollection c).lane.sent = s.lane.sent ∧ (s.judgeCollection c).lane.inFlight = s.lane.inFlight := by
  refine ⟨?_, ?_, ?_⟩ <;> (unfold State.judgeCollection; (try dsimp only); (repeat' split) <;> (first | (simp; done) | rfl | (simp_all; done)))

@[simp] theorem advance_comp_fields (s : State) (c : Collection) :
    (s.advance c).comp.state = s.comp.state ∧ (s.advance c).comp.tracker = s.comp.tracker := by
  refine ⟨?_, ?_⟩ <;> (unfold State.advance; (try dsimp only); (repeat' split) <;> (first | (simp; done) | rfl | (simp_all; done)))

@[simp] theorem advance_tiles_dram (s : State) (c : Collection) :
    (s.advance c).tiles.dram = s.tiles.dram := by
  unfold State.advance; (try dsimp only); (repeat' split) <;> (first | (simp; done) | rfl | (simp_all; done))

@[simp] theorem advance_fetch_tag (s : State) (c : Collection) :
    (s.advance c).fetch.tag = s.fetch.tag := by
  unfold State.advance; (try dsimp only); (repeat' split) <;> (first | (simp; done) | rfl | (simp_all; done))

@[simp] theorem advance_lane_fields (s : State) (c : Collection) :
    (s.advance c).lane.delivered = s.lane.delivered ∧ (s.advance c).lane.sent = s.lane.sent ∧ (s.advance c).lane.inFlight = s.lane.inFlight := by
  refine ⟨?_, ?_, ?_⟩ <;> (unfold State.advance; (try dsimp only); (repeat' split) <;> (first | (simp; done) | rfl | (simp_all; done)))

@[simp] theorem collect_comp_fields (s : State) (kept : Option Collection) :
    (s.collect kept).comp.state = s.comp.state ∧ (s.collect kept).comp.tracker = s.comp.tracker := by
  refine ⟨?_, ?_⟩ <;> (unfold State.collect; (try dsimp only); (repeat' split) <;> (first | (simp; done) | rfl | (simp_all; done)))

@[simp] theorem collect_tiles_dram (s : State) (kept : Option Collection) :
    (s.collect kept).tiles.dram = s.tiles.dram := by
  unfold State.collect; (try dsimp only); (repeat' split) <;> (first | (simp; done) | rfl | (simp_all; done))

@[simp] theorem collect_fetch_tag (s : State) (kept : Option Collection) :
    (s.collect kept).fetch.tag = s.fetch.tag := by
  unfold State.collect; (try dsimp only); (repeat' split) <;> (first | (simp; done) | rfl | (simp_all; done))

@[simp] theorem collect_lane_fields (s : State) (kept : Option Collection) :
    (s.collect kept).lane.delivered = s.lane.delivered ∧ (s.collect kept).lane.sent = s.lane.sent ∧ (s.collect kept).lane.inFlight = s.lane.inFlight := by
  refine ⟨?_, ?_, ?_⟩ <;> (unfold State.collect; (try dsimp only); (repeat' split) <;> (first | (simp; done) | rfl | (simp_all; done)))

@[simp] theorem startCollection_comp_fields (s : State) (responder : Nat) (c : Collection) :
    (s.startCollection responder c).comp.state = s.comp.state ∧ (s.startCollection responder c).comp.tracker = s.comp.tracker := by
  refine ⟨?_, ?_⟩ <;> (unfold State.startCollection; (try dsimp only); (repeat' split) <;> (first | (simp; done) | rfl | (simp_all; done)))

@[simp] theorem startCollection_tiles_dram (s : State) (responder : Nat) (c : Collection) :
    (s.startCollection responder c).tiles.dram = s.tiles.dram := by
  unfold State.startCollection; (try dsimp only); (repeat' split) <;> (first | (simp; done) | rfl | (simp_all; done))

@[simp] theorem startCollection_fetch_tag (s : State) (responder : Nat) (c : Collection) :
    (s.startCollection responder c).fetch.tag = s.fetch.tag := by
  unfold State.startCollection; (try dsimp only); (repeat' split) <;> (first | (simp; done) | rfl | (simp_all; done))

@[simp] theorem startCollection_lane_fields (s : State) (responder : Nat) (c : Collection) :
    (s.startCollection responder c).lane.delivered = s.lane.delivered ∧ (s.startCollection responder c).lane.sent = s.lane.sent ∧ (s.startCollection responder c).lane.inFlight = s.lane.inFlight := by
  refine ⟨?_, ?_, ?_⟩ <;> (unfold State.startCollection; (try dsimp only); (repeat' split) <;> (first | (simp; done) | rfl | (simp_all; done)))

@[simp] theorem meetCollection_comp_fields (s : State) (sender : Nat) (f : Frame) :
    (s.meetCollection sender f).comp.state = s.comp.state ∧ (s.meetCollection sender f).comp.tracker = s.comp.tracker := by
  refine ⟨?_, ?_⟩ <;> (unfold State.meetCollection; (try dsimp only); (repeat' split) <;> (first | (simp; done) | rfl | (simp_all; done)))

@[simp] theorem meetCollection_tiles_dram (s : State) (sender : Nat) (f : Frame) :
    (s.meetCollection sender f).tiles.dram = s.tiles.dram := by
  unfold State.meetCollection; (try dsimp only); (repeat' split) <;> (first | (simp; done) | rfl | (simp_all; done))

@[simp] theorem meetCollection_fetch_tag (s : State) (sender : Nat) (f : Frame) :
    (s.meetCollection sender f).fetch.tag = s.fetch.tag := by
  unfold State.meetCollection; (try dsimp only); (repeat' split) <;> (first | (simp; done) | rfl | (simp_all; done))

@[simp] theorem meetCollection_lane_fields (s : State) (sender : Nat) (f : Frame) :
    (s.meetCollection sender f).lane.delivered = s.lane.delivered ∧ (s.meetCollection sender f).lane.sent = s.lane.sent ∧ (s.meetCollection sender f).lane.inFlight = s.lane.inFlight := by
  refine ⟨?_, ?_, ?_⟩ <;> (unfold State.meetCollection; (try dsimp only); (repeat' split) <;> (first | (simp; done) | rfl | (simp_all; done)))

@[simp] theorem passFrame_comp_fields (s : State) (h : FrameHdr) (f : Frame) :
    (s.passFrame h f).comp.state = s.comp.state ∧ (s.passFrame h f).comp.tracker = s.comp.tracker := by
  refine ⟨?_, ?_⟩ <;> (unfold State.passFrame; (try dsimp only); (repeat' split) <;> (first | (simp; done) | rfl | (simp_all; done)))

@[simp] theorem passFrame_tiles_dram (s : State) (h : FrameHdr) (f : Frame) :
    (s.passFrame h f).tiles.dram = s.tiles.dram := by
  unfold State.passFrame; (try dsimp only); (repeat' split) <;> (first | (simp; done) | rfl | (simp_all; done))

@[simp] theorem passFrame_fetch_tag (s : State) (h : FrameHdr) (f : Frame) :
    (s.passFrame h f).fetch.tag = s.fetch.tag := by
  unfold State.passFrame; (try dsimp only); (repeat' split) <;> (first | (simp; done) | rfl | (simp_all; done))

@[simp] theorem passFrame_lane_fields (s : State) (h : FrameHdr) (f : Frame) :
    (s.passFrame h f).lane.delivered = s.lane.delivered ∧ (s.passFrame h f).lane.sent = s.lane.sent ∧ (s.passFrame h f).lane.inFlight = s.lane.inFlight := by
  refine ⟨?_, ?_, ?_⟩ <;> (unfold State.passFrame; (try dsimp only); (repeat' split) <;> (first | (simp; done) | rfl | (simp_all; done)))

@[simp] theorem enterSilent_comp_fields (s : State) (detail : Nat) :
    (s.enterSilent detail).comp.state = s.comp.state ∧ (s.enterSilent detail).comp.tracker = s.comp.tracker := by
  refine ⟨?_, ?_⟩ <;> (unfold State.enterSilent; (try dsimp only); (repeat' split) <;> (first | (simp; done) | rfl | (simp_all; done)))

@[simp] theorem enterSilent_tiles_dram (s : State) (detail : Nat) :
    (s.enterSilent detail).tiles.dram = s.tiles.dram := by
  unfold State.enterSilent; (try dsimp only); (repeat' split) <;> (first | (simp; done) | rfl | (simp_all; done))

@[simp] theorem enterSilent_fetch_tag (s : State) (detail : Nat) :
    (s.enterSilent detail).fetch.tag = s.fetch.tag := by
  unfold State.enterSilent; (try dsimp only); (repeat' split) <;> (first | (simp; done) | rfl | (simp_all; done))

@[simp] theorem enterSilent_lane_fields (s : State) (detail : Nat) :
    (s.enterSilent detail).lane.delivered = s.lane.delivered ∧ (s.enterSilent detail).lane.sent = s.lane.sent ∧ (s.enterSilent detail).lane.inFlight = s.lane.inFlight := by
  refine ⟨?_, ?_, ?_⟩ <;> (unfold State.enterSilent; (try dsimp only); (repeat' split) <;> (first | (simp; done) | rfl | (simp_all; done)))

@[simp] theorem confine_comp_fields (s : State) :
    (s.confine).comp.state = s.comp.state ∧ (s.confine).comp.tracker = s.comp.tracker := by
  refine ⟨?_, ?_⟩ <;> (unfold State.confine; (try dsimp only); (repeat' split) <;> (first | (simp; done) | rfl | (simp_all; done)))

@[simp] theorem confine_tiles_dram (s : State) :
    (s.confine).tiles.dram = s.tiles.dram := by
  unfold State.confine; (try dsimp only); (repeat' split) <;> (first | (simp; done) | rfl | (simp_all; done))

@[simp] theorem confine_fetch_tag (s : State) :
    (s.confine).fetch.tag = s.fetch.tag := by
  unfold State.confine; (try dsimp only); (repeat' split) <;> (first | (simp; done) | rfl | (simp_all; done))

@[simp] theorem confine_lane_fields (s : State) :
    (s.confine).lane.delivered = s.lane.delivered ∧ (s.confine).lane.sent = s.lane.sent ∧ (s.confine).lane.inFlight = s.lane.inFlight := by
  refine ⟨?_, ?_, ?_⟩ <;> (unfold State.confine; (try dsimp only); (repeat' split) <;> (first | (simp; done) | rfl | (simp_all; done)))

@[simp] theorem runBroken_comp_fields (s : State) :
    (s.runBroken).comp.state = s.comp.state ∧ (s.runBroken).comp.tracker = s.comp.tracker := by
  refine ⟨?_, ?_⟩ <;> (unfold State.runBroken; (try dsimp only); (repeat' split) <;> (first | (simp; done) | rfl | (simp_all; done)))

@[simp] theorem runBroken_tiles_dram (s : State) :
    (s.runBroken).tiles.dram = s.tiles.dram := by
  unfold State.runBroken; (try dsimp only); (repeat' split) <;> (first | (simp; done) | rfl | (simp_all; done))

@[simp] theorem runBroken_fetch_tag (s : State) :
    (s.runBroken).fetch.tag = s.fetch.tag := by
  unfold State.runBroken; (try dsimp only); (repeat' split) <;> (first | (simp; done) | rfl | (simp_all; done))

@[simp] theorem runBroken_lane_fields (s : State) :
    (s.runBroken).lane.delivered = s.lane.delivered ∧ (s.runBroken).lane.sent = s.lane.sent ∧ (s.runBroken).lane.inFlight = s.lane.inFlight := by
  refine ⟨?_, ?_, ?_⟩ <;> (unfold State.runBroken; (try dsimp only); (repeat' split) <;> (first | (simp; done) | rfl | (simp_all; done)))

@[simp] theorem takeVeto_comp_fields (s : State) (bits : List Bool) :
    (s.takeVeto bits).comp.state = s.comp.state ∧ (s.takeVeto bits).comp.tracker = s.comp.tracker := by
  refine ⟨?_, ?_⟩ <;> (unfold State.takeVeto; (try dsimp only); (repeat' split) <;> (first | (simp; done) | rfl | (simp_all; done)))

@[simp] theorem vetoFrame_comp_fields (s : State) (x : Heard) :
    (s.vetoFrame x).comp.state = s.comp.state ∧ (s.vetoFrame x).comp.tracker = s.comp.tracker := by
  refine ⟨?_, ?_⟩ <;> (unfold State.vetoFrame; (try dsimp only); (repeat' split) <;> (first | (simp; done) | rfl | (simp_all; done)))

@[simp] theorem takeVeto_tiles_dram (s : State) (bits : List Bool) :
    (s.takeVeto bits).tiles.dram = s.tiles.dram := by
  unfold State.takeVeto; (try dsimp only); (repeat' split) <;> (first | (simp; done) | rfl | (simp_all; done))

@[simp] theorem vetoFrame_tiles_dram (s : State) (x : Heard) :
    (s.vetoFrame x).tiles.dram = s.tiles.dram := by
  unfold State.vetoFrame; (try dsimp only); (repeat' split) <;> (first | (simp; done) | rfl | (simp_all; done))

@[simp] theorem takeVeto_fetch_tag (s : State) (bits : List Bool) :
    (s.takeVeto bits).fetch.tag = s.fetch.tag := by
  unfold State.takeVeto; (try dsimp only); (repeat' split) <;> (first | (simp; done) | rfl | (simp_all; done))

@[simp] theorem vetoFrame_fetch_tag (s : State) (x : Heard) :
    (s.vetoFrame x).fetch.tag = s.fetch.tag := by
  unfold State.vetoFrame; (try dsimp only); (repeat' split) <;> (first | (simp; done) | rfl | (simp_all; done))

@[simp] theorem takeVeto_lane_fields (s : State) (bits : List Bool) :
    (s.takeVeto bits).lane.delivered = s.lane.delivered ∧ (s.takeVeto bits).lane.sent = s.lane.sent ∧ (s.takeVeto bits).lane.inFlight = s.lane.inFlight := by
  refine ⟨?_, ?_, ?_⟩ <;> (unfold State.takeVeto; (try dsimp only); (repeat' split) <;> (first | (simp; done) | rfl | (simp_all; done)))

@[simp] theorem vetoFrame_lane_fields (s : State) (x : Heard) :
    (s.vetoFrame x).lane.delivered = s.lane.delivered ∧ (s.vetoFrame x).lane.sent = s.lane.sent ∧ (s.vetoFrame x).lane.inFlight = s.lane.inFlight := by
  refine ⟨?_, ?_, ?_⟩ <;> (unfold State.vetoFrame; (try dsimp only); (repeat' split) <;> (first | (simp; done) | rfl | (simp_all; done)))

@[simp] theorem endRun_comp_fields (s : State) :
    (s.endRun).comp.state = s.comp.state ∧ (s.endRun).comp.tracker = s.comp.tracker := by
  refine ⟨?_, ?_⟩ <;> (unfold State.endRun; (try dsimp only); (repeat' split) <;> (first | (simp; done) | rfl | (simp_all; done)))

@[simp] theorem endRun_tiles_dram (s : State) :
    (s.endRun).tiles.dram = s.tiles.dram := by
  unfold State.endRun; (try dsimp only); (repeat' split) <;> (first | (simp; done) | rfl | (simp_all; done))

@[simp] theorem endRun_fetch_tag (s : State) :
    (s.endRun).fetch.tag = s.fetch.tag := by
  unfold State.endRun; (try dsimp only); (repeat' split) <;> (first | (simp; done) | rfl | (simp_all; done))

@[simp] theorem endRun_lane_fields (s : State) :
    (s.endRun).lane.delivered = s.lane.delivered ∧ (s.endRun).lane.sent = s.lane.sent ∧ (s.endRun).lane.inFlight = s.lane.inFlight := by
  refine ⟨?_, ?_, ?_⟩ <;> (unfold State.endRun; (try dsimp only); (repeat' split) <;> (first | (simp; done) | rfl | (simp_all; done)))

@[simp] theorem takeWork_fetch_fields (s : State) (page : Nat) :
    (s.takeWork page).fetch.list = s.fetch.list ∧ (s.takeWork page).fetch.tag = s.fetch.tag ∧ (s.takeWork page).fetch.hold = s.fetch.hold ∧ (s.takeWork page).fetch.answer = s.fetch.answer ∧ (s.takeWork page).fetch.timer = s.fetch.timer ∧ (s.takeWork page).fetch.wants = s.fetch.wants := by
  refine ⟨?_, ?_, ?_, ?_, ?_, ?_⟩ <;> (unfold State.takeWork; (try dsimp only); (repeat' split) <;> (first | (simp; done) | rfl | (simp_all; done)))

@[simp] theorem claimFrame_fetch_fields (s : State) (h : FrameHdr) (page claimant : Nat) :
    (s.claimFrame h page claimant).fetch.list = s.fetch.list ∧ (s.claimFrame h page claimant).fetch.tag = s.fetch.tag ∧ (s.claimFrame h page claimant).fetch.hold = s.fetch.hold ∧ (s.claimFrame h page claimant).fetch.answer = s.fetch.answer ∧ (s.claimFrame h page claimant).fetch.timer = s.fetch.timer ∧ (s.claimFrame h page claimant).fetch.wants = s.fetch.wants := by
  refine ⟨?_, ?_, ?_, ?_, ?_, ?_⟩ <;> (unfold State.claimFrame; (try dsimp only); (repeat' split) <;> (first | (simp; done) | rfl | (simp_all; done)))

@[simp] theorem loseUnlisted_comp_fields (s : State) (page : Nat) :
    (s.loseUnlisted page).comp.state = s.comp.state ∧ (s.loseUnlisted page).comp.tracker = s.comp.tracker := by
  refine ⟨?_, ?_⟩ <;> (unfold State.loseUnlisted; (try dsimp only); (repeat' split) <;> (first | (simp; done) | rfl | (simp_all; done)))

@[simp] theorem loseClaim_comp_fields (s : State) (page : Nat) :
    (s.loseClaim page).comp.state = s.comp.state ∧ (s.loseClaim page).comp.tracker = s.comp.tracker := by
  refine ⟨?_, ?_⟩ <;> (unfold State.loseClaim; (try dsimp only); (repeat' split) <;> (first | (simp; done) | rfl | (simp_all; done)))

@[simp] theorem loseUnlisted_tiles_dram (s : State) (page : Nat) :
    (s.loseUnlisted page).tiles.dram = s.tiles.dram := by
  unfold State.loseUnlisted; (try dsimp only); (repeat' split) <;> (first | (simp; done) | rfl | (simp_all; done))

@[simp] theorem loseClaim_tiles_dram (s : State) (page : Nat) :
    (s.loseClaim page).tiles.dram = s.tiles.dram := by
  unfold State.loseClaim; (try dsimp only); (repeat' split) <;> (first | (simp; done) | rfl | (simp_all; done))

@[simp] theorem loseUnlisted_fetch_tag (s : State) (page : Nat) :
    (s.loseUnlisted page).fetch.tag = s.fetch.tag := by
  unfold State.loseUnlisted; (try dsimp only); (repeat' split) <;> (first | (simp; done) | rfl | (simp_all; done))

@[simp] theorem loseClaim_fetch_tag (s : State) (page : Nat) :
    (s.loseClaim page).fetch.tag = s.fetch.tag := by
  unfold State.loseClaim; (try dsimp only); (repeat' split) <;> (first | (simp; done) | rfl | (simp_all; done))

@[simp] theorem loseUnlisted_lane_fields (s : State) (page : Nat) :
    (s.loseUnlisted page).lane.delivered = s.lane.delivered ∧ (s.loseUnlisted page).lane.sent = s.lane.sent ∧ (s.loseUnlisted page).lane.inFlight = s.lane.inFlight := by
  refine ⟨?_, ?_, ?_⟩ <;> (unfold State.loseUnlisted; (try dsimp only); (repeat' split) <;> (first | (simp; done) | rfl | (simp_all; done)))

@[simp] theorem loseClaim_lane_fields (s : State) (page : Nat) :
    (s.loseClaim page).lane.delivered = s.lane.delivered ∧ (s.loseClaim page).lane.sent = s.lane.sent ∧ (s.loseClaim page).lane.inFlight = s.lane.inFlight := by
  refine ⟨?_, ?_, ?_⟩ <;> (unfold State.loseClaim; (try dsimp only); (repeat' split) <;> (first | (simp; done) | rfl | (simp_all; done)))

@[simp] theorem lapseFrame_comp_fields (s : State) (h : FrameHdr) (page holder mark : Nat) :
    (s.lapseFrame h page holder mark).comp.state = s.comp.state ∧ (s.lapseFrame h page holder mark).comp.tracker = s.comp.tracker := by
  refine ⟨?_, ?_⟩ <;> (unfold State.lapseFrame; (try dsimp only); (repeat' split) <;> (first | (simp; done) | rfl | (simp_all; done)))

@[simp] theorem lapseFrame_tiles_dram (s : State) (h : FrameHdr) (page holder mark : Nat) :
    (s.lapseFrame h page holder mark).tiles.dram = s.tiles.dram := by
  unfold State.lapseFrame; (try dsimp only); (repeat' split) <;> (first | (simp; done) | rfl | (simp_all; done))

@[simp] theorem lapseFrame_fetch_tag (s : State) (h : FrameHdr) (page holder mark : Nat) :
    (s.lapseFrame h page holder mark).fetch.tag = s.fetch.tag := by
  unfold State.lapseFrame; (try dsimp only); (repeat' split) <;> (first | (simp; done) | rfl | (simp_all; done))

@[simp] theorem lapseFrame_lane_fields (s : State) (h : FrameHdr) (page holder mark : Nat) :
    (s.lapseFrame h page holder mark).lane.delivered = s.lane.delivered ∧ (s.lapseFrame h page holder mark).lane.sent = s.lane.sent ∧ (s.lapseFrame h page holder mark).lane.inFlight = s.lane.inFlight := by
  refine ⟨?_, ?_, ?_⟩ <;> (unfold State.lapseFrame; (try dsimp only); (repeat' split) <;> (first | (simp; done) | rfl | (simp_all; done)))

@[simp] theorem closeApplied_fetch_fields (s : State) (page : Nat) :
    (s.closeApplied page).fetch.list = s.fetch.list ∧ (s.closeApplied page).fetch.tag = s.fetch.tag ∧ (s.closeApplied page).fetch.hold = s.fetch.hold ∧ (s.closeApplied page).fetch.answer = s.fetch.answer ∧ (s.closeApplied page).fetch.timer = s.fetch.timer ∧ (s.closeApplied page).fetch.wants = s.fetch.wants := by
  refine ⟨?_, ?_, ?_, ?_, ?_, ?_⟩ <;> (unfold State.closeApplied; (try dsimp only); (repeat' split) <;> (first | (simp; done) | rfl | (simp_all; done)))

@[simp] theorem doneFrame_tiles_dram (s : State) (h : FrameHdr) (page edition : Nat) :
    (s.doneFrame h page edition).tiles.dram = s.tiles.dram := by
  unfold State.doneFrame; (try dsimp only); (repeat' split) <;> (first | (simp; done) | rfl | (simp_all; done))

@[simp] theorem doneFrame_fetch_fields (s : State) (h : FrameHdr) (page edition : Nat) :
    (s.doneFrame h page edition).fetch.tag = s.fetch.tag ∧ (s.doneFrame h page edition).fetch.hold = s.fetch.hold ∧ (s.doneFrame h page edition).fetch.answer = s.fetch.answer ∧ (s.doneFrame h page edition).fetch.timer = s.fetch.timer ∧ (s.doneFrame h page edition).fetch.wants = s.fetch.wants := by
  refine ⟨?_, ?_, ?_, ?_, ?_⟩ <;> (unfold State.doneFrame; (try dsimp only); (repeat' split) <;> (first | (simp; done) | rfl | (simp_all; done)))

@[simp] theorem releaseFrame_tiles_dram (s : State) (h : FrameHdr) (page : Nat) :
    (s.releaseFrame h page).tiles.dram = s.tiles.dram := by
  unfold State.releaseFrame; (try dsimp only); (repeat' split) <;> (first | (simp; done) | rfl | (simp_all; done))

@[simp] theorem releaseFrame_fetch_fields (s : State) (h : FrameHdr) (page : Nat) :
    (s.releaseFrame h page).fetch.tag = s.fetch.tag ∧ (s.releaseFrame h page).fetch.hold = s.fetch.hold ∧ (s.releaseFrame h page).fetch.answer = s.fetch.answer ∧ (s.releaseFrame h page).fetch.timer = s.fetch.timer ∧ (s.releaseFrame h page).fetch.wants = s.fetch.wants := by
  refine ⟨?_, ?_, ?_, ?_, ?_⟩ <;> (unfold State.releaseFrame; (try dsimp only); (repeat' split) <;> (first | (simp; done) | rfl | (simp_all; done)))

@[simp] theorem failFrame_tiles_dram (s : State) (h : FrameHdr) (page cause : Nat) :
    (s.failFrame h page cause).tiles.dram = s.tiles.dram := by
  unfold State.failFrame; (try dsimp only); (repeat' split) <;> (first | (simp; done) | rfl | (simp_all; done))

@[simp] theorem failFrame_fetch_fields (s : State) (h : FrameHdr) (page cause : Nat) :
    (s.failFrame h page cause).fetch.tag = s.fetch.tag ∧ (s.failFrame h page cause).fetch.hold = s.fetch.hold ∧ (s.failFrame h page cause).fetch.answer = s.fetch.answer ∧ (s.failFrame h page cause).fetch.timer = s.fetch.timer ∧ (s.failFrame h page cause).fetch.wants = s.fetch.wants := by
  refine ⟨?_, ?_, ?_, ?_, ?_⟩ <;> (unfold State.failFrame; (try dsimp only); (repeat' split) <;> (first | (simp; done) | rfl | (simp_all; done)))

@[simp] theorem leaveOwn_tiles_dram (s : State) :
    (s.leaveOwn).tiles.dram = s.tiles.dram := by
  unfold State.leaveOwn; (try dsimp only); (repeat' split) <;> (first | (simp; done) | rfl | (simp_all; done))

@[simp] theorem leaveOwn_fetch_fields (s : State) :
    (s.leaveOwn).fetch.tag = s.fetch.tag ∧ (s.leaveOwn).fetch.hold = s.fetch.hold ∧ (s.leaveOwn).fetch.answer = s.fetch.answer ∧ (s.leaveOwn).fetch.timer = s.fetch.timer ∧ (s.leaveOwn).fetch.wants = s.fetch.wants := by
  refine ⟨?_, ?_, ?_, ?_, ?_⟩ <;> (unfold State.leaveOwn; (try dsimp only); (repeat' split) <;> (first | (simp; done) | rfl | (simp_all; done)))

@[simp] theorem leaveFrame_tiles_dram (s : State) (h : FrameHdr) (station : Nat) :
    (s.leaveFrame h station).tiles.dram = s.tiles.dram := by
  unfold State.leaveFrame; (try dsimp only); (repeat' split) <;> (first | (simp; done) | rfl | (simp_all; done))

@[simp] theorem leaveFrame_fetch_fields (s : State) (h : FrameHdr) (station : Nat) :
    (s.leaveFrame h station).fetch.tag = s.fetch.tag ∧ (s.leaveFrame h station).fetch.hold = s.fetch.hold ∧ (s.leaveFrame h station).fetch.answer = s.fetch.answer ∧ (s.leaveFrame h station).fetch.timer = s.fetch.timer ∧ (s.leaveFrame h station).fetch.wants = s.fetch.wants := by
  refine ⟨?_, ?_, ?_, ?_, ?_⟩ <;> (unfold State.leaveFrame; (try dsimp only); (repeat' split) <;> (first | (simp; done) | rfl | (simp_all; done)))

@[simp] theorem launchFrame_comp_fields (s : State) (h : FrameHdr) (b : Nat) :
    (s.launchFrame h b).comp.state = s.comp.state ∧ (s.launchFrame h b).comp.held = s.comp.held ∧ (s.launchFrame h b).comp.tracker = s.comp.tracker := by
  refine ⟨?_, ?_, ?_⟩ <;> (unfold State.launchFrame; (try dsimp only); (repeat' split) <;> (first | (simp; done) | rfl | (simp_all; done)))

@[simp] theorem launchFrame_tiles_dram (s : State) (h : FrameHdr) (b : Nat) :
    (s.launchFrame h b).tiles.dram = s.tiles.dram := by
  unfold State.launchFrame; (try dsimp only); (repeat' split) <;> (first | (simp; done) | rfl | (simp_all; done))

@[simp] theorem launchFrame_fetch_fields (s : State) (h : FrameHdr) (b : Nat) :
    (s.launchFrame h b).fetch.tag = s.fetch.tag ∧ (s.launchFrame h b).fetch.hold = s.fetch.hold ∧ (s.launchFrame h b).fetch.answer = s.fetch.answer ∧ (s.launchFrame h b).fetch.timer = s.fetch.timer ∧ (s.launchFrame h b).fetch.wants = s.fetch.wants := by
  refine ⟨?_, ?_, ?_, ?_, ?_⟩ <;> (unfold State.launchFrame; (try dsimp only); (repeat' split) <;> (first | (simp; done) | rfl | (simp_all; done)))

@[simp] theorem headFrame_comp_fields (s : State) (fresh : Bool) (sender requester responder : Nat) (c : Collection) :
    (s.headFrame fresh sender requester responder c).comp.state = s.comp.state ∧ (s.headFrame fresh sender requester responder c).comp.tracker = s.comp.tracker := by
  refine ⟨?_, ?_⟩ <;> (unfold State.headFrame; (try dsimp only); (repeat' split) <;> (first | (simp; done) | rfl | (simp_all; done)))

@[simp] theorem headFrame_tiles_dram (s : State) (fresh : Bool) (sender requester responder : Nat) (c : Collection) :
    (s.headFrame fresh sender requester responder c).tiles.dram = s.tiles.dram := by
  unfold State.headFrame; (try dsimp only); (repeat' split) <;> (first | (simp; done) | rfl | (simp_all; done))

@[simp] theorem headFrame_fetch_tag (s : State) (fresh : Bool) (sender requester responder : Nat) (c : Collection) :
    (s.headFrame fresh sender requester responder c).fetch.tag = s.fetch.tag := by
  unfold State.headFrame; (try dsimp only); (repeat' split) <;> (first | (simp; done) | rfl | (simp_all; done))

@[simp] theorem headFrame_lane_fields (s : State) (fresh : Bool) (sender requester responder : Nat) (c : Collection) :
    (s.headFrame fresh sender requester responder c).lane.delivered = s.lane.delivered ∧ (s.headFrame fresh sender requester responder c).lane.sent = s.lane.sent ∧ (s.headFrame fresh sender requester responder c).lane.inFlight = s.lane.inFlight := by
  refine ⟨?_, ?_, ?_⟩ <;> (unfold State.headFrame; (try dsimp only); (repeat' split) <;> (first | (simp; done) | rfl | (simp_all; done)))

@[simp] theorem pagesFrame_comp_fields (s : State) (requester index : Nat) (entries : List Byte) :
    (s.pagesFrame requester index entries).comp.state = s.comp.state ∧ (s.pagesFrame requester index entries).comp.tracker = s.comp.tracker := by
  refine ⟨?_, ?_⟩ <;> (unfold State.pagesFrame; (try dsimp only); (repeat' split) <;> (first | (simp; done) | rfl | (simp_all; done)))

@[simp] theorem pagesFrame_tiles_dram (s : State) (requester index : Nat) (entries : List Byte) :
    (s.pagesFrame requester index entries).tiles.dram = s.tiles.dram := by
  unfold State.pagesFrame; (try dsimp only); (repeat' split) <;> (first | (simp; done) | rfl | (simp_all; done))

@[simp] theorem pagesFrame_fetch_tag (s : State) (requester index : Nat) (entries : List Byte) :
    (s.pagesFrame requester index entries).fetch.tag = s.fetch.tag := by
  unfold State.pagesFrame; (try dsimp only); (repeat' split) <;> (first | (simp; done) | rfl | (simp_all; done))

@[simp] theorem pagesFrame_lane_fields (s : State) (requester index : Nat) (entries : List Byte) :
    (s.pagesFrame requester index entries).lane.delivered = s.lane.delivered ∧ (s.pagesFrame requester index entries).lane.sent = s.lane.sent ∧ (s.pagesFrame requester index entries).lane.inFlight = s.lane.inFlight := by
  refine ⟨?_, ?_, ?_⟩ <;> (unfold State.pagesFrame; (try dsimp only); (repeat' split) <;> (first | (simp; done) | rfl | (simp_all; done)))

@[simp] theorem snapAmendFrame_comp_fields (s : State) (requester index : Nat) (b : AmendBody) :
    (s.snapAmendFrame requester index b).comp.state = s.comp.state ∧ (s.snapAmendFrame requester index b).comp.tracker = s.comp.tracker := by
  refine ⟨?_, ?_⟩ <;> (unfold State.snapAmendFrame; (try dsimp only); (repeat' split) <;> (first | (simp; done) | rfl | (simp_all; done)))

@[simp] theorem snapAmendFrame_tiles_dram (s : State) (requester index : Nat) (b : AmendBody) :
    (s.snapAmendFrame requester index b).tiles.dram = s.tiles.dram := by
  unfold State.snapAmendFrame; (try dsimp only); (repeat' split) <;> (first | (simp; done) | rfl | (simp_all; done))

@[simp] theorem snapAmendFrame_fetch_tag (s : State) (requester index : Nat) (b : AmendBody) :
    (s.snapAmendFrame requester index b).fetch.tag = s.fetch.tag := by
  unfold State.snapAmendFrame; (try dsimp only); (repeat' split) <;> (first | (simp; done) | rfl | (simp_all; done))

@[simp] theorem snapAmendFrame_lane_fields (s : State) (requester index : Nat) (b : AmendBody) :
    (s.snapAmendFrame requester index b).lane.delivered = s.lane.delivered ∧ (s.snapAmendFrame requester index b).lane.sent = s.lane.sent ∧ (s.snapAmendFrame requester index b).lane.inFlight = s.lane.inFlight := by
  refine ⟨?_, ?_, ?_⟩ <;> (unfold State.snapAmendFrame; (try dsimp only); (repeat' split) <;> (first | (simp; done) | rfl | (simp_all; done)))

@[simp] theorem setHeld_comp_fields (s : State) (h : Held) :
    (s.setHeld h).comp.state = s.comp.state ∧ (s.setHeld h).comp.cut = s.comp.cut ∧ (s.setHeld h).comp.tracker = s.comp.tracker := by
  refine ⟨?_, ?_, ?_⟩ <;> (unfold State.setHeld; (try dsimp only); (repeat' split) <;> (first | (simp; done) | rfl | (simp_all; done)))

@[simp] theorem modifyCell_comp_fields (s : State) (i : Nat) (f : Cell → Cell) :
    (s.modifyCell i f).comp.state = s.comp.state ∧ (s.modifyCell i f).comp.cut = s.comp.cut ∧ (s.modifyCell i f).comp.tracker = s.comp.tracker := by
  refine ⟨?_, ?_, ?_⟩ <;> (unfold State.modifyCell; (try dsimp only); (repeat' split) <;> (first | (simp; done) | rfl | (simp_all; done)))

@[simp] theorem countComposing_tiles_dram (s : State) (page cell : Nat) (pid : Id32) :
    (s.countComposing page cell pid).tiles.dram = s.tiles.dram := by
  unfold State.countComposing; (try dsimp only); (repeat' split) <;> (first | (simp; done) | rfl | (simp_all; done))

@[simp] theorem countComposing_fetch_fields (s : State) (page cell : Nat) (pid : Id32) :
    (s.countComposing page cell pid).fetch.tag = s.fetch.tag ∧ (s.countComposing page cell pid).fetch.hold = s.fetch.hold ∧ (s.countComposing page cell pid).fetch.answer = s.fetch.answer ∧ (s.countComposing page cell pid).fetch.timer = s.fetch.timer ∧ (s.countComposing page cell pid).fetch.prefetch = s.fetch.prefetch := by
  refine ⟨?_, ?_, ?_, ?_, ?_⟩ <;> (unfold State.countComposing; (try dsimp only); (repeat' split) <;> (first | (simp; done) | rfl | (simp_all; done)))

@[simp] theorem takeCell_comp_fields (s : State) (t : Template) (i : Nat) :
    (s.takeCell t i).comp.state = s.comp.state ∧ (s.takeCell t i).comp.cut = s.comp.cut ∧ (s.takeCell t i).comp.tracker = s.comp.tracker := by
  refine ⟨?_, ?_, ?_⟩ <;> (unfold State.takeCell; (try dsimp only); (repeat' split) <;> (first | (simp; done) | rfl | (simp_all; done)))

@[simp] theorem takeCell_tiles_dram (s : State) (t : Template) (i : Nat) :
    (s.takeCell t i).tiles.dram = s.tiles.dram := by
  unfold State.takeCell; (try dsimp only); (repeat' split) <;> (first | (simp; done) | rfl | (simp_all; done))

@[simp] theorem takeCell_fetch_fields (s : State) (t : Template) (i : Nat) :
    (s.takeCell t i).fetch.tag = s.fetch.tag ∧ (s.takeCell t i).fetch.hold = s.fetch.hold ∧ (s.takeCell t i).fetch.answer = s.fetch.answer ∧ (s.takeCell t i).fetch.timer = s.fetch.timer ∧ (s.takeCell t i).fetch.prefetch = s.fetch.prefetch := by
  refine ⟨?_, ?_, ?_, ?_, ?_⟩ <;> (unfold State.takeCell; (try dsimp only); (repeat' split) <;> (first | (simp; done) | rfl | (simp_all; done)))

@[simp] theorem takeReferences_comp_fields (s : State) (t : Template) (b : Nat) :
    (s.takeReferences t b).comp.state = s.comp.state ∧ (s.takeReferences t b).comp.cut = s.comp.cut ∧ (s.takeReferences t b).comp.tracker = s.comp.tracker :=
  ⟨by unfold State.takeReferences; (try dsimp only); (repeat' split) <;> (first | (simp; done) | rfl | (simp [foldl_keeps (fun t : State => t.comp.state)]; done) | (rw [foldl_keeps (fun t : State => t.comp.state)] <;> first | (simp; done) | (intros; simp; done) | (intros; split <;> simp; done))), by unfold State.takeReferences; (try dsimp only); (repeat' split) <;> (first | (simp; done) | rfl | (simp [foldl_keeps (fun t : State => t.comp.cut)]; done) | (rw [foldl_keeps (fun t : State => t.comp.cut)] <;> first | (simp; done) | (intros; simp; done) | (intros; split <;> simp; done))), by unfold State.takeReferences; (try dsimp only); (repeat' split) <;> (first | (simp; done) | rfl | (simp [foldl_keeps (fun t : State => t.comp.tracker)]; done) | (rw [foldl_keeps (fun t : State => t.comp.tracker)] <;> first | (simp; done) | (intros; simp; done) | (intros; split <;> simp; done)))⟩

@[simp] theorem takeReferences_tiles_dram (s : State) (t : Template) (b : Nat) :
    (s.takeReferences t b).tiles.dram = s.tiles.dram := by
  unfold State.takeReferences; (try dsimp only); (repeat' split) <;> (first | (simp; done) | rfl | (simp [foldl_keeps (fun t : State => t.tiles.dram)]; done) | (rw [foldl_keeps (fun t : State => t.tiles.dram)] <;> first | (simp; done) | (intros; simp; done) | (intros; split <;> simp; done)))

@[simp] theorem takeReferences_fetch_fields (s : State) (t : Template) (b : Nat) :
    (s.takeReferences t b).fetch.tag = s.fetch.tag ∧ (s.takeReferences t b).fetch.hold = s.fetch.hold ∧ (s.takeReferences t b).fetch.answer = s.fetch.answer ∧ (s.takeReferences t b).fetch.timer = s.fetch.timer ∧ (s.takeReferences t b).fetch.prefetch = s.fetch.prefetch :=
  ⟨by unfold State.takeReferences; (try dsimp only); (repeat' split) <;> (first | (simp; done) | rfl | (simp [foldl_keeps (fun t : State => t.fetch.tag)]; done) | (rw [foldl_keeps (fun t : State => t.fetch.tag)] <;> first | (simp; done) | (intros; simp; done) | (intros; split <;> simp; done))), by unfold State.takeReferences; (try dsimp only); (repeat' split) <;> (first | (simp; done) | rfl | (simp [foldl_keeps (fun t : State => t.fetch.hold)]; done) | (rw [foldl_keeps (fun t : State => t.fetch.hold)] <;> first | (simp; done) | (intros; simp; done) | (intros; split <;> simp; done))), by unfold State.takeReferences; (try dsimp only); (repeat' split) <;> (first | (simp; done) | rfl | (simp [foldl_keeps (fun t : State => t.fetch.answer)]; done) | (rw [foldl_keeps (fun t : State => t.fetch.answer)] <;> first | (simp; done) | (intros; simp; done) | (intros; split <;> simp; done))), by unfold State.takeReferences; (try dsimp only); (repeat' split) <;> (first | (simp; done) | rfl | (simp [foldl_keeps (fun t : State => t.fetch.timer)]; done) | (rw [foldl_keeps (fun t : State => t.fetch.timer)] <;> first | (simp; done) | (intros; simp; done) | (intros; split <;> simp; done))), by unfold State.takeReferences; (try dsimp only); (repeat' split) <;> (first | (simp; done) | rfl | (simp [foldl_keeps (fun t : State => t.fetch.prefetch)]; done) | (rw [foldl_keeps (fun t : State => t.fetch.prefetch)] <;> first | (simp; done) | (intros; simp; done) | (intros; split <;> simp; done)))⟩

@[simp] theorem recordPlaced_comp_fields (s : State) (h : Held) (i : Nat) (p : Placed) :
    (s.recordPlaced h i p).comp.state = s.comp.state ∧ (s.recordPlaced h i p).comp.cut = s.comp.cut :=
  ⟨by unfold State.recordPlaced; (try dsimp only); (repeat' split) <;> (first | (simp; done) | rfl | (simp [foldl_keeps (fun t : State => t.comp.state)]; done) | (rw [foldl_keeps (fun t : State => t.comp.state)] <;> first | (simp; done) | (intros; simp; done) | (intros; split <;> simp; done))), by unfold State.recordPlaced; (try dsimp only); (repeat' split) <;> (first | (simp; done) | rfl | (simp [foldl_keeps (fun t : State => t.comp.cut)]; done) | (rw [foldl_keeps (fun t : State => t.comp.cut)] <;> first | (simp; done) | (intros; simp; done) | (intros; split <;> simp; done)))⟩

@[simp] theorem recordPlaced_tiles_dram (s : State) (h : Held) (i : Nat) (p : Placed) :
    (s.recordPlaced h i p).tiles.dram = s.tiles.dram := by
  unfold State.recordPlaced; (try dsimp only); (repeat' split) <;> (first | (simp; done) | rfl | (simp [foldl_keeps (fun t : State => t.tiles.dram)]; done) | (rw [foldl_keeps (fun t : State => t.tiles.dram)] <;> first | (simp; done) | (intros; simp; done) | (intros; split <;> simp; done)))

@[simp] theorem recordPlaced_fetch_fields (s : State) (h : Held) (i : Nat) (p : Placed) :
    (s.recordPlaced h i p).fetch.tag = s.fetch.tag ∧ (s.recordPlaced h i p).fetch.hold = s.fetch.hold ∧ (s.recordPlaced h i p).fetch.answer = s.fetch.answer ∧ (s.recordPlaced h i p).fetch.timer = s.fetch.timer ∧ (s.recordPlaced h i p).fetch.wants = s.fetch.wants ∧ (s.recordPlaced h i p).fetch.prefetch = s.fetch.prefetch :=
  ⟨by unfold State.recordPlaced; (try dsimp only); (repeat' split) <;> (first | (simp; done) | rfl | (simp [foldl_keeps (fun t : State => t.fetch.tag)]; done) | (rw [foldl_keeps (fun t : State => t.fetch.tag)] <;> first | (simp; done) | (intros; simp; done) | (intros; split <;> simp; done))), by unfold State.recordPlaced; (try dsimp only); (repeat' split) <;> (first | (simp; done) | rfl | (simp [foldl_keeps (fun t : State => t.fetch.hold)]; done) | (rw [foldl_keeps (fun t : State => t.fetch.hold)] <;> first | (simp; done) | (intros; simp; done) | (intros; split <;> simp; done))), by unfold State.recordPlaced; (try dsimp only); (repeat' split) <;> (first | (simp; done) | rfl | (simp [foldl_keeps (fun t : State => t.fetch.answer)]; done) | (rw [foldl_keeps (fun t : State => t.fetch.answer)] <;> first | (simp; done) | (intros; simp; done) | (intros; split <;> simp; done))), by unfold State.recordPlaced; (try dsimp only); (repeat' split) <;> (first | (simp; done) | rfl | (simp [foldl_keeps (fun t : State => t.fetch.timer)]; done) | (rw [foldl_keeps (fun t : State => t.fetch.timer)] <;> first | (simp; done) | (intros; simp; done) | (intros; split <;> simp; done))), by unfold State.recordPlaced; (try dsimp only); (repeat' split) <;> (first | (simp; done) | rfl | (simp [foldl_keeps (fun t : State => t.fetch.wants)]; done) | (rw [foldl_keeps (fun t : State => t.fetch.wants)] <;> first | (simp; done) | (intros; simp; done) | (intros; split <;> simp; done))), by unfold State.recordPlaced; (try dsimp only); (repeat' split) <;> (first | (simp; done) | rfl | (simp [foldl_keeps (fun t : State => t.fetch.prefetch)]; done) | (rw [foldl_keeps (fun t : State => t.fetch.prefetch)] <;> first | (simp; done) | (intros; simp; done) | (intros; split <;> simp; done)))⟩

@[simp] theorem handPacket_lane_fields (s : State) (p : Packet) :
    (s.handPacket p).lane.sheets = s.lane.sheets ∧ (s.handPacket p).lane.hold = s.lane.hold ∧ (s.handPacket p).lane.headTimer = s.lane.headTimer ∧ (s.handPacket p).lane.delivered = s.lane.delivered ∧ (s.handPacket p).lane.lastTemplate = s.lane.lastTemplate ∧ (s.handPacket p).lane.sent = s.lane.sent := by
  refine ⟨?_, ?_, ?_, ?_, ?_, ?_⟩ <;> (unfold State.handPacket; (try dsimp only); (repeat' split) <;> (first | (simp; done) | rfl | (simp_all; done)))

@[simp] theorem setCompState_comp_fields (s : State) (c : CompState) :
    (s.setCompState c).comp.held = s.comp.held ∧ (s.setCompState c).comp.cut = s.comp.cut ∧ (s.setCompState c).comp.tracker = s.comp.tracker := by
  refine ⟨?_, ?_, ?_⟩ <;> (unfold State.setCompState; (try dsimp only); (repeat' split) <;> (first | (simp; done) | rfl | (simp_all; done)))

@[simp] theorem placeCells_comp_fields (t : Template) (l : List Nat) (s : State) :
    (State.placeCells t l s).1.comp.state = s.comp.state ∧ (State.placeCells t l s).1.comp.cut = s.comp.cut := by
  refine ⟨?_, ?_⟩ <;> (induction l generalizing s with
      | nil => simp [State.placeCells]
      | cons i l ih =>
        unfold State.placeCells
        (repeat' split) <;> simp [ih])

@[simp] theorem placeCells_tiles_dram (t : Template) (l : List Nat) (s : State) :
    (State.placeCells t l s).1.tiles.dram = s.tiles.dram := by
  induction l generalizing s with
  | nil => simp [State.placeCells]
  | cons i l ih =>
    unfold State.placeCells
    (repeat' split) <;> simp [ih]

@[simp] theorem placeCells_fetch_fields (t : Template) (l : List Nat) (s : State) :
    (State.placeCells t l s).1.fetch.tag = s.fetch.tag ∧ (State.placeCells t l s).1.fetch.hold = s.fetch.hold ∧ (State.placeCells t l s).1.fetch.answer = s.fetch.answer ∧ (State.placeCells t l s).1.fetch.timer = s.fetch.timer ∧ (State.placeCells t l s).1.fetch.wants = s.fetch.wants ∧ (State.placeCells t l s).1.fetch.prefetch = s.fetch.prefetch := by
  refine ⟨?_, ?_, ?_, ?_, ?_, ?_⟩ <;> (induction l generalizing s with
      | nil => simp [State.placeCells]
      | cons i l ih =>
        unfold State.placeCells
        (repeat' split) <;> simp [ih])

@[simp] theorem handBand_comp_fields (s : State) (t : Template) :
    (s.handBand t).comp.held = s.comp.held ∧ (s.handBand t).comp.cut = s.comp.cut ∧ (s.handBand t).comp.tracker = s.comp.tracker := by
  refine ⟨?_, ?_, ?_⟩ <;> (unfold State.handBand; (try dsimp only); (repeat' split) <;> (first | (simp; done) | rfl | (simp_all; done)))

@[simp] theorem handBand_lane_fields (s : State) (t : Template) :
    (s.handBand t).lane.sheets = s.lane.sheets ∧ (s.handBand t).lane.hold = s.lane.hold ∧ (s.handBand t).lane.headTimer = s.lane.headTimer ∧ (s.handBand t).lane.delivered = s.lane.delivered ∧ (s.handBand t).lane.lastTemplate = s.lane.lastTemplate ∧ (s.handBand t).lane.sent = s.lane.sent := by
  refine ⟨?_, ?_, ?_, ?_, ?_, ?_⟩ <;> (unfold State.handBand; (try dsimp only); (repeat' split) <;> (first | (simp; done) | rfl | (simp_all; done)))

@[simp] theorem placeBand_comp_cut (s : State) :
    (s.placeBand).comp.cut = s.comp.cut := by
  unfold State.placeBand; dsimp only; (repeat' split) <;> simp

@[simp] theorem placeBand_tiles_dram (s : State) :
    (s.placeBand).tiles.dram = s.tiles.dram := by
  unfold State.placeBand; dsimp only; (repeat' split) <;> simp

@[simp] theorem placeBand_fetch_fields (s : State) :
    (s.placeBand).fetch.tag = s.fetch.tag ∧ (s.placeBand).fetch.hold = s.fetch.hold ∧ (s.placeBand).fetch.answer = s.fetch.answer ∧ (s.placeBand).fetch.timer = s.fetch.timer ∧ (s.placeBand).fetch.wants = s.fetch.wants ∧ (s.placeBand).fetch.prefetch = s.fetch.prefetch := by
  refine ⟨?_, ?_, ?_, ?_, ?_, ?_⟩ <;> (unfold State.placeBand; dsimp only; (repeat' split) <;> simp)

@[simp] theorem placeBand_lane_fields (s : State) :
    (s.placeBand).lane.sheets = s.lane.sheets ∧ (s.placeBand).lane.hold = s.lane.hold ∧ (s.placeBand).lane.headTimer = s.lane.headTimer ∧ (s.placeBand).lane.delivered = s.lane.delivered ∧ (s.placeBand).lane.lastTemplate = s.lane.lastTemplate ∧ (s.placeBand).lane.sent = s.lane.sent := by
  refine ⟨?_, ?_, ?_, ?_, ?_, ?_⟩ <;> (unfold State.placeBand; dsimp only; (repeat' split) <;> simp)

@[simp] theorem startBand_comp_cut (s : State) (b : Nat) :
    (s.startBand b).comp.cut = s.comp.cut := by
  unfold State.startBand; (try dsimp only); (repeat' split) <;> (first | (simp; done) | rfl | (simp_all; done))

@[simp] theorem startBand_tiles_dram (s : State) (b : Nat) :
    (s.startBand b).tiles.dram = s.tiles.dram := by
  unfold State.startBand; (try dsimp only); (repeat' split) <;> (first | (simp; done) | rfl | (simp_all; done))

@[simp] theorem startBand_fetch_fields (s : State) (b : Nat) :
    (s.startBand b).fetch.tag = s.fetch.tag ∧ (s.startBand b).fetch.hold = s.fetch.hold ∧ (s.startBand b).fetch.answer = s.fetch.answer ∧ (s.startBand b).fetch.timer = s.fetch.timer ∧ (s.startBand b).fetch.prefetch = s.fetch.prefetch := by
  refine ⟨?_, ?_, ?_, ?_, ?_⟩ <;> (unfold State.startBand; (try dsimp only); (repeat' split) <;> (first | (simp; done) | rfl | (simp_all; done)))

@[simp] theorem startBand_lane_fields (s : State) (b : Nat) :
    (s.startBand b).lane.sheets = s.lane.sheets ∧ (s.startBand b).lane.hold = s.lane.hold ∧ (s.startBand b).lane.headTimer = s.lane.headTimer ∧ (s.startBand b).lane.delivered = s.lane.delivered ∧ (s.startBand b).lane.lastTemplate = s.lane.lastTemplate ∧ (s.startBand b).lane.sent = s.lane.sent := by
  refine ⟨?_, ?_, ?_, ?_, ?_, ?_⟩ <;> (unfold State.startBand; (try dsimp only); (repeat' split) <;> (first | (simp; done) | rfl | (simp_all; done)))

@[simp] theorem handClose_fetch_fields (s : State) (h : Held) :
    (s.handClose h).fetch.list = s.fetch.list ∧ (s.handClose h).fetch.tag = s.fetch.tag ∧ (s.handClose h).fetch.hold = s.fetch.hold ∧ (s.handClose h).fetch.answer = s.fetch.answer ∧ (s.handClose h).fetch.timer = s.fetch.timer ∧ (s.handClose h).fetch.prefetch = s.fetch.prefetch := by
  refine ⟨?_, ?_, ?_, ?_, ?_, ?_⟩ <;> (unfold State.handClose; (try dsimp only); (repeat' split) <;> (first | (simp; done) | rfl | (simp_all; done)))

@[simp] theorem handClose_lane_fields (s : State) (h : Held) :
    (s.handClose h).lane.sheets = s.lane.sheets ∧ (s.handClose h).lane.hold = s.lane.hold ∧ (s.handClose h).lane.headTimer = s.lane.headTimer ∧ (s.handClose h).lane.delivered = s.lane.delivered ∧ (s.handClose h).lane.lastTemplate = s.lane.lastTemplate ∧ (s.handClose h).lane.sent = s.lane.sent := by
  refine ⟨?_, ?_, ?_, ?_, ?_, ?_⟩ <;> (unfold State.handClose; (try dsimp only); (repeat' split) <;> (first | (simp; done) | rfl | (simp_all; done)))

@[simp] theorem handReady_comp_cut (s : State) : (s.handReady).comp.cut = s.comp.cut := by
  unfold State.handReady; (try dsimp only); (repeat' split) <;> (first | (simp; done) | rfl)

@[simp] theorem handReady_fetch (s : State) : (s.handReady).fetch = s.fetch := by
  unfold State.handReady; (try dsimp only); (repeat' split) <;> (first | (simp; done) | rfl)

@[simp] theorem beginBand_comp_cut (s : State) (b : Nat) : (s.beginBand b).comp.cut = s.comp.cut := by
  simp [State.beginBand]

@[simp] theorem handReady_tiles_dram (s : State) :
    (s.handReady).tiles.dram = s.tiles.dram := by
  unfold State.handReady; (try dsimp only); (repeat' split) <;> (first | (simp; done) | rfl | (simp_all; done))

@[simp] theorem proceed_tiles_dram (s : State) :
    (s.proceed).tiles.dram = s.tiles.dram := by
  unfold State.proceed; (try dsimp only); (repeat' split) <;> (first | (simp; done) | rfl | (simp_all; done))

@[simp] theorem beginBand_tiles_dram (s : State) (b : Nat) :
    (s.beginBand b).tiles.dram = s.tiles.dram := by
  unfold State.beginBand; (try dsimp only); (repeat' split) <;> (first | (simp; done) | rfl | (simp_all; done))

@[simp] theorem afterBand_tiles_dram (s : State) :
    (s.afterBand).tiles.dram = s.tiles.dram := by
  unfold State.afterBand; (try dsimp only); (repeat' split) <;> (first | (simp; done) | rfl | (simp_all; done))

@[simp] theorem handReady_fetch_fields (s : State) :
    (s.handReady).fetch.tag = s.fetch.tag ∧ (s.handReady).fetch.hold = s.fetch.hold ∧ (s.handReady).fetch.answer = s.fetch.answer ∧ (s.handReady).fetch.timer = s.fetch.timer ∧ (s.handReady).fetch.prefetch = s.fetch.prefetch := by
  refine ⟨?_, ?_, ?_, ?_, ?_⟩ <;> (unfold State.handReady; (try dsimp only); (repeat' split) <;> (first | (simp; done) | rfl | (simp_all; done)))

@[simp] theorem proceed_fetch_fields (s : State) :
    (s.proceed).fetch.tag = s.fetch.tag ∧ (s.proceed).fetch.hold = s.fetch.hold ∧ (s.proceed).fetch.answer = s.fetch.answer ∧ (s.proceed).fetch.timer = s.fetch.timer ∧ (s.proceed).fetch.prefetch = s.fetch.prefetch := by
  refine ⟨?_, ?_, ?_, ?_, ?_⟩ <;> (unfold State.proceed; (try dsimp only); (repeat' split) <;> (first | (simp; done) | rfl | (simp_all; done)))

@[simp] theorem beginBand_fetch_fields (s : State) (b : Nat) :
    (s.beginBand b).fetch.tag = s.fetch.tag ∧ (s.beginBand b).fetch.hold = s.fetch.hold ∧ (s.beginBand b).fetch.answer = s.fetch.answer ∧ (s.beginBand b).fetch.timer = s.fetch.timer ∧ (s.beginBand b).fetch.prefetch = s.fetch.prefetch := by
  refine ⟨?_, ?_, ?_, ?_, ?_⟩ <;> (unfold State.beginBand; (try dsimp only); (repeat' split) <;> (first | (simp; done) | rfl | (simp_all; done)))

@[simp] theorem afterBand_fetch_fields (s : State) :
    (s.afterBand).fetch.tag = s.fetch.tag ∧ (s.afterBand).fetch.hold = s.fetch.hold ∧ (s.afterBand).fetch.answer = s.fetch.answer ∧ (s.afterBand).fetch.timer = s.fetch.timer ∧ (s.afterBand).fetch.prefetch = s.fetch.prefetch := by
  refine ⟨?_, ?_, ?_, ?_, ?_⟩ <;> (unfold State.afterBand; (try dsimp only); (repeat' split) <;> (first | (simp; done) | rfl | (simp_all; done)))

@[simp] theorem handReady_lane_fields (s : State) :
    (s.handReady).lane.sheets = s.lane.sheets ∧ (s.handReady).lane.hold = s.lane.hold ∧ (s.handReady).lane.headTimer = s.lane.headTimer ∧ (s.handReady).lane.delivered = s.lane.delivered ∧ (s.handReady).lane.lastTemplate = s.lane.lastTemplate ∧ (s.handReady).lane.sent = s.lane.sent := by
  refine ⟨?_, ?_, ?_, ?_, ?_, ?_⟩ <;> (unfold State.handReady; (try dsimp only); (repeat' split) <;> (first | (simp; done) | rfl | (simp_all; done)))

@[simp] theorem proceed_lane_fields (s : State) :
    (s.proceed).lane.sheets = s.lane.sheets ∧ (s.proceed).lane.hold = s.lane.hold ∧ (s.proceed).lane.headTimer = s.lane.headTimer ∧ (s.proceed).lane.delivered = s.lane.delivered ∧ (s.proceed).lane.lastTemplate = s.lane.lastTemplate ∧ (s.proceed).lane.sent = s.lane.sent := by
  refine ⟨?_, ?_, ?_, ?_, ?_, ?_⟩ <;> (unfold State.proceed; (try dsimp only); (repeat' split) <;> (first | (simp; done) | rfl | (simp_all; done)))

@[simp] theorem beginBand_lane_fields (s : State) (b : Nat) :
    (s.beginBand b).lane.sheets = s.lane.sheets ∧ (s.beginBand b).lane.hold = s.lane.hold ∧ (s.beginBand b).lane.headTimer = s.lane.headTimer ∧ (s.beginBand b).lane.delivered = s.lane.delivered ∧ (s.beginBand b).lane.lastTemplate = s.lane.lastTemplate ∧ (s.beginBand b).lane.sent = s.lane.sent := by
  refine ⟨?_, ?_, ?_, ?_, ?_, ?_⟩ <;> (unfold State.beginBand; (try dsimp only); (repeat' split) <;> (first | (simp; done) | rfl | (simp_all; done)))

@[simp] theorem afterBand_lane_fields (s : State) :
    (s.afterBand).lane.sheets = s.lane.sheets ∧ (s.afterBand).lane.hold = s.lane.hold ∧ (s.afterBand).lane.headTimer = s.lane.headTimer ∧ (s.afterBand).lane.delivered = s.lane.delivered ∧ (s.afterBand).lane.lastTemplate = s.lane.lastTemplate ∧ (s.afterBand).lane.sent = s.lane.sent := by
  refine ⟨?_, ?_, ?_, ?_, ?_, ?_⟩ <;> (unfold State.afterBand; (try dsimp only); (repeat' split) <;> (first | (simp; done) | rfl | (simp_all; done)))

@[simp] theorem sentPacket_lane_fields (s : State) (p : Packet) :
    (s.sentPacket p).lane.sheets = s.lane.sheets ∧ (s.sentPacket p).lane.hold = s.lane.hold ∧ (s.sentPacket p).lane.headTimer = s.lane.headTimer ∧ (s.sentPacket p).lane.delivered = s.lane.delivered ∧ (s.sentPacket p).lane.lastTemplate = s.lane.lastTemplate := by
  refine ⟨?_, ?_, ?_, ?_, ?_⟩ <;> (unfold State.sentPacket; (try dsimp only); (repeat' split) <;> (first | (simp; done) | rfl | (simp_all; done)))

@[simp] theorem handOpen_comp_fields (s : State) :
    (s.handOpen).comp.held = s.comp.held ∧ (s.handOpen).comp.cut = s.comp.cut ∧ (s.handOpen).comp.tracker = s.comp.tracker := by
  refine ⟨?_, ?_, ?_⟩ <;> (unfold State.handOpen; (try dsimp only); (repeat' split) <;> (first | (simp; done) | rfl | (simp_all; done)))

@[simp] theorem handOpen_lane_fields (s : State) :
    (s.handOpen).lane.sheets = s.lane.sheets ∧ (s.handOpen).lane.hold = s.lane.hold ∧ (s.handOpen).lane.headTimer = s.lane.headTimer ∧ (s.handOpen).lane.delivered = s.lane.delivered ∧ (s.handOpen).lane.lastTemplate = s.lane.lastTemplate ∧ (s.handOpen).lane.sent = s.lane.sent := by
  refine ⟨?_, ?_, ?_, ?_, ?_, ?_⟩ <;> (unfold State.handOpen; (try dsimp only); (repeat' split) <;> (first | (simp; done) | rfl | (simp_all; done)))

@[simp] theorem trainOrOpen_comp_fields (s : State) (ix : Nat) (t : Template) :
    (s.trainOrOpen ix t).comp.held = s.comp.held ∧ (s.trainOrOpen ix t).comp.cut = s.comp.cut ∧ (s.trainOrOpen ix t).comp.tracker = s.comp.tracker := by
  refine ⟨?_, ?_, ?_⟩ <;> (unfold State.trainOrOpen; (try dsimp only); (repeat' split) <;> (first | (simp; done) | rfl | (simp_all; done)))

@[simp] theorem trainOrOpen_lane_fields (s : State) (ix : Nat) (t : Template) :
    (s.trainOrOpen ix t).lane.sheets = s.lane.sheets ∧ (s.trainOrOpen ix t).lane.hold = s.lane.hold ∧ (s.trainOrOpen ix t).lane.headTimer = s.lane.headTimer ∧ (s.trainOrOpen ix t).lane.delivered = s.lane.delivered ∧ (s.trainOrOpen ix t).lane.lastTemplate = s.lane.lastTemplate ∧ (s.trainOrOpen ix t).lane.sent = s.lane.sent := by
  refine ⟨?_, ?_, ?_, ?_, ?_, ?_⟩ <;> (unfold State.trainOrOpen; (try dsimp only); (repeat' split) <;> (first | (simp; done) | rfl | (simp_all; done)))

@[simp] theorem enterPage_tiles_dram (s : State) (p : PageRec) (t : Template) :
    (s.enterPage p t).tiles.dram = s.tiles.dram := by
  unfold State.enterPage; (try dsimp only); (repeat' split) <;> (first | (simp; done) | rfl | (simp_all; done))

@[simp] theorem enterPage_fetch_fields (s : State) (p : PageRec) (t : Template) :
    (s.enterPage p t).fetch.tag = s.fetch.tag ∧ (s.enterPage p t).fetch.hold = s.fetch.hold ∧ (s.enterPage p t).fetch.answer = s.fetch.answer ∧ (s.enterPage p t).fetch.timer = s.fetch.timer ∧ (s.enterPage p t).fetch.prefetch = s.fetch.prefetch := by
  refine ⟨?_, ?_, ?_, ?_, ?_⟩ <;> (unfold State.enterPage; (try dsimp only); (repeat' split) <;> (first | (simp; done) | rfl | (simp_all; done)))

@[simp] theorem enterPage_lane_fields (s : State) (p : PageRec) (t : Template) :
    (s.enterPage p t).lane.sheets = s.lane.sheets ∧ (s.enterPage p t).lane.hold = s.lane.hold ∧ (s.enterPage p t).lane.headTimer = s.lane.headTimer ∧ (s.enterPage p t).lane.delivered = s.lane.delivered ∧ (s.enterPage p t).lane.lastTemplate = s.lane.lastTemplate ∧ (s.enterPage p t).lane.sent = s.lane.sent := by
  refine ⟨?_, ?_, ?_, ?_, ?_, ?_⟩ <;> (unfold State.enterPage; (try dsimp only); (repeat' split) <;> (first | (simp; done) | rfl | (simp_all; done)))

@[simp] theorem boundaryStep_tiles_dram (s : State) :
    (s.boundaryStep).tiles.dram = s.tiles.dram := by
  unfold State.boundaryStep; (try dsimp only); (repeat' split) <;> (first | (simp; done) | rfl | (simp_all; done))

@[simp] theorem boundaryStep_fetch_fields (s : State) :
    (s.boundaryStep).fetch.tag = s.fetch.tag ∧ (s.boundaryStep).fetch.hold = s.fetch.hold ∧ (s.boundaryStep).fetch.answer = s.fetch.answer ∧ (s.boundaryStep).fetch.timer = s.fetch.timer := by
  refine ⟨?_, ?_, ?_, ?_⟩ <;> (unfold State.boundaryStep; (try dsimp only); (repeat' split) <;> (first | (simp; done) | rfl | (simp_all; done)))

@[simp] theorem boundaryStep_lane_fields (s : State) :
    (s.boundaryStep).lane.sheets = s.lane.sheets ∧ (s.boundaryStep).lane.hold = s.lane.hold ∧ (s.boundaryStep).lane.headTimer = s.lane.headTimer ∧ (s.boundaryStep).lane.delivered = s.lane.delivered ∧ (s.boundaryStep).lane.lastTemplate = s.lane.lastTemplate ∧ (s.boundaryStep).lane.sent = s.lane.sent := by
  refine ⟨?_, ?_, ?_, ?_, ?_, ?_⟩ <;> (unfold State.boundaryStep; (try dsimp only); (repeat' split) <;> (first | (simp; done) | rfl | (simp_all; done)))

@[simp] theorem releaseRefs_comp_fields (s : State) (past : Nat) :
    (s.releaseRefs past).comp.state = s.comp.state ∧ (s.releaseRefs past).comp.cut = s.comp.cut ∧ (s.releaseRefs past).comp.tracker = s.comp.tracker := by
  refine ⟨?_, ?_, ?_⟩ <;> (unfold State.releaseRefs; (try dsimp only); (repeat' split) <;> (first | (simp; done) | rfl | (simp_all; done)))

@[simp] theorem releaseRefs_tiles_dram (s : State) (past : Nat) :
    (s.releaseRefs past).tiles.dram = s.tiles.dram := by
  unfold State.releaseRefs; (try dsimp only); (repeat' split) <;> (first | (simp; done) | rfl | (simp_all; done))

@[simp] theorem releaseRefs_fetch_fields (s : State) (past : Nat) :
    (s.releaseRefs past).fetch.tag = s.fetch.tag ∧ (s.releaseRefs past).fetch.hold = s.fetch.hold ∧ (s.releaseRefs past).fetch.answer = s.fetch.answer ∧ (s.releaseRefs past).fetch.timer = s.fetch.timer ∧ (s.releaseRefs past).fetch.wants = s.fetch.wants ∧ (s.releaseRefs past).fetch.prefetch = s.fetch.prefetch := by
  refine ⟨?_, ?_, ?_, ?_, ?_, ?_⟩ <;> (unfold State.releaseRefs; (try dsimp only); (repeat' split) <;> (first | (simp; done) | rfl | (simp_all; done)))

@[simp] theorem trainSent_comp_fields (s : State) (ix n : Nat) (p : Packet) :
    (s.trainSent ix n p).comp.held = s.comp.held ∧ (s.trainSent ix n p).comp.cut = s.comp.cut ∧ (s.trainSent ix n p).comp.tracker = s.comp.tracker := by
  refine ⟨?_, ?_, ?_⟩ <;> (unfold State.trainSent State.unlessCut; (try dsimp only); (repeat' split) <;> (first | (simp; done) | rfl))

@[simp] theorem openSent_comp_fields (s : State) (p : Packet) :
    (s.openSent p).comp.state = s.comp.state ∧ (s.openSent p).comp.cut = s.comp.cut ∧ (s.openSent p).comp.tracker = s.comp.tracker := by
  refine ⟨?_, ?_, ?_⟩ <;> (unfold State.openSent State.unlessCut; (try dsimp only); (repeat' split) <;> (first | (simp; done) | rfl))

@[simp] theorem openSent_lane_fields (s : State) (p : Packet) :
    (s.openSent p).lane.sheets = s.lane.sheets ∧ (s.openSent p).lane.hold = s.lane.hold ∧ (s.openSent p).lane.headTimer = s.lane.headTimer ∧ (s.openSent p).lane.delivered = s.lane.delivered ∧ (s.openSent p).lane.lastTemplate = s.lane.lastTemplate := by
  refine ⟨?_, ?_, ?_, ?_, ?_⟩ <;> (unfold State.openSent State.unlessCut; (try dsimp only); (repeat' split) <;> (first | (simp; done) | rfl))

@[simp] theorem metaSent_comp_cut (s : State) (p : Packet) :
    (s.metaSent p).comp.cut = s.comp.cut := by
  unfold State.metaSent State.unlessCut; (try dsimp only); (repeat' split) <;> (first | (simp; done) | rfl)

@[simp] theorem metaSent_tiles_dram (s : State) (p : Packet) :
    (s.metaSent p).tiles.dram = s.tiles.dram := by
  unfold State.metaSent State.unlessCut; (try dsimp only); (repeat' split) <;> (first | (simp; done) | rfl)

@[simp] theorem metaSent_fetch_fields (s : State) (p : Packet) :
    (s.metaSent p).fetch.tag = s.fetch.tag ∧ (s.metaSent p).fetch.hold = s.fetch.hold ∧ (s.metaSent p).fetch.answer = s.fetch.answer ∧ (s.metaSent p).fetch.timer = s.fetch.timer ∧ (s.metaSent p).fetch.prefetch = s.fetch.prefetch := by
  refine ⟨?_, ?_, ?_, ?_, ?_⟩ <;> (unfold State.metaSent State.unlessCut; (try dsimp only); (repeat' split) <;> (first | (simp; done) | rfl))

@[simp] theorem metaSent_lane_fields (s : State) (p : Packet) :
    (s.metaSent p).lane.sheets = s.lane.sheets ∧ (s.metaSent p).lane.hold = s.lane.hold ∧ (s.metaSent p).lane.headTimer = s.lane.headTimer ∧ (s.metaSent p).lane.delivered = s.lane.delivered ∧ (s.metaSent p).lane.lastTemplate = s.lane.lastTemplate := by
  refine ⟨?_, ?_, ?_, ?_, ?_⟩ <;> (unfold State.metaSent State.unlessCut; (try dsimp only); (repeat' split) <;> (first | (simp; done) | rfl))

@[simp] theorem titleSent_comp_cut (s : State) (p : Packet) :
    (s.titleSent p).comp.cut = s.comp.cut := by
  unfold State.titleSent State.unlessCut; (try dsimp only); (repeat' split) <;> (first | (simp; done) | rfl)

@[simp] theorem titleSent_tiles_dram (s : State) (p : Packet) :
    (s.titleSent p).tiles.dram = s.tiles.dram := by
  unfold State.titleSent State.unlessCut; (try dsimp only); (repeat' split) <;> (first | (simp; done) | rfl)

@[simp] theorem titleSent_fetch_fields (s : State) (p : Packet) :
    (s.titleSent p).fetch.tag = s.fetch.tag ∧ (s.titleSent p).fetch.hold = s.fetch.hold ∧ (s.titleSent p).fetch.answer = s.fetch.answer ∧ (s.titleSent p).fetch.timer = s.fetch.timer ∧ (s.titleSent p).fetch.prefetch = s.fetch.prefetch := by
  refine ⟨?_, ?_, ?_, ?_, ?_⟩ <;> (unfold State.titleSent State.unlessCut; (try dsimp only); (repeat' split) <;> (first | (simp; done) | rfl))

@[simp] theorem titleSent_lane_fields (s : State) (p : Packet) :
    (s.titleSent p).lane.sheets = s.lane.sheets ∧ (s.titleSent p).lane.hold = s.lane.hold ∧ (s.titleSent p).lane.headTimer = s.lane.headTimer ∧ (s.titleSent p).lane.delivered = s.lane.delivered ∧ (s.titleSent p).lane.lastTemplate = s.lane.lastTemplate := by
  refine ⟨?_, ?_, ?_, ?_, ?_⟩ <;> (unfold State.titleSent State.unlessCut; (try dsimp only); (repeat' split) <;> (first | (simp; done) | rfl))

@[simp] theorem bandSent_tiles_dram (s : State) (p : Packet) (b past : Nat) :
    (s.bandSent p b past).tiles.dram = s.tiles.dram := by
  unfold State.bandSent State.unlessCut; (try dsimp only); (repeat' split) <;> (first | (simp; done) | rfl)

@[simp] theorem bandSent_fetch_fields (s : State) (p : Packet) (b past : Nat) :
    (s.bandSent p b past).fetch.tag = s.fetch.tag ∧ (s.bandSent p b past).fetch.hold = s.fetch.hold ∧ (s.bandSent p b past).fetch.answer = s.fetch.answer ∧ (s.bandSent p b past).fetch.timer = s.fetch.timer ∧ (s.bandSent p b past).fetch.prefetch = s.fetch.prefetch := by
  refine ⟨?_, ?_, ?_, ?_, ?_⟩ <;> (unfold State.bandSent State.unlessCut; (try dsimp only); (repeat' split) <;> (first | (simp; done) | rfl))

@[simp] theorem bandSent_lane_fields (s : State) (p : Packet) (b past : Nat) :
    (s.bandSent p b past).lane.sheets = s.lane.sheets ∧ (s.bandSent p b past).lane.hold = s.lane.hold ∧ (s.bandSent p b past).lane.headTimer = s.lane.headTimer ∧ (s.bandSent p b past).lane.delivered = s.lane.delivered ∧ (s.bandSent p b past).lane.lastTemplate = s.lane.lastTemplate := by
  refine ⟨?_, ?_, ?_, ?_, ?_⟩ <;> (unfold State.bandSent State.unlessCut; (try dsimp only); (repeat' split) <;> (first | (simp; done) | rfl))

@[simp] theorem captionSent_tiles_dram (s : State) (p : Packet) :
    (s.captionSent p).tiles.dram = s.tiles.dram := by
  unfold State.captionSent State.unlessCut; (try dsimp only); (repeat' split) <;> (first | (simp; done) | rfl)

@[simp] theorem captionSent_fetch_fields (s : State) (p : Packet) :
    (s.captionSent p).fetch.tag = s.fetch.tag ∧ (s.captionSent p).fetch.hold = s.fetch.hold ∧ (s.captionSent p).fetch.answer = s.fetch.answer ∧ (s.captionSent p).fetch.timer = s.fetch.timer ∧ (s.captionSent p).fetch.prefetch = s.fetch.prefetch := by
  refine ⟨?_, ?_, ?_, ?_, ?_⟩ <;> (unfold State.captionSent State.unlessCut; (try dsimp only); (repeat' split) <;> (first | (simp; done) | rfl))

@[simp] theorem captionSent_lane_fields (s : State) (p : Packet) :
    (s.captionSent p).lane.sheets = s.lane.sheets ∧ (s.captionSent p).lane.hold = s.lane.hold ∧ (s.captionSent p).lane.headTimer = s.lane.headTimer ∧ (s.captionSent p).lane.delivered = s.lane.delivered ∧ (s.captionSent p).lane.lastTemplate = s.lane.lastTemplate := by
  refine ⟨?_, ?_, ?_, ?_, ?_⟩ <;> (unfold State.captionSent State.unlessCut; (try dsimp only); (repeat' split) <;> (first | (simp; done) | rfl))

@[simp] theorem closeSent_tiles_dram (s : State) (p : Packet) (h : Held) :
    (s.closeSent p h).tiles.dram = s.tiles.dram := by
  unfold State.closeSent; (try dsimp only); (repeat' split) <;> (first | (simp; done) | rfl | (simp_all; done))

@[simp] theorem closeSent_fetch_fields (s : State) (p : Packet) (h : Held) :
    (s.closeSent p h).fetch.tag = s.fetch.tag ∧ (s.closeSent p h).fetch.hold = s.fetch.hold ∧ (s.closeSent p h).fetch.answer = s.fetch.answer ∧ (s.closeSent p h).fetch.timer = s.fetch.timer ∧ (s.closeSent p h).fetch.wants = s.fetch.wants := by
  refine ⟨?_, ?_, ?_, ?_, ?_⟩ <;> (unfold State.closeSent; (try dsimp only); (repeat' split) <;> (first | (simp; done) | rfl | (simp_all; done)))

@[simp] theorem cutSettled_fetch_fields (s : State) :
    (s.cutSettled).fetch.list = s.fetch.list ∧ (s.cutSettled).fetch.tag = s.fetch.tag ∧ (s.cutSettled).fetch.hold = s.fetch.hold ∧ (s.cutSettled).fetch.answer = s.fetch.answer ∧ (s.cutSettled).fetch.timer = s.fetch.timer ∧ (s.cutSettled).fetch.wants = s.fetch.wants := by
  refine ⟨?_, ?_, ?_, ?_, ?_, ?_⟩ <;> (unfold State.cutSettled; (try dsimp only); (repeat' split) <;> (first | (simp; done) | rfl | (simp_all; done)))

@[simp] theorem cutSettled_lane_fields (s : State) :
    (s.cutSettled).lane.delivered = s.lane.delivered ∧ (s.cutSettled).lane.sent = s.lane.sent ∧ (s.cutSettled).lane.inFlight = s.lane.inFlight := by
  refine ⟨?_, ?_, ?_⟩ <;> (unfold State.cutSettled; (try dsimp only); (repeat' split) <;> (first | (simp; done) | rfl | (simp_all; done)))

@[simp] theorem carryOutCut_tiles_dram (s : State) (h : Held) :
    (s.carryOutCut h).tiles.dram = s.tiles.dram := by
  unfold State.carryOutCut; (try dsimp only); (repeat' split) <;> (first | (simp; done) | rfl | (simp_all; done))

@[simp] theorem carryOutCut_fetch_fields (s : State) (h : Held) :
    (s.carryOutCut h).fetch.tag = s.fetch.tag ∧ (s.carryOutCut h).fetch.hold = s.fetch.hold ∧ (s.carryOutCut h).fetch.answer = s.fetch.answer ∧ (s.carryOutCut h).fetch.timer = s.fetch.timer := by
  refine ⟨?_, ?_, ?_, ?_⟩ <;> (unfold State.carryOutCut; (try dsimp only); (repeat' split) <;> (first | (simp; done) | rfl | (simp_all; done)))

@[simp] theorem dropWant_fetch_fields (s : State) :
    (s.dropWant).fetch.list = s.fetch.list ∧ (s.dropWant).fetch.tag = s.fetch.tag ∧ (s.dropWant).fetch.hold = s.fetch.hold ∧ (s.dropWant).fetch.answer = s.fetch.answer ∧ (s.dropWant).fetch.timer = s.fetch.timer ∧ (s.dropWant).fetch.prefetch = s.fetch.prefetch := by
  refine ⟨?_, ?_, ?_, ?_, ?_, ?_⟩ <;> (unfold State.dropWant; (try dsimp only); (repeat' split) <;> (first | (simp; done) | rfl | (simp_all; done)))

@[simp] theorem placeWant_tiles_dram (s : State) (w : Want) :
    (s.placeWant w).tiles.dram = s.tiles.dram := by
  unfold State.placeWant; (try dsimp only); (repeat' split) <;> (first | (simp; done) | rfl | (simp_all; done))

@[simp] theorem placeWant_fetch_fields (s : State) (w : Want) :
    (s.placeWant w).fetch.hold = s.fetch.hold ∧ (s.placeWant w).fetch.answer = s.fetch.answer ∧ (s.placeWant w).fetch.prefetch = s.fetch.prefetch := by
  refine ⟨?_, ?_, ?_⟩ <;> (unfold State.placeWant; (try dsimp only); (repeat' split) <;> (first | (simp; done) | rfl | (simp_all; done)))

@[simp] theorem wantStep_tiles_dram (s : State) :
    (s.wantStep).tiles.dram = s.tiles.dram := by
  unfold State.wantStep; (try dsimp only); (repeat' split) <;> (first | (simp; done) | rfl | (simp_all; done))

@[simp] theorem wantStep_fetch_fields (s : State) :
    (s.wantStep).fetch.hold = s.fetch.hold ∧ (s.wantStep).fetch.answer = s.fetch.answer ∧ (s.wantStep).fetch.prefetch = s.fetch.prefetch := by
  refine ⟨?_, ?_, ?_⟩ <;> (unfold State.wantStep; (try dsimp only); (repeat' split) <;> (first | (simp; done) | rfl | (simp_all; done)))

@[simp] theorem walk_tiles_dram (l : List (Nat × Nat)) (s : State) :
    (State.walk l s).tiles.dram = s.tiles.dram := by
  induction l generalizing s with
  | nil => simp [State.walk]
  | cons i l ih =>
    unfold State.walk
    (repeat' split) <;> simp [ih]

@[simp] theorem walk_fetch_fields (l : List (Nat × Nat)) (s : State) :
    (State.walk l s).fetch.hold = s.fetch.hold ∧ (State.walk l s).fetch.answer = s.fetch.answer ∧ (State.walk l s).fetch.wants = s.fetch.wants ∧ (State.walk l s).fetch.prefetch = s.fetch.prefetch := by
  refine ⟨?_, ?_, ?_, ?_⟩ <;> (induction l generalizing s with
      | nil => simp [State.walk]
      | cons i l ih =>
        unfold State.walk
        (repeat' split) <;> simp [ih])

@[simp] theorem walkStep_tiles_dram (s : State) :
    (s.walkStep).tiles.dram = s.tiles.dram := by
  unfold State.walkStep; (try dsimp only); (repeat' split) <;> (first | (simp; done) | rfl | (simp_all; done))

@[simp] theorem walkStep_fetch_fields (s : State) :
    (s.walkStep).fetch.hold = s.fetch.hold ∧ (s.walkStep).fetch.answer = s.fetch.answer ∧ (s.walkStep).fetch.wants = s.fetch.wants ∧ (s.walkStep).fetch.prefetch = s.fetch.prefetch := by
  refine ⟨?_, ?_, ?_, ?_⟩ <;> (unfold State.walkStep; (try dsimp only); (repeat' split) <;> (first | (simp; done) | rfl | (simp_all; done)))

@[simp] theorem popHead_fetch_fields (s : State) :
    (s.popHead).fetch.tag = s.fetch.tag ∧ (s.popHead).fetch.hold = s.fetch.hold ∧ (s.popHead).fetch.wants = s.fetch.wants ∧ (s.popHead).fetch.prefetch = s.fetch.prefetch := by
  refine ⟨?_, ?_, ?_, ?_⟩ <;> (unfold State.popHead; (try dsimp only); (repeat' split) <;> (first | (simp; done) | rfl | (simp_all; done)))

@[simp] theorem protocolLoss_comp_fields (s : State) (tag : Nat) :
    (s.protocolLoss tag).comp.state = s.comp.state ∧ (s.protocolLoss tag).comp.tracker = s.comp.tracker := by
  refine ⟨?_, ?_⟩ <;> (unfold State.protocolLoss; (try dsimp only); (repeat' split) <;> (first | (simp; done) | rfl | (simp_all; done)))

@[simp] theorem protocolLoss_tiles_dram (s : State) (tag : Nat) :
    (s.protocolLoss tag).tiles.dram = s.tiles.dram := by
  unfold State.protocolLoss; (try dsimp only); (repeat' split) <;> (first | (simp; done) | rfl | (simp_all; done))

@[simp] theorem protocolLoss_fetch_tag (s : State) (tag : Nat) :
    (s.protocolLoss tag).fetch.tag = s.fetch.tag := by
  unfold State.protocolLoss; (try dsimp only); (repeat' split) <;> (first | (simp; done) | rfl | (simp_all; done))

@[simp] theorem protocolLoss_lane_fields (s : State) (tag : Nat) :
    (s.protocolLoss tag).lane.delivered = s.lane.delivered ∧ (s.protocolLoss tag).lane.sent = s.lane.sent ∧ (s.protocolLoss tag).lane.inFlight = s.lane.inFlight := by
  refine ⟨?_, ?_, ?_⟩ <;> (unfold State.protocolLoss; (try dsimp only); (repeat' split) <;> (first | (simp; done) | rfl | (simp_all; done)))

@[simp] theorem resume_comp_cut (s : State) :
    (s.resume).comp.cut = s.comp.cut := by
  unfold State.resume; (try dsimp only); (repeat' split) <;> (first | (simp; done) | rfl | (simp_all; done))

@[simp] theorem resume_tiles_dram (s : State) :
    (s.resume).tiles.dram = s.tiles.dram := by
  unfold State.resume; (try dsimp only); (repeat' split) <;> (first | (simp; done) | rfl | (simp_all; done))

@[simp] theorem resume_fetch_fields (s : State) :
    (s.resume).fetch.tag = s.fetch.tag ∧ (s.resume).fetch.hold = s.fetch.hold ∧ (s.resume).fetch.answer = s.fetch.answer ∧ (s.resume).fetch.timer = s.fetch.timer ∧ (s.resume).fetch.wants = s.fetch.wants ∧ (s.resume).fetch.prefetch = s.fetch.prefetch := by
  refine ⟨?_, ?_, ?_, ?_, ?_, ?_⟩ <;> (unfold State.resume; (try dsimp only); (repeat' split) <;> (first | (simp; done) | rfl | (simp_all; done)))

@[simp] theorem resume_lane_fields (s : State) :
    (s.resume).lane.sheets = s.lane.sheets ∧ (s.resume).lane.hold = s.lane.hold ∧ (s.resume).lane.headTimer = s.lane.headTimer ∧ (s.resume).lane.delivered = s.lane.delivered ∧ (s.resume).lane.lastTemplate = s.lane.lastTemplate ∧ (s.resume).lane.sent = s.lane.sent := by
  refine ⟨?_, ?_, ?_, ?_, ?_, ?_⟩ <;> (unfold State.resume; (try dsimp only); (repeat' split) <;> (first | (simp; done) | rfl | (simp_all; done)))

@[simp] theorem tell_comp_fields (s : State) (a : FetchAnswer) (r : Ref) :
    (s.tell a r).comp.state = s.comp.state ∧ (s.tell a r).comp.cut = s.comp.cut ∧ (s.tell a r).comp.tracker = s.comp.tracker := by
  refine ⟨?_, ?_, ?_⟩ <;> (unfold State.tell; (try dsimp only); (repeat' split) <;> (first | (simp; done) | rfl | (simp_all; done)))

@[simp] theorem acceptPortrait_comp_cut (s : State) (e : FetchEntry) (a : Answer) :
    (s.acceptPortrait e a).comp.cut = s.comp.cut := by
  unfold State.acceptPortrait; (try dsimp only); (repeat' split) <;> (first | (simp; done) | rfl | (simp_all; done))

@[simp] theorem acceptPortrait_tiles_dram (s : State) (e : FetchEntry) (a : Answer) :
    (s.acceptPortrait e a).tiles.dram = s.tiles.dram := by
  unfold State.acceptPortrait; (try dsimp only); (repeat' split) <;> (first | (simp; done) | rfl | (simp_all; done))

@[simp] theorem acceptPortrait_fetch_fields (s : State) (e : FetchEntry) (a : Answer) :
    (s.acceptPortrait e a).fetch.tag = s.fetch.tag ∧ (s.acceptPortrait e a).fetch.hold = s.fetch.hold ∧ (s.acceptPortrait e a).fetch.answer = s.fetch.answer ∧ (s.acceptPortrait e a).fetch.timer = s.fetch.timer ∧ (s.acceptPortrait e a).fetch.wants = s.fetch.wants ∧ (s.acceptPortrait e a).fetch.prefetch = s.fetch.prefetch := by
  refine ⟨?_, ?_, ?_, ?_, ?_, ?_⟩ <;> (unfold State.acceptPortrait; (try dsimp only); (repeat' split) <;> (first | (simp; done) | rfl | (simp_all; done)))

@[simp] theorem acceptPortrait_lane_fields (s : State) (e : FetchEntry) (a : Answer) :
    (s.acceptPortrait e a).lane.sheets = s.lane.sheets ∧ (s.acceptPortrait e a).lane.hold = s.lane.hold ∧ (s.acceptPortrait e a).lane.headTimer = s.lane.headTimer ∧ (s.acceptPortrait e a).lane.delivered = s.lane.delivered ∧ (s.acceptPortrait e a).lane.lastTemplate = s.lane.lastTemplate ∧ (s.acceptPortrait e a).lane.sent = s.lane.sent := by
  refine ⟨?_, ?_, ?_, ?_, ?_, ?_⟩ <;> (unfold State.acceptPortrait; (try dsimp only); (repeat' split) <;> (first | (simp; done) | rfl | (simp_all; done)))

@[simp] theorem corrupt_comp_fields (s : State) (e : FetchEntry) :
    (s.corrupt e).comp.state = s.comp.state ∧ (s.corrupt e).comp.tracker = s.comp.tracker := by
  refine ⟨?_, ?_⟩ <;> (unfold State.corrupt; (try dsimp only); (repeat' split) <;> (first | (simp; done) | rfl | (simp_all; done)))

@[simp] theorem corrupt_tiles_dram (s : State) (e : FetchEntry) :
    (s.corrupt e).tiles.dram = s.tiles.dram := by
  unfold State.corrupt; (try dsimp only); (repeat' split) <;> (first | (simp; done) | rfl | (simp_all; done))

@[simp] theorem corrupt_fetch_tag (s : State) (e : FetchEntry) :
    (s.corrupt e).fetch.tag = s.fetch.tag := by
  unfold State.corrupt; (try dsimp only); (repeat' split) <;> (first | (simp; done) | rfl | (simp_all; done))

@[simp] theorem corrupt_lane_fields (s : State) (e : FetchEntry) :
    (s.corrupt e).lane.delivered = s.lane.delivered ∧ (s.corrupt e).lane.sent = s.lane.sent ∧ (s.corrupt e).lane.inFlight = s.lane.inFlight := by
  refine ⟨?_, ?_, ?_⟩ <;> (unfold State.corrupt; (try dsimp only); (repeat' split) <;> (first | (simp; done) | rfl | (simp_all; done)))

@[simp] theorem badAnswer_comp_fields (s : State) (e : FetchEntry) :
    (s.badAnswer e).comp.state = s.comp.state ∧ (s.badAnswer e).comp.tracker = s.comp.tracker := by
  refine ⟨?_, ?_⟩ <;> (unfold State.badAnswer; (try dsimp only); (repeat' split) <;> (first | (simp; done) | rfl | (simp_all; done)))

@[simp] theorem badAnswer_tiles_dram (s : State) (e : FetchEntry) :
    (s.badAnswer e).tiles.dram = s.tiles.dram := by
  unfold State.badAnswer; (try dsimp only); (repeat' split) <;> (first | (simp; done) | rfl | (simp_all; done))

@[simp] theorem badAnswer_lane_fields (s : State) (e : FetchEntry) :
    (s.badAnswer e).lane.delivered = s.lane.delivered ∧ (s.badAnswer e).lane.sent = s.lane.sent ∧ (s.badAnswer e).lane.inFlight = s.lane.inFlight := by
  refine ⟨?_, ?_, ?_⟩ <;> (unfold State.badAnswer; (try dsimp only); (repeat' split) <;> (first | (simp; done) | rfl | (simp_all; done)))

@[simp] theorem setAnswer_fetch_fields (s : State) (a : Answer) :
    (s.setAnswer a).fetch.list = s.fetch.list ∧ (s.setAnswer a).fetch.tag = s.fetch.tag ∧ (s.setAnswer a).fetch.hold = s.fetch.hold ∧ (s.setAnswer a).fetch.wants = s.fetch.wants ∧ (s.setAnswer a).fetch.prefetch = s.fetch.prefetch := by
  refine ⟨?_, ?_, ?_, ?_, ?_⟩ <;> (unfold State.setAnswer; (try dsimp only); (repeat' split) <;> (first | (simp; done) | rfl | (simp_all; done)))

@[simp] theorem takeData_fetch_fields (s : State) (e : FetchEntry) (a : Answer) (bs : List Byte) :
    (s.takeData e a bs).fetch.list = s.fetch.list ∧ (s.takeData e a bs).fetch.tag = s.fetch.tag ∧ (s.takeData e a bs).fetch.hold = s.fetch.hold ∧ (s.takeData e a bs).fetch.wants = s.fetch.wants ∧ (s.takeData e a bs).fetch.prefetch = s.fetch.prefetch := by
  refine ⟨?_, ?_, ?_, ?_, ?_⟩ <;> (unfold State.takeData; (try dsimp only); (repeat' split) <;> (first | (simp; done) | rfl | (simp_all; done)))

@[simp] theorem portraitHeadRecord_comp_fields (s : State) (tag : Nat) (pid : Id32) (width height : Nat) :
    (s.portraitHeadRecord tag pid width height).comp.state = s.comp.state ∧ (s.portraitHeadRecord tag pid width height).comp.tracker = s.comp.tracker := by
  refine ⟨?_, ?_⟩ <;> (unfold State.portraitHeadRecord; (try dsimp only); (repeat' split) <;> (first | (simp; done) | rfl | (simp_all; done)))

@[simp] theorem portraitHeadRecord_tiles_dram (s : State) (tag : Nat) (pid : Id32) (width height : Nat) :
    (s.portraitHeadRecord tag pid width height).tiles.dram = s.tiles.dram := by
  unfold State.portraitHeadRecord; (try dsimp only); (repeat' split) <;> (first | (simp; done) | rfl | (simp_all; done))

@[simp] theorem portraitHeadRecord_fetch_tag (s : State) (tag : Nat) (pid : Id32) (width height : Nat) :
    (s.portraitHeadRecord tag pid width height).fetch.tag = s.fetch.tag := by
  unfold State.portraitHeadRecord; (try dsimp only); (repeat' split) <;> (first | (simp; done) | rfl | (simp_all; done))

@[simp] theorem portraitHeadRecord_lane_fields (s : State) (tag : Nat) (pid : Id32) (width height : Nat) :
    (s.portraitHeadRecord tag pid width height).lane.delivered = s.lane.delivered ∧ (s.portraitHeadRecord tag pid width height).lane.sent = s.lane.sent ∧ (s.portraitHeadRecord tag pid width height).lane.inFlight = s.lane.inFlight := by
  refine ⟨?_, ?_, ?_⟩ <;> (unfold State.portraitHeadRecord; (try dsimp only); (repeat' split) <;> (first | (simp; done) | rfl | (simp_all; done)))

@[simp] theorem portraitDataRecord_comp_fields (s : State) (tag : Nat) (bs : List Byte) :
    (s.portraitDataRecord tag bs).comp.state = s.comp.state ∧ (s.portraitDataRecord tag bs).comp.tracker = s.comp.tracker := by
  refine ⟨?_, ?_⟩ <;> (unfold State.portraitDataRecord; (try dsimp only); (repeat' split) <;> (first | (simp; done) | rfl | (simp_all; done)))

@[simp] theorem portraitDataRecord_fetch_tag (s : State) (tag : Nat) (bs : List Byte) :
    (s.portraitDataRecord tag bs).fetch.tag = s.fetch.tag := by
  unfold State.portraitDataRecord; (try dsimp only); (repeat' split) <;> (first | (simp; done) | rfl | (simp_all; done))

@[simp] theorem portraitDataRecord_lane_fields (s : State) (tag : Nat) (bs : List Byte) :
    (s.portraitDataRecord tag bs).lane.delivered = s.lane.delivered ∧ (s.portraitDataRecord tag bs).lane.sent = s.lane.sent ∧ (s.portraitDataRecord tag bs).lane.inFlight = s.lane.inFlight := by
  refine ⟨?_, ?_, ?_⟩ <;> (unfold State.portraitDataRecord; (try dsimp only); (repeat' split) <;> (first | (simp; done) | rfl | (simp_all; done)))

@[simp] theorem fetchTimeout_comp_fields (s : State) :
    (s.fetchTimeout).comp.state = s.comp.state ∧ (s.fetchTimeout).comp.tracker = s.comp.tracker := by
  refine ⟨?_, ?_⟩ <;> (unfold State.fetchTimeout; (try dsimp only); (repeat' split) <;> (first | (simp; done) | rfl | (simp_all; done)))

@[simp] theorem fetchTimeout_tiles_dram (s : State) :
    (s.fetchTimeout).tiles.dram = s.tiles.dram := by
  unfold State.fetchTimeout; (try dsimp only); (repeat' split) <;> (first | (simp; done) | rfl | (simp_all; done))

@[simp] theorem fetchTimeout_fetch_tag (s : State) :
    (s.fetchTimeout).fetch.tag = s.fetch.tag := by
  unfold State.fetchTimeout; (try dsimp only); (repeat' split) <;> (first | (simp; done) | rfl | (simp_all; done))

@[simp] theorem fetchTimeout_lane_fields (s : State) :
    (s.fetchTimeout).lane.delivered = s.lane.delivered ∧ (s.fetchTimeout).lane.sent = s.lane.sent ∧ (s.fetchTimeout).lane.inFlight = s.lane.inFlight := by
  refine ⟨?_, ?_, ?_⟩ <;> (unfold State.fetchTimeout; (try dsimp only); (repeat' split) <;> (first | (simp; done) | rfl | (simp_all; done)))

@[simp] theorem handOutcome_fetch_fields (s : State) (sh : Sheet) (o : EngineOutcome) :
    (s.handOutcome sh o).fetch.list = s.fetch.list ∧ (s.handOutcome sh o).fetch.tag = s.fetch.tag ∧ (s.handOutcome sh o).fetch.hold = s.fetch.hold ∧ (s.handOutcome sh o).fetch.answer = s.fetch.answer ∧ (s.handOutcome sh o).fetch.timer = s.fetch.timer ∧ (s.handOutcome sh o).fetch.wants = s.fetch.wants := by
  refine ⟨?_, ?_, ?_, ?_, ?_, ?_⟩ <;> (unfold State.handOutcome; (try dsimp only); (repeat' split) <;> (first | (simp; done) | rfl | (simp_all; done)))

@[simp] theorem goodOutcome_comp_fields (s : State) (page : Nat) (o : EngineOutcome) :
    (s.goodOutcome page o).comp.state = s.comp.state ∧ (s.goodOutcome page o).comp.tracker = s.comp.tracker := by
  refine ⟨?_, ?_⟩ <;> (unfold State.goodOutcome; (try dsimp only); (repeat' split) <;> (first | (simp; done) | rfl | (simp_all; done)))

@[simp] theorem goodOutcome_tiles_dram (s : State) (page : Nat) (o : EngineOutcome) :
    (s.goodOutcome page o).tiles.dram = s.tiles.dram := by
  unfold State.goodOutcome; (try dsimp only); (repeat' split) <;> (first | (simp; done) | rfl | (simp_all; done))

@[simp] theorem goodOutcome_fetch_tag (s : State) (page : Nat) (o : EngineOutcome) :
    (s.goodOutcome page o).fetch.tag = s.fetch.tag := by
  unfold State.goodOutcome; (try dsimp only); (repeat' split) <;> (first | (simp; done) | rfl | (simp_all; done))

@[simp] theorem badOutcome_comp_fields (s : State) :
    (s.badOutcome).comp.state = s.comp.state ∧ (s.badOutcome).comp.tracker = s.comp.tracker := by
  refine ⟨?_, ?_⟩ <;> (unfold State.badOutcome; (try dsimp only); (repeat' split) <;> (first | (simp; done) | rfl | (simp_all; done)))

@[simp] theorem badOutcome_tiles_dram (s : State) :
    (s.badOutcome).tiles.dram = s.tiles.dram := by
  unfold State.badOutcome; (try dsimp only); (repeat' split) <;> (first | (simp; done) | rfl | (simp_all; done))

@[simp] theorem badOutcome_fetch_tag (s : State) :
    (s.badOutcome).fetch.tag = s.fetch.tag := by
  unfold State.badOutcome; (try dsimp only); (repeat' split) <;> (first | (simp; done) | rfl | (simp_all; done))

@[simp] theorem badOutcome_lane_fields (s : State) :
    (s.badOutcome).lane.delivered = s.lane.delivered ∧ (s.badOutcome).lane.sent = s.lane.sent ∧ (s.badOutcome).lane.inFlight = s.lane.inFlight := by
  refine ⟨?_, ?_, ?_⟩ <;> (unfold State.badOutcome; (try dsimp only); (repeat' split) <;> (first | (simp; done) | rfl | (simp_all; done)))

@[simp] theorem returnEvent_comp_fields (s : State) (e : ReturnEvent) :
    (s.returnEvent e).comp.state = s.comp.state ∧ (s.returnEvent e).comp.tracker = s.comp.tracker := by
  refine ⟨?_, ?_⟩ <;> (unfold State.returnEvent; (try dsimp only); (repeat' split) <;> (first | (simp; done) | rfl | (simp_all; done)))

@[simp] theorem returnEvent_tiles_dram (s : State) (e : ReturnEvent) :
    (s.returnEvent e).tiles.dram = s.tiles.dram := by
  unfold State.returnEvent; (try dsimp only); (repeat' split) <;> (first | (simp; done) | rfl | (simp_all; done))

@[simp] theorem returnEvent_fetch_tag (s : State) (e : ReturnEvent) :
    (s.returnEvent e).fetch.tag = s.fetch.tag := by
  unfold State.returnEvent; (try dsimp only); (repeat' split) <;> (first | (simp; done) | rfl | (simp_all; done))

@[simp] theorem setHunt_lane_fields (s : State) (bs : List Byte) :
    (s.setHunt bs).lane.sheets = s.lane.sheets ∧ (s.setHunt bs).lane.hold = s.lane.hold ∧ (s.setHunt bs).lane.headTimer = s.lane.headTimer ∧ (s.setHunt bs).lane.delivered = s.lane.delivered ∧ (s.setHunt bs).lane.lastTemplate = s.lane.lastTemplate ∧ (s.setHunt bs).lane.sent = s.lane.sent ∧ (s.setHunt bs).lane.inFlight = s.lane.inFlight := by
  refine ⟨?_, ?_, ?_, ?_, ?_, ?_, ?_⟩ <;> (unfold State.setHunt; (try dsimp only); (repeat' split) <;> (first | (simp; done) | rfl | (simp_all; done)))

@[simp] theorem returnBytes_comp_fields (s : State) (bs : List Byte) :
    (s.returnBytes bs).comp.state = s.comp.state ∧ (s.returnBytes bs).comp.tracker = s.comp.tracker :=
  ⟨by unfold State.returnBytes; (try dsimp only); (repeat' split) <;> (first | (simp; done) | rfl | (simp [foldl_keeps (fun t : State => t.comp.state)]; done) | (rw [foldl_keeps (fun t : State => t.comp.state)] <;> first | (simp; done) | (intros; simp; done) | (intros; split <;> simp; done))), by unfold State.returnBytes; (try dsimp only); (repeat' split) <;> (first | (simp; done) | rfl | (simp [foldl_keeps (fun t : State => t.comp.tracker)]; done) | (rw [foldl_keeps (fun t : State => t.comp.tracker)] <;> first | (simp; done) | (intros; simp; done) | (intros; split <;> simp; done)))⟩

@[simp] theorem returnBytes_tiles_dram (s : State) (bs : List Byte) :
    (s.returnBytes bs).tiles.dram = s.tiles.dram := by
  unfold State.returnBytes; (try dsimp only); (repeat' split) <;> (first | (simp; done) | rfl | (simp [foldl_keeps (fun t : State => t.tiles.dram)]; done) | (rw [foldl_keeps (fun t : State => t.tiles.dram)] <;> first | (simp; done) | (intros; simp; done) | (intros; split <;> simp; done)))

@[simp] theorem returnBytes_fetch_tag (s : State) (bs : List Byte) :
    (s.returnBytes bs).fetch.tag = s.fetch.tag := by
  unfold State.returnBytes; (try dsimp only); (repeat' split) <;> (first | (simp; done) | rfl | (simp [foldl_keeps (fun t : State => t.fetch.tag)]; done) | (rw [foldl_keeps (fun t : State => t.fetch.tag)] <;> first | (simp; done) | (intros; simp; done) | (intros; split <;> simp; done)))

@[simp] theorem outcomeRecord_comp_fields (s : State) (page : Nat) (o : EngineOutcome) :
    (s.outcomeRecord page o).comp.state = s.comp.state ∧ (s.outcomeRecord page o).comp.tracker = s.comp.tracker := by
  refine ⟨?_, ?_⟩ <;> (unfold State.outcomeRecord; (try dsimp only); (repeat' split) <;> (first | (simp; done) | rfl | (simp_all; done)))

@[simp] theorem outcomeRecord_tiles_dram (s : State) (page : Nat) (o : EngineOutcome) :
    (s.outcomeRecord page o).tiles.dram = s.tiles.dram := by
  unfold State.outcomeRecord; (try dsimp only); (repeat' split) <;> (first | (simp; done) | rfl | (simp_all; done))

@[simp] theorem outcomeRecord_fetch_tag (s : State) (page : Nat) (o : EngineOutcome) :
    (s.outcomeRecord page o).fetch.tag = s.fetch.tag := by
  unfold State.outcomeRecord; (try dsimp only); (repeat' split) <;> (first | (simp; done) | rfl | (simp_all; done))

@[simp] theorem headTimeout_comp_fields (s : State) :
    (s.headTimeout).comp.state = s.comp.state ∧ (s.headTimeout).comp.tracker = s.comp.tracker := by
  refine ⟨?_, ?_⟩ <;> (unfold State.headTimeout; (try dsimp only); (repeat' split) <;> (first | (simp; done) | rfl | (simp_all; done)))

@[simp] theorem headTimeout_tiles_dram (s : State) :
    (s.headTimeout).tiles.dram = s.tiles.dram := by
  unfold State.headTimeout; (try dsimp only); (repeat' split) <;> (first | (simp; done) | rfl | (simp_all; done))

@[simp] theorem headTimeout_fetch_tag (s : State) :
    (s.headTimeout).fetch.tag = s.fetch.tag := by
  unfold State.headTimeout; (try dsimp only); (repeat' split) <;> (first | (simp; done) | rfl | (simp_all; done))

@[simp] theorem headTimeout_lane_fields (s : State) :
    (s.headTimeout).lane.delivered = s.lane.delivered ∧ (s.headTimeout).lane.sent = s.lane.sent ∧ (s.headTimeout).lane.inFlight = s.lane.inFlight := by
  refine ⟨?_, ?_, ?_⟩ <;> (unfold State.headTimeout; (try dsimp only); (repeat' split) <;> (first | (simp; done) | rfl | (simp_all; done)))

@[simp] theorem goOffline_comp_fields (s : State) :
    (s.goOffline).comp.state = s.comp.state ∧ (s.goOffline).comp.tracker = s.comp.tracker := by
  refine ⟨?_, ?_⟩ <;> (unfold State.goOffline; (try dsimp only); (repeat' split) <;> (first | (simp; done) | rfl | (simp_all; done)))

@[simp] theorem goOffline_tiles_dram (s : State) :
    (s.goOffline).tiles.dram = s.tiles.dram := by
  unfold State.goOffline; (try dsimp only); (repeat' split) <;> (first | (simp; done) | rfl | (simp_all; done))

@[simp] theorem goOffline_fetch_tag (s : State) :
    (s.goOffline).fetch.tag = s.fetch.tag := by
  unfold State.goOffline; (try dsimp only); (repeat' split) <;> (first | (simp; done) | rfl | (simp_all; done))

@[simp] theorem goOffline_lane_fields (s : State) :
    (s.goOffline).lane.delivered = s.lane.delivered ∧ (s.goOffline).lane.sent = s.lane.sent ∧ (s.goOffline).lane.inFlight = s.lane.inFlight := by
  refine ⟨?_, ?_, ?_⟩ <;> (unfold State.goOffline; (try dsimp only); (repeat' split) <;> (first | (simp; done) | rfl | (simp_all; done)))

@[simp] theorem goOnline_lane_fields (s : State) :
    (s.goOnline).lane.sheets = s.lane.sheets ∧ (s.goOnline).lane.hold = s.lane.hold ∧ (s.goOnline).lane.headTimer = s.lane.headTimer ∧ (s.goOnline).lane.delivered = s.lane.delivered ∧ (s.goOnline).lane.lastTemplate = s.lane.lastTemplate ∧ (s.goOnline).lane.sent = s.lane.sent ∧ (s.goOnline).lane.inFlight = s.lane.inFlight := by
  refine ⟨?_, ?_, ?_, ?_, ?_, ?_, ?_⟩ <;> (unfold State.goOnline; (try dsimp only); (repeat' split) <;> (first | (simp; done) | rfl | (simp_all; done)))

@[simp] theorem badRecord_fetch_fields (s : State) :
    (s.badRecord).fetch.list = s.fetch.list ∧ (s.badRecord).fetch.tag = s.fetch.tag ∧ (s.badRecord).fetch.hold = s.fetch.hold ∧ (s.badRecord).fetch.timer = s.fetch.timer ∧ (s.badRecord).fetch.wants = s.fetch.wants ∧ (s.badRecord).fetch.prefetch = s.fetch.prefetch := by
  refine ⟨?_, ?_, ?_, ?_, ?_, ?_⟩ <;> (unfold State.badRecord; (try dsimp only); (repeat' split) <;> (first | (simp; done) | rfl | (simp_all; done)))

@[simp] theorem planFailed_comp_fields (s : State) (code index : Nat) :
    (s.planFailed code index).comp.state = s.comp.state ∧ (s.planFailed code index).comp.tracker = s.comp.tracker := by
  refine ⟨?_, ?_⟩ <;> (unfold State.planFailed; (try dsimp only); (repeat' split) <;> (first | (simp; done) | rfl | (simp_all; done)))

@[simp] theorem planFailed_tiles_dram (s : State) (code index : Nat) :
    (s.planFailed code index).tiles.dram = s.tiles.dram := by
  unfold State.planFailed; (try dsimp only); (repeat' split) <;> (first | (simp; done) | rfl | (simp_all; done))

@[simp] theorem planFailed_fetch_tag (s : State) (code index : Nat) :
    (s.planFailed code index).fetch.tag = s.fetch.tag := by
  unfold State.planFailed; (try dsimp only); (repeat' split) <;> (first | (simp; done) | rfl | (simp_all; done))

@[simp] theorem planFailed_lane_fields (s : State) (code index : Nat) :
    (s.planFailed code index).lane.delivered = s.lane.delivered ∧ (s.planFailed code index).lane.sent = s.lane.sent ∧ (s.planFailed code index).lane.inFlight = s.lane.inFlight := by
  refine ⟨?_, ?_, ?_⟩ <;> (unfold State.planFailed; (try dsimp only); (repeat' split) <;> (first | (simp; done) | rfl | (simp_all; done)))

@[simp] theorem judgePlan_comp_fields (s : State) :
    (s.judgePlan).comp.state = s.comp.state ∧ (s.judgePlan).comp.tracker = s.comp.tracker := by
  refine ⟨?_, ?_⟩ <;> (unfold State.judgePlan; (try dsimp only); (repeat' split) <;> (first | (simp; done) | rfl | (simp_all; done)))

@[simp] theorem takePlanEnd_comp_fields (s : State) :
    (s.takePlanEnd).comp.state = s.comp.state ∧ (s.takePlanEnd).comp.tracker = s.comp.tracker := by
  refine ⟨?_, ?_⟩ <;> (unfold State.takePlanEnd; (try dsimp only); (repeat' split) <;> (first | (simp; done) | rfl | (simp_all; done)))

@[simp] theorem judgePlan_tiles_dram (s : State) :
    (s.judgePlan).tiles.dram = s.tiles.dram := by
  unfold State.judgePlan; (try dsimp only); (repeat' split) <;> (first | (simp; done) | rfl | (simp_all; done))

@[simp] theorem takePlanEnd_tiles_dram (s : State) :
    (s.takePlanEnd).tiles.dram = s.tiles.dram := by
  unfold State.takePlanEnd; (try dsimp only); (repeat' split) <;> (first | (simp; done) | rfl | (simp_all; done))

@[simp] theorem judgePlan_fetch_tag (s : State) :
    (s.judgePlan).fetch.tag = s.fetch.tag := by
  unfold State.judgePlan; (try dsimp only); (repeat' split) <;> (first | (simp; done) | rfl | (simp_all; done))

@[simp] theorem takePlanEnd_fetch_tag (s : State) :
    (s.takePlanEnd).fetch.tag = s.fetch.tag := by
  unfold State.takePlanEnd; (try dsimp only); (repeat' split) <;> (first | (simp; done) | rfl | (simp_all; done))

@[simp] theorem judgePlan_lane_fields (s : State) :
    (s.judgePlan).lane.delivered = s.lane.delivered ∧ (s.judgePlan).lane.sent = s.lane.sent ∧ (s.judgePlan).lane.inFlight = s.lane.inFlight := by
  refine ⟨?_, ?_, ?_⟩ <;> (unfold State.judgePlan; (try dsimp only); (repeat' split) <;> (first | (simp; done) | rfl | (simp_all; done)))

@[simp] theorem takePlanEnd_lane_fields (s : State) :
    (s.takePlanEnd).lane.delivered = s.lane.delivered ∧ (s.takePlanEnd).lane.sent = s.lane.sent ∧ (s.takePlanEnd).lane.inFlight = s.lane.inFlight := by
  refine ⟨?_, ?_, ?_⟩ <;> (unfold State.takePlanEnd; (try dsimp only); (repeat' split) <;> (first | (simp; done) | rfl | (simp_all; done)))

@[simp] theorem takeAck_fetch_fields (s : State) (serial : Nat) :
    (s.takeAck serial).fetch.list = s.fetch.list ∧ (s.takeAck serial).fetch.tag = s.fetch.tag ∧ (s.takeAck serial).fetch.answer = s.fetch.answer ∧ (s.takeAck serial).fetch.timer = s.fetch.timer ∧ (s.takeAck serial).fetch.wants = s.fetch.wants ∧ (s.takeAck serial).fetch.prefetch = s.fetch.prefetch := by
  refine ⟨?_, ?_, ?_, ?_, ?_, ?_⟩ <;> (unfold State.takeAck; (try dsimp only); (repeat' split) <;> (first | (simp; done) | rfl | (simp_all; done)))

@[simp] theorem lineSilent_comp_fields (s : State) :
    (s.lineSilent).comp.state = s.comp.state ∧ (s.lineSilent).comp.tracker = s.comp.tracker := by
  refine ⟨?_, ?_⟩ <;> (unfold State.lineSilent; (try dsimp only); (repeat' split) <;> (first | (simp; done) | rfl | (simp_all; done)))

@[simp] theorem lineSilent_tiles_dram (s : State) :
    (s.lineSilent).tiles.dram = s.tiles.dram := by
  unfold State.lineSilent; (try dsimp only); (repeat' split) <;> (first | (simp; done) | rfl | (simp_all; done))

@[simp] theorem lineSilent_fetch_tag (s : State) :
    (s.lineSilent).fetch.tag = s.fetch.tag := by
  unfold State.lineSilent; (try dsimp only); (repeat' split) <;> (first | (simp; done) | rfl | (simp_all; done))

@[simp] theorem lineSilent_lane_fields (s : State) :
    (s.lineSilent).lane.delivered = s.lane.delivered ∧ (s.lineSilent).lane.sent = s.lane.sent ∧ (s.lineSilent).lane.inFlight = s.lane.inFlight := by
  refine ⟨?_, ?_, ?_⟩ <;> (unfold State.lineSilent; (try dsimp only); (repeat' split) <;> (first | (simp; done) | rfl | (simp_all; done)))

end Sys2Proof.Laws
end

