-- ==== Sys2Proof/Laws/SubLinkCtl.lean ====
section
/-! SUPPORT. What each shared operation leaves unchanged inside the library link and the Station Controller. -/

namespace Sys2Proof.Laws

open Sys2Proof Sys2Proof.Machine

set_option linter.all false

@[simp] theorem emit_link_fields (s : State) (b : OutBody) :
    (s.emit b).link.up = s.link.up ∧ (s.emit b).link.parser = s.link.parser ∧ (s.emit b).link.relay = s.link.relay := by
  refine ⟨?_, ?_, ?_⟩ <;> (unfold State.emit; (try dsimp only); (repeat' split) <;> (first | (simp; done) | rfl | (simp_all; done)))

@[simp] theorem dropInbound_link_fields (s : State) :
    (s.dropInbound).link.up = s.link.up ∧ (s.dropInbound).link.parser = s.link.parser ∧ (s.dropInbound).link.relay = s.link.relay := by
  refine ⟨?_, ?_, ?_⟩ <;> (unfold State.dropInbound; (try dsimp only); (repeat' split) <;> (first | (simp; done) | rfl | (simp_all; done)))

@[simp] theorem offerCtl_ctl_fields (s : State) (i : CtlItem) :
    (s.offerCtl i).ctl.state = s.ctl.state ∧ (s.offerCtl i).ctl.collection = s.ctl.collection ∧ (s.offerCtl i).ctl.syncTimer = s.ctl.syncTimer ∧ (s.offerCtl i).ctl.abandoned = s.ctl.abandoned ∧ (s.offerCtl i).ctl.reask = s.ctl.reask ∧ (s.offerCtl i).ctl.volumeSeen = s.ctl.volumeSeen := by
  refine ⟨?_, ?_, ?_, ?_, ?_, ?_⟩ <;> (rw [offerCtl_eq]; split <;> simp)

@[simp] theorem offerAsk_ctl_fields (s : State) :
    (s.offerAsk).ctl.state = s.ctl.state ∧ (s.offerAsk).ctl.collection = s.ctl.collection ∧ (s.offerAsk).ctl.syncTimer = s.ctl.syncTimer ∧ (s.offerAsk).ctl.abandoned = s.ctl.abandoned ∧ (s.offerAsk).ctl.reask = s.ctl.reask ∧ (s.offerAsk).ctl.volumeSeen = s.ctl.volumeSeen := by
  refine ⟨?_, ?_, ?_, ?_, ?_, ?_⟩ <;> (unfold State.offerAsk; (try dsimp only); (repeat' split) <;> (first | (simp; done) | rfl | (simp_all; done)))

@[simp] theorem request_link_fields (s : State) (slot : Nat) (pid : Id32) (refs : List Ref) (retry : Bool) :
    (s.request slot pid refs retry).link.up = s.link.up ∧ (s.request slot pid refs retry).link.parser = s.link.parser ∧ (s.request slot pid refs retry).link.relay = s.link.relay := by
  refine ⟨?_, ?_, ?_⟩ <;> (unfold State.request; (try dsimp only); (repeat' split) <;> (first | (simp; done) | rfl | (simp_all; done)))

@[simp] theorem reportPage_link_fields (s : State) (page : Nat) (edition : Option Nat) (o : PageOutcome) (n : Option Notices) :
    (s.reportPage page edition o n).link.up = s.link.up ∧ (s.reportPage page edition o n).link.parser = s.link.parser ∧ (s.reportPage page edition o n).link.relay = s.link.relay := by
  refine ⟨?_, ?_, ?_⟩ <;> (unfold State.reportPage; (try dsimp only); (repeat' split) <;> (first | (simp; done) | rfl | (simp_all; done)))

@[simp] theorem claimOutcome_link_fields (s : State) (sh : Sheet) (o : EngineOutcome) :
    (s.claimOutcome sh o).link.up = s.link.up ∧ (s.claimOutcome sh o).link.parser = s.link.parser ∧ (s.claimOutcome sh o).link.relay = s.link.relay := by
  refine ⟨?_, ?_, ?_⟩ <;> (unfold State.claimOutcome; (try dsimp only); (repeat' split) <;> (first | (simp; done) | rfl | (simp_all; done)))

@[simp] theorem reviewComplete_link_fields (s : State) :
    (s.reviewComplete).link.up = s.link.up ∧ (s.reviewComplete).link.parser = s.link.parser ∧ (s.reviewComplete).link.relay = s.link.relay := by
  refine ⟨?_, ?_, ?_⟩ <;> (unfold State.reviewComplete; (try dsimp only); (repeat' split) <;> (first | (simp; done) | rfl | (simp_all; done)))

@[simp] theorem sendFaultReport_link_fields (s : State) (repeats : Nat) :
    (s.sendFaultReport repeats).link.up = s.link.up ∧ (s.sendFaultReport repeats).link.parser = s.link.parser ∧ (s.sendFaultReport repeats).link.relay = s.link.relay := by
  refine ⟨?_, ?_, ?_⟩ <;> (unfold State.sendFaultReport; (try dsimp only); (repeat' split) <;> (first | (simp; done) | rfl | (simp_all; done)))

@[simp] theorem repeatFaultReport_link_fields (s : State) :
    (s.repeatFaultReport).link.up = s.link.up ∧ (s.repeatFaultReport).link.parser = s.link.parser ∧ (s.repeatFaultReport).link.relay = s.link.relay := by
  refine ⟨?_, ?_, ?_⟩ <;> (unfold State.repeatFaultReport; (try dsimp only); (repeat' split) <;> (first | (simp; done) | rfl | (simp_all; done)))

@[simp] theorem tryEnd_link_fields (s : State) :
    (s.tryEnd).link.up = s.link.up ∧ (s.tryEnd).link.parser = s.link.parser ∧ (s.tryEnd).link.relay = s.link.relay :=
  ⟨by unfold State.tryEnd; (try dsimp only); (repeat' split) <;> (first | (simp; done) | rfl | (simp [foldl_keeps (fun t : State => t.link.up)]; done) | (rw [foldl_keeps (fun t : State => t.link.up)] <;> first | (simp; done) | (intros; simp; done) | (intros; split <;> simp; done))), by unfold State.tryEnd; (try dsimp only); (repeat' split) <;> (first | (simp; done) | rfl | (simp [foldl_keeps (fun t : State => t.link.parser)]; done) | (rw [foldl_keeps (fun t : State => t.link.parser)] <;> first | (simp; done) | (intros; simp; done) | (intros; split <;> simp; done))), by unfold State.tryEnd; (try dsimp only); (repeat' split) <;> (first | (simp; done) | rfl | (simp [foldl_keeps (fun t : State => t.link.relay)]; done) | (rw [foldl_keeps (fun t : State => t.link.relay)] <;> first | (simp; done) | (intros; simp; done) | (intros; split <;> simp; done)))⟩

@[simp] theorem enterHalted_ctl_fields (s : State) :
    (s.enterHalted).ctl.abandoned = s.ctl.abandoned ∧ (s.enterHalted).ctl.reask = s.ctl.reask ∧ (s.enterHalted).ctl.volumeSeen = s.ctl.volumeSeen := by
  refine ⟨?_, ?_, ?_⟩ <;> (unfold State.enterHalted; (try dsimp only); (repeat' split) <;> (first | (simp; done) | rfl | (simp_all; done)))

@[simp] theorem halt_ctl_fields (s : State) :
    (s.halt).ctl.abandoned = s.ctl.abandoned ∧ (s.halt).ctl.reask = s.ctl.reask ∧ (s.halt).ctl.volumeSeen = s.ctl.volumeSeen := by
  refine ⟨?_, ?_, ?_⟩ <;> (unfold State.halt; (try dsimp only); (repeat' split) <;> (first | (simp; done) | rfl | (simp_all; done)))

@[simp] theorem halt_link_fields (s : State) :
    (s.halt).link.up = s.link.up ∧ (s.halt).link.parser = s.link.parser ∧ (s.halt).link.relay = s.link.relay := by
  refine ⟨?_, ?_, ?_⟩ <;> (unfold State.halt; (try dsimp only); (repeat' split) <;> (first | (simp; done) | rfl | (simp_all; done)))

@[simp] theorem recover_ctl_fields (s : State) (cause : Cause) (page : Option Nat) :
    (s.recover cause page).ctl.abandoned = s.ctl.abandoned ∧ (s.recover cause page).ctl.reask = s.ctl.reask ∧ (s.recover cause page).ctl.volumeSeen = s.ctl.volumeSeen := by
  refine ⟨?_, ?_, ?_⟩ <;> (unfold State.recover; (try dsimp only); (repeat' split) <;> (first | (simp; done) | rfl | (simp_all; done)))

@[simp] theorem recover_link_fields (s : State) (cause : Cause) (page : Option Nat) :
    (s.recover cause page).link.up = s.link.up ∧ (s.recover cause page).link.parser = s.link.parser ∧ (s.recover cause page).link.relay = s.link.relay := by
  refine ⟨?_, ?_, ?_⟩ <;> (unfold State.recover; (try dsimp only); (repeat' split) <;> (first | (simp; done) | rfl | (simp_all; done)))

@[simp] theorem followOnActs_ctl_fields (s : State) (cause : Cause) (page : Option Nat) :
    (s.followOnActs cause page).ctl.abandoned = s.ctl.abandoned ∧ (s.followOnActs cause page).ctl.reask = s.ctl.reask ∧ (s.followOnActs cause page).ctl.volumeSeen = s.ctl.volumeSeen := by
  refine ⟨?_, ?_, ?_⟩ <;> (unfold State.followOnActs; (try dsimp only); (repeat' split) <;> (first | (simp; done) | rfl | (simp_all; done)))

@[simp] theorem followOnActs_link_fields (s : State) (cause : Cause) (page : Option Nat) :
    (s.followOnActs cause page).link.up = s.link.up ∧ (s.followOnActs cause page).link.parser = s.link.parser ∧ (s.followOnActs cause page).link.relay = s.link.relay := by
  refine ⟨?_, ?_, ?_⟩ <;> (unfold State.followOnActs; (try dsimp only); (repeat' split) <;> (first | (simp; done) | rfl | (simp_all; done)))

@[simp] theorem raise_ctl_fields (s : State) (cause : Cause) (page cell : Option Nat) (detail : Nat) :
    (s.raise cause page cell detail).ctl.abandoned = s.ctl.abandoned ∧ (s.raise cause page cell detail).ctl.reask = s.ctl.reask ∧ (s.raise cause page cell detail).ctl.volumeSeen = s.ctl.volumeSeen := by
  refine ⟨?_, ?_, ?_⟩ <;> (unfold State.raise; (try dsimp only); (repeat' split) <;> (first | (simp; done) | rfl | (simp_all; done)))

@[simp] theorem raise_link_fields (s : State) (cause : Cause) (page cell : Option Nat) (detail : Nat) :
    (s.raise cause page cell detail).link.up = s.link.up ∧ (s.raise cause page cell detail).link.parser = s.link.parser ∧ (s.raise cause page cell detail).link.relay = s.link.relay := by
  refine ⟨?_, ?_, ?_⟩ <;> (unfold State.raise; (try dsimp only); (repeat' split) <;> (first | (simp; done) | rfl | (simp_all; done)))

@[simp] theorem startSync_ctl_fields (s : State) :
    (s.startSync).ctl.state = s.ctl.state ∧ (s.startSync).ctl.collection = s.ctl.collection ∧ (s.startSync).ctl.abandoned = s.ctl.abandoned ∧ (s.startSync).ctl.reask = s.ctl.reask ∧ (s.startSync).ctl.volumeSeen = s.ctl.volumeSeen ∧ (s.startSync).ctl.waiting = s.ctl.waiting := by
  refine ⟨?_, ?_, ?_, ?_, ?_, ?_⟩ <;> (unfold State.startSync; (try dsimp only); (repeat' split) <;> (first | (simp; done) | rfl | (simp_all; done)))

@[simp] theorem enterSyncing_ctl_fields (s : State) :
    (s.enterSyncing).ctl.reask = s.ctl.reask ∧ (s.enterSyncing).ctl.volumeSeen = s.ctl.volumeSeen := by
  refine ⟨?_, ?_⟩ <;> (unfold State.enterSyncing; (try dsimp only); (repeat' split) <;> (first | (simp; done) | rfl | (simp_all; done)))

@[simp] theorem abandon_ctl_fields (s : State) (case : Nat) :
    (s.abandon case).ctl.reask = s.ctl.reask ∧ (s.abandon case).ctl.volumeSeen = s.ctl.volumeSeen := by
  refine ⟨?_, ?_⟩ <;> (unfold State.abandon; (try dsimp only); (repeat' split) <;> (first | (simp; done) | rfl | (simp_all; done)))

@[simp] theorem unexpected_ctl_fields (s : State) :
    (s.unexpected).ctl.reask = s.ctl.reask ∧ (s.unexpected).ctl.volumeSeen = s.ctl.volumeSeen := by
  refine ⟨?_, ?_⟩ <;> (unfold State.unexpected; (try dsimp only); (repeat' split) <;> (first | (simp; done) | rfl | (simp_all; done)))

@[simp] theorem abandon_link_fields (s : State) (case : Nat) :
    (s.abandon case).link.up = s.link.up ∧ (s.abandon case).link.parser = s.link.parser ∧ (s.abandon case).link.relay = s.link.relay := by
  refine ⟨?_, ?_, ?_⟩ <;> (unfold State.abandon; (try dsimp only); (repeat' split) <;> (first | (simp; done) | rfl | (simp_all; done)))

@[simp] theorem unexpected_link_fields (s : State) :
    (s.unexpected).link.up = s.link.up ∧ (s.unexpected).link.parser = s.link.parser ∧ (s.unexpected).link.relay = s.link.relay := by
  refine ⟨?_, ?_, ?_⟩ <;> (unfold State.unexpected; (try dsimp only); (repeat' split) <;> (first | (simp; done) | rfl | (simp_all; done)))

@[simp] theorem holdReplica_link_fields (s : State) (es : List Entry) (present : StationSet) (lastLaunched : Nat) (pool : List Amendment) :
    (s.holdReplica es present lastLaunched pool).link.up = s.link.up ∧ (s.holdReplica es present lastLaunched pool).link.parser = s.link.parser ∧ (s.holdReplica es present lastLaunched pool).link.relay = s.link.relay := by
  refine ⟨?_, ?_, ?_⟩ <;> (unfold State.holdReplica; (try dsimp only); (repeat' split) <;> (first | (simp; done) | rfl | (simp_all; done)))

@[simp] theorem install_link_fields (s : State) (c : Collection) :
    (s.install c).link.up = s.link.up ∧ (s.install c).link.parser = s.link.parser ∧ (s.install c).link.relay = s.link.relay := by
  refine ⟨?_, ?_, ?_⟩ <;> (unfold State.install; (try dsimp only); (repeat' split) <;> (first | (simp; done) | rfl | (simp_all; done)))

@[simp] theorem install_ctl_fields (s : State) (c : Collection) :
    (s.install c).ctl.state = s.ctl.state ∧ (s.install c).ctl.abandoned = s.ctl.abandoned ∧ (s.install c).ctl.reask = s.ctl.reask ∧ (s.install c).ctl.volumeSeen = s.ctl.volumeSeen := by
  refine ⟨?_, ?_, ?_, ?_⟩ <;> (unfold State.install; (try dsimp only); (repeat' split) <;> (first | (simp; done) | rfl | (simp_all; done)))

@[simp] theorem reaskPlan_ctl_fields (s : State) (wanted : Nat) :
    (s.reaskPlan wanted).ctl.abandoned = s.ctl.abandoned ∧ (s.reaskPlan wanted).ctl.volumeSeen = s.ctl.volumeSeen ∧ (s.reaskPlan wanted).ctl.waiting = s.ctl.waiting := by
  refine ⟨?_, ?_, ?_⟩ <;> (unfold State.reaskPlan; (try dsimp only); (repeat' split) <;> (first | (simp; done) | rfl | (simp_all; done)))

@[simp] theorem reaskPlan_link_fields (s : State) (wanted : Nat) :
    (s.reaskPlan wanted).link.up = s.link.up ∧ (s.reaskPlan wanted).link.parser = s.link.parser ∧ (s.reaskPlan wanted).link.relay = s.link.relay := by
  refine ⟨?_, ?_, ?_⟩ <;> (unfold State.reaskPlan; (try dsimp only); (repeat' split) <;> (first | (simp; done) | rfl | (simp_all; done)))

@[simp] theorem judgeCollection_ctl_fields (s : State) (c : Collection) :
    (s.judgeCollection c).ctl.abandoned = s.ctl.abandoned ∧ (s.judgeCollection c).ctl.volumeSeen = s.ctl.volumeSeen := by
  refine ⟨?_, ?_⟩ <;> (unfold State.judgeCollection; (try dsimp only); (repeat' split) <;> (first | (simp; done) | rfl | (simp_all; done)))

@[simp] theorem judgeCollection_link_fields (s : State) (c : Collection) :
    (s.judgeCollection c).link.up = s.link.up ∧ (s.judgeCollection c).link.parser = s.link.parser ∧ (s.judgeCollection c).link.relay = s.link.relay := by
  refine ⟨?_, ?_, ?_⟩ <;> (unfold State.judgeCollection; (try dsimp only); (repeat' split) <;> (first | (simp; done) | rfl | (simp_all; done)))

@[simp] theorem advance_ctl_volumeSeen (s : State) (c : Collection) :
    (s.advance c).ctl.volumeSeen = s.ctl.volumeSeen := by
  unfold State.advance; (try dsimp only); (repeat' split) <;> (first | (simp; done) | rfl | (simp_all; done))

@[simp] theorem advance_link_fields (s : State) (c : Collection) :
    (s.advance c).link.up = s.link.up ∧ (s.advance c).link.parser = s.link.parser ∧ (s.advance c).link.relay = s.link.relay := by
  refine ⟨?_, ?_, ?_⟩ <;> (unfold State.advance; (try dsimp only); (repeat' split) <;> (first | (simp; done) | rfl | (simp_all; done)))

@[simp] theorem collect_ctl_volumeSeen (s : State) (kept : Option Collection) :
    (s.collect kept).ctl.volumeSeen = s.ctl.volumeSeen := by
  unfold State.collect; (try dsimp only); (repeat' split) <;> (first | (simp; done) | rfl | (simp_all; done))

@[simp] theorem collect_link_fields (s : State) (kept : Option Collection) :
    (s.collect kept).link.up = s.link.up ∧ (s.collect kept).link.parser = s.link.parser ∧ (s.collect kept).link.relay = s.link.relay := by
  refine ⟨?_, ?_, ?_⟩ <;> (unfold State.collect; (try dsimp only); (repeat' split) <;> (first | (simp; done) | rfl | (simp_all; done)))

@[simp] theorem withdrawAsk_ctl_fields (s : State) :
    (s.withdrawAsk).ctl.state = s.ctl.state ∧ (s.withdrawAsk).ctl.collection = s.ctl.collection ∧ (s.withdrawAsk).ctl.syncTimer = s.ctl.syncTimer ∧ (s.withdrawAsk).ctl.abandoned = s.ctl.abandoned ∧ (s.withdrawAsk).ctl.reask = s.ctl.reask ∧ (s.withdrawAsk).ctl.volumeSeen = s.ctl.volumeSeen := by
  refine ⟨?_, ?_, ?_, ?_, ?_, ?_⟩ <;> (unfold State.withdrawAsk; (try dsimp only); (repeat' split) <;> (first | (simp; done) | rfl | (simp_all; done)))

@[simp] theorem withdrawRun_ctl_fields (s : State) (sender requester : Nat) :
    (s.withdrawRun sender requester).ctl.state = s.ctl.state ∧ (s.withdrawRun sender requester).ctl.collection = s.ctl.collection ∧ (s.withdrawRun sender requester).ctl.syncTimer = s.ctl.syncTimer ∧ (s.withdrawRun sender requester).ctl.abandoned = s.ctl.abandoned ∧ (s.withdrawRun sender requester).ctl.reask = s.ctl.reask ∧ (s.withdrawRun sender requester).ctl.volumeSeen = s.ctl.volumeSeen := by
  refine ⟨?_, ?_, ?_, ?_, ?_, ?_⟩ <;> (unfold State.withdrawRun; (try dsimp only); (repeat' split) <;> (first | (simp; done) | rfl | (simp_all; done)))

@[simp] theorem startCollection_link_fields (s : State) (responder : Nat) (c : Collection) :
    (s.startCollection responder c).link.up = s.link.up ∧ (s.startCollection responder c).link.parser = s.link.parser ∧ (s.startCollection responder c).link.relay = s.link.relay := by
  refine ⟨?_, ?_, ?_⟩ <;> (unfold State.startCollection; (try dsimp only); (repeat' split) <;> (first | (simp; done) | rfl | (simp_all; done)))

@[simp] theorem answerAsk_ctl_fields (s : State) (sender : Nat) (identity : Id32) :
    (s.answerAsk sender identity).ctl.state = s.ctl.state ∧ (s.answerAsk sender identity).ctl.collection = s.ctl.collection ∧ (s.answerAsk sender identity).ctl.syncTimer = s.ctl.syncTimer ∧ (s.answerAsk sender identity).ctl.abandoned = s.ctl.abandoned ∧ (s.answerAsk sender identity).ctl.reask = s.ctl.reask ∧ (s.answerAsk sender identity).ctl.volumeSeen = s.ctl.volumeSeen := by
  refine ⟨?_, ?_, ?_, ?_, ?_, ?_⟩ <;> (unfold State.answerAsk; (try dsimp only); (repeat' split) <;> (first | (simp; done) | rfl | (simp_all; done)))

@[simp] theorem activate_ctl_fields (s : State) :
    (s.activate).ctl.collection = s.ctl.collection ∧ (s.activate).ctl.syncTimer = s.ctl.syncTimer ∧ (s.activate).ctl.abandoned = s.ctl.abandoned ∧ (s.activate).ctl.waiting = s.ctl.waiting := by
  refine ⟨?_, ?_, ?_, ?_⟩ <;> (unfold State.activate; (try dsimp only); (repeat' split) <;> (first | (simp; done) | rfl | (simp_all; done)))

@[simp] theorem freshStart_link_fields (s : State) :
    (s.freshStart).link.up = s.link.up ∧ (s.freshStart).link.parser = s.link.parser ∧ (s.freshStart).link.relay = s.link.relay := by
  refine ⟨?_, ?_, ?_⟩ <;> (unfold State.freshStart; (try dsimp only); (repeat' split) <;> (first | (simp; done) | rfl | (simp_all; done)))

@[simp] theorem freshStart_ctl_fields (s : State) :
    (s.freshStart).ctl.state = s.ctl.state ∧ (s.freshStart).ctl.collection = s.ctl.collection ∧ (s.freshStart).ctl.abandoned = s.ctl.abandoned ∧ (s.freshStart).ctl.reask = s.ctl.reask ∧ (s.freshStart).ctl.volumeSeen = s.ctl.volumeSeen := by
  refine ⟨?_, ?_, ?_, ?_, ?_⟩ <;> (unfold State.freshStart; (try dsimp only); (repeat' split) <;> (first | (simp; done) | rfl | (simp_all; done)))

@[simp] theorem relayUnsent_link_fields (s : State) :
    (s.relayUnsent).link.up = s.link.up ∧ (s.relayUnsent).link.parser = s.link.parser := by
  refine ⟨?_, ?_⟩ <;> (unfold State.relayUnsent; (try dsimp only); (repeat' split) <;> (first | (simp; done) | rfl | (simp_all; done)))

@[simp] theorem dropReplica_link_fields (s : State) :
    (s.dropReplica).link.up = s.link.up ∧ (s.dropReplica).link.parser = s.link.parser := by
  refine ⟨?_, ?_⟩ <;> (unfold State.dropReplica; (try dsimp only); (repeat' split) <;> (first | (simp; done) | rfl | (simp_all; done)))

@[simp] theorem meetCollection_ctl_fields (s : State) (sender : Nat) (f : Frame) :
    (s.meetCollection sender f).ctl.reask = s.ctl.reask ∧ (s.meetCollection sender f).ctl.volumeSeen = s.ctl.volumeSeen := by
  refine ⟨?_, ?_⟩ <;> (unfold State.meetCollection; (try dsimp only); (repeat' split) <;> (first | (simp; done) | rfl | (simp_all; done)))

@[simp] theorem meetCollection_link_fields (s : State) (sender : Nat) (f : Frame) :
    (s.meetCollection sender f).link.up = s.link.up ∧ (s.meetCollection sender f).link.parser = s.link.parser ∧ (s.meetCollection sender f).link.relay = s.link.relay := by
  refine ⟨?_, ?_, ?_⟩ <;> (unfold State.meetCollection; (try dsimp only); (repeat' split) <;> (first | (simp; done) | rfl | (simp_all; done)))

@[simp] theorem passFrame_ctl_fields (s : State) (h : FrameHdr) (f : Frame) :
    (s.passFrame h f).ctl.reask = s.ctl.reask ∧ (s.passFrame h f).ctl.volumeSeen = s.ctl.volumeSeen := by
  refine ⟨?_, ?_⟩ <;> (unfold State.passFrame; (try dsimp only); (repeat' split) <;> (first | (simp; done) | rfl | (simp_all; done)))

@[simp] theorem passFrame_link_fields (s : State) (h : FrameHdr) (f : Frame) :
    (s.passFrame h f).link.up = s.link.up ∧ (s.passFrame h f).link.parser = s.link.parser ∧ (s.passFrame h f).link.relay = s.link.relay := by
  refine ⟨?_, ?_, ?_⟩ <;> (unfold State.passFrame; (try dsimp only); (repeat' split) <;> (first | (simp; done) | rfl | (simp_all; done)))

@[simp] theorem controllerSilent_ctl_fields (s : State) :
    (s.controllerSilent).ctl.abandoned = s.ctl.abandoned ∧ (s.controllerSilent).ctl.reask = s.ctl.reask ∧ (s.controllerSilent).ctl.volumeSeen = s.ctl.volumeSeen := by
  refine ⟨?_, ?_, ?_⟩ <;> (unfold State.controllerSilent; (try dsimp only); (repeat' split) <;> (first | (simp; done) | rfl | (simp_all; done)))

@[simp] theorem enterSilent_ctl_fields (s : State) (detail : Nat) :
    (s.enterSilent detail).ctl.abandoned = s.ctl.abandoned ∧ (s.enterSilent detail).ctl.reask = s.ctl.reask ∧ (s.enterSilent detail).ctl.volumeSeen = s.ctl.volumeSeen := by
  refine ⟨?_, ?_, ?_⟩ <;> (unfold State.enterSilent; (try dsimp only); (repeat' split) <;> (first | (simp; done) | rfl | (simp_all; done)))

@[simp] theorem enterSilent_link_fields (s : State) (detail : Nat) :
    (s.enterSilent detail).link.up = s.link.up ∧ (s.enterSilent detail).link.parser = s.link.parser := by
  refine ⟨?_, ?_⟩ <;> (unfold State.enterSilent; (try dsimp only); (repeat' split) <;> (first | (simp; done) | rfl | (simp_all; done)))

@[simp] theorem confine_ctl_fields (s : State) :
    (s.confine).ctl.abandoned = s.ctl.abandoned ∧ (s.confine).ctl.reask = s.ctl.reask ∧ (s.confine).ctl.volumeSeen = s.ctl.volumeSeen := by
  refine ⟨?_, ?_, ?_⟩ <;> (unfold State.confine; (try dsimp only); (repeat' split) <;> (first | (simp; done) | rfl | (simp_all; done)))

@[simp] theorem confine_link_fields (s : State) :
    (s.confine).link.up = s.link.up ∧ (s.confine).link.parser = s.link.parser := by
  refine ⟨?_, ?_⟩ <;> (unfold State.confine; (try dsimp only); (repeat' split) <;> (first | (simp; done) | rfl | (simp_all; done)))

@[simp] theorem leaveSilent_ctl_fields (s : State) :
    (s.leaveSilent).ctl.reask = s.ctl.reask ∧
      (s.leaveSilent).ctl.volumeSeen = (s.ctl.volumeSeen || decide (s.ctl.state = .silent)) := by
  refine ⟨?_, ?_⟩ <;> (unfold State.leaveSilent; (try dsimp only); (repeat' split) <;> (first | (simp; done) | (simp_all; done)))

@[simp] theorem silentPassed_ctl_reask (s : State) (run : Option RunHeld) :
    (s.silentPassed run).ctl.reask = s.ctl.reask := by
  unfold State.silentPassed; (try dsimp only); (repeat' split) <;> (first | (simp; done) | rfl | (simp_all; done))

@[simp] theorem readSilently_ctl_reask (s : State) (bits : List Bool) (vetoed : Bool) :
    (s.readSilently bits vetoed).ctl.reask = s.ctl.reask := by
  unfold State.readSilently; (try dsimp only); (repeat' split) <;> (first | (simp; done) | rfl | (simp_all; done))

@[simp] theorem runBroken_ctl_fields (s : State) :
    (s.runBroken).ctl.reask = s.ctl.reask ∧ (s.runBroken).ctl.volumeSeen = s.ctl.volumeSeen := by
  refine ⟨?_, ?_⟩ <;> (unfold State.runBroken; (try dsimp only); (repeat' split) <;> (first | (simp; done) | rfl | (simp_all; done)))

@[simp] theorem runBroken_link_fields (s : State) :
    (s.runBroken).link.up = s.link.up ∧ (s.runBroken).link.parser = s.link.parser ∧ (s.runBroken).link.relay = s.link.relay := by
  refine ⟨?_, ?_, ?_⟩ <;> (unfold State.runBroken; (try dsimp only); (repeat' split) <;> (first | (simp; done) | rfl | (simp_all; done)))

@[simp] theorem takeVeto_ctl_fields (s : State) (bits : List Bool) :
    (s.takeVeto bits).ctl.reask = s.ctl.reask ∧ (s.takeVeto bits).ctl.volumeSeen = s.ctl.volumeSeen := by
  refine ⟨?_, ?_⟩ <;> (unfold State.takeVeto; (try dsimp only); (repeat' split) <;> (first | (simp; done) | rfl | (simp_all; done)))

@[simp] theorem vetoFrame_ctl_fields (s : State) (x : Heard) :
    (s.vetoFrame x).ctl.reask = s.ctl.reask ∧ (s.vetoFrame x).ctl.volumeSeen = s.ctl.volumeSeen := by
  refine ⟨?_, ?_⟩ <;> (unfold State.vetoFrame; (try dsimp only); (repeat' split) <;> (first | (simp; done) | rfl | (simp_all; done)))

@[simp] theorem takeVeto_link_fields (s : State) (bits : List Bool) :
    (s.takeVeto bits).link.up = s.link.up ∧ (s.takeVeto bits).link.parser = s.link.parser := by
  refine ⟨?_, ?_⟩ <;> (unfold State.takeVeto; (try dsimp only); (repeat' split) <;> (first | (simp; done) | rfl | (simp_all; done)))

@[simp] theorem vetoFrame_link_fields (s : State) (x : Heard) :
    (s.vetoFrame x).link.up = s.link.up ∧ (s.vetoFrame x).link.parser = s.link.parser := by
  refine ⟨?_, ?_⟩ <;> (unfold State.vetoFrame; (try dsimp only); (repeat' split) <;> (first | (simp; done) | rfl | (simp_all; done)))

@[simp] theorem endRun_ctl_fields (s : State) :
    (s.endRun).ctl.reask = s.ctl.reask ∧ (s.endRun).ctl.volumeSeen = s.ctl.volumeSeen := by
  refine ⟨?_, ?_⟩ <;> (unfold State.endRun; (try dsimp only); (repeat' split) <;> (first | (simp; done) | rfl | (simp_all; done)))

@[simp] theorem endRun_link_fields (s : State) :
    (s.endRun).link.up = s.link.up ∧ (s.endRun).link.parser = s.link.parser ∧ (s.endRun).link.relay = s.link.relay := by
  refine ⟨?_, ?_, ?_⟩ <;> (unfold State.endRun; (try dsimp only); (repeat' split) <;> (first | (simp; done) | rfl | (simp_all; done)))

@[simp] theorem grantPlace_ctl_fields (s : State) :
    (s.grantPlace).ctl.state = s.ctl.state ∧ (s.grantPlace).ctl.collection = s.ctl.collection ∧ (s.grantPlace).ctl.syncTimer = s.ctl.syncTimer ∧ (s.grantPlace).ctl.abandoned = s.ctl.abandoned ∧ (s.grantPlace).ctl.reask = s.ctl.reask ∧ (s.grantPlace).ctl.volumeSeen = s.ctl.volumeSeen := by
  refine ⟨?_, ?_, ?_, ?_, ?_, ?_⟩ <;> (unfold State.grantPlace; (try dsimp only); (repeat' split) <;> (first | (simp; done) | rfl | (simp_all; done)))

@[simp] theorem claimFrame_link_fields (s : State) (h : FrameHdr) (page claimant : Nat) :
    (s.claimFrame h page claimant).link.up = s.link.up ∧ (s.claimFrame h page claimant).link.parser = s.link.parser ∧ (s.claimFrame h page claimant).link.relay = s.link.relay := by
  refine ⟨?_, ?_, ?_⟩ <;> (unfold State.claimFrame; (try dsimp only); (repeat' split) <;> (first | (simp; done) | rfl | (simp_all; done)))

@[simp] theorem renewFrame_link_fields (s : State) (h : FrameHdr) (page : Nat) :
    (s.renewFrame h page).link.up = s.link.up ∧ (s.renewFrame h page).link.parser = s.link.parser ∧ (s.renewFrame h page).link.relay = s.link.relay := by
  refine ⟨?_, ?_, ?_⟩ <;> (unfold State.renewFrame; (try dsimp only); (repeat' split) <;> (first | (simp; done) | rfl | (simp_all; done)))

@[simp] theorem loseUnlisted_ctl_fields (s : State) (page : Nat) :
    (s.loseUnlisted page).ctl.abandoned = s.ctl.abandoned ∧ (s.loseUnlisted page).ctl.reask = s.ctl.reask ∧ (s.loseUnlisted page).ctl.volumeSeen = s.ctl.volumeSeen := by
  refine ⟨?_, ?_, ?_⟩ <;> (unfold State.loseUnlisted; (try dsimp only); (repeat' split) <;> (first | (simp; done) | rfl | (simp_all; done)))

@[simp] theorem loseClaim_ctl_fields (s : State) (page : Nat) :
    (s.loseClaim page).ctl.abandoned = s.ctl.abandoned ∧ (s.loseClaim page).ctl.reask = s.ctl.reask ∧ (s.loseClaim page).ctl.volumeSeen = s.ctl.volumeSeen := by
  refine ⟨?_, ?_, ?_⟩ <;> (unfold State.loseClaim; (try dsimp only); (repeat' split) <;> (first | (simp; done) | rfl | (simp_all; done)))

@[simp] theorem loseUnlisted_link_fields (s : State) (page : Nat) :
    (s.loseUnlisted page).link.up = s.link.up ∧ (s.loseUnlisted page).link.parser = s.link.parser ∧ (s.loseUnlisted page).link.relay = s.link.relay := by
  refine ⟨?_, ?_, ?_⟩ <;> (unfold State.loseUnlisted; (try dsimp only); (repeat' split) <;> (first | (simp; done) | rfl | (simp_all; done)))

@[simp] theorem loseClaim_link_fields (s : State) (page : Nat) :
    (s.loseClaim page).link.up = s.link.up ∧ (s.loseClaim page).link.parser = s.link.parser ∧ (s.loseClaim page).link.relay = s.link.relay := by
  refine ⟨?_, ?_, ?_⟩ <;> (unfold State.loseClaim; (try dsimp only); (repeat' split) <;> (first | (simp; done) | rfl | (simp_all; done)))

@[simp] theorem lapseFrame_ctl_fields (s : State) (h : FrameHdr) (page holder mark : Nat) :
    (s.lapseFrame h page holder mark).ctl.abandoned = s.ctl.abandoned ∧ (s.lapseFrame h page holder mark).ctl.reask = s.ctl.reask ∧ (s.lapseFrame h page holder mark).ctl.volumeSeen = s.ctl.volumeSeen := by
  refine ⟨?_, ?_, ?_⟩ <;> (unfold State.lapseFrame; (try dsimp only); (repeat' split) <;> (first | (simp; done) | rfl | (simp_all; done)))

@[simp] theorem lapseFrame_link_fields (s : State) (h : FrameHdr) (page holder mark : Nat) :
    (s.lapseFrame h page holder mark).link.up = s.link.up ∧ (s.lapseFrame h page holder mark).link.parser = s.link.parser ∧ (s.lapseFrame h page holder mark).link.relay = s.link.relay := by
  refine ⟨?_, ?_, ?_⟩ <;> (unfold State.lapseFrame; (try dsimp only); (repeat' split) <;> (first | (simp; done) | rfl | (simp_all; done)))

@[simp] theorem closeApplied_link_fields (s : State) (page : Nat) :
    (s.closeApplied page).link.up = s.link.up ∧ (s.closeApplied page).link.parser = s.link.parser ∧ (s.closeApplied page).link.relay = s.link.relay := by
  refine ⟨?_, ?_, ?_⟩ <;> (unfold State.closeApplied; (try dsimp only); (repeat' split) <;> (first | (simp; done) | rfl | (simp_all; done)))

@[simp] theorem doneFrame_link_fields (s : State) (h : FrameHdr) (page edition : Nat) :
    (s.doneFrame h page edition).link.up = s.link.up ∧ (s.doneFrame h page edition).link.parser = s.link.parser ∧ (s.doneFrame h page edition).link.relay = s.link.relay := by
  refine ⟨?_, ?_, ?_⟩ <;> (unfold State.doneFrame; (try dsimp only); (repeat' split) <;> (first | (simp; done) | rfl | (simp_all; done)))

@[simp] theorem releaseFrame_link_fields (s : State) (h : FrameHdr) (page : Nat) :
    (s.releaseFrame h page).link.up = s.link.up ∧ (s.releaseFrame h page).link.parser = s.link.parser ∧ (s.releaseFrame h page).link.relay = s.link.relay := by
  refine ⟨?_, ?_, ?_⟩ <;> (unfold State.releaseFrame; (try dsimp only); (repeat' split) <;> (first | (simp; done) | rfl | (simp_all; done)))

@[simp] theorem failFrame_link_fields (s : State) (h : FrameHdr) (page cause : Nat) :
    (s.failFrame h page cause).link.up = s.link.up ∧ (s.failFrame h page cause).link.parser = s.link.parser ∧ (s.failFrame h page cause).link.relay = s.link.relay := by
  refine ⟨?_, ?_, ?_⟩ <;> (unfold State.failFrame; (try dsimp only); (repeat' split) <;> (first | (simp; done) | rfl | (simp_all; done)))

@[simp] theorem joinOwn_ctl_fields (s : State) (fate : BoardFate) :
    (s.joinOwn fate).ctl.collection = s.ctl.collection ∧ (s.joinOwn fate).ctl.syncTimer = s.ctl.syncTimer ∧ (s.joinOwn fate).ctl.abandoned = s.ctl.abandoned ∧ (s.joinOwn fate).ctl.waiting = s.ctl.waiting := by
  refine ⟨?_, ?_, ?_, ?_⟩ <;> (unfold State.joinOwn; (try dsimp only); (repeat' split) <;> (first | (simp; done) | rfl | (simp_all; done)))

@[simp] theorem joinHeard_ctl_fields (s : State) (identity : Id32) :
    (s.joinHeard identity).ctl.state = s.ctl.state ∧ (s.joinHeard identity).ctl.collection = s.ctl.collection ∧ (s.joinHeard identity).ctl.abandoned = s.ctl.abandoned ∧ (s.joinHeard identity).ctl.reask = s.ctl.reask ∧ (s.joinHeard identity).ctl.volumeSeen = s.ctl.volumeSeen := by
  refine ⟨?_, ?_, ?_, ?_, ?_⟩ <;> (unfold State.joinHeard; (try dsimp only); (repeat' split) <;> (first | (simp; done) | rfl | (simp_all; done)))

@[simp] theorem joinFrame_ctl_fields (s : State) (h : FrameHdr) (station : Nat) (identity : Id32) :
    (s.joinFrame h station identity).ctl.collection = s.ctl.collection ∧ (s.joinFrame h station identity).ctl.abandoned = s.ctl.abandoned := by
  refine ⟨?_, ?_⟩ <;> (unfold State.joinFrame; (try dsimp only); (repeat' split) <;> (first | (simp; done) | rfl | (simp_all; done)))

@[simp] theorem joinFrame_link_fields (s : State) (h : FrameHdr) (station : Nat) (identity : Id32) :
    (s.joinFrame h station identity).link.up = s.link.up ∧ (s.joinFrame h station identity).link.parser = s.link.parser ∧ (s.joinFrame h station identity).link.relay = s.link.relay := by
  refine ⟨?_, ?_, ?_⟩ <;> (unfold State.joinFrame; (try dsimp only); (repeat' split) <;> (first | (simp; done) | rfl | (simp_all; done)))

@[simp] theorem leaveOwn_link_fields (s : State) :
    (s.leaveOwn).link.up = s.link.up ∧ (s.leaveOwn).link.parser = s.link.parser := by
  refine ⟨?_, ?_⟩ <;> (unfold State.leaveOwn; (try dsimp only); (repeat' split) <;> (first | (simp; done) | rfl | (simp_all; done)))

@[simp] theorem leaveFrame_link_fields (s : State) (h : FrameHdr) (station : Nat) :
    (s.leaveFrame h station).link.up = s.link.up ∧ (s.leaveFrame h station).link.parser = s.link.parser := by
  refine ⟨?_, ?_⟩ <;> (unfold State.leaveFrame; (try dsimp only); (repeat' split) <;> (first | (simp; done) | rfl | (simp_all; done)))

@[simp] theorem relayApplied_link_fields (s : State) (h : FrameHdr) (r : RelayResult) :
    (s.relayApplied h r).link.up = s.link.up ∧ (s.relayApplied h r).link.parser = s.link.parser := by
  refine ⟨?_, ?_⟩ <;> (unfold State.relayApplied; (try dsimp only); (repeat' split) <;> (first | (simp; done) | rfl | (simp_all; done)))

@[simp] theorem amendFrame_link_fields (s : State) (h : FrameHdr) (b : AmendBody) :
    (s.amendFrame h b).link.up = s.link.up ∧ (s.amendFrame h b).link.parser = s.link.parser := by
  refine ⟨?_, ?_⟩ <;> (unfold State.amendFrame; (try dsimp only); (repeat' split) <;> (first | (simp; done) | rfl | (simp_all; done)))

@[simp] theorem launchFrame_link_fields (s : State) (h : FrameHdr) (b : Nat) :
    (s.launchFrame h b).link.up = s.link.up ∧ (s.launchFrame h b).link.parser = s.link.parser := by
  refine ⟨?_, ?_⟩ <;> (unfold State.launchFrame; (try dsimp only); (repeat' split) <;> (first | (simp; done) | rfl | (simp_all; done)))

@[simp] theorem dropFrame_link_fields (s : State) (h : FrameHdr) (b : Nat) :
    (s.dropFrame h b).link.up = s.link.up ∧ (s.dropFrame h b).link.parser = s.link.parser := by
  refine ⟨?_, ?_⟩ <;> (unfold State.dropFrame; (try dsimp only); (repeat' split) <;> (first | (simp; done) | rfl | (simp_all; done)))

@[simp] theorem headFrame_link_fields (s : State) (fresh : Bool) (sender requester responder : Nat) (c : Collection) :
    (s.headFrame fresh sender requester responder c).link.up = s.link.up ∧ (s.headFrame fresh sender requester responder c).link.parser = s.link.parser ∧ (s.headFrame fresh sender requester responder c).link.relay = s.link.relay := by
  refine ⟨?_, ?_, ?_⟩ <;> (unfold State.headFrame; (try dsimp only); (repeat' split) <;> (first | (simp; done) | rfl | (simp_all; done)))

@[simp] theorem pagesFrame_ctl_volumeSeen (s : State) (requester index : Nat) (entries : List Byte) :
    (s.pagesFrame requester index entries).ctl.volumeSeen = s.ctl.volumeSeen := by
  unfold State.pagesFrame; (try dsimp only); (repeat' split) <;> (first | (simp; done) | rfl | (simp_all; done))

@[simp] theorem pagesFrame_link_fields (s : State) (requester index : Nat) (entries : List Byte) :
    (s.pagesFrame requester index entries).link.up = s.link.up ∧ (s.pagesFrame requester index entries).link.parser = s.link.parser ∧ (s.pagesFrame requester index entries).link.relay = s.link.relay := by
  refine ⟨?_, ?_, ?_⟩ <;> (unfold State.pagesFrame; (try dsimp only); (repeat' split) <;> (first | (simp; done) | rfl | (simp_all; done)))

@[simp] theorem snapAmendFrame_ctl_volumeSeen (s : State) (requester index : Nat) (b : AmendBody) :
    (s.snapAmendFrame requester index b).ctl.volumeSeen = s.ctl.volumeSeen := by
  unfold State.snapAmendFrame; (try dsimp only); (repeat' split) <;> (first | (simp; done) | rfl | (simp_all; done))

@[simp] theorem snapAmendFrame_link_fields (s : State) (requester index : Nat) (b : AmendBody) :
    (s.snapAmendFrame requester index b).link.up = s.link.up ∧ (s.snapAmendFrame requester index b).link.parser = s.link.parser ∧ (s.snapAmendFrame requester index b).link.relay = s.link.relay := by
  refine ⟨?_, ?_, ?_⟩ <;> (unfold State.snapAmendFrame; (try dsimp only); (repeat' split) <;> (first | (simp; done) | rfl | (simp_all; done)))

@[simp] theorem cutSettled_link_fields (s : State) :
    (s.cutSettled).link.up = s.link.up ∧ (s.cutSettled).link.parser = s.link.parser ∧ (s.cutSettled).link.relay = s.link.relay := by
  refine ⟨?_, ?_, ?_⟩ <;> (unfold State.cutSettled; (try dsimp only); (repeat' split) <;> (first | (simp; done) | rfl | (simp_all; done)))

@[simp] theorem carryOutCut_link_fields (s : State) (h : Held) :
    (s.carryOutCut h).link.up = s.link.up ∧ (s.carryOutCut h).link.parser = s.link.parser ∧ (s.carryOutCut h).link.relay = s.link.relay := by
  refine ⟨?_, ?_, ?_⟩ <;> (unfold State.carryOutCut; (try dsimp only); (repeat' split) <;> (first | (simp; done) | rfl | (simp_all; done)))

@[simp] theorem placeWant_link_fields (s : State) (w : Want) :
    (s.placeWant w).link.up = s.link.up ∧ (s.placeWant w).link.parser = s.link.parser ∧ (s.placeWant w).link.relay = s.link.relay := by
  refine ⟨?_, ?_, ?_⟩ <;> (unfold State.placeWant; (try dsimp only); (repeat' split) <;> (first | (simp; done) | rfl | (simp_all; done)))

@[simp] theorem wantStep_link_fields (s : State) :
    (s.wantStep).link.up = s.link.up ∧ (s.wantStep).link.parser = s.link.parser ∧ (s.wantStep).link.relay = s.link.relay := by
  refine ⟨?_, ?_, ?_⟩ <;> (unfold State.wantStep; (try dsimp only); (repeat' split) <;> (first | (simp; done) | rfl | (simp_all; done)))

@[simp] theorem walk_link_fields (l : List (Nat × Nat)) (s : State) :
    (State.walk l s).link.up = s.link.up ∧ (State.walk l s).link.parser = s.link.parser ∧ (State.walk l s).link.relay = s.link.relay := by
  refine ⟨?_, ?_, ?_⟩ <;> (induction l generalizing s with
      | nil => simp [State.walk]
      | cons i l ih =>
        unfold State.walk
        (repeat' split) <;> simp [ih])

@[simp] theorem walkStep_link_fields (s : State) :
    (s.walkStep).link.up = s.link.up ∧ (s.walkStep).link.parser = s.link.parser ∧ (s.walkStep).link.relay = s.link.relay := by
  refine ⟨?_, ?_, ?_⟩ <;> (unfold State.walkStep; (try dsimp only); (repeat' split) <;> (first | (simp; done) | rfl | (simp_all; done)))

@[simp] theorem protocolLoss_ctl_fields (s : State) (tag : Nat) :
    (s.protocolLoss tag).ctl.abandoned = s.ctl.abandoned ∧ (s.protocolLoss tag).ctl.reask = s.ctl.reask ∧ (s.protocolLoss tag).ctl.volumeSeen = s.ctl.volumeSeen := by
  refine ⟨?_, ?_, ?_⟩ <;> (unfold State.protocolLoss; (try dsimp only); (repeat' split) <;> (first | (simp; done) | rfl | (simp_all; done)))

@[simp] theorem protocolLoss_link_fields (s : State) (tag : Nat) :
    (s.protocolLoss tag).link.up = s.link.up ∧ (s.protocolLoss tag).link.parser = s.link.parser ∧ (s.protocolLoss tag).link.relay = s.link.relay := by
  refine ⟨?_, ?_, ?_⟩ <;> (unfold State.protocolLoss; (try dsimp only); (repeat' split) <;> (first | (simp; done) | rfl | (simp_all; done)))

@[simp] theorem corrupt_ctl_fields (s : State) (e : FetchEntry) :
    (s.corrupt e).ctl.abandoned = s.ctl.abandoned ∧ (s.corrupt e).ctl.reask = s.ctl.reask ∧ (s.corrupt e).ctl.volumeSeen = s.ctl.volumeSeen := by
  refine ⟨?_, ?_, ?_⟩ <;> (unfold State.corrupt; (try dsimp only); (repeat' split) <;> (first | (simp; done) | rfl | (simp_all; done)))

@[simp] theorem corrupt_link_fields (s : State) (e : FetchEntry) :
    (s.corrupt e).link.up = s.link.up ∧ (s.corrupt e).link.parser = s.link.parser ∧ (s.corrupt e).link.relay = s.link.relay := by
  refine ⟨?_, ?_, ?_⟩ <;> (unfold State.corrupt; (try dsimp only); (repeat' split) <;> (first | (simp; done) | rfl | (simp_all; done)))

@[simp] theorem badAnswer_ctl_fields (s : State) (e : FetchEntry) :
    (s.badAnswer e).ctl.abandoned = s.ctl.abandoned ∧ (s.badAnswer e).ctl.reask = s.ctl.reask ∧ (s.badAnswer e).ctl.volumeSeen = s.ctl.volumeSeen := by
  refine ⟨?_, ?_, ?_⟩ <;> (unfold State.badAnswer; (try dsimp only); (repeat' split) <;> (first | (simp; done) | rfl | (simp_all; done)))

@[simp] theorem badAnswer_link_fields (s : State) (e : FetchEntry) :
    (s.badAnswer e).link.up = s.link.up ∧ (s.badAnswer e).link.parser = s.link.parser ∧ (s.badAnswer e).link.relay = s.link.relay := by
  refine ⟨?_, ?_, ?_⟩ <;> (unfold State.badAnswer; (try dsimp only); (repeat' split) <;> (first | (simp; done) | rfl | (simp_all; done)))

@[simp] theorem endAnswer_ctl_fields (s : State) (e : FetchEntry) (a : Answer) (crc : BitVec 32) :
    (s.endAnswer e a crc).ctl.abandoned = s.ctl.abandoned ∧ (s.endAnswer e a crc).ctl.reask = s.ctl.reask ∧ (s.endAnswer e a crc).ctl.volumeSeen = s.ctl.volumeSeen := by
  refine ⟨?_, ?_, ?_⟩ <;> (unfold State.endAnswer; (try dsimp only); (repeat' split) <;> (first | (simp; done) | rfl | (simp_all; done)))

@[simp] theorem endAnswer_link_fields (s : State) (e : FetchEntry) (a : Answer) (crc : BitVec 32) :
    (s.endAnswer e a crc).link.up = s.link.up ∧ (s.endAnswer e a crc).link.parser = s.link.parser ∧ (s.endAnswer e a crc).link.relay = s.link.relay := by
  refine ⟨?_, ?_, ?_⟩ <;> (unfold State.endAnswer; (try dsimp only); (repeat' split) <;> (first | (simp; done) | rfl | (simp_all; done)))

@[simp] theorem portraitHeadRecord_ctl_fields (s : State) (tag : Nat) (pid : Id32) (width height : Nat) :
    (s.portraitHeadRecord tag pid width height).ctl.abandoned = s.ctl.abandoned ∧ (s.portraitHeadRecord tag pid width height).ctl.reask = s.ctl.reask ∧ (s.portraitHeadRecord tag pid width height).ctl.volumeSeen = s.ctl.volumeSeen := by
  refine ⟨?_, ?_, ?_⟩ <;> (unfold State.portraitHeadRecord; (try dsimp only); (repeat' split) <;> (first | (simp; done) | rfl | (simp_all; done)))

@[simp] theorem portraitHeadRecord_link_fields (s : State) (tag : Nat) (pid : Id32) (width height : Nat) :
    (s.portraitHeadRecord tag pid width height).link.up = s.link.up ∧ (s.portraitHeadRecord tag pid width height).link.parser = s.link.parser ∧ (s.portraitHeadRecord tag pid width height).link.relay = s.link.relay := by
  refine ⟨?_, ?_, ?_⟩ <;> (unfold State.portraitHeadRecord; (try dsimp only); (repeat' split) <;> (first | (simp; done) | rfl | (simp_all; done)))

@[simp] theorem portraitDataRecord_ctl_fields (s : State) (tag : Nat) (bs : List Byte) :
    (s.portraitDataRecord tag bs).ctl.abandoned = s.ctl.abandoned ∧ (s.portraitDataRecord tag bs).ctl.reask = s.ctl.reask ∧ (s.portraitDataRecord tag bs).ctl.volumeSeen = s.ctl.volumeSeen := by
  refine ⟨?_, ?_, ?_⟩ <;> (unfold State.portraitDataRecord; (try dsimp only); (repeat' split) <;> (first | (simp; done) | rfl | (simp_all; done)))

@[simp] theorem portraitDataRecord_link_fields (s : State) (tag : Nat) (bs : List Byte) :
    (s.portraitDataRecord tag bs).link.up = s.link.up ∧ (s.portraitDataRecord tag bs).link.parser = s.link.parser ∧ (s.portraitDataRecord tag bs).link.relay = s.link.relay := by
  refine ⟨?_, ?_, ?_⟩ <;> (unfold State.portraitDataRecord; (try dsimp only); (repeat' split) <;> (first | (simp; done) | rfl | (simp_all; done)))

@[simp] theorem portraitEndRecord_ctl_fields (s : State) (tag : Nat) (crc : BitVec 32) :
    (s.portraitEndRecord tag crc).ctl.abandoned = s.ctl.abandoned ∧ (s.portraitEndRecord tag crc).ctl.reask = s.ctl.reask ∧ (s.portraitEndRecord tag crc).ctl.volumeSeen = s.ctl.volumeSeen := by
  refine ⟨?_, ?_, ?_⟩ <;> (unfold State.portraitEndRecord; (try dsimp only); (repeat' split) <;> (first | (simp; done) | rfl | (simp_all; done)))

@[simp] theorem portraitEndRecord_link_fields (s : State) (tag : Nat) (crc : BitVec 32) :
    (s.portraitEndRecord tag crc).link.up = s.link.up ∧ (s.portraitEndRecord tag crc).link.parser = s.link.parser ∧ (s.portraitEndRecord tag crc).link.relay = s.link.relay := by
  refine ⟨?_, ?_, ?_⟩ <;> (unfold State.portraitEndRecord; (try dsimp only); (repeat' split) <;> (first | (simp; done) | rfl | (simp_all; done)))

@[simp] theorem portraitAbsentRecord_ctl_fields (s : State) (tag : Nat) (pid : Id32) :
    (s.portraitAbsentRecord tag pid).ctl.abandoned = s.ctl.abandoned ∧ (s.portraitAbsentRecord tag pid).ctl.reask = s.ctl.reask ∧ (s.portraitAbsentRecord tag pid).ctl.volumeSeen = s.ctl.volumeSeen := by
  refine ⟨?_, ?_, ?_⟩ <;> (unfold State.portraitAbsentRecord; (try dsimp only); (repeat' split) <;> (first | (simp; done) | rfl | (simp_all; done)))

@[simp] theorem portraitAbsentRecord_link_fields (s : State) (tag : Nat) (pid : Id32) :
    (s.portraitAbsentRecord tag pid).link.up = s.link.up ∧ (s.portraitAbsentRecord tag pid).link.parser = s.link.parser ∧ (s.portraitAbsentRecord tag pid).link.relay = s.link.relay := by
  refine ⟨?_, ?_, ?_⟩ <;> (unfold State.portraitAbsentRecord; (try dsimp only); (repeat' split) <;> (first | (simp; done) | rfl | (simp_all; done)))

@[simp] theorem fetchTimeout_ctl_fields (s : State) :
    (s.fetchTimeout).ctl.abandoned = s.ctl.abandoned ∧ (s.fetchTimeout).ctl.reask = s.ctl.reask ∧ (s.fetchTimeout).ctl.volumeSeen = s.ctl.volumeSeen := by
  refine ⟨?_, ?_, ?_⟩ <;> (unfold State.fetchTimeout; (try dsimp only); (repeat' split) <;> (first | (simp; done) | rfl | (simp_all; done)))

@[simp] theorem fetchTimeout_link_fields (s : State) :
    (s.fetchTimeout).link.up = s.link.up ∧ (s.fetchTimeout).link.parser = s.link.parser ∧ (s.fetchTimeout).link.relay = s.link.relay := by
  refine ⟨?_, ?_, ?_⟩ <;> (unfold State.fetchTimeout; (try dsimp only); (repeat' split) <;> (first | (simp; done) | rfl | (simp_all; done)))

@[simp] theorem handOutcome_link_fields (s : State) (sh : Sheet) (o : EngineOutcome) :
    (s.handOutcome sh o).link.up = s.link.up ∧ (s.handOutcome sh o).link.parser = s.link.parser ∧ (s.handOutcome sh o).link.relay = s.link.relay := by
  refine ⟨?_, ?_, ?_⟩ <;> (unfold State.handOutcome; (try dsimp only); (repeat' split) <;> (first | (simp; done) | rfl | (simp_all; done)))

@[simp] theorem goodOutcome_ctl_fields (s : State) (page : Nat) (o : EngineOutcome) :
    (s.goodOutcome page o).ctl.abandoned = s.ctl.abandoned ∧ (s.goodOutcome page o).ctl.reask = s.ctl.reask ∧ (s.goodOutcome page o).ctl.volumeSeen = s.ctl.volumeSeen := by
  refine ⟨?_, ?_, ?_⟩ <;> (unfold State.goodOutcome; (try dsimp only); (repeat' split) <;> (first | (simp; done) | rfl | (simp_all; done)))

@[simp] theorem goodOutcome_link_fields (s : State) (page : Nat) (o : EngineOutcome) :
    (s.goodOutcome page o).link.up = s.link.up ∧ (s.goodOutcome page o).link.parser = s.link.parser ∧ (s.goodOutcome page o).link.relay = s.link.relay := by
  refine ⟨?_, ?_, ?_⟩ <;> (unfold State.goodOutcome; (try dsimp only); (repeat' split) <;> (first | (simp; done) | rfl | (simp_all; done)))

@[simp] theorem badOutcome_ctl_fields (s : State) :
    (s.badOutcome).ctl.abandoned = s.ctl.abandoned ∧ (s.badOutcome).ctl.reask = s.ctl.reask ∧ (s.badOutcome).ctl.volumeSeen = s.ctl.volumeSeen := by
  refine ⟨?_, ?_, ?_⟩ <;> (unfold State.badOutcome; (try dsimp only); (repeat' split) <;> (first | (simp; done) | rfl | (simp_all; done)))

@[simp] theorem badOutcome_link_fields (s : State) :
    (s.badOutcome).link.up = s.link.up ∧ (s.badOutcome).link.parser = s.link.parser ∧ (s.badOutcome).link.relay = s.link.relay := by
  refine ⟨?_, ?_, ?_⟩ <;> (unfold State.badOutcome; (try dsimp only); (repeat' split) <;> (first | (simp; done) | rfl | (simp_all; done)))

@[simp] theorem returnEvent_ctl_fields (s : State) (e : ReturnEvent) :
    (s.returnEvent e).ctl.abandoned = s.ctl.abandoned ∧ (s.returnEvent e).ctl.reask = s.ctl.reask ∧ (s.returnEvent e).ctl.volumeSeen = s.ctl.volumeSeen := by
  refine ⟨?_, ?_, ?_⟩ <;> (unfold State.returnEvent; (try dsimp only); (repeat' split) <;> (first | (simp; done) | rfl | (simp_all; done)))

@[simp] theorem returnEvent_link_fields (s : State) (e : ReturnEvent) :
    (s.returnEvent e).link.up = s.link.up ∧ (s.returnEvent e).link.parser = s.link.parser ∧ (s.returnEvent e).link.relay = s.link.relay := by
  refine ⟨?_, ?_, ?_⟩ <;> (unfold State.returnEvent; (try dsimp only); (repeat' split) <;> (first | (simp; done) | rfl | (simp_all; done)))

@[simp] theorem returnBytes_ctl_fields (s : State) (bs : List Byte) :
    (s.returnBytes bs).ctl.abandoned = s.ctl.abandoned ∧ (s.returnBytes bs).ctl.reask = s.ctl.reask ∧ (s.returnBytes bs).ctl.volumeSeen = s.ctl.volumeSeen :=
  ⟨by unfold State.returnBytes; (try dsimp only); (repeat' split) <;> (first | (simp; done) | rfl | (simp [foldl_keeps (fun t : State => t.ctl.abandoned)]; done) | (rw [foldl_keeps (fun t : State => t.ctl.abandoned)] <;> first | (simp; done) | (intros; simp; done) | (intros; split <;> simp; done))), by unfold State.returnBytes; (try dsimp only); (repeat' split) <;> (first | (simp; done) | rfl | (simp [foldl_keeps (fun t : State => t.ctl.reask)]; done) | (rw [foldl_keeps (fun t : State => t.ctl.reask)] <;> first | (simp; done) | (intros; simp; done) | (intros; split <;> simp; done))), by unfold State.returnBytes; (try dsimp only); (repeat' split) <;> (first | (simp; done) | rfl | (simp [foldl_keeps (fun t : State => t.ctl.volumeSeen)]; done) | (rw [foldl_keeps (fun t : State => t.ctl.volumeSeen)] <;> first | (simp; done) | (intros; simp; done) | (intros; split <;> simp; done)))⟩

@[simp] theorem returnBytes_link_fields (s : State) (bs : List Byte) :
    (s.returnBytes bs).link.up = s.link.up ∧ (s.returnBytes bs).link.parser = s.link.parser ∧ (s.returnBytes bs).link.relay = s.link.relay :=
  ⟨by unfold State.returnBytes; (try dsimp only); (repeat' split) <;> (first | (simp; done) | rfl | (simp [foldl_keeps (fun t : State => t.link.up)]; done) | (rw [foldl_keeps (fun t : State => t.link.up)] <;> first | (simp; done) | (intros; simp; done) | (intros; split <;> simp; done))), by unfold State.returnBytes; (try dsimp only); (repeat' split) <;> (first | (simp; done) | rfl | (simp [foldl_keeps (fun t : State => t.link.parser)]; done) | (rw [foldl_keeps (fun t : State => t.link.parser)] <;> first | (simp; done) | (intros; simp; done) | (intros; split <;> simp; done))), by unfold State.returnBytes; (try dsimp only); (repeat' split) <;> (first | (simp; done) | rfl | (simp [foldl_keeps (fun t : State => t.link.relay)]; done) | (rw [foldl_keeps (fun t : State => t.link.relay)] <;> first | (simp; done) | (intros; simp; done) | (intros; split <;> simp; done)))⟩

@[simp] theorem outcomeRecord_ctl_fields (s : State) (page : Nat) (o : EngineOutcome) :
    (s.outcomeRecord page o).ctl.abandoned = s.ctl.abandoned ∧ (s.outcomeRecord page o).ctl.reask = s.ctl.reask ∧ (s.outcomeRecord page o).ctl.volumeSeen = s.ctl.volumeSeen := by
  refine ⟨?_, ?_, ?_⟩ <;> (unfold State.outcomeRecord; (try dsimp only); (repeat' split) <;> (first | (simp; done) | rfl | (simp_all; done)))

@[simp] theorem outcomeRecord_link_fields (s : State) (page : Nat) (o : EngineOutcome) :
    (s.outcomeRecord page o).link.up = s.link.up ∧ (s.outcomeRecord page o).link.parser = s.link.parser ∧ (s.outcomeRecord page o).link.relay = s.link.relay := by
  refine ⟨?_, ?_, ?_⟩ <;> (unfold State.outcomeRecord; (try dsimp only); (repeat' split) <;> (first | (simp; done) | rfl | (simp_all; done)))

@[simp] theorem headTimeout_ctl_fields (s : State) :
    (s.headTimeout).ctl.abandoned = s.ctl.abandoned ∧ (s.headTimeout).ctl.reask = s.ctl.reask ∧ (s.headTimeout).ctl.volumeSeen = s.ctl.volumeSeen := by
  refine ⟨?_, ?_, ?_⟩ <;> (unfold State.headTimeout; (try dsimp only); (repeat' split) <;> (first | (simp; done) | rfl | (simp_all; done)))

@[simp] theorem headTimeout_link_fields (s : State) :
    (s.headTimeout).link.up = s.link.up ∧ (s.headTimeout).link.parser = s.link.parser ∧ (s.headTimeout).link.relay = s.link.relay := by
  refine ⟨?_, ?_, ?_⟩ <;> (unfold State.headTimeout; (try dsimp only); (repeat' split) <;> (first | (simp; done) | rfl | (simp_all; done)))

@[simp] theorem goOffline_ctl_fields (s : State) :
    (s.goOffline).ctl.abandoned = s.ctl.abandoned ∧ (s.goOffline).ctl.reask = s.ctl.reask ∧ (s.goOffline).ctl.volumeSeen = s.ctl.volumeSeen := by
  refine ⟨?_, ?_, ?_⟩ <;> (unfold State.goOffline; (try dsimp only); (repeat' split) <;> (first | (simp; done) | rfl | (simp_all; done)))

@[simp] theorem goOffline_link_fields (s : State) :
    (s.goOffline).link.up = s.link.up ∧ (s.goOffline).link.parser = s.link.parser ∧ (s.goOffline).link.relay = s.link.relay := by
  refine ⟨?_, ?_, ?_⟩ <;> (unfold State.goOffline; (try dsimp only); (repeat' split) <;> (first | (simp; done) | rfl | (simp_all; done)))

@[simp] theorem reportExpiry_link_fields (s : State) :
    (s.reportExpiry).link.up = s.link.up ∧ (s.reportExpiry).link.parser = s.link.parser ∧ (s.reportExpiry).link.relay = s.link.relay := by
  refine ⟨?_, ?_, ?_⟩ <;> (unfold State.reportExpiry; (try dsimp only); (repeat' split) <;> (first | (simp; done) | rfl | (simp_all; done)))

@[simp] theorem goodRecord_link_relay (s : State) :
    (s.goodRecord).link.relay = s.link.relay := by
  unfold State.goodRecord; (try dsimp only); (repeat' split) <;> (first | (simp; done) | rfl | (simp_all; done))

@[simp] theorem badRecord_link_fields (s : State) :
    (s.badRecord).link.up = s.link.up ∧ (s.badRecord).link.parser = s.link.parser ∧ (s.badRecord).link.relay = s.link.relay := by
  refine ⟨?_, ?_, ?_⟩ <;> (unfold State.badRecord; (try dsimp only); (repeat' split) <;> (first | (simp; done) | rfl | (simp_all; done)))

@[simp] theorem takeSetup_ctl_fields (s : State) (lease depth fetch : Nat) :
    (s.takeSetup lease depth fetch).ctl.collection = s.ctl.collection ∧ (s.takeSetup lease depth fetch).ctl.syncTimer = s.ctl.syncTimer ∧ (s.takeSetup lease depth fetch).ctl.abandoned = s.ctl.abandoned ∧ (s.takeSetup lease depth fetch).ctl.reask = s.ctl.reask ∧ (s.takeSetup lease depth fetch).ctl.volumeSeen = s.ctl.volumeSeen ∧ (s.takeSetup lease depth fetch).ctl.waiting = s.ctl.waiting := by
  refine ⟨?_, ?_, ?_, ?_, ?_, ?_⟩ <;> (unfold State.takeSetup; (try dsimp only); (repeat' split) <;> (first | (simp; done) | rfl | (simp_all; done)))

@[simp] theorem takeSetup_link_fields (s : State) (lease depth fetch : Nat) :
    (s.takeSetup lease depth fetch).link.up = s.link.up ∧ (s.takeSetup lease depth fetch).link.parser = s.link.parser ∧ (s.takeSetup lease depth fetch).link.relay = s.link.relay := by
  refine ⟨?_, ?_, ?_⟩ <;> (unfold State.takeSetup; (try dsimp only); (repeat' split) <;> (first | (simp; done) | rfl | (simp_all; done)))

@[simp] theorem takePlanHead_link_fields (s : State) (p : PlanHead) :
    (s.takePlanHead p).link.up = s.link.up ∧ (s.takePlanHead p).link.parser = s.link.parser ∧ (s.takePlanHead p).link.relay = s.link.relay := by
  refine ⟨?_, ?_, ?_⟩ <;> (unfold State.takePlanHead; (try dsimp only); (repeat' split) <;> (first | (simp; done) | rfl | (simp_all; done)))

@[simp] theorem takePlanTemplate_link_fields (s : State) (t : Template) :
    (s.takePlanTemplate t).link.up = s.link.up ∧ (s.takePlanTemplate t).link.parser = s.link.parser ∧ (s.takePlanTemplate t).link.relay = s.link.relay := by
  refine ⟨?_, ?_, ?_⟩ <;> (unfold State.takePlanTemplate State.takePlanBody; (repeat' split) <;> simp)

@[simp] theorem takePlanSection_link_fields (s : State) (x : Section) :
    (s.takePlanSection x).link.up = s.link.up ∧ (s.takePlanSection x).link.parser = s.link.parser ∧ (s.takePlanSection x).link.relay = s.link.relay := by
  refine ⟨?_, ?_, ?_⟩ <;> (unfold State.takePlanSection State.takePlanBody; (repeat' split) <;> simp)

@[simp] theorem takePlanPage_link_fields (s : State) (p : PageRec) :
    (s.takePlanPage p).link.up = s.link.up ∧ (s.takePlanPage p).link.parser = s.link.parser ∧ (s.takePlanPage p).link.relay = s.link.relay := by
  refine ⟨?_, ?_, ?_⟩ <;> (unfold State.takePlanPage State.takePlanBody; (repeat' split) <;> simp)

@[simp] theorem takePlanSubject_link_fields (s : State) (j : Subject) :
    (s.takePlanSubject j).link.up = s.link.up ∧ (s.takePlanSubject j).link.parser = s.link.parser ∧ (s.takePlanSubject j).link.relay = s.link.relay := by
  refine ⟨?_, ?_, ?_⟩ <;> (unfold State.takePlanSubject State.takePlanBody; (repeat' split) <;> simp)

@[simp] theorem planLoaded_ctl_fields (s : State) :
    (s.planLoaded).ctl.reask = s.ctl.reask ∧ (s.planLoaded).ctl.volumeSeen = s.ctl.volumeSeen := by
  refine ⟨?_, ?_⟩ <;> (unfold State.planLoaded; (try dsimp only); (repeat' split) <;> (first | (simp; done) | rfl | (simp_all; done)))

@[simp] theorem planFailed_ctl_fields (s : State) (code index : Nat) :
    (s.planFailed code index).ctl.abandoned = s.ctl.abandoned ∧ (s.planFailed code index).ctl.reask = s.ctl.reask ∧ (s.planFailed code index).ctl.volumeSeen = s.ctl.volumeSeen := by
  refine ⟨?_, ?_, ?_⟩ <;> (unfold State.planFailed; (try dsimp only); (repeat' split) <;> (first | (simp; done) | rfl | (simp_all; done)))

@[simp] theorem planFailed_link_fields (s : State) (code index : Nat) :
    (s.planFailed code index).link.up = s.link.up ∧ (s.planFailed code index).link.parser = s.link.parser ∧ (s.planFailed code index).link.relay = s.link.relay := by
  refine ⟨?_, ?_, ?_⟩ <;> (unfold State.planFailed; (try dsimp only); (repeat' split) <;> (first | (simp; done) | rfl | (simp_all; done)))

@[simp] theorem judgePlan_ctl_fields (s : State) :
    (s.judgePlan).ctl.reask = s.ctl.reask ∧ (s.judgePlan).ctl.volumeSeen = s.ctl.volumeSeen := by
  refine ⟨?_, ?_⟩ <;> (unfold State.judgePlan; (try dsimp only); (repeat' split) <;> (first | (simp; done) | rfl | (simp_all; done)))

@[simp] theorem takePlanEnd_ctl_fields (s : State) :
    (s.takePlanEnd).ctl.reask = s.ctl.reask ∧ (s.takePlanEnd).ctl.volumeSeen = s.ctl.volumeSeen := by
  refine ⟨?_, ?_⟩ <;> (unfold State.takePlanEnd; (try dsimp only); (repeat' split) <;> (first | (simp; done) | rfl | (simp_all; done)))

@[simp] theorem judgePlan_link_fields (s : State) :
    (s.judgePlan).link.up = s.link.up ∧ (s.judgePlan).link.parser = s.link.parser ∧ (s.judgePlan).link.relay = s.link.relay := by
  refine ⟨?_, ?_, ?_⟩ <;> (unfold State.judgePlan; (try dsimp only); (repeat' split) <;> (first | (simp; done) | rfl | (simp_all; done)))

@[simp] theorem takePlanEnd_link_fields (s : State) :
    (s.takePlanEnd).link.up = s.link.up ∧ (s.takePlanEnd).link.parser = s.link.parser ∧ (s.takePlanEnd).link.relay = s.link.relay := by
  refine ⟨?_, ?_, ?_⟩ <;> (unfold State.takePlanEnd; (try dsimp only); (repeat' split) <;> (first | (simp; done) | rfl | (simp_all; done)))

@[simp] theorem refuseRelay_link_fields (s : State) (f : Frame) (reason : Reason) :
    (s.refuseRelay f reason).link.up = s.link.up ∧ (s.refuseRelay f reason).link.parser = s.link.parser ∧ (s.refuseRelay f reason).link.relay = s.link.relay := by
  refine ⟨?_, ?_, ?_⟩ <;> (unfold State.refuseRelay; (try dsimp only); (repeat' split) <;> (first | (simp; done) | rfl | (simp_all; done)))

@[simp] theorem relay_link_fields (s : State) (f : Frame) :
    (s.relay f).link.up = s.link.up ∧ (s.relay f).link.parser = s.link.parser := by
  refine ⟨?_, ?_⟩ <;> (unfold State.relay; (try dsimp only); (repeat' split) <;> (first | (simp; done) | rfl | (simp_all; done)))

@[simp] theorem answerStatus_link_fields (s : State) (request : Nat) :
    (s.answerStatus request).link.up = s.link.up ∧ (s.answerStatus request).link.parser = s.link.parser ∧ (s.answerStatus request).link.relay = s.link.relay := by
  refine ⟨?_, ?_, ?_⟩ <;> (unfold State.answerStatus; (try dsimp only); (repeat' split) <;> (first | (simp; done) | rfl | (simp_all; done)))

@[simp] theorem lineSilent_ctl_fields (s : State) :
    (s.lineSilent).ctl.abandoned = s.ctl.abandoned ∧ (s.lineSilent).ctl.reask = s.ctl.reask ∧ (s.lineSilent).ctl.volumeSeen = s.ctl.volumeSeen := by
  refine ⟨?_, ?_, ?_⟩ <;> (unfold State.lineSilent; (try dsimp only); (repeat' split) <;> (first | (simp; done) | rfl | (simp_all; done)))

@[simp] theorem lineSilent_link_relay (s : State) :
    (s.lineSilent).link.relay = s.link.relay := by
  unfold State.lineSilent; (try dsimp only); (repeat' split) <;> (first | (simp; done) | rfl | (simp_all; done))

end Sys2Proof.Laws
end

