-- ==== Sys2Proof/Laws/SubPortBoardClaims.lean ====
section
/-! SUPPORT. What each shared operation leaves unchanged inside the Hall Port, the Page Board and the Claim Unit. -/

namespace Sys2Proof.Laws

open Sys2Proof Sys2Proof.Machine

set_option linter.all false

@[simp] theorem enqueue_port_fields (s : State) (b : TxBody) :
    (s.enqueue b).port.silent = s.port.silent ∧ (s.enqueue b).port.tx = s.port.tx ∧ (s.enqueue b).port.rx = s.port.rx ∧ (s.enqueue b).port.run = s.port.run ∧ (s.enqueue b).port.sending = s.port.sending ∧ (s.enqueue b).port.runRest = s.port.runRest ∧ (s.enqueue b).port.framesSent = s.port.framesSent ∧ (s.enqueue b).port.framesVetoed = s.port.framesVetoed := by
  refine ⟨?_, ?_, ?_, ?_, ?_, ?_, ?_, ?_⟩ <;> (unfold State.enqueue; (try dsimp only); (repeat' split) <;> (first | (simp; done) | rfl | (simp_all; done)))

@[simp] theorem withdraw_port_fields (s : State) (names : TxBody → Bool) :
    (s.withdraw names).port.silent = s.port.silent ∧ (s.withdraw names).port.tx = s.port.tx ∧ (s.withdraw names).port.rx = s.port.rx ∧ (s.withdraw names).port.run = s.port.run ∧ (s.withdraw names).port.sending = s.port.sending ∧ (s.withdraw names).port.runRest = s.port.runRest ∧ (s.withdraw names).port.framesSent = s.port.framesSent ∧ (s.withdraw names).port.framesVetoed = s.port.framesVetoed := by
  refine ⟨?_, ?_, ?_, ?_, ?_, ?_, ?_, ?_⟩ <;> (unfold State.withdraw; (try dsimp only); (repeat' split) <;> (first | (simp; done) | rfl | (simp_all; done)))

@[simp] theorem offerCtl_port_fields (s : State) (i : CtlItem) :
    (s.offerCtl i).port.silent = s.port.silent ∧ (s.offerCtl i).port.tx = s.port.tx ∧ (s.offerCtl i).port.rx = s.port.rx ∧ (s.offerCtl i).port.run = s.port.run ∧ (s.offerCtl i).port.sending = s.port.sending ∧ (s.offerCtl i).port.runRest = s.port.runRest ∧ (s.offerCtl i).port.framesSent = s.port.framesSent ∧ (s.offerCtl i).port.framesVetoed = s.port.framesVetoed := by
  refine ⟨?_, ?_, ?_, ?_, ?_, ?_, ?_, ?_⟩ <;> (rw [offerCtl_eq]; split <;> simp)

@[simp] theorem offerAsk_port_fields (s : State) :
    (s.offerAsk).port.silent = s.port.silent ∧ (s.offerAsk).port.tx = s.port.tx ∧ (s.offerAsk).port.rx = s.port.rx ∧ (s.offerAsk).port.run = s.port.run ∧ (s.offerAsk).port.sending = s.port.sending ∧ (s.offerAsk).port.runRest = s.port.runRest ∧ (s.offerAsk).port.framesSent = s.port.framesSent ∧ (s.offerAsk).port.framesVetoed = s.port.framesVetoed := by
  refine ⟨?_, ?_, ?_, ?_, ?_, ?_, ?_, ?_⟩ <;> (unfold State.offerAsk; (try dsimp only); (repeat' split) <;> (first | (simp; done) | rfl | (simp_all; done)))

@[simp] theorem leaveWork_claims_fields (s : State) (page : Nat) :
    (s.leaveWork page).claims.pending = s.claims.pending ∧ (s.leaveWork page).claims.waiting = s.claims.waiting := by
  refine ⟨?_, ?_⟩ <;> (unfold State.leaveWork; (try dsimp only); (repeat' split) <;> (first | (simp; done) | rfl | (simp_all; done)))

@[simp] theorem leaveWork_port_fields (s : State) (page : Nat) :
    (s.leaveWork page).port.silent = s.port.silent ∧ (s.leaveWork page).port.tx = s.port.tx ∧ (s.leaveWork page).port.rx = s.port.rx ∧ (s.leaveWork page).port.run = s.port.run ∧ (s.leaveWork page).port.sending = s.port.sending ∧ (s.leaveWork page).port.runRest = s.port.runRest ∧ (s.leaveWork page).port.framesSent = s.port.framesSent ∧ (s.leaveWork page).port.framesVetoed = s.port.framesVetoed := by
  refine ⟨?_, ?_, ?_, ?_, ?_, ?_, ?_, ?_⟩ <;> (unfold State.leaveWork; (try dsimp only); (repeat' split) <;> (first | (simp; done) | rfl | (simp_all; done)))

@[simp] theorem askClosing_claims_fields (s : State) (f : Frame) (page : Nat) :
    (s.askClosing f page).claims.work = s.claims.work ∧ (s.askClosing f page).claims.pending = s.claims.pending := by
  refine ⟨?_, ?_⟩ <;> (unfold State.askClosing; (try dsimp only); (repeat' split) <;> (first | (simp; done) | rfl | (simp_all; done)))

@[simp] theorem askClosing_port_fields (s : State) (f : Frame) (page : Nat) :
    (s.askClosing f page).port.silent = s.port.silent ∧ (s.askClosing f page).port.tx = s.port.tx ∧ (s.askClosing f page).port.rx = s.port.rx ∧ (s.askClosing f page).port.run = s.port.run ∧ (s.askClosing f page).port.sending = s.port.sending ∧ (s.askClosing f page).port.runRest = s.port.runRest ∧ (s.askClosing f page).port.framesSent = s.port.framesSent ∧ (s.askClosing f page).port.framesVetoed = s.port.framesVetoed := by
  refine ⟨?_, ?_, ?_, ?_, ?_, ?_, ?_, ?_⟩ <;> (unfold State.askClosing; (try dsimp only); (repeat' split) <;> (first | (simp; done) | rfl | (simp_all; done)))

@[simp] theorem reviewPending_claims_fields (s : State) :
    (s.reviewPending).claims.work = s.claims.work ∧ (s.reviewPending).claims.waiting = s.claims.waiting := by
  refine ⟨?_, ?_⟩ <;> (unfold State.reviewPending; (try dsimp only); (repeat' split) <;> (first | (simp; done) | rfl | (simp_all; done)))

@[simp] theorem reviewPending_port_fields (s : State) :
    (s.reviewPending).port.silent = s.port.silent ∧ (s.reviewPending).port.tx = s.port.tx ∧ (s.reviewPending).port.rx = s.port.rx ∧ (s.reviewPending).port.run = s.port.run ∧ (s.reviewPending).port.sending = s.port.sending ∧ (s.reviewPending).port.runRest = s.port.runRest ∧ (s.reviewPending).port.framesSent = s.port.framesSent ∧ (s.reviewPending).port.framesVetoed = s.port.framesVetoed := by
  refine ⟨?_, ?_, ?_, ?_, ?_, ?_, ?_, ?_⟩ <;> (unfold State.reviewPending; (try dsimp only); (repeat' split) <;> (first | (simp; done) | rfl | (simp_all; done)))

@[simp] theorem queueClaim_claims_fields (s : State) (page : Nat) :
    (s.queueClaim page).claims.work = s.claims.work ∧ (s.queueClaim page).claims.waiting = s.claims.waiting := by
  refine ⟨?_, ?_⟩ <;> (unfold State.queueClaim; (try dsimp only); (repeat' split) <;> (first | (simp; done) | rfl | (simp_all; done)))

@[simp] theorem queueClaim_port_fields (s : State) (page : Nat) :
    (s.queueClaim page).port.silent = s.port.silent ∧ (s.queueClaim page).port.tx = s.port.tx ∧ (s.queueClaim page).port.rx = s.port.rx ∧ (s.queueClaim page).port.run = s.port.run ∧ (s.queueClaim page).port.sending = s.port.sending ∧ (s.queueClaim page).port.runRest = s.port.runRest ∧ (s.queueClaim page).port.framesSent = s.port.framesSent ∧ (s.queueClaim page).port.framesVetoed = s.port.framesVetoed := by
  refine ⟨?_, ?_, ?_, ?_, ?_, ?_, ?_, ?_⟩ <;> (unfold State.queueClaim; (try dsimp only); (repeat' split) <;> (first | (simp; done) | rfl | (simp_all; done)))

@[simp] theorem evalClaim_claims_fields (s : State) :
    (s.evalClaim).claims.work = s.claims.work ∧ (s.evalClaim).claims.waiting = s.claims.waiting := by
  refine ⟨?_, ?_⟩ <;> (unfold State.evalClaim; (try dsimp only); (repeat' split) <;> (first | (simp; done) | rfl | (simp_all; done)))

@[simp] theorem evalClaim_port_fields (s : State) :
    (s.evalClaim).port.silent = s.port.silent ∧ (s.evalClaim).port.tx = s.port.tx ∧ (s.evalClaim).port.rx = s.port.rx ∧ (s.evalClaim).port.run = s.port.run ∧ (s.evalClaim).port.sending = s.port.sending ∧ (s.evalClaim).port.runRest = s.port.runRest ∧ (s.evalClaim).port.framesSent = s.port.framesSent ∧ (s.evalClaim).port.framesVetoed = s.port.framesVetoed := by
  refine ⟨?_, ?_, ?_, ?_, ?_, ?_, ?_, ?_⟩ <;> (unfold State.evalClaim; (try dsimp only); (repeat' split) <;> (first | (simp; done) | rfl | (simp_all; done)))

@[simp] theorem offerLapse_board_fields (s : State) (page : Nat) :
    (s.offerLapse page).board.lastLaunched = s.board.lastLaunched ∧ (s.offerLapse page).board.replica = s.board.replica ∧ (s.offerLapse page).board.completions = s.board.completions := by
  refine ⟨?_, ?_, ?_⟩ <;> (unfold State.offerLapse; (try dsimp only); (repeat' split) <;> (first | (simp; done) | rfl | (simp_all; done)))

@[simp] theorem offerLapse_port_fields (s : State) (page : Nat) :
    (s.offerLapse page).port.silent = s.port.silent ∧ (s.offerLapse page).port.tx = s.port.tx ∧ (s.offerLapse page).port.rx = s.port.rx ∧ (s.offerLapse page).port.run = s.port.run ∧ (s.offerLapse page).port.sending = s.port.sending ∧ (s.offerLapse page).port.runRest = s.port.runRest ∧ (s.offerLapse page).port.framesSent = s.port.framesSent ∧ (s.offerLapse page).port.framesVetoed = s.port.framesVetoed := by
  refine ⟨?_, ?_, ?_, ?_, ?_, ?_, ?_, ?_⟩ <;> (unfold State.offerLapse; (try dsimp only); (repeat' split) <;> (first | (simp; done) | rfl | (simp_all; done)))

@[simp] theorem offerFirst_board_fields (s : State) :
    (s.offerFirst).board.lastLaunched = s.board.lastLaunched ∧ (s.offerFirst).board.replica = s.board.replica ∧ (s.offerFirst).board.completions = s.board.completions := by
  refine ⟨?_, ?_, ?_⟩ <;> (unfold State.offerFirst; (try dsimp only); (repeat' split) <;> (first | (simp; done) | rfl | (simp_all; done)))

@[simp] theorem offerFirst_port_fields (s : State) :
    (s.offerFirst).port.silent = s.port.silent ∧ (s.offerFirst).port.tx = s.port.tx ∧ (s.offerFirst).port.rx = s.port.rx ∧ (s.offerFirst).port.run = s.port.run ∧ (s.offerFirst).port.sending = s.port.sending ∧ (s.offerFirst).port.runRest = s.port.runRest ∧ (s.offerFirst).port.framesSent = s.port.framesSent ∧ (s.offerFirst).port.framesVetoed = s.port.framesVetoed := by
  refine ⟨?_, ?_, ?_, ?_, ?_, ?_, ?_, ?_⟩ <;> (unfold State.offerFirst; (try dsimp only); (repeat' split) <;> (first | (simp; done) | rfl | (simp_all; done)))

@[simp] theorem requeueSpoiled_claims_fields (s : State) (e : WorkEntry) :
    (s.requeueSpoiled e).claims.pending = s.claims.pending ∧ (s.requeueSpoiled e).claims.waiting = s.claims.waiting := by
  refine ⟨?_, ?_⟩ <;> (unfold State.requeueSpoiled; (try dsimp only); (repeat' split) <;> (first | (simp; done) | rfl | (simp_all; done)))

@[simp] theorem claimOutcome_claims_pending (s : State) (sh : Sheet) (o : EngineOutcome) :
    (s.claimOutcome sh o).claims.pending = s.claims.pending := by
  unfold State.claimOutcome; (try dsimp only); (repeat' split) <;> (first | (simp; done) | rfl | (simp_all; done))

@[simp] theorem claimOutcome_port_fields (s : State) (sh : Sheet) (o : EngineOutcome) :
    (s.claimOutcome sh o).port.silent = s.port.silent ∧ (s.claimOutcome sh o).port.tx = s.port.tx ∧ (s.claimOutcome sh o).port.rx = s.port.rx ∧ (s.claimOutcome sh o).port.run = s.port.run ∧ (s.claimOutcome sh o).port.sending = s.port.sending ∧ (s.claimOutcome sh o).port.runRest = s.port.runRest ∧ (s.claimOutcome sh o).port.framesSent = s.port.framesSent ∧ (s.claimOutcome sh o).port.framesVetoed = s.port.framesVetoed := by
  refine ⟨?_, ?_, ?_, ?_, ?_, ?_, ?_, ?_⟩ <;> (unfold State.claimOutcome; (try dsimp only); (repeat' split) <;> (first | (simp; done) | rfl | (simp_all; done)))

@[simp] theorem dropWork_claims_pending (s : State) :
    (s.dropWork).claims.pending = s.claims.pending := by
  unfold State.dropWork; (try dsimp only); (repeat' split) <;> (first | (simp; done) | rfl | (simp_all; done))

@[simp] theorem dropWork_port_fields (s : State) :
    (s.dropWork).port.silent = s.port.silent ∧ (s.dropWork).port.tx = s.port.tx ∧ (s.dropWork).port.rx = s.port.rx ∧ (s.dropWork).port.run = s.port.run ∧ (s.dropWork).port.sending = s.port.sending ∧ (s.dropWork).port.runRest = s.port.runRest ∧ (s.dropWork).port.framesSent = s.port.framesSent ∧ (s.dropWork).port.framesVetoed = s.port.framesVetoed := by
  refine ⟨?_, ?_, ?_, ?_, ?_, ?_, ?_, ?_⟩ <;> (unfold State.dropWork; (try dsimp only); (repeat' split) <;> (first | (simp; done) | rfl | (simp_all; done)))

@[simp] theorem reviewComplete_board_fields (s : State) :
    (s.reviewComplete).board.lastLaunched = s.board.lastLaunched ∧ (s.reviewComplete).board.leases = s.board.leases := by
  refine ⟨?_, ?_⟩ <;> (unfold State.reviewComplete; (try dsimp only); (repeat' split) <;> (first | (simp; done) | rfl | (simp_all; done)))

@[simp] theorem tryEnd_claims_pending (s : State) :
    (s.tryEnd).claims.pending = s.claims.pending := by
  unfold State.tryEnd; (try dsimp only); (repeat' split) <;> (first | (simp; done) | rfl | (simp [foldl_keeps (fun t : State => t.claims.pending)]; done) | (rw [foldl_keeps (fun t : State => t.claims.pending)] <;> first | (simp; done) | (intros; simp; done) | (intros; split <;> simp; done)))

@[simp] theorem tryEnd_port_fields (s : State) :
    (s.tryEnd).port.silent = s.port.silent ∧ (s.tryEnd).port.tx = s.port.tx ∧ (s.tryEnd).port.rx = s.port.rx ∧ (s.tryEnd).port.run = s.port.run ∧ (s.tryEnd).port.sending = s.port.sending ∧ (s.tryEnd).port.runRest = s.port.runRest ∧ (s.tryEnd).port.framesSent = s.port.framesSent ∧ (s.tryEnd).port.framesVetoed = s.port.framesVetoed :=
  ⟨by unfold State.tryEnd; (try dsimp only); (repeat' split) <;> (first | (simp; done) | rfl | (simp [foldl_keeps (fun t : State => t.port.silent)]; done) | (rw [foldl_keeps (fun t : State => t.port.silent)] <;> first | (simp; done) | (intros; simp; done) | (intros; split <;> simp; done))), by unfold State.tryEnd; (try dsimp only); (repeat' split) <;> (first | (simp; done) | rfl | (simp [foldl_keeps (fun t : State => t.port.tx)]; done) | (rw [foldl_keeps (fun t : State => t.port.tx)] <;> first | (simp; done) | (intros; simp; done) | (intros; split <;> simp; done))), by unfold State.tryEnd; (try dsimp only); (repeat' split) <;> (first | (simp; done) | rfl | (simp [foldl_keeps (fun t : State => t.port.rx)]; done) | (rw [foldl_keeps (fun t : State => t.port.rx)] <;> first | (simp; done) | (intros; simp; done) | (intros; split <;> simp; done))), by unfold State.tryEnd; (try dsimp only); (repeat' split) <;> (first | (simp; done) | rfl | (simp [foldl_keeps (fun t : State => t.port.run)]; done) | (rw [foldl_keeps (fun t : State => t.port.run)] <;> first | (simp; done) | (intros; simp; done) | (intros; split <;> simp; done))), by unfold State.tryEnd; (try dsimp only); (repeat' split) <;> (first | (simp; done) | rfl | (simp [foldl_keeps (fun t : State => t.port.sending)]; done) | (rw [foldl_keeps (fun t : State => t.port.sending)] <;> first | (simp; done) | (intros; simp; done) | (intros; split <;> simp; done))), by unfold State.tryEnd; (try dsimp only); (repeat' split) <;> (first | (simp; done) | rfl | (simp [foldl_keeps (fun t : State => t.port.runRest)]; done) | (rw [foldl_keeps (fun t : State => t.port.runRest)] <;> first | (simp; done) | (intros; simp; done) | (intros; split <;> simp; done))), by unfold State.tryEnd; (try dsimp only); (repeat' split) <;> (first | (simp; done) | rfl | (simp [foldl_keeps (fun t : State => t.port.framesSent)]; done) | (rw [foldl_keeps (fun t : State => t.port.framesSent)] <;> first | (simp; done) | (intros; simp; done) | (intros; split <;> simp; done))), by unfold State.tryEnd; (try dsimp only); (repeat' split) <;> (first | (simp; done) | rfl | (simp [foldl_keeps (fun t : State => t.port.framesVetoed)]; done) | (rw [foldl_keeps (fun t : State => t.port.framesVetoed)] <;> first | (simp; done) | (intros; simp; done) | (intros; split <;> simp; done)))⟩

@[simp] theorem awaitClose_claims_fields (s : State) (f : Frame) (page : Nat) :
    (s.awaitClose f page).claims.work = s.claims.work ∧ (s.awaitClose f page).claims.pending = s.claims.pending := by
  refine ⟨?_, ?_⟩ <;> (unfold State.awaitClose; (try dsimp only); (repeat' split) <;> (first | (simp; done) | rfl | (simp_all; done)))

@[simp] theorem awaitClose_port_fields (s : State) (f : Frame) (page : Nat) :
    (s.awaitClose f page).port.silent = s.port.silent ∧ (s.awaitClose f page).port.tx = s.port.tx ∧ (s.awaitClose f page).port.rx = s.port.rx ∧ (s.awaitClose f page).port.run = s.port.run ∧ (s.awaitClose f page).port.sending = s.port.sending ∧ (s.awaitClose f page).port.runRest = s.port.runRest ∧ (s.awaitClose f page).port.framesSent = s.port.framesSent ∧ (s.awaitClose f page).port.framesVetoed = s.port.framesVetoed := by
  refine ⟨?_, ?_, ?_, ?_, ?_, ?_, ?_, ?_⟩ <;> (unfold State.awaitClose; (try dsimp only); (repeat' split) <;> (first | (simp; done) | rfl | (simp_all; done)))

@[simp] theorem recoverLink_claims_fields (s : State) (cause : Cause) (named : Option Nat) :
    (s.recoverLink cause named).claims.work = s.claims.work ∧ (s.recoverLink cause named).claims.pending = s.claims.pending :=
  ⟨by unfold State.recoverLink; (try dsimp only); (repeat' split) <;> (first | (simp; done) | rfl | (simp [foldl_keeps (fun t : State => t.claims.work)]; done) | (rw [foldl_keeps (fun t : State => t.claims.work)] <;> first | (simp; done) | (intros; simp; done) | (intros; split <;> simp; done))), by unfold State.recoverLink; (try dsimp only); (repeat' split) <;> (first | (simp; done) | rfl | (simp [foldl_keeps (fun t : State => t.claims.pending)]; done) | (rw [foldl_keeps (fun t : State => t.claims.pending)] <;> first | (simp; done) | (intros; simp; done) | (intros; split <;> simp; done)))⟩

@[simp] theorem recoverLink_port_fields (s : State) (cause : Cause) (named : Option Nat) :
    (s.recoverLink cause named).port.silent = s.port.silent ∧ (s.recoverLink cause named).port.tx = s.port.tx ∧ (s.recoverLink cause named).port.rx = s.port.rx ∧ (s.recoverLink cause named).port.run = s.port.run ∧ (s.recoverLink cause named).port.sending = s.port.sending ∧ (s.recoverLink cause named).port.runRest = s.port.runRest ∧ (s.recoverLink cause named).port.framesSent = s.port.framesSent ∧ (s.recoverLink cause named).port.framesVetoed = s.port.framesVetoed :=
  ⟨by unfold State.recoverLink; (try dsimp only); (repeat' split) <;> (first | (simp; done) | rfl | (simp [foldl_keeps (fun t : State => t.port.silent)]; done) | (rw [foldl_keeps (fun t : State => t.port.silent)] <;> first | (simp; done) | (intros; simp; done) | (intros; split <;> simp; done))), by unfold State.recoverLink; (try dsimp only); (repeat' split) <;> (first | (simp; done) | rfl | (simp [foldl_keeps (fun t : State => t.port.tx)]; done) | (rw [foldl_keeps (fun t : State => t.port.tx)] <;> first | (simp; done) | (intros; simp; done) | (intros; split <;> simp; done))), by unfold State.recoverLink; (try dsimp only); (repeat' split) <;> (first | (simp; done) | rfl | (simp [foldl_keeps (fun t : State => t.port.rx)]; done) | (rw [foldl_keeps (fun t : State => t.port.rx)] <;> first | (simp; done) | (intros; simp; done) | (intros; split <;> simp; done))), by unfold State.recoverLink; (try dsimp only); (repeat' split) <;> (first | (simp; done) | rfl | (simp [foldl_keeps (fun t : State => t.port.run)]; done) | (rw [foldl_keeps (fun t : State => t.port.run)] <;> first | (simp; done) | (intros; simp; done) | (intros; split <;> simp; done))), by unfold State.recoverLink; (try dsimp only); (repeat' split) <;> (first | (simp; done) | rfl | (simp [foldl_keeps (fun t : State => t.port.sending)]; done) | (rw [foldl_keeps (fun t : State => t.port.sending)] <;> first | (simp; done) | (intros; simp; done) | (intros; split <;> simp; done))), by unfold State.recoverLink; (try dsimp only); (repeat' split) <;> (first | (simp; done) | rfl | (simp [foldl_keeps (fun t : State => t.port.runRest)]; done) | (rw [foldl_keeps (fun t : State => t.port.runRest)] <;> first | (simp; done) | (intros; simp; done) | (intros; split <;> simp; done))), by unfold State.recoverLink; (try dsimp only); (repeat' split) <;> (first | (simp; done) | rfl | (simp [foldl_keeps (fun t : State => t.port.framesSent)]; done) | (rw [foldl_keeps (fun t : State => t.port.framesSent)] <;> first | (simp; done) | (intros; simp; done) | (intros; split <;> simp; done))), by unfold State.recoverLink; (try dsimp only); (repeat' split) <;> (first | (simp; done) | rfl | (simp [foldl_keeps (fun t : State => t.port.framesVetoed)]; done) | (rw [foldl_keeps (fun t : State => t.port.framesVetoed)] <;> first | (simp; done) | (intros; simp; done) | (intros; split <;> simp; done)))⟩

@[simp] theorem recoverEngine_claims_fields (s : State) :
    (s.recoverEngine).claims.work = s.claims.work ∧ (s.recoverEngine).claims.pending = s.claims.pending :=
  ⟨by unfold State.recoverEngine; (try dsimp only); (repeat' split) <;> (first | (simp; done) | rfl | (simp [foldl_keeps (fun t : State => t.claims.work)]; done) | (rw [foldl_keeps (fun t : State => t.claims.work)] <;> first | (simp; done) | (intros; simp; done) | (intros; split <;> simp; done))), by unfold State.recoverEngine; (try dsimp only); (repeat' split) <;> (first | (simp; done) | rfl | (simp [foldl_keeps (fun t : State => t.claims.pending)]; done) | (rw [foldl_keeps (fun t : State => t.claims.pending)] <;> first | (simp; done) | (intros; simp; done) | (intros; split <;> simp; done)))⟩

@[simp] theorem recoverEngine_port_fields (s : State) :
    (s.recoverEngine).port.silent = s.port.silent ∧ (s.recoverEngine).port.tx = s.port.tx ∧ (s.recoverEngine).port.rx = s.port.rx ∧ (s.recoverEngine).port.run = s.port.run ∧ (s.recoverEngine).port.sending = s.port.sending ∧ (s.recoverEngine).port.runRest = s.port.runRest ∧ (s.recoverEngine).port.framesSent = s.port.framesSent ∧ (s.recoverEngine).port.framesVetoed = s.port.framesVetoed :=
  ⟨by unfold State.recoverEngine; (try dsimp only); (repeat' split) <;> (first | (simp; done) | rfl | (simp [foldl_keeps (fun t : State => t.port.silent)]; done) | (rw [foldl_keeps (fun t : State => t.port.silent)] <;> first | (simp; done) | (intros; simp; done) | (intros; split <;> simp; done))), by unfold State.recoverEngine; (try dsimp only); (repeat' split) <;> (first | (simp; done) | rfl | (simp [foldl_keeps (fun t : State => t.port.tx)]; done) | (rw [foldl_keeps (fun t : State => t.port.tx)] <;> first | (simp; done) | (intros; simp; done) | (intros; split <;> simp; done))), by unfold State.recoverEngine; (try dsimp only); (repeat' split) <;> (first | (simp; done) | rfl | (simp [foldl_keeps (fun t : State => t.port.rx)]; done) | (rw [foldl_keeps (fun t : State => t.port.rx)] <;> first | (simp; done) | (intros; simp; done) | (intros; split <;> simp; done))), by unfold State.recoverEngine; (try dsimp only); (repeat' split) <;> (first | (simp; done) | rfl | (simp [foldl_keeps (fun t : State => t.port.run)]; done) | (rw [foldl_keeps (fun t : State => t.port.run)] <;> first | (simp; done) | (intros; simp; done) | (intros; split <;> simp; done))), by unfold State.recoverEngine; (try dsimp only); (repeat' split) <;> (first | (simp; done) | rfl | (simp [foldl_keeps (fun t : State => t.port.sending)]; done) | (rw [foldl_keeps (fun t : State => t.port.sending)] <;> first | (simp; done) | (intros; simp; done) | (intros; split <;> simp; done))), by unfold State.recoverEngine; (try dsimp only); (repeat' split) <;> (first | (simp; done) | rfl | (simp [foldl_keeps (fun t : State => t.port.runRest)]; done) | (rw [foldl_keeps (fun t : State => t.port.runRest)] <;> first | (simp; done) | (intros; simp; done) | (intros; split <;> simp; done))), by unfold State.recoverEngine; (try dsimp only); (repeat' split) <;> (first | (simp; done) | rfl | (simp [foldl_keeps (fun t : State => t.port.framesSent)]; done) | (rw [foldl_keeps (fun t : State => t.port.framesSent)] <;> first | (simp; done) | (intros; simp; done) | (intros; split <;> simp; done))), by unfold State.recoverEngine; (try dsimp only); (repeat' split) <;> (first | (simp; done) | rfl | (simp [foldl_keeps (fun t : State => t.port.framesVetoed)]; done) | (rw [foldl_keeps (fun t : State => t.port.framesVetoed)] <;> first | (simp; done) | (intros; simp; done) | (intros; split <;> simp; done)))⟩

@[simp] theorem recoverSilent_port_fields (s : State) :
    (s.recoverSilent).port.silent = s.port.silent ∧ (s.recoverSilent).port.tx = s.port.tx ∧ (s.recoverSilent).port.rx = s.port.rx ∧ (s.recoverSilent).port.run = s.port.run ∧ (s.recoverSilent).port.sending = s.port.sending ∧ (s.recoverSilent).port.runRest = s.port.runRest ∧ (s.recoverSilent).port.framesSent = s.port.framesSent ∧ (s.recoverSilent).port.framesVetoed = s.port.framesVetoed := by
  refine ⟨?_, ?_, ?_, ?_, ?_, ?_, ?_, ?_⟩ <;> (unfold State.recoverSilent; (try dsimp only); (repeat' split) <;> (first | (simp; done) | rfl | (simp_all; done)))

@[simp] theorem enterHalted_port_fields (s : State) :
    (s.enterHalted).port.silent = s.port.silent ∧ (s.enterHalted).port.tx = s.port.tx ∧ (s.enterHalted).port.rx = s.port.rx ∧ (s.enterHalted).port.run = s.port.run ∧ (s.enterHalted).port.sending = s.port.sending ∧ (s.enterHalted).port.runRest = s.port.runRest ∧ (s.enterHalted).port.framesSent = s.port.framesSent ∧ (s.enterHalted).port.framesVetoed = s.port.framesVetoed := by
  refine ⟨?_, ?_, ?_, ?_, ?_, ?_, ?_, ?_⟩ <;> (unfold State.enterHalted; (try dsimp only); (repeat' split) <;> (first | (simp; done) | rfl | (simp_all; done)))

@[simp] theorem releaseAll_claims_fields (s : State) :
    (s.releaseAll).claims.work = s.claims.work ∧ (s.releaseAll).claims.pending = s.claims.pending :=
  ⟨by unfold State.releaseAll; rw [foldl_keeps (fun t => t.claims.work)]; intros; (try dsimp only); split <;> simp, by unfold State.releaseAll; rw [foldl_keeps (fun t => t.claims.pending)]; intros; (try dsimp only); split <;> simp⟩

@[simp] theorem releaseAll_port_fields (s : State) :
    (s.releaseAll).port.silent = s.port.silent ∧ (s.releaseAll).port.tx = s.port.tx ∧ (s.releaseAll).port.rx = s.port.rx ∧ (s.releaseAll).port.run = s.port.run ∧ (s.releaseAll).port.sending = s.port.sending ∧ (s.releaseAll).port.runRest = s.port.runRest ∧ (s.releaseAll).port.framesSent = s.port.framesSent ∧ (s.releaseAll).port.framesVetoed = s.port.framesVetoed :=
  ⟨by unfold State.releaseAll; rw [foldl_keeps (fun t => t.port.silent)]; intros; (try dsimp only); split <;> simp, by unfold State.releaseAll; rw [foldl_keeps (fun t => t.port.tx)]; intros; (try dsimp only); split <;> simp, by unfold State.releaseAll; rw [foldl_keeps (fun t => t.port.rx)]; intros; (try dsimp only); split <;> simp, by unfold State.releaseAll; rw [foldl_keeps (fun t => t.port.run)]; intros; (try dsimp only); split <;> simp, by unfold State.releaseAll; rw [foldl_keeps (fun t => t.port.sending)]; intros; (try dsimp only); split <;> simp, by unfold State.releaseAll; rw [foldl_keeps (fun t => t.port.runRest)]; intros; (try dsimp only); split <;> simp, by unfold State.releaseAll; rw [foldl_keeps (fun t => t.port.framesSent)]; intros; (try dsimp only); split <;> simp, by unfold State.releaseAll; rw [foldl_keeps (fun t => t.port.framesVetoed)]; intros; (try dsimp only); split <;> simp⟩

@[simp] theorem halt_claims_pending (s : State) :
    (s.halt).claims.pending = s.claims.pending := by
  unfold State.halt; (try dsimp only); (repeat' split) <;> (first | (simp; done) | rfl | (simp_all; done))

@[simp] theorem halt_port_fields (s : State) :
    (s.halt).port.silent = s.port.silent ∧ (s.halt).port.tx = s.port.tx ∧ (s.halt).port.rx = s.port.rx ∧ (s.halt).port.run = s.port.run ∧ (s.halt).port.sending = s.port.sending ∧ (s.halt).port.runRest = s.port.runRest ∧ (s.halt).port.framesSent = s.port.framesSent ∧ (s.halt).port.framesVetoed = s.port.framesVetoed := by
  refine ⟨?_, ?_, ?_, ?_, ?_, ?_, ?_, ?_⟩ <;> (unfold State.halt; (try dsimp only); (repeat' split) <;> (first | (simp; done) | rfl | (simp_all; done)))

@[simp] theorem recover_port_fields (s : State) (cause : Cause) (page : Option Nat) :
    (s.recover cause page).port.silent = s.port.silent ∧ (s.recover cause page).port.tx = s.port.tx ∧ (s.recover cause page).port.rx = s.port.rx ∧ (s.recover cause page).port.run = s.port.run ∧ (s.recover cause page).port.sending = s.port.sending ∧ (s.recover cause page).port.runRest = s.port.runRest ∧ (s.recover cause page).port.framesSent = s.port.framesSent ∧ (s.recover cause page).port.framesVetoed = s.port.framesVetoed := by
  refine ⟨?_, ?_, ?_, ?_, ?_, ?_, ?_, ?_⟩ <;> (unfold State.recover; (try dsimp only); (repeat' split) <;> (first | (simp; done) | rfl | (simp_all; done)))

@[simp] theorem followOnActs_port_fields (s : State) (cause : Cause) (page : Option Nat) :
    (s.followOnActs cause page).port.silent = s.port.silent ∧ (s.followOnActs cause page).port.tx = s.port.tx ∧ (s.followOnActs cause page).port.rx = s.port.rx ∧ (s.followOnActs cause page).port.run = s.port.run ∧ (s.followOnActs cause page).port.sending = s.port.sending ∧ (s.followOnActs cause page).port.runRest = s.port.runRest ∧ (s.followOnActs cause page).port.framesSent = s.port.framesSent ∧ (s.followOnActs cause page).port.framesVetoed = s.port.framesVetoed := by
  refine ⟨?_, ?_, ?_, ?_, ?_, ?_, ?_, ?_⟩ <;> (unfold State.followOnActs; (try dsimp only); (repeat' split) <;> (first | (simp; done) | rfl | (simp_all; done)))

@[simp] theorem raise_port_fields (s : State) (cause : Cause) (page cell : Option Nat) (detail : Nat) :
    (s.raise cause page cell detail).port.silent = s.port.silent ∧ (s.raise cause page cell detail).port.tx = s.port.tx ∧ (s.raise cause page cell detail).port.rx = s.port.rx ∧ (s.raise cause page cell detail).port.run = s.port.run ∧ (s.raise cause page cell detail).port.sending = s.port.sending ∧ (s.raise cause page cell detail).port.runRest = s.port.runRest ∧ (s.raise cause page cell detail).port.framesSent = s.port.framesSent ∧ (s.raise cause page cell detail).port.framesVetoed = s.port.framesVetoed := by
  refine ⟨?_, ?_, ?_, ?_, ?_, ?_, ?_, ?_⟩ <;> (unfold State.raise; (try dsimp only); (repeat' split) <;> (first | (simp; done) | rfl | (simp_all; done)))

@[simp] theorem enterSyncing_port_fields (s : State) :
    (s.enterSyncing).port.silent = s.port.silent ∧ (s.enterSyncing).port.tx = s.port.tx ∧ (s.enterSyncing).port.rx = s.port.rx ∧ (s.enterSyncing).port.run = s.port.run ∧ (s.enterSyncing).port.sending = s.port.sending ∧ (s.enterSyncing).port.runRest = s.port.runRest ∧ (s.enterSyncing).port.framesSent = s.port.framesSent ∧ (s.enterSyncing).port.framesVetoed = s.port.framesVetoed := by
  refine ⟨?_, ?_, ?_, ?_, ?_, ?_, ?_, ?_⟩ <;> (unfold State.enterSyncing; (try dsimp only); (repeat' split) <;> (first | (simp; done) | rfl | (simp_all; done)))

@[simp] theorem abandon_port_fields (s : State) (case : Nat) :
    (s.abandon case).port.silent = s.port.silent ∧ (s.abandon case).port.tx = s.port.tx ∧ (s.abandon case).port.rx = s.port.rx ∧ (s.abandon case).port.run = s.port.run ∧ (s.abandon case).port.sending = s.port.sending ∧ (s.abandon case).port.runRest = s.port.runRest ∧ (s.abandon case).port.framesSent = s.port.framesSent ∧ (s.abandon case).port.framesVetoed = s.port.framesVetoed := by
  refine ⟨?_, ?_, ?_, ?_, ?_, ?_, ?_, ?_⟩ <;> (unfold State.abandon; (try dsimp only); (repeat' split) <;> (first | (simp; done) | rfl | (simp_all; done)))

@[simp] theorem unexpected_port_fields (s : State) :
    (s.unexpected).port.silent = s.port.silent ∧ (s.unexpected).port.tx = s.port.tx ∧ (s.unexpected).port.rx = s.port.rx ∧ (s.unexpected).port.run = s.port.run ∧ (s.unexpected).port.sending = s.port.sending ∧ (s.unexpected).port.runRest = s.port.runRest ∧ (s.unexpected).port.framesSent = s.port.framesSent ∧ (s.unexpected).port.framesVetoed = s.port.framesVetoed := by
  refine ⟨?_, ?_, ?_, ?_, ?_, ?_, ?_, ?_⟩ <;> (unfold State.unexpected; (try dsimp only); (repeat' split) <;> (first | (simp; done) | rfl | (simp_all; done)))

@[simp] theorem install_port_fields (s : State) (c : Collection) :
    (s.install c).port.silent = s.port.silent ∧ (s.install c).port.tx = s.port.tx ∧ (s.install c).port.rx = s.port.rx ∧ (s.install c).port.run = s.port.run ∧ (s.install c).port.sending = s.port.sending ∧ (s.install c).port.runRest = s.port.runRest ∧ (s.install c).port.framesSent = s.port.framesSent ∧ (s.install c).port.framesVetoed = s.port.framesVetoed := by
  refine ⟨?_, ?_, ?_, ?_, ?_, ?_, ?_, ?_⟩ <;> (unfold State.install; (try dsimp only); (repeat' split) <;> (first | (simp; done) | rfl | (simp_all; done)))

@[simp] theorem judgeCollection_port_fields (s : State) (c : Collection) :
    (s.judgeCollection c).port.silent = s.port.silent ∧ (s.judgeCollection c).port.tx = s.port.tx ∧ (s.judgeCollection c).port.rx = s.port.rx ∧ (s.judgeCollection c).port.run = s.port.run ∧ (s.judgeCollection c).port.sending = s.port.sending ∧ (s.judgeCollection c).port.runRest = s.port.runRest ∧ (s.judgeCollection c).port.framesSent = s.port.framesSent ∧ (s.judgeCollection c).port.framesVetoed = s.port.framesVetoed := by
  refine ⟨?_, ?_, ?_, ?_, ?_, ?_, ?_, ?_⟩ <;> (unfold State.judgeCollection; (try dsimp only); (repeat' split) <;> (first | (simp; done) | rfl | (simp_all; done)))

@[simp] theorem advance_port_fields (s : State) (c : Collection) :
    (s.advance c).port.silent = s.port.silent ∧ (s.advance c).port.tx = s.port.tx ∧ (s.advance c).port.rx = s.port.rx ∧ (s.advance c).port.run = s.port.run ∧ (s.advance c).port.sending = s.port.sending ∧ (s.advance c).port.runRest = s.port.runRest ∧ (s.advance c).port.framesSent = s.port.framesSent ∧ (s.advance c).port.framesVetoed = s.port.framesVetoed := by
  refine ⟨?_, ?_, ?_, ?_, ?_, ?_, ?_, ?_⟩ <;> (unfold State.advance; (try dsimp only); (repeat' split) <;> (first | (simp; done) | rfl | (simp_all; done)))

@[simp] theorem collect_port_fields (s : State) (kept : Option Collection) :
    (s.collect kept).port.silent = s.port.silent ∧ (s.collect kept).port.tx = s.port.tx ∧ (s.collect kept).port.rx = s.port.rx ∧ (s.collect kept).port.run = s.port.run ∧ (s.collect kept).port.sending = s.port.sending ∧ (s.collect kept).port.runRest = s.port.runRest ∧ (s.collect kept).port.framesSent = s.port.framesSent ∧ (s.collect kept).port.framesVetoed = s.port.framesVetoed := by
  refine ⟨?_, ?_, ?_, ?_, ?_, ?_, ?_, ?_⟩ <;> (unfold State.collect; (try dsimp only); (repeat' split) <;> (first | (simp; done) | rfl | (simp_all; done)))

@[simp] theorem withdrawAsk_port_fields (s : State) :
    (s.withdrawAsk).port.silent = s.port.silent ∧ (s.withdrawAsk).port.tx = s.port.tx ∧ (s.withdrawAsk).port.rx = s.port.rx ∧ (s.withdrawAsk).port.run = s.port.run ∧ (s.withdrawAsk).port.sending = s.port.sending ∧ (s.withdrawAsk).port.runRest = s.port.runRest ∧ (s.withdrawAsk).port.framesSent = s.port.framesSent ∧ (s.withdrawAsk).port.framesVetoed = s.port.framesVetoed := by
  refine ⟨?_, ?_, ?_, ?_, ?_, ?_, ?_, ?_⟩ <;> (unfold State.withdrawAsk; (try dsimp only); (repeat' split) <;> (first | (simp; done) | rfl | (simp_all; done)))

@[simp] theorem withdrawRun_port_fields (s : State) (sender requester : Nat) :
    (s.withdrawRun sender requester).port.silent = s.port.silent ∧ (s.withdrawRun sender requester).port.tx = s.port.tx ∧ (s.withdrawRun sender requester).port.rx = s.port.rx ∧ (s.withdrawRun sender requester).port.run = s.port.run ∧ (s.withdrawRun sender requester).port.sending = s.port.sending ∧ (s.withdrawRun sender requester).port.runRest = s.port.runRest ∧ (s.withdrawRun sender requester).port.framesSent = s.port.framesSent ∧ (s.withdrawRun sender requester).port.framesVetoed = s.port.framesVetoed := by
  refine ⟨?_, ?_, ?_, ?_, ?_, ?_, ?_, ?_⟩ <;> (unfold State.withdrawRun; (try dsimp only); (repeat' split) <;> (first | (simp; done) | rfl | (simp_all; done)))

@[simp] theorem startCollection_port_fields (s : State) (responder : Nat) (c : Collection) :
    (s.startCollection responder c).port.silent = s.port.silent ∧ (s.startCollection responder c).port.tx = s.port.tx ∧ (s.startCollection responder c).port.rx = s.port.rx ∧ (s.startCollection responder c).port.run = s.port.run ∧ (s.startCollection responder c).port.sending = s.port.sending ∧ (s.startCollection responder c).port.runRest = s.port.runRest ∧ (s.startCollection responder c).port.framesSent = s.port.framesSent ∧ (s.startCollection responder c).port.framesVetoed = s.port.framesVetoed := by
  refine ⟨?_, ?_, ?_, ?_, ?_, ?_, ?_, ?_⟩ <;> (unfold State.startCollection; (try dsimp only); (repeat' split) <;> (first | (simp; done) | rfl | (simp_all; done)))

@[simp] theorem answerAsk_port_fields (s : State) (sender : Nat) (identity : Id32) :
    (s.answerAsk sender identity).port.silent = s.port.silent ∧ (s.answerAsk sender identity).port.tx = s.port.tx ∧ (s.answerAsk sender identity).port.rx = s.port.rx ∧ (s.answerAsk sender identity).port.run = s.port.run ∧ (s.answerAsk sender identity).port.sending = s.port.sending ∧ (s.answerAsk sender identity).port.runRest = s.port.runRest ∧ (s.answerAsk sender identity).port.framesSent = s.port.framesSent ∧ (s.answerAsk sender identity).port.framesVetoed = s.port.framesVetoed := by
  refine ⟨?_, ?_, ?_, ?_, ?_, ?_, ?_, ?_⟩ <;> (unfold State.answerAsk; (try dsimp only); (repeat' split) <;> (first | (simp; done) | rfl | (simp_all; done)))

@[simp] theorem offerUpTo_port_fields (n : Nat) (s : State) :
    (State.offerUpTo n s).port.silent = s.port.silent ∧ (State.offerUpTo n s).port.tx = s.port.tx ∧ (State.offerUpTo n s).port.rx = s.port.rx ∧ (State.offerUpTo n s).port.run = s.port.run ∧ (State.offerUpTo n s).port.sending = s.port.sending ∧ (State.offerUpTo n s).port.runRest = s.port.runRest ∧ (State.offerUpTo n s).port.framesSent = s.port.framesSent ∧ (State.offerUpTo n s).port.framesVetoed = s.port.framesVetoed := by
  refine ⟨?_, ?_, ?_, ?_, ?_, ?_, ?_, ?_⟩ <;> (induction n generalizing s with
      | zero => simp [State.offerUpTo]
      | succ n ih => simp [State.offerUpTo, ih s.offerFirst])

@[simp] theorem offerUpTo_board_fields (n : Nat) (s : State) :
    (State.offerUpTo n s).board.lastLaunched = s.board.lastLaunched ∧ (State.offerUpTo n s).board.replica = s.board.replica ∧ (State.offerUpTo n s).board.completions = s.board.completions := by
  refine ⟨?_, ?_, ?_⟩ <;> (induction n generalizing s with
      | zero => simp [State.offerUpTo]
      | succ n ih => simp [State.offerUpTo, ih s.offerFirst])

@[simp] theorem activate_board_fields (s : State) :
    (s.activate).board.lastLaunched = s.board.lastLaunched ∧ (s.activate).board.replica = s.board.replica ∧ (s.activate).board.completions = s.board.completions := by
  refine ⟨?_, ?_, ?_⟩ <;> (unfold State.activate; (try dsimp only); (repeat' split) <;> (first | (simp; done) | rfl | (simp_all; done)))

@[simp] theorem activate_port_fields (s : State) :
    (s.activate).port.silent = s.port.silent ∧ (s.activate).port.tx = s.port.tx ∧ (s.activate).port.rx = s.port.rx ∧ (s.activate).port.run = s.port.run ∧ (s.activate).port.sending = s.port.sending ∧ (s.activate).port.runRest = s.port.runRest ∧ (s.activate).port.framesSent = s.port.framesSent ∧ (s.activate).port.framesVetoed = s.port.framesVetoed := by
  refine ⟨?_, ?_, ?_, ?_, ?_, ?_, ?_, ?_⟩ <;> (unfold State.activate; (try dsimp only); (repeat' split) <;> (first | (simp; done) | rfl | (simp_all; done)))

@[simp] theorem freshStart_port_fields (s : State) :
    (s.freshStart).port.silent = s.port.silent ∧ (s.freshStart).port.tx = s.port.tx ∧ (s.freshStart).port.rx = s.port.rx ∧ (s.freshStart).port.run = s.port.run ∧ (s.freshStart).port.sending = s.port.sending ∧ (s.freshStart).port.runRest = s.port.runRest ∧ (s.freshStart).port.framesSent = s.port.framesSent ∧ (s.freshStart).port.framesVetoed = s.port.framesVetoed := by
  refine ⟨?_, ?_, ?_, ?_, ?_, ?_, ?_, ?_⟩ <;> (unfold State.freshStart; (try dsimp only); (repeat' split) <;> (first | (simp; done) | rfl | (simp_all; done)))

@[simp] theorem relayUnsent_port_fields (s : State) :
    (s.relayUnsent).port.silent = s.port.silent ∧ (s.relayUnsent).port.tx = s.port.tx ∧ (s.relayUnsent).port.rx = s.port.rx ∧ (s.relayUnsent).port.run = s.port.run ∧ (s.relayUnsent).port.sending = s.port.sending ∧ (s.relayUnsent).port.runRest = s.port.runRest ∧ (s.relayUnsent).port.framesSent = s.port.framesSent ∧ (s.relayUnsent).port.framesVetoed = s.port.framesVetoed := by
  refine ⟨?_, ?_, ?_, ?_, ?_, ?_, ?_, ?_⟩ <;> (unfold State.relayUnsent; (try dsimp only); (repeat' split) <;> (first | (simp; done) | rfl | (simp_all; done)))

@[simp] theorem dropReplica_board_lastLaunched (s : State) :
    (s.dropReplica).board.lastLaunched = s.board.lastLaunched := by
  unfold State.dropReplica; (try dsimp only); (repeat' split) <;> (first | (simp; done) | rfl | (simp_all; done))

@[simp] theorem dropReplica_port_fields (s : State) :
    (s.dropReplica).port.silent = s.port.silent ∧ (s.dropReplica).port.tx = s.port.tx ∧ (s.dropReplica).port.rx = s.port.rx ∧ (s.dropReplica).port.run = s.port.run ∧ (s.dropReplica).port.sending = s.port.sending ∧ (s.dropReplica).port.runRest = s.port.runRest ∧ (s.dropReplica).port.framesSent = s.port.framesSent ∧ (s.dropReplica).port.framesVetoed = s.port.framesVetoed := by
  refine ⟨?_, ?_, ?_, ?_, ?_, ?_, ?_, ?_⟩ <;> (unfold State.dropReplica; (try dsimp only); (repeat' split) <;> (first | (simp; done) | rfl | (simp_all; done)))

@[simp] theorem meetCollection_port_fields (s : State) (sender : Nat) (f : Frame) :
    (s.meetCollection sender f).port.silent = s.port.silent ∧ (s.meetCollection sender f).port.tx = s.port.tx ∧ (s.meetCollection sender f).port.rx = s.port.rx ∧ (s.meetCollection sender f).port.run = s.port.run ∧ (s.meetCollection sender f).port.sending = s.port.sending ∧ (s.meetCollection sender f).port.runRest = s.port.runRest ∧ (s.meetCollection sender f).port.framesSent = s.port.framesSent ∧ (s.meetCollection sender f).port.framesVetoed = s.port.framesVetoed := by
  refine ⟨?_, ?_, ?_, ?_, ?_, ?_, ?_, ?_⟩ <;> (unfold State.meetCollection; (try dsimp only); (repeat' split) <;> (first | (simp; done) | rfl | (simp_all; done)))

@[simp] theorem enterSilent_port_fields (s : State) (detail : Nat) :
    (s.enterSilent detail).port.run = s.port.run ∧ (s.enterSilent detail).port.framesSent = s.port.framesSent ∧ (s.enterSilent detail).port.framesVetoed = s.port.framesVetoed := by
  refine ⟨?_, ?_, ?_⟩ <;> (unfold State.enterSilent; (try dsimp only); (repeat' split) <;> (first | (simp; done) | rfl | (simp_all; done)))

@[simp] theorem enterSilent_board_lastLaunched (s : State) (detail : Nat) :
    (s.enterSilent detail).board.lastLaunched = s.board.lastLaunched := by
  unfold State.enterSilent; (try dsimp only); (repeat' split) <;> (first | (simp; done) | rfl | (simp_all; done))

@[simp] theorem confine_port_fields (s : State) :
    (s.confine).port.run = s.port.run ∧ (s.confine).port.framesSent = s.port.framesSent ∧ (s.confine).port.framesVetoed = s.port.framesVetoed := by
  refine ⟨?_, ?_, ?_⟩ <;> (unfold State.confine; (try dsimp only); (repeat' split) <;> (first | (simp; done) | rfl | (simp_all; done)))

@[simp] theorem confine_board_lastLaunched (s : State) :
    (s.confine).board.lastLaunched = s.board.lastLaunched := by
  unfold State.confine; (try dsimp only); (repeat' split) <;> (first | (simp; done) | rfl | (simp_all; done))

@[simp] theorem leaveSilent_port_fields (s : State) :
    (s.leaveSilent).port.run = s.port.run ∧ (s.leaveSilent).port.sending = s.port.sending ∧ (s.leaveSilent).port.runRest = s.port.runRest ∧ (s.leaveSilent).port.framesSent = s.port.framesSent ∧ (s.leaveSilent).port.framesVetoed = s.port.framesVetoed := by
  refine ⟨?_, ?_, ?_, ?_, ?_⟩ <;> (unfold State.leaveSilent; (try dsimp only); (repeat' split) <;> (first | (simp; done) | rfl | (simp_all; done)))

@[simp] theorem silentPassed_port_fields (s : State) (run : Option RunHeld) :
    (s.silentPassed run).port.sending = s.port.sending ∧ (s.silentPassed run).port.runRest = s.port.runRest ∧ (s.silentPassed run).port.framesSent = s.port.framesSent ∧ (s.silentPassed run).port.framesVetoed = s.port.framesVetoed := by
  refine ⟨?_, ?_, ?_, ?_⟩ <;> (unfold State.silentPassed; (try dsimp only); (repeat' split) <;> (first | (simp; done) | rfl | (simp_all; done)))

@[simp] theorem silentBad_port_fields (s : State) (run : Option RunHeld) :
    (s.silentBad run).port.silent = s.port.silent ∧ (s.silentBad run).port.tx = s.port.tx ∧ (s.silentBad run).port.rx = s.port.rx ∧ (s.silentBad run).port.sending = s.port.sending ∧ (s.silentBad run).port.runRest = s.port.runRest ∧ (s.silentBad run).port.framesSent = s.port.framesSent ∧ (s.silentBad run).port.framesVetoed = s.port.framesVetoed := by
  refine ⟨?_, ?_, ?_, ?_, ?_, ?_, ?_⟩ <;> (unfold State.silentBad; (try dsimp only); (repeat' split) <;> (first | (simp; done) | rfl | (simp_all; done)))

@[simp] theorem readSilently_port_fields (s : State) (bits : List Bool) (vetoed : Bool) :
    (s.readSilently bits vetoed).port.sending = s.port.sending ∧ (s.readSilently bits vetoed).port.runRest = s.port.runRest ∧ (s.readSilently bits vetoed).port.framesSent = s.port.framesSent ∧ (s.readSilently bits vetoed).port.framesVetoed = s.port.framesVetoed := by
  refine ⟨?_, ?_, ?_, ?_⟩ <;> (unfold State.readSilently; (try dsimp only); (repeat' split) <;> (first | (simp; done) | rfl | (simp_all; done)))

@[simp] theorem runBroken_port_fields (s : State) :
    (s.runBroken).port.silent = s.port.silent ∧ (s.runBroken).port.tx = s.port.tx ∧ (s.runBroken).port.rx = s.port.rx ∧ (s.runBroken).port.run = s.port.run ∧ (s.runBroken).port.sending = s.port.sending ∧ (s.runBroken).port.runRest = s.port.runRest ∧ (s.runBroken).port.framesSent = s.port.framesSent ∧ (s.runBroken).port.framesVetoed = s.port.framesVetoed := by
  refine ⟨?_, ?_, ?_, ?_, ?_, ?_, ?_, ?_⟩ <;> (unfold State.runBroken; (try dsimp only); (repeat' split) <;> (first | (simp; done) | rfl | (simp_all; done)))

@[simp] theorem takeVeto_board_lastLaunched (s : State) (bits : List Bool) :
    (s.takeVeto bits).board.lastLaunched = s.board.lastLaunched := by
  unfold State.takeVeto; (try dsimp only); (repeat' split) <;> (first | (simp; done) | rfl | (simp_all; done))

@[simp] theorem vetoFrame_board_lastLaunched (s : State) (x : Heard) :
    (s.vetoFrame x).board.lastLaunched = s.board.lastLaunched := by
  unfold State.vetoFrame; (try dsimp only); (repeat' split) <;> (first | (simp; done) | rfl | (simp_all; done))

@[simp] theorem sendEntry_port_fields (s : State) (e : TxEntry) :
    (s.sendEntry e).port.silent = s.port.silent ∧ (s.sendEntry e).port.tx = s.port.tx ∧ (s.sendEntry e).port.rx = s.port.rx ∧ (s.sendEntry e).port.run = s.port.run ∧ (s.sendEntry e).port.framesSent = s.port.framesSent ∧ (s.sendEntry e).port.framesVetoed = s.port.framesVetoed := by
  refine ⟨?_, ?_, ?_, ?_, ?_, ?_⟩ <;> (unfold State.sendEntry; (try dsimp only); (repeat' split) <;> (first | (simp; done) | rfl | (simp_all; done)))

@[simp] theorem startHead_port_fields (s : State) (others : List Nat) :
    (s.startHead others).port.silent = s.port.silent ∧ (s.startHead others).port.tx = s.port.tx ∧ (s.startHead others).port.rx = s.port.rx ∧ (s.startHead others).port.run = s.port.run ∧ (s.startHead others).port.framesSent = s.port.framesSent ∧ (s.startHead others).port.framesVetoed = s.port.framesVetoed := by
  refine ⟨?_, ?_, ?_, ?_, ?_, ?_⟩ <;> (unfold State.startHead; (try dsimp only); (repeat' split) <;> (first | (simp; done) | rfl | (simp_all; done)))

@[simp] theorem startNext_port_fields (s : State) (others : List Nat) :
    (s.startNext others).port.silent = s.port.silent ∧ (s.startNext others).port.tx = s.port.tx ∧ (s.startNext others).port.rx = s.port.rx ∧ (s.startNext others).port.run = s.port.run ∧ (s.startNext others).port.framesSent = s.port.framesSent ∧ (s.startNext others).port.framesVetoed = s.port.framesVetoed := by
  refine ⟨?_, ?_, ?_, ?_, ?_, ?_⟩ <;> (unfold State.startNext; (try dsimp only); (repeat' split) <;> (first | (simp; done) | rfl | (simp_all; done)))

@[simp] theorem grantPlace_board_fields (s : State) :
    (s.grantPlace).board.lastLaunched = s.board.lastLaunched ∧ (s.grantPlace).board.replica = s.board.replica ∧ (s.grantPlace).board.completions = s.board.completions := by
  refine ⟨?_, ?_, ?_⟩ <;> (unfold State.grantPlace; (try dsimp only); (repeat' split) <;> (first | (simp; done) | rfl | (simp_all; done)))

@[simp] theorem grantPlace_claims_work (s : State) :
    (s.grantPlace).claims.work = s.claims.work := by
  unfold State.grantPlace; (try dsimp only); (repeat' split) <;> (first | (simp; done) | rfl | (simp_all; done))

@[simp] theorem grantPlace_port_fields (s : State) :
    (s.grantPlace).port.silent = s.port.silent ∧ (s.grantPlace).port.tx = s.port.tx ∧ (s.grantPlace).port.rx = s.port.rx ∧ (s.grantPlace).port.run = s.port.run ∧ (s.grantPlace).port.sending = s.port.sending ∧ (s.grantPlace).port.runRest = s.port.runRest ∧ (s.grantPlace).port.framesSent = s.port.framesSent ∧ (s.grantPlace).port.framesVetoed = s.port.framesVetoed := by
  refine ⟨?_, ?_, ?_, ?_, ?_, ?_, ?_, ?_⟩ <;> (unfold State.grantPlace; (try dsimp only); (repeat' split) <;> (first | (simp; done) | rfl | (simp_all; done)))

@[simp] theorem renewDue_port_fields (s : State) (page : Nat) :
    (s.renewDue page).port.silent = s.port.silent ∧ (s.renewDue page).port.tx = s.port.tx ∧ (s.renewDue page).port.rx = s.port.rx ∧ (s.renewDue page).port.run = s.port.run ∧ (s.renewDue page).port.sending = s.port.sending ∧ (s.renewDue page).port.runRest = s.port.runRest ∧ (s.renewDue page).port.framesSent = s.port.framesSent ∧ (s.renewDue page).port.framesVetoed = s.port.framesVetoed := by
  refine ⟨?_, ?_, ?_, ?_, ?_, ?_, ?_, ?_⟩ <;> (unfold State.renewDue; (try dsimp only); (repeat' split) <;> (first | (simp; done) | rfl | (simp_all; done)))

@[simp] theorem expireLease_board_fields (s : State) (page : Nat) :
    (s.expireLease page).board.lastLaunched = s.board.lastLaunched ∧ (s.expireLease page).board.replica = s.board.replica ∧ (s.expireLease page).board.completions = s.board.completions := by
  refine ⟨?_, ?_, ?_⟩ <;> (unfold State.expireLease; (try dsimp only); (repeat' split) <;> (first | (simp; done) | rfl | (simp_all; done)))

@[simp] theorem expireLease_port_fields (s : State) (page : Nat) :
    (s.expireLease page).port.silent = s.port.silent ∧ (s.expireLease page).port.tx = s.port.tx ∧ (s.expireLease page).port.rx = s.port.rx ∧ (s.expireLease page).port.run = s.port.run ∧ (s.expireLease page).port.sending = s.port.sending ∧ (s.expireLease page).port.runRest = s.port.runRest ∧ (s.expireLease page).port.framesSent = s.port.framesSent ∧ (s.expireLease page).port.framesVetoed = s.port.framesVetoed := by
  refine ⟨?_, ?_, ?_, ?_, ?_, ?_, ?_, ?_⟩ <;> (unfold State.expireLease; (try dsimp only); (repeat' split) <;> (first | (simp; done) | rfl | (simp_all; done)))

@[simp] theorem afterFrame_claims_fields (s : State) :
    (s.afterFrame).claims.work = s.claims.work ∧ (s.afterFrame).claims.waiting = s.claims.waiting := by
  refine ⟨?_, ?_⟩ <;> (unfold State.afterFrame; (try dsimp only); (repeat' split) <;> (first | (simp; done) | rfl | (simp_all; done)))

@[simp] theorem afterFrame_port_fields (s : State) :
    (s.afterFrame).port.silent = s.port.silent ∧ (s.afterFrame).port.tx = s.port.tx ∧ (s.afterFrame).port.rx = s.port.rx ∧ (s.afterFrame).port.run = s.port.run ∧ (s.afterFrame).port.sending = s.port.sending ∧ (s.afterFrame).port.runRest = s.port.runRest ∧ (s.afterFrame).port.framesSent = s.port.framesSent ∧ (s.afterFrame).port.framesVetoed = s.port.framesVetoed := by
  refine ⟨?_, ?_, ?_, ?_, ?_, ?_, ?_, ?_⟩ <;> (unfold State.afterFrame; (try dsimp only); (repeat' split) <;> (first | (simp; done) | rfl | (simp_all; done)))

@[simp] theorem boardFrame_board_fields (s : State) (sender : Nat) (f : Frame) :
    (s.boardFrame sender f).board.lastLaunched = s.board.lastLaunched ∧ (s.boardFrame sender f).board.completions = s.board.completions := by
  refine ⟨?_, ?_⟩ <;> (unfold State.boardFrame; (try dsimp only); (repeat' split) <;> (first | (simp; done) | rfl | (simp_all; done)))

@[simp] theorem releaseIfBarred_claims_fields (s : State) (page : Nat) :
    (s.releaseIfBarred page).claims.work = s.claims.work ∧ (s.releaseIfBarred page).claims.pending = s.claims.pending := by
  refine ⟨?_, ?_⟩ <;> (unfold State.releaseIfBarred; (try dsimp only); (repeat' split) <;> (first | (simp; done) | rfl | (simp_all; done)))

@[simp] theorem releaseIfBarred_port_fields (s : State) (page : Nat) :
    (s.releaseIfBarred page).port.silent = s.port.silent ∧ (s.releaseIfBarred page).port.tx = s.port.tx ∧ (s.releaseIfBarred page).port.rx = s.port.rx ∧ (s.releaseIfBarred page).port.run = s.port.run ∧ (s.releaseIfBarred page).port.sending = s.port.sending ∧ (s.releaseIfBarred page).port.runRest = s.port.runRest ∧ (s.releaseIfBarred page).port.framesSent = s.port.framesSent ∧ (s.releaseIfBarred page).port.framesVetoed = s.port.framesVetoed := by
  refine ⟨?_, ?_, ?_, ?_, ?_, ?_, ?_, ?_⟩ <;> (unfold State.releaseIfBarred; (try dsimp only); (repeat' split) <;> (first | (simp; done) | rfl | (simp_all; done)))

@[simp] theorem takeWork_claims_waiting (s : State) (page : Nat) :
    (s.takeWork page).claims.waiting = s.claims.waiting := by
  unfold State.takeWork; (try dsimp only); (repeat' split) <;> (first | (simp; done) | rfl | (simp_all; done))

@[simp] theorem claimFrame_board_lastLaunched (s : State) (h : FrameHdr) (page claimant : Nat) :
    (s.claimFrame h page claimant).board.lastLaunched = s.board.lastLaunched := by
  unfold State.claimFrame; (try dsimp only); (repeat' split) <;> (first | (simp; done) | rfl | (simp_all; done))

@[simp] theorem claimFrame_port_fields (s : State) (h : FrameHdr) (page claimant : Nat) :
    (s.claimFrame h page claimant).port.silent = s.port.silent ∧ (s.claimFrame h page claimant).port.tx = s.port.tx ∧ (s.claimFrame h page claimant).port.rx = s.port.rx ∧ (s.claimFrame h page claimant).port.run = s.port.run ∧ (s.claimFrame h page claimant).port.sending = s.port.sending ∧ (s.claimFrame h page claimant).port.runRest = s.port.runRest ∧ (s.claimFrame h page claimant).port.framesSent = s.port.framesSent ∧ (s.claimFrame h page claimant).port.framesVetoed = s.port.framesVetoed := by
  refine ⟨?_, ?_, ?_, ?_, ?_, ?_, ?_, ?_⟩ <;> (unfold State.claimFrame; (try dsimp only); (repeat' split) <;> (first | (simp; done) | rfl | (simp_all; done)))

@[simp] theorem renewFrame_board_lastLaunched (s : State) (h : FrameHdr) (page : Nat) :
    (s.renewFrame h page).board.lastLaunched = s.board.lastLaunched := by
  unfold State.renewFrame; (try dsimp only); (repeat' split) <;> (first | (simp; done) | rfl | (simp_all; done))

@[simp] theorem loseUnlisted_port_fields (s : State) (page : Nat) :
    (s.loseUnlisted page).port.silent = s.port.silent ∧ (s.loseUnlisted page).port.tx = s.port.tx ∧ (s.loseUnlisted page).port.rx = s.port.rx ∧ (s.loseUnlisted page).port.run = s.port.run ∧ (s.loseUnlisted page).port.sending = s.port.sending ∧ (s.loseUnlisted page).port.runRest = s.port.runRest ∧ (s.loseUnlisted page).port.framesSent = s.port.framesSent ∧ (s.loseUnlisted page).port.framesVetoed = s.port.framesVetoed := by
  refine ⟨?_, ?_, ?_, ?_, ?_, ?_, ?_, ?_⟩ <;> (unfold State.loseUnlisted; (try dsimp only); (repeat' split) <;> (first | (simp; done) | rfl | (simp_all; done)))

@[simp] theorem loseClaim_port_fields (s : State) (page : Nat) :
    (s.loseClaim page).port.silent = s.port.silent ∧ (s.loseClaim page).port.tx = s.port.tx ∧ (s.loseClaim page).port.rx = s.port.rx ∧ (s.loseClaim page).port.run = s.port.run ∧ (s.loseClaim page).port.sending = s.port.sending ∧ (s.loseClaim page).port.runRest = s.port.runRest ∧ (s.loseClaim page).port.framesSent = s.port.framesSent ∧ (s.loseClaim page).port.framesVetoed = s.port.framesVetoed := by
  refine ⟨?_, ?_, ?_, ?_, ?_, ?_, ?_, ?_⟩ <;> (unfold State.loseClaim; (try dsimp only); (repeat' split) <;> (first | (simp; done) | rfl | (simp_all; done)))

@[simp] theorem loseUnlisted_board_fields (s : State) (page : Nat) :
    (s.loseUnlisted page).board.lastLaunched = s.board.lastLaunched ∧ (s.loseUnlisted page).board.leases = s.board.leases := by
  refine ⟨?_, ?_⟩ <;> (unfold State.loseUnlisted; (try dsimp only); (repeat' split) <;> (first | (simp; done) | rfl | (simp_all; done)))

@[simp] theorem loseClaim_board_fields (s : State) (page : Nat) :
    (s.loseClaim page).board.lastLaunched = s.board.lastLaunched ∧ (s.loseClaim page).board.leases = s.board.leases := by
  refine ⟨?_, ?_⟩ <;> (unfold State.loseClaim; (try dsimp only); (repeat' split) <;> (first | (simp; done) | rfl | (simp_all; done)))

@[simp] theorem restartLease_board_fields (s : State) (page : Nat) :
    (s.restartLease page).board.lastLaunched = s.board.lastLaunched ∧ (s.restartLease page).board.replica = s.board.replica ∧ (s.restartLease page).board.completions = s.board.completions := by
  refine ⟨?_, ?_, ?_⟩ <;> (unfold State.restartLease; (try dsimp only); (repeat' split) <;> (first | (simp; done) | rfl | (simp_all; done)))

@[simp] theorem lapseFrame_port_fields (s : State) (h : FrameHdr) (page holder mark : Nat) :
    (s.lapseFrame h page holder mark).port.silent = s.port.silent ∧ (s.lapseFrame h page holder mark).port.tx = s.port.tx ∧ (s.lapseFrame h page holder mark).port.rx = s.port.rx ∧ (s.lapseFrame h page holder mark).port.run = s.port.run ∧ (s.lapseFrame h page holder mark).port.sending = s.port.sending ∧ (s.lapseFrame h page holder mark).port.runRest = s.port.runRest ∧ (s.lapseFrame h page holder mark).port.framesSent = s.port.framesSent ∧ (s.lapseFrame h page holder mark).port.framesVetoed = s.port.framesVetoed := by
  refine ⟨?_, ?_, ?_, ?_, ?_, ?_, ?_, ?_⟩ <;> (unfold State.lapseFrame; (try dsimp only); (repeat' split) <;> (first | (simp; done) | rfl | (simp_all; done)))

@[simp] theorem lapseFrame_board_lastLaunched (s : State) (h : FrameHdr) (page holder mark : Nat) :
    (s.lapseFrame h page holder mark).board.lastLaunched = s.board.lastLaunched := by
  unfold State.lapseFrame; (try dsimp only); (repeat' split) <;> (first | (simp; done) | rfl | (simp_all; done))

@[simp] theorem closeApplied_board_fields (s : State) (page : Nat) :
    (s.closeApplied page).board.lastLaunched = s.board.lastLaunched ∧ (s.closeApplied page).board.leases = s.board.leases := by
  refine ⟨?_, ?_⟩ <;> (unfold State.closeApplied; (try dsimp only); (repeat' split) <;> (first | (simp; done) | rfl | (simp_all; done)))

@[simp] theorem closeApplied_claims_pending (s : State) (page : Nat) :
    (s.closeApplied page).claims.pending = s.claims.pending := by
  unfold State.closeApplied; (try dsimp only); (repeat' split) <;> (first | (simp; done) | rfl | (simp_all; done))

@[simp] theorem closeApplied_port_fields (s : State) (page : Nat) :
    (s.closeApplied page).port.silent = s.port.silent ∧ (s.closeApplied page).port.tx = s.port.tx ∧ (s.closeApplied page).port.rx = s.port.rx ∧ (s.closeApplied page).port.run = s.port.run ∧ (s.closeApplied page).port.sending = s.port.sending ∧ (s.closeApplied page).port.runRest = s.port.runRest ∧ (s.closeApplied page).port.framesSent = s.port.framesSent ∧ (s.closeApplied page).port.framesVetoed = s.port.framesVetoed := by
  refine ⟨?_, ?_, ?_, ?_, ?_, ?_, ?_, ?_⟩ <;> (unfold State.closeApplied; (try dsimp only); (repeat' split) <;> (first | (simp; done) | rfl | (simp_all; done)))

@[simp] theorem doneFrame_board_lastLaunched (s : State) (h : FrameHdr) (page edition : Nat) :
    (s.doneFrame h page edition).board.lastLaunched = s.board.lastLaunched := by
  unfold State.doneFrame; (try dsimp only); (repeat' split) <;> (first | (simp; done) | rfl | (simp_all; done))

@[simp] theorem doneFrame_claims_pending (s : State) (h : FrameHdr) (page edition : Nat) :
    (s.doneFrame h page edition).claims.pending = s.claims.pending := by
  unfold State.doneFrame; (try dsimp only); (repeat' split) <;> (first | (simp; done) | rfl | (simp_all; done))

@[simp] theorem doneFrame_port_fields (s : State) (h : FrameHdr) (page edition : Nat) :
    (s.doneFrame h page edition).port.silent = s.port.silent ∧ (s.doneFrame h page edition).port.tx = s.port.tx ∧ (s.doneFrame h page edition).port.rx = s.port.rx ∧ (s.doneFrame h page edition).port.run = s.port.run ∧ (s.doneFrame h page edition).port.sending = s.port.sending ∧ (s.doneFrame h page edition).port.runRest = s.port.runRest ∧ (s.doneFrame h page edition).port.framesSent = s.port.framesSent ∧ (s.doneFrame h page edition).port.framesVetoed = s.port.framesVetoed := by
  refine ⟨?_, ?_, ?_, ?_, ?_, ?_, ?_, ?_⟩ <;> (unfold State.doneFrame; (try dsimp only); (repeat' split) <;> (first | (simp; done) | rfl | (simp_all; done)))

@[simp] theorem releaseFrame_board_lastLaunched (s : State) (h : FrameHdr) (page : Nat) :
    (s.releaseFrame h page).board.lastLaunched = s.board.lastLaunched := by
  unfold State.releaseFrame; (try dsimp only); (repeat' split) <;> (first | (simp; done) | rfl | (simp_all; done))

@[simp] theorem releaseFrame_claims_pending (s : State) (h : FrameHdr) (page : Nat) :
    (s.releaseFrame h page).claims.pending = s.claims.pending := by
  unfold State.releaseFrame; (try dsimp only); (repeat' split) <;> (first | (simp; done) | rfl | (simp_all; done))

@[simp] theorem releaseFrame_port_fields (s : State) (h : FrameHdr) (page : Nat) :
    (s.releaseFrame h page).port.silent = s.port.silent ∧ (s.releaseFrame h page).port.tx = s.port.tx ∧ (s.releaseFrame h page).port.rx = s.port.rx ∧ (s.releaseFrame h page).port.run = s.port.run ∧ (s.releaseFrame h page).port.sending = s.port.sending ∧ (s.releaseFrame h page).port.runRest = s.port.runRest ∧ (s.releaseFrame h page).port.framesSent = s.port.framesSent ∧ (s.releaseFrame h page).port.framesVetoed = s.port.framesVetoed := by
  refine ⟨?_, ?_, ?_, ?_, ?_, ?_, ?_, ?_⟩ <;> (unfold State.releaseFrame; (try dsimp only); (repeat' split) <;> (first | (simp; done) | rfl | (simp_all; done)))

@[simp] theorem failFrame_board_lastLaunched (s : State) (h : FrameHdr) (page cause : Nat) :
    (s.failFrame h page cause).board.lastLaunched = s.board.lastLaunched := by
  unfold State.failFrame; (try dsimp only); (repeat' split) <;> (first | (simp; done) | rfl | (simp_all; done))

@[simp] theorem failFrame_claims_pending (s : State) (h : FrameHdr) (page cause : Nat) :
    (s.failFrame h page cause).claims.pending = s.claims.pending := by
  unfold State.failFrame; (try dsimp only); (repeat' split) <;> (first | (simp; done) | rfl | (simp_all; done))

@[simp] theorem failFrame_port_fields (s : State) (h : FrameHdr) (page cause : Nat) :
    (s.failFrame h page cause).port.silent = s.port.silent ∧ (s.failFrame h page cause).port.tx = s.port.tx ∧ (s.failFrame h page cause).port.rx = s.port.rx ∧ (s.failFrame h page cause).port.run = s.port.run ∧ (s.failFrame h page cause).port.sending = s.port.sending ∧ (s.failFrame h page cause).port.runRest = s.port.runRest ∧ (s.failFrame h page cause).port.framesSent = s.port.framesSent ∧ (s.failFrame h page cause).port.framesVetoed = s.port.framesVetoed := by
  refine ⟨?_, ?_, ?_, ?_, ?_, ?_, ?_, ?_⟩ <;> (unfold State.failFrame; (try dsimp only); (repeat' split) <;> (first | (simp; done) | rfl | (simp_all; done)))

@[simp] theorem joinOwn_board_fields (s : State) (fate : BoardFate) :
    (s.joinOwn fate).board.lastLaunched = s.board.lastLaunched ∧ (s.joinOwn fate).board.replica = s.board.replica ∧ (s.joinOwn fate).board.completions = s.board.completions := by
  refine ⟨?_, ?_, ?_⟩ <;> (unfold State.joinOwn; (try dsimp only); (repeat' split) <;> (first | (simp; done) | rfl | (simp_all; done)))

@[simp] theorem joinOwn_port_fields (s : State) (fate : BoardFate) :
    (s.joinOwn fate).port.silent = s.port.silent ∧ (s.joinOwn fate).port.tx = s.port.tx ∧ (s.joinOwn fate).port.rx = s.port.rx ∧ (s.joinOwn fate).port.run = s.port.run ∧ (s.joinOwn fate).port.sending = s.port.sending ∧ (s.joinOwn fate).port.runRest = s.port.runRest ∧ (s.joinOwn fate).port.framesSent = s.port.framesSent ∧ (s.joinOwn fate).port.framesVetoed = s.port.framesVetoed := by
  refine ⟨?_, ?_, ?_, ?_, ?_, ?_, ?_, ?_⟩ <;> (unfold State.joinOwn; (try dsimp only); (repeat' split) <;> (first | (simp; done) | rfl | (simp_all; done)))

@[simp] theorem joinHeard_port_fields (s : State) (identity : Id32) :
    (s.joinHeard identity).port.silent = s.port.silent ∧ (s.joinHeard identity).port.tx = s.port.tx ∧ (s.joinHeard identity).port.rx = s.port.rx ∧ (s.joinHeard identity).port.run = s.port.run ∧ (s.joinHeard identity).port.sending = s.port.sending ∧ (s.joinHeard identity).port.runRest = s.port.runRest ∧ (s.joinHeard identity).port.framesSent = s.port.framesSent ∧ (s.joinHeard identity).port.framesVetoed = s.port.framesVetoed := by
  refine ⟨?_, ?_, ?_, ?_, ?_, ?_, ?_, ?_⟩ <;> (unfold State.joinHeard; (try dsimp only); (repeat' split) <;> (first | (simp; done) | rfl | (simp_all; done)))

@[simp] theorem joinFrame_board_lastLaunched (s : State) (h : FrameHdr) (station : Nat) (identity : Id32) :
    (s.joinFrame h station identity).board.lastLaunched = s.board.lastLaunched := by
  unfold State.joinFrame; (try dsimp only); (repeat' split) <;> (first | (simp; done) | rfl | (simp_all; done))

@[simp] theorem joinFrame_port_fields (s : State) (h : FrameHdr) (station : Nat) (identity : Id32) :
    (s.joinFrame h station identity).port.silent = s.port.silent ∧ (s.joinFrame h station identity).port.tx = s.port.tx ∧ (s.joinFrame h station identity).port.rx = s.port.rx ∧ (s.joinFrame h station identity).port.run = s.port.run ∧ (s.joinFrame h station identity).port.sending = s.port.sending ∧ (s.joinFrame h station identity).port.runRest = s.port.runRest ∧ (s.joinFrame h station identity).port.framesSent = s.port.framesSent ∧ (s.joinFrame h station identity).port.framesVetoed = s.port.framesVetoed := by
  refine ⟨?_, ?_, ?_, ?_, ?_, ?_, ?_, ?_⟩ <;> (unfold State.joinFrame; (try dsimp only); (repeat' split) <;> (first | (simp; done) | rfl | (simp_all; done)))

@[simp] theorem leaveOwn_board_lastLaunched (s : State) :
    (s.leaveOwn).board.lastLaunched = s.board.lastLaunched := by
  unfold State.leaveOwn; (try dsimp only); (repeat' split) <;> (first | (simp; done) | rfl | (simp_all; done))

@[simp] theorem leaveOwn_claims_pending (s : State) :
    (s.leaveOwn).claims.pending = s.claims.pending := by
  unfold State.leaveOwn; (try dsimp only); (repeat' split) <;> (first | (simp; done) | rfl | (simp_all; done))

@[simp] theorem leaveOwn_port_fields (s : State) :
    (s.leaveOwn).port.silent = s.port.silent ∧ (s.leaveOwn).port.tx = s.port.tx ∧ (s.leaveOwn).port.rx = s.port.rx ∧ (s.leaveOwn).port.run = s.port.run ∧ (s.leaveOwn).port.sending = s.port.sending ∧ (s.leaveOwn).port.runRest = s.port.runRest ∧ (s.leaveOwn).port.framesSent = s.port.framesSent ∧ (s.leaveOwn).port.framesVetoed = s.port.framesVetoed := by
  refine ⟨?_, ?_, ?_, ?_, ?_, ?_, ?_, ?_⟩ <;> (unfold State.leaveOwn; (try dsimp only); (repeat' split) <;> (first | (simp; done) | rfl | (simp_all; done)))

@[simp] theorem leaveFrame_board_lastLaunched (s : State) (h : FrameHdr) (station : Nat) :
    (s.leaveFrame h station).board.lastLaunched = s.board.lastLaunched := by
  unfold State.leaveFrame; (try dsimp only); (repeat' split) <;> (first | (simp; done) | rfl | (simp_all; done))

@[simp] theorem leaveFrame_claims_pending (s : State) (h : FrameHdr) (station : Nat) :
    (s.leaveFrame h station).claims.pending = s.claims.pending := by
  unfold State.leaveFrame; (try dsimp only); (repeat' split) <;> (first | (simp; done) | rfl | (simp_all; done))

@[simp] theorem leaveFrame_port_fields (s : State) (h : FrameHdr) (station : Nat) :
    (s.leaveFrame h station).port.silent = s.port.silent ∧ (s.leaveFrame h station).port.tx = s.port.tx ∧ (s.leaveFrame h station).port.rx = s.port.rx ∧ (s.leaveFrame h station).port.run = s.port.run ∧ (s.leaveFrame h station).port.sending = s.port.sending ∧ (s.leaveFrame h station).port.runRest = s.port.runRest ∧ (s.leaveFrame h station).port.framesSent = s.port.framesSent ∧ (s.leaveFrame h station).port.framesVetoed = s.port.framesVetoed := by
  refine ⟨?_, ?_, ?_, ?_, ?_, ?_, ?_, ?_⟩ <;> (unfold State.leaveFrame; (try dsimp only); (repeat' split) <;> (first | (simp; done) | rfl | (simp_all; done)))

@[simp] theorem launchBoard_board_fields (s : State) (b : Batch) (pool : List Amendment) :
    (s.launchBoard b pool).board.leases = s.board.leases ∧ (s.launchBoard b pool).board.completions = s.board.completions := by
  refine ⟨?_, ?_⟩ <;> (unfold State.launchBoard; (try dsimp only); (repeat' split) <;> (first | (simp; done) | rfl | (simp_all; done)))

@[simp] theorem launchFrame_board_leases (s : State) (h : FrameHdr) (b : Nat) :
    (s.launchFrame h b).board.leases = s.board.leases := by
  unfold State.launchFrame; (try dsimp only); (repeat' split) <;> (first | (simp; done) | rfl | (simp_all; done))

@[simp] theorem headFrame_port_fields (s : State) (fresh : Bool) (sender requester responder : Nat) (c : Collection) :
    (s.headFrame fresh sender requester responder c).port.silent = s.port.silent ∧ (s.headFrame fresh sender requester responder c).port.tx = s.port.tx ∧ (s.headFrame fresh sender requester responder c).port.rx = s.port.rx ∧ (s.headFrame fresh sender requester responder c).port.run = s.port.run ∧ (s.headFrame fresh sender requester responder c).port.sending = s.port.sending ∧ (s.headFrame fresh sender requester responder c).port.runRest = s.port.runRest ∧ (s.headFrame fresh sender requester responder c).port.framesSent = s.port.framesSent ∧ (s.headFrame fresh sender requester responder c).port.framesVetoed = s.port.framesVetoed := by
  refine ⟨?_, ?_, ?_, ?_, ?_, ?_, ?_, ?_⟩ <;> (unfold State.headFrame; (try dsimp only); (repeat' split) <;> (first | (simp; done) | rfl | (simp_all; done)))

@[simp] theorem pagesFrame_port_fields (s : State) (requester index : Nat) (entries : List Byte) :
    (s.pagesFrame requester index entries).port.silent = s.port.silent ∧ (s.pagesFrame requester index entries).port.tx = s.port.tx ∧ (s.pagesFrame requester index entries).port.rx = s.port.rx ∧ (s.pagesFrame requester index entries).port.run = s.port.run ∧ (s.pagesFrame requester index entries).port.sending = s.port.sending ∧ (s.pagesFrame requester index entries).port.runRest = s.port.runRest ∧ (s.pagesFrame requester index entries).port.framesSent = s.port.framesSent ∧ (s.pagesFrame requester index entries).port.framesVetoed = s.port.framesVetoed := by
  refine ⟨?_, ?_, ?_, ?_, ?_, ?_, ?_, ?_⟩ <;> (unfold State.pagesFrame; (try dsimp only); (repeat' split) <;> (first | (simp; done) | rfl | (simp_all; done)))

@[simp] theorem snapAmendFrame_port_fields (s : State) (requester index : Nat) (b : AmendBody) :
    (s.snapAmendFrame requester index b).port.silent = s.port.silent ∧ (s.snapAmendFrame requester index b).port.tx = s.port.tx ∧ (s.snapAmendFrame requester index b).port.rx = s.port.rx ∧ (s.snapAmendFrame requester index b).port.run = s.port.run ∧ (s.snapAmendFrame requester index b).port.sending = s.port.sending ∧ (s.snapAmendFrame requester index b).port.runRest = s.port.runRest ∧ (s.snapAmendFrame requester index b).port.framesSent = s.port.framesSent ∧ (s.snapAmendFrame requester index b).port.framesVetoed = s.port.framesVetoed := by
  refine ⟨?_, ?_, ?_, ?_, ?_, ?_, ?_, ?_⟩ <;> (unfold State.snapAmendFrame; (try dsimp only); (repeat' split) <;> (first | (simp; done) | rfl | (simp_all; done)))

@[simp] theorem modifyWork_claims_fields (s : State) (page : Nat) (f : WorkEntry → WorkEntry) :
    (s.modifyWork page f).claims.pending = s.claims.pending ∧ (s.modifyWork page f).claims.waiting = s.claims.waiting := by
  refine ⟨?_, ?_⟩ <;> (unfold State.modifyWork; (try dsimp only); (repeat' split) <;> (first | (simp; done) | rfl | (simp_all; done)))

@[simp] theorem enterPage_claims_fields (s : State) (p : PageRec) (t : Template) :
    (s.enterPage p t).claims.pending = s.claims.pending ∧ (s.enterPage p t).claims.waiting = s.claims.waiting := by
  refine ⟨?_, ?_⟩ <;> (unfold State.enterPage; (try dsimp only); (repeat' split) <;> (first | (simp; done) | rfl | (simp_all; done)))

@[simp] theorem boundaryStep_claims_fields (s : State) :
    (s.boundaryStep).claims.pending = s.claims.pending ∧ (s.boundaryStep).claims.waiting = s.claims.waiting := by
  refine ⟨?_, ?_⟩ <;> (unfold State.boundaryStep; (try dsimp only); (repeat' split) <;> (first | (simp; done) | rfl | (simp_all; done)))

@[simp] theorem closeSent_claims_fields (s : State) (p : Packet) (h : Held) :
    (s.closeSent p h).claims.pending = s.claims.pending ∧ (s.closeSent p h).claims.waiting = s.claims.waiting := by
  refine ⟨?_, ?_⟩ <;> (unfold State.closeSent; (try dsimp only); (repeat' split) <;> (first | (simp; done) | rfl | (simp_all; done)))

@[simp] theorem cutSettled_claims_pending (s : State) :
    (s.cutSettled).claims.pending = s.claims.pending := by
  unfold State.cutSettled; (try dsimp only); (repeat' split) <;> (first | (simp; done) | rfl | (simp_all; done))

@[simp] theorem cutSettled_port_fields (s : State) :
    (s.cutSettled).port.silent = s.port.silent ∧ (s.cutSettled).port.tx = s.port.tx ∧ (s.cutSettled).port.rx = s.port.rx ∧ (s.cutSettled).port.run = s.port.run ∧ (s.cutSettled).port.sending = s.port.sending ∧ (s.cutSettled).port.runRest = s.port.runRest ∧ (s.cutSettled).port.framesSent = s.port.framesSent ∧ (s.cutSettled).port.framesVetoed = s.port.framesVetoed := by
  refine ⟨?_, ?_, ?_, ?_, ?_, ?_, ?_, ?_⟩ <;> (unfold State.cutSettled; (try dsimp only); (repeat' split) <;> (first | (simp; done) | rfl | (simp_all; done)))

@[simp] theorem carryOutCut_claims_pending (s : State) (h : Held) :
    (s.carryOutCut h).claims.pending = s.claims.pending := by
  unfold State.carryOutCut; (try dsimp only); (repeat' split) <;> (first | (simp; done) | rfl | (simp_all; done))

@[simp] theorem carryOutCut_port_fields (s : State) (h : Held) :
    (s.carryOutCut h).port.silent = s.port.silent ∧ (s.carryOutCut h).port.tx = s.port.tx ∧ (s.carryOutCut h).port.rx = s.port.rx ∧ (s.carryOutCut h).port.run = s.port.run ∧ (s.carryOutCut h).port.sending = s.port.sending ∧ (s.carryOutCut h).port.runRest = s.port.runRest ∧ (s.carryOutCut h).port.framesSent = s.port.framesSent ∧ (s.carryOutCut h).port.framesVetoed = s.port.framesVetoed := by
  refine ⟨?_, ?_, ?_, ?_, ?_, ?_, ?_, ?_⟩ <;> (unfold State.carryOutCut; (try dsimp only); (repeat' split) <;> (first | (simp; done) | rfl | (simp_all; done)))

@[simp] theorem protocolLoss_port_fields (s : State) (tag : Nat) :
    (s.protocolLoss tag).port.silent = s.port.silent ∧ (s.protocolLoss tag).port.tx = s.port.tx ∧ (s.protocolLoss tag).port.rx = s.port.rx ∧ (s.protocolLoss tag).port.run = s.port.run ∧ (s.protocolLoss tag).port.sending = s.port.sending ∧ (s.protocolLoss tag).port.runRest = s.port.runRest ∧ (s.protocolLoss tag).port.framesSent = s.port.framesSent ∧ (s.protocolLoss tag).port.framesVetoed = s.port.framesVetoed := by
  refine ⟨?_, ?_, ?_, ?_, ?_, ?_, ?_, ?_⟩ <;> (unfold State.protocolLoss; (try dsimp only); (repeat' split) <;> (first | (simp; done) | rfl | (simp_all; done)))

@[simp] theorem corrupt_port_fields (s : State) (e : FetchEntry) :
    (s.corrupt e).port.silent = s.port.silent ∧ (s.corrupt e).port.tx = s.port.tx ∧ (s.corrupt e).port.rx = s.port.rx ∧ (s.corrupt e).port.run = s.port.run ∧ (s.corrupt e).port.sending = s.port.sending ∧ (s.corrupt e).port.runRest = s.port.runRest ∧ (s.corrupt e).port.framesSent = s.port.framesSent ∧ (s.corrupt e).port.framesVetoed = s.port.framesVetoed := by
  refine ⟨?_, ?_, ?_, ?_, ?_, ?_, ?_, ?_⟩ <;> (unfold State.corrupt; (try dsimp only); (repeat' split) <;> (first | (simp; done) | rfl | (simp_all; done)))

@[simp] theorem badAnswer_port_fields (s : State) (e : FetchEntry) :
    (s.badAnswer e).port.silent = s.port.silent ∧ (s.badAnswer e).port.tx = s.port.tx ∧ (s.badAnswer e).port.rx = s.port.rx ∧ (s.badAnswer e).port.run = s.port.run ∧ (s.badAnswer e).port.sending = s.port.sending ∧ (s.badAnswer e).port.runRest = s.port.runRest ∧ (s.badAnswer e).port.framesSent = s.port.framesSent ∧ (s.badAnswer e).port.framesVetoed = s.port.framesVetoed := by
  refine ⟨?_, ?_, ?_, ?_, ?_, ?_, ?_, ?_⟩ <;> (unfold State.badAnswer; (try dsimp only); (repeat' split) <;> (first | (simp; done) | rfl | (simp_all; done)))

@[simp] theorem endAnswer_port_fields (s : State) (e : FetchEntry) (a : Answer) (crc : BitVec 32) :
    (s.endAnswer e a crc).port.silent = s.port.silent ∧ (s.endAnswer e a crc).port.tx = s.port.tx ∧ (s.endAnswer e a crc).port.rx = s.port.rx ∧ (s.endAnswer e a crc).port.run = s.port.run ∧ (s.endAnswer e a crc).port.sending = s.port.sending ∧ (s.endAnswer e a crc).port.runRest = s.port.runRest ∧ (s.endAnswer e a crc).port.framesSent = s.port.framesSent ∧ (s.endAnswer e a crc).port.framesVetoed = s.port.framesVetoed := by
  refine ⟨?_, ?_, ?_, ?_, ?_, ?_, ?_, ?_⟩ <;> (unfold State.endAnswer; (try dsimp only); (repeat' split) <;> (first | (simp; done) | rfl | (simp_all; done)))

@[simp] theorem portraitHeadRecord_port_fields (s : State) (tag : Nat) (pid : Id32) (width height : Nat) :
    (s.portraitHeadRecord tag pid width height).port.silent = s.port.silent ∧ (s.portraitHeadRecord tag pid width height).port.tx = s.port.tx ∧ (s.portraitHeadRecord tag pid width height).port.rx = s.port.rx ∧ (s.portraitHeadRecord tag pid width height).port.run = s.port.run ∧ (s.portraitHeadRecord tag pid width height).port.sending = s.port.sending ∧ (s.portraitHeadRecord tag pid width height).port.runRest = s.port.runRest ∧ (s.portraitHeadRecord tag pid width height).port.framesSent = s.port.framesSent ∧ (s.portraitHeadRecord tag pid width height).port.framesVetoed = s.port.framesVetoed := by
  refine ⟨?_, ?_, ?_, ?_, ?_, ?_, ?_, ?_⟩ <;> (unfold State.portraitHeadRecord; (try dsimp only); (repeat' split) <;> (first | (simp; done) | rfl | (simp_all; done)))

@[simp] theorem portraitDataRecord_port_fields (s : State) (tag : Nat) (bs : List Byte) :
    (s.portraitDataRecord tag bs).port.silent = s.port.silent ∧ (s.portraitDataRecord tag bs).port.tx = s.port.tx ∧ (s.portraitDataRecord tag bs).port.rx = s.port.rx ∧ (s.portraitDataRecord tag bs).port.run = s.port.run ∧ (s.portraitDataRecord tag bs).port.sending = s.port.sending ∧ (s.portraitDataRecord tag bs).port.runRest = s.port.runRest ∧ (s.portraitDataRecord tag bs).port.framesSent = s.port.framesSent ∧ (s.portraitDataRecord tag bs).port.framesVetoed = s.port.framesVetoed := by
  refine ⟨?_, ?_, ?_, ?_, ?_, ?_, ?_, ?_⟩ <;> (unfold State.portraitDataRecord; (try dsimp only); (repeat' split) <;> (first | (simp; done) | rfl | (simp_all; done)))

@[simp] theorem portraitEndRecord_port_fields (s : State) (tag : Nat) (crc : BitVec 32) :
    (s.portraitEndRecord tag crc).port.silent = s.port.silent ∧ (s.portraitEndRecord tag crc).port.tx = s.port.tx ∧ (s.portraitEndRecord tag crc).port.rx = s.port.rx ∧ (s.portraitEndRecord tag crc).port.run = s.port.run ∧ (s.portraitEndRecord tag crc).port.sending = s.port.sending ∧ (s.portraitEndRecord tag crc).port.runRest = s.port.runRest ∧ (s.portraitEndRecord tag crc).port.framesSent = s.port.framesSent ∧ (s.portraitEndRecord tag crc).port.framesVetoed = s.port.framesVetoed := by
  refine ⟨?_, ?_, ?_, ?_, ?_, ?_, ?_, ?_⟩ <;> (unfold State.portraitEndRecord; (try dsimp only); (repeat' split) <;> (first | (simp; done) | rfl | (simp_all; done)))

@[simp] theorem portraitAbsentRecord_port_fields (s : State) (tag : Nat) (pid : Id32) :
    (s.portraitAbsentRecord tag pid).port.silent = s.port.silent ∧ (s.portraitAbsentRecord tag pid).port.tx = s.port.tx ∧ (s.portraitAbsentRecord tag pid).port.rx = s.port.rx ∧ (s.portraitAbsentRecord tag pid).port.run = s.port.run ∧ (s.portraitAbsentRecord tag pid).port.sending = s.port.sending ∧ (s.portraitAbsentRecord tag pid).port.runRest = s.port.runRest ∧ (s.portraitAbsentRecord tag pid).port.framesSent = s.port.framesSent ∧ (s.portraitAbsentRecord tag pid).port.framesVetoed = s.port.framesVetoed := by
  refine ⟨?_, ?_, ?_, ?_, ?_, ?_, ?_, ?_⟩ <;> (unfold State.portraitAbsentRecord; (try dsimp only); (repeat' split) <;> (first | (simp; done) | rfl | (simp_all; done)))

@[simp] theorem fetchTimeout_port_fields (s : State) :
    (s.fetchTimeout).port.silent = s.port.silent ∧ (s.fetchTimeout).port.tx = s.port.tx ∧ (s.fetchTimeout).port.rx = s.port.rx ∧ (s.fetchTimeout).port.run = s.port.run ∧ (s.fetchTimeout).port.sending = s.port.sending ∧ (s.fetchTimeout).port.runRest = s.port.runRest ∧ (s.fetchTimeout).port.framesSent = s.port.framesSent ∧ (s.fetchTimeout).port.framesVetoed = s.port.framesVetoed := by
  refine ⟨?_, ?_, ?_, ?_, ?_, ?_, ?_, ?_⟩ <;> (unfold State.fetchTimeout; (try dsimp only); (repeat' split) <;> (first | (simp; done) | rfl | (simp_all; done)))

@[simp] theorem handOutcome_claims_pending (s : State) (sh : Sheet) (o : EngineOutcome) :
    (s.handOutcome sh o).claims.pending = s.claims.pending := by
  unfold State.handOutcome; (try dsimp only); (repeat' split) <;> (first | (simp; done) | rfl | (simp_all; done))

@[simp] theorem handOutcome_port_fields (s : State) (sh : Sheet) (o : EngineOutcome) :
    (s.handOutcome sh o).port.silent = s.port.silent ∧ (s.handOutcome sh o).port.tx = s.port.tx ∧ (s.handOutcome sh o).port.rx = s.port.rx ∧ (s.handOutcome sh o).port.run = s.port.run ∧ (s.handOutcome sh o).port.sending = s.port.sending ∧ (s.handOutcome sh o).port.runRest = s.port.runRest ∧ (s.handOutcome sh o).port.framesSent = s.port.framesSent ∧ (s.handOutcome sh o).port.framesVetoed = s.port.framesVetoed := by
  refine ⟨?_, ?_, ?_, ?_, ?_, ?_, ?_, ?_⟩ <;> (unfold State.handOutcome; (try dsimp only); (repeat' split) <;> (first | (simp; done) | rfl | (simp_all; done)))

@[simp] theorem goodOutcome_port_fields (s : State) (page : Nat) (o : EngineOutcome) :
    (s.goodOutcome page o).port.silent = s.port.silent ∧ (s.goodOutcome page o).port.tx = s.port.tx ∧ (s.goodOutcome page o).port.rx = s.port.rx ∧ (s.goodOutcome page o).port.run = s.port.run ∧ (s.goodOutcome page o).port.sending = s.port.sending ∧ (s.goodOutcome page o).port.runRest = s.port.runRest ∧ (s.goodOutcome page o).port.framesSent = s.port.framesSent ∧ (s.goodOutcome page o).port.framesVetoed = s.port.framesVetoed := by
  refine ⟨?_, ?_, ?_, ?_, ?_, ?_, ?_, ?_⟩ <;> (unfold State.goodOutcome; (try dsimp only); (repeat' split) <;> (first | (simp; done) | rfl | (simp_all; done)))

@[simp] theorem badOutcome_port_fields (s : State) :
    (s.badOutcome).port.silent = s.port.silent ∧ (s.badOutcome).port.tx = s.port.tx ∧ (s.badOutcome).port.rx = s.port.rx ∧ (s.badOutcome).port.run = s.port.run ∧ (s.badOutcome).port.sending = s.port.sending ∧ (s.badOutcome).port.runRest = s.port.runRest ∧ (s.badOutcome).port.framesSent = s.port.framesSent ∧ (s.badOutcome).port.framesVetoed = s.port.framesVetoed := by
  refine ⟨?_, ?_, ?_, ?_, ?_, ?_, ?_, ?_⟩ <;> (unfold State.badOutcome; (try dsimp only); (repeat' split) <;> (first | (simp; done) | rfl | (simp_all; done)))

@[simp] theorem returnEvent_port_fields (s : State) (e : ReturnEvent) :
    (s.returnEvent e).port.silent = s.port.silent ∧ (s.returnEvent e).port.tx = s.port.tx ∧ (s.returnEvent e).port.rx = s.port.rx ∧ (s.returnEvent e).port.run = s.port.run ∧ (s.returnEvent e).port.sending = s.port.sending ∧ (s.returnEvent e).port.runRest = s.port.runRest ∧ (s.returnEvent e).port.framesSent = s.port.framesSent ∧ (s.returnEvent e).port.framesVetoed = s.port.framesVetoed := by
  refine ⟨?_, ?_, ?_, ?_, ?_, ?_, ?_, ?_⟩ <;> (unfold State.returnEvent; (try dsimp only); (repeat' split) <;> (first | (simp; done) | rfl | (simp_all; done)))

@[simp] theorem returnBytes_port_fields (s : State) (bs : List Byte) :
    (s.returnBytes bs).port.silent = s.port.silent ∧ (s.returnBytes bs).port.tx = s.port.tx ∧ (s.returnBytes bs).port.rx = s.port.rx ∧ (s.returnBytes bs).port.run = s.port.run ∧ (s.returnBytes bs).port.sending = s.port.sending ∧ (s.returnBytes bs).port.runRest = s.port.runRest ∧ (s.returnBytes bs).port.framesSent = s.port.framesSent ∧ (s.returnBytes bs).port.framesVetoed = s.port.framesVetoed :=
  ⟨by unfold State.returnBytes; (try dsimp only); (repeat' split) <;> (first | (simp; done) | rfl | (simp [foldl_keeps (fun t : State => t.port.silent)]; done) | (rw [foldl_keeps (fun t : State => t.port.silent)] <;> first | (simp; done) | (intros; simp; done) | (intros; split <;> simp; done))), by unfold State.returnBytes; (try dsimp only); (repeat' split) <;> (first | (simp; done) | rfl | (simp [foldl_keeps (fun t : State => t.port.tx)]; done) | (rw [foldl_keeps (fun t : State => t.port.tx)] <;> first | (simp; done) | (intros; simp; done) | (intros; split <;> simp; done))), by unfold State.returnBytes; (try dsimp only); (repeat' split) <;> (first | (simp; done) | rfl | (simp [foldl_keeps (fun t : State => t.port.rx)]; done) | (rw [foldl_keeps (fun t : State => t.port.rx)] <;> first | (simp; done) | (intros; simp; done) | (intros; split <;> simp; done))), by unfold State.returnBytes; (try dsimp only); (repeat' split) <;> (first | (simp; done) | rfl | (simp [foldl_keeps (fun t : State => t.port.run)]; done) | (rw [foldl_keeps (fun t : State => t.port.run)] <;> first | (simp; done) | (intros; simp; done) | (intros; split <;> simp; done))), by unfold State.returnBytes; (try dsimp only); (repeat' split) <;> (first | (simp; done) | rfl | (simp [foldl_keeps (fun t : State => t.port.sending)]; done) | (rw [foldl_keeps (fun t : State => t.port.sending)] <;> first | (simp; done) | (intros; simp; done) | (intros; split <;> simp; done))), by unfold State.returnBytes; (try dsimp only); (repeat' split) <;> (first | (simp; done) | rfl | (simp [foldl_keeps (fun t : State => t.port.runRest)]; done) | (rw [foldl_keeps (fun t : State => t.port.runRest)] <;> first | (simp; done) | (intros; simp; done) | (intros; split <;> simp; done))), by unfold State.returnBytes; (try dsimp only); (repeat' split) <;> (first | (simp; done) | rfl | (simp [foldl_keeps (fun t : State => t.port.framesSent)]; done) | (rw [foldl_keeps (fun t : State => t.port.framesSent)] <;> first | (simp; done) | (intros; simp; done) | (intros; split <;> simp; done))), by unfold State.returnBytes; (try dsimp only); (repeat' split) <;> (first | (simp; done) | rfl | (simp [foldl_keeps (fun t : State => t.port.framesVetoed)]; done) | (rw [foldl_keeps (fun t : State => t.port.framesVetoed)] <;> first | (simp; done) | (intros; simp; done) | (intros; split <;> simp; done)))⟩

@[simp] theorem outcomeRecord_port_fields (s : State) (page : Nat) (o : EngineOutcome) :
    (s.outcomeRecord page o).port.silent = s.port.silent ∧ (s.outcomeRecord page o).port.tx = s.port.tx ∧ (s.outcomeRecord page o).port.rx = s.port.rx ∧ (s.outcomeRecord page o).port.run = s.port.run ∧ (s.outcomeRecord page o).port.sending = s.port.sending ∧ (s.outcomeRecord page o).port.runRest = s.port.runRest ∧ (s.outcomeRecord page o).port.framesSent = s.port.framesSent ∧ (s.outcomeRecord page o).port.framesVetoed = s.port.framesVetoed := by
  refine ⟨?_, ?_, ?_, ?_, ?_, ?_, ?_, ?_⟩ <;> (unfold State.outcomeRecord; (try dsimp only); (repeat' split) <;> (first | (simp; done) | rfl | (simp_all; done)))

@[simp] theorem headTimeout_port_fields (s : State) :
    (s.headTimeout).port.silent = s.port.silent ∧ (s.headTimeout).port.tx = s.port.tx ∧ (s.headTimeout).port.rx = s.port.rx ∧ (s.headTimeout).port.run = s.port.run ∧ (s.headTimeout).port.sending = s.port.sending ∧ (s.headTimeout).port.runRest = s.port.runRest ∧ (s.headTimeout).port.framesSent = s.port.framesSent ∧ (s.headTimeout).port.framesVetoed = s.port.framesVetoed := by
  refine ⟨?_, ?_, ?_, ?_, ?_, ?_, ?_, ?_⟩ <;> (unfold State.headTimeout; (try dsimp only); (repeat' split) <;> (first | (simp; done) | rfl | (simp_all; done)))

@[simp] theorem goOffline_port_fields (s : State) :
    (s.goOffline).port.silent = s.port.silent ∧ (s.goOffline).port.tx = s.port.tx ∧ (s.goOffline).port.rx = s.port.rx ∧ (s.goOffline).port.run = s.port.run ∧ (s.goOffline).port.sending = s.port.sending ∧ (s.goOffline).port.runRest = s.port.runRest ∧ (s.goOffline).port.framesSent = s.port.framesSent ∧ (s.goOffline).port.framesVetoed = s.port.framesVetoed := by
  refine ⟨?_, ?_, ?_, ?_, ?_, ?_, ?_, ?_⟩ <;> (unfold State.goOffline; (try dsimp only); (repeat' split) <;> (first | (simp; done) | rfl | (simp_all; done)))

@[simp] theorem goOnline_claims_fields (s : State) :
    (s.goOnline).claims.work = s.claims.work ∧ (s.goOnline).claims.waiting = s.claims.waiting := by
  refine ⟨?_, ?_⟩ <;> (unfold State.goOnline; (try dsimp only); (repeat' split) <;> (first | (simp; done) | rfl | (simp_all; done)))

@[simp] theorem goOnline_port_fields (s : State) :
    (s.goOnline).port.silent = s.port.silent ∧ (s.goOnline).port.tx = s.port.tx ∧ (s.goOnline).port.rx = s.port.rx ∧ (s.goOnline).port.run = s.port.run ∧ (s.goOnline).port.sending = s.port.sending ∧ (s.goOnline).port.runRest = s.port.runRest ∧ (s.goOnline).port.framesSent = s.port.framesSent ∧ (s.goOnline).port.framesVetoed = s.port.framesVetoed := by
  refine ⟨?_, ?_, ?_, ?_, ?_, ?_, ?_, ?_⟩ <;> (unfold State.goOnline; (try dsimp only); (repeat' split) <;> (first | (simp; done) | rfl | (simp_all; done)))

@[simp] theorem planLoaded_board_fields (s : State) :
    (s.planLoaded).board.replica = s.board.replica ∧ (s.planLoaded).board.leases = s.board.leases ∧ (s.planLoaded).board.completions = s.board.completions := by
  refine ⟨?_, ?_, ?_⟩ <;> (unfold State.planLoaded; (try dsimp only); (repeat' split) <;> (first | (simp; done) | rfl | (simp_all; done)))

@[simp] theorem planLoaded_port_fields (s : State) :
    (s.planLoaded).port.silent = s.port.silent ∧ (s.planLoaded).port.tx = s.port.tx ∧ (s.planLoaded).port.rx = s.port.rx ∧ (s.planLoaded).port.run = s.port.run ∧ (s.planLoaded).port.sending = s.port.sending ∧ (s.planLoaded).port.runRest = s.port.runRest ∧ (s.planLoaded).port.framesSent = s.port.framesSent ∧ (s.planLoaded).port.framesVetoed = s.port.framesVetoed := by
  refine ⟨?_, ?_, ?_, ?_, ?_, ?_, ?_, ?_⟩ <;> (unfold State.planLoaded; (try dsimp only); (repeat' split) <;> (first | (simp; done) | rfl | (simp_all; done)))

@[simp] theorem planFailed_port_fields (s : State) (code index : Nat) :
    (s.planFailed code index).port.silent = s.port.silent ∧ (s.planFailed code index).port.tx = s.port.tx ∧ (s.planFailed code index).port.rx = s.port.rx ∧ (s.planFailed code index).port.run = s.port.run ∧ (s.planFailed code index).port.sending = s.port.sending ∧ (s.planFailed code index).port.runRest = s.port.runRest ∧ (s.planFailed code index).port.framesSent = s.port.framesSent ∧ (s.planFailed code index).port.framesVetoed = s.port.framesVetoed := by
  refine ⟨?_, ?_, ?_, ?_, ?_, ?_, ?_, ?_⟩ <;> (unfold State.planFailed; (try dsimp only); (repeat' split) <;> (first | (simp; done) | rfl | (simp_all; done)))

@[simp] theorem judgePlan_board_fields (s : State) :
    (s.judgePlan).board.replica = s.board.replica ∧ (s.judgePlan).board.leases = s.board.leases ∧ (s.judgePlan).board.completions = s.board.completions := by
  refine ⟨?_, ?_, ?_⟩ <;> (unfold State.judgePlan; (try dsimp only); (repeat' split) <;> (first | (simp; done) | rfl | (simp_all; done)))

@[simp] theorem takePlanEnd_board_fields (s : State) :
    (s.takePlanEnd).board.replica = s.board.replica ∧ (s.takePlanEnd).board.leases = s.board.leases ∧ (s.takePlanEnd).board.completions = s.board.completions := by
  refine ⟨?_, ?_, ?_⟩ <;> (unfold State.takePlanEnd; (try dsimp only); (repeat' split) <;> (first | (simp; done) | rfl | (simp_all; done)))

@[simp] theorem judgePlan_port_fields (s : State) :
    (s.judgePlan).port.silent = s.port.silent ∧ (s.judgePlan).port.tx = s.port.tx ∧ (s.judgePlan).port.rx = s.port.rx ∧ (s.judgePlan).port.run = s.port.run ∧ (s.judgePlan).port.sending = s.port.sending ∧ (s.judgePlan).port.runRest = s.port.runRest ∧ (s.judgePlan).port.framesSent = s.port.framesSent ∧ (s.judgePlan).port.framesVetoed = s.port.framesVetoed := by
  refine ⟨?_, ?_, ?_, ?_, ?_, ?_, ?_, ?_⟩ <;> (unfold State.judgePlan; (try dsimp only); (repeat' split) <;> (first | (simp; done) | rfl | (simp_all; done)))

@[simp] theorem takePlanEnd_port_fields (s : State) :
    (s.takePlanEnd).port.silent = s.port.silent ∧ (s.takePlanEnd).port.tx = s.port.tx ∧ (s.takePlanEnd).port.rx = s.port.rx ∧ (s.takePlanEnd).port.run = s.port.run ∧ (s.takePlanEnd).port.sending = s.port.sending ∧ (s.takePlanEnd).port.runRest = s.port.runRest ∧ (s.takePlanEnd).port.framesSent = s.port.framesSent ∧ (s.takePlanEnd).port.framesVetoed = s.port.framesVetoed := by
  refine ⟨?_, ?_, ?_, ?_, ?_, ?_, ?_, ?_⟩ <;> (unfold State.takePlanEnd; (try dsimp only); (repeat' split) <;> (first | (simp; done) | rfl | (simp_all; done)))

@[simp] theorem relay_port_fields (s : State) (f : Frame) :
    (s.relay f).port.silent = s.port.silent ∧ (s.relay f).port.tx = s.port.tx ∧ (s.relay f).port.rx = s.port.rx ∧ (s.relay f).port.run = s.port.run ∧ (s.relay f).port.sending = s.port.sending ∧ (s.relay f).port.runRest = s.port.runRest ∧ (s.relay f).port.framesSent = s.port.framesSent ∧ (s.relay f).port.framesVetoed = s.port.framesVetoed := by
  refine ⟨?_, ?_, ?_, ?_, ?_, ?_, ?_, ?_⟩ <;> (unfold State.relay; (try dsimp only); (repeat' split) <;> (first | (simp; done) | rfl | (simp_all; done)))

@[simp] theorem takeAck_claims_fields (s : State) (serial : Nat) :
    (s.takeAck serial).claims.work = s.claims.work ∧ (s.takeAck serial).claims.waiting = s.claims.waiting := by
  refine ⟨?_, ?_⟩ <;> (unfold State.takeAck; (try dsimp only); (repeat' split) <;> (first | (simp; done) | rfl | (simp_all; done)))

@[simp] theorem takeAck_port_fields (s : State) (serial : Nat) :
    (s.takeAck serial).port.silent = s.port.silent ∧ (s.takeAck serial).port.tx = s.port.tx ∧ (s.takeAck serial).port.rx = s.port.rx ∧ (s.takeAck serial).port.run = s.port.run ∧ (s.takeAck serial).port.sending = s.port.sending ∧ (s.takeAck serial).port.runRest = s.port.runRest ∧ (s.takeAck serial).port.framesSent = s.port.framesSent ∧ (s.takeAck serial).port.framesVetoed = s.port.framesVetoed := by
  refine ⟨?_, ?_, ?_, ?_, ?_, ?_, ?_, ?_⟩ <;> (unfold State.takeAck; (try dsimp only); (repeat' split) <;> (first | (simp; done) | rfl | (simp_all; done)))

@[simp] theorem lineSilent_port_fields (s : State) :
    (s.lineSilent).port.silent = s.port.silent ∧ (s.lineSilent).port.tx = s.port.tx ∧ (s.lineSilent).port.rx = s.port.rx ∧ (s.lineSilent).port.run = s.port.run ∧ (s.lineSilent).port.sending = s.port.sending ∧ (s.lineSilent).port.runRest = s.port.runRest ∧ (s.lineSilent).port.framesSent = s.port.framesSent ∧ (s.lineSilent).port.framesVetoed = s.port.framesVetoed := by
  refine ⟨?_, ?_, ?_, ?_, ?_, ?_, ?_, ?_⟩ <;> (unfold State.lineSilent; (try dsimp only); (repeat' split) <;> (first | (simp; done) | rfl | (simp_all; done)))

end Sys2Proof.Laws
end

