-- ==== Sys2Proof/Laws/Spec.lean ====
section
/-! SUPPORT. What each shared operation does, said once, in the words the statements use. -/

namespace Sys2Proof.Laws

open Sys2Proof Sys2Proof.Machine

set_option linter.all false

/-- States that agree on every block are equal. -/
theorem state_eq {s t : State} (h0 : s.pending = t.pending) (h1 : s.straps = t.straps) (h2 : s.ctl = t.ctl) (h3 : s.setup = t.setup) (h4 : s.roster = t.roster) (h5 : s.board = t.board) (h6 : s.claims = t.claims) (h7 : s.pool = t.pool) (h8 : s.launch = t.launch) (h9 : s.comp = t.comp) (h10 : s.tiles = t.tiles) (h11 : s.fetch = t.fetch) (h12 : s.lane = t.lane) (h13 : s.port = t.port) (h14 : s.fault = t.fault) (h15 : s.link = t.link) : s = t := by
  cases s; cases t; simp_all

/-! ## The library link -/

/-- R177: handing a record over. -/
theorem emit_link (s : State) (b : OutBody) : s.emit b = s.setLink (s.link.handed ⟨s.straps.station, b⟩) := by
  unfold State.emit Link.handed; split <;> simp_all <;> rfl

theorem goodRecord_eq (s : State) : s.goodRecord = { s with link := s.link.afterGood } := rfl

theorem goodRecord_dropped (s : State) : s.goodRecord.dropInbound = { s with link := s.link.afterDropped } := rfl

/-- R108: with the head of the fetch list standing and no hold, a portrait record is taken. -/
theorem ifPortraits_taken (s : State) (hs : s.ctl.state ≠ .setupWait) (e : FetchEntry) (rest : List FetchEntry)
    (hl : s.fetch.list = e :: rest) (hh : s.fetch.hold = false) (go : State → State) :
    s.goodRecord.ifPortraits go = go s.goodRecord := by
  have : (s.goodRecord.takesPortraits && !s.goodRecord.fetch.hold) = true := by
    simp only [State.takesPortraits, State.goodRecord, setLink_ctl, setLink_fetch, hl, hh]
    revert hs; cases s.ctl.state <;> simp
  simp only [State.ifPortraits, this, if_true]

/-! ## The transmit queue -/

theorem enqueue_eq (s : State) (b : TxBody) : s.enqueue b = { s with port := s.port.queued b } := rfl

/-- R137, R145: the port takes offers when it is ENABLED and the station is past PLAN_LOAD. -/
theorem takesOffers_iff (s : State) : s.takesOffers = true ↔
    s.port.silent = false ∧ s.ctl.state ≠ .setupWait ∧ s.ctl.state ≠ .planLoad := by
  unfold State.takesOffers State.participation
  cases s.port.silent <;> cases s.ctl.state <;> cases s.port.awaitsStart <;> simp

/-- R136, R145: an entry can be queued when the port takes offers and has a free place. -/
theorem canQueue_iff (s : State) : s.canQueue = true ↔ s.takesOffers = true ∧ s.port.queue.length < 16 := by
  simp [State.canQueue]

/-- R145: in full part a start bit changes nothing of the station. -/
theorem startBit_of_full {s : State} (h : s.participation = .full) : s.startBit = s := by
  simp [State.startBit, h]

/-- R145: on its move to full part the station is, from a start bit on, as in full part. -/
theorem begun_full_of_joining {s : State} (h : s.participation = .joining) : s.begun.participation = .full := by
  revert h
  unfold State.participation State.begun
  cases hs : s.port.silent <;> cases hc : s.ctl.state <;> simp [hs, hc]

/-- R134, R145: a frame that began after the move to full part is taken as in full part. -/
theorem applyFrame_sinceMove {s : State} {h : FrameHdr} (f : Frame) (act : State → State) (hj : s.participation = .joining)
    (he : h.began = .sinceMove) : s.applyFrame h f act = s.begun.applyFrame h f act := by
  simp [State.applyFrame, hj, he, begun_full_of_joining hj]

/-- R137, R145: a port that takes full part takes offers. -/
theorem takesOffers_of_full {s : State} (h : s.participation = .full) : s.takesOffers = true := by
  simp [State.takesOffers, h]

/-- Queueing with a free place keeps the queue within 16. -/
theorem queued_length (p : Port) (b : TxBody) : (p.queued b).queue.length = p.queue.length + 1 := by
  simp [Port.queued]

/-! ## Raising a fault (R160 to R163) -/

/-- R161: with the phase CLEAR the fault is recorded under the counter's serial, which steps on. -/
theorem raise_clear (s : State) (c : Cause) (p k : Option Nat) (d : Nat) (h : s.fault.phase = .clear) :
    (s.raise c p k d).fault.record = some (s.fault.first c p k (s.bandOf p) d) ∧
    (s.raise c p k d).fault.serial = (s.fault.serial + 1) % 256 := by
  unfold State.raise; rw [if_pos h]; simp [State.recordFault, FaultUnit.first]

/-- R161: in the other phases it is a follow-on, counted in the record that stands. -/
theorem raise_again (s : State) (c : Cause) (p k : Option Nat) (d : Nat) (h : s.fault.phase ≠ .clear) :
    (s.raise c p k d).fault.record = s.fault.counted ∧ (s.raise c p k d).fault.serial = s.fault.serial := by
  unfold State.raise; rw [if_neg h]; simp [FaultUnit.counted]; rfl

/-- R162: outside a recovery that is settled there is nothing to end. -/
theorem tryEnd_stands (s : State)
    (h : s.fault.phase = .held ∨ (s.fault.phase = .recovering ∧ s.fault.settled = false)) : s.tryEnd = s := by
  unfold State.tryEnd
  rw [if_neg]
  rintro ⟨a, b⟩
  rcases h with h | ⟨_, h⟩
  · rw [h] at a; cases a
  · rw [h] at b; cases b

/-- R161: what a link-class follow-on comes to: it is counted, a cut requested and the Fetch Unit flushed. -/
theorem raise_linkFollowOn (s : State) (c : Cause) (p k : Option Nat) (d : Nat) (hc : c.linkClass = true)
    (hp : s.fault.phase = .held ∨ (s.fault.phase = .recovering ∧ s.fault.settled = false)) :
    s.raise c p k d = (s.setFault { s.fault with record := s.fault.counted }).requestCut.flushFetch := by
  have hn : s.fault.phase ≠ .clear := by rcases hp with h | ⟨h, _⟩ <;> rw [h] <;> decide
  have hh : c.halting = false := by cases c <;> first | rfl | cases hc
  have h1 : c ≠ .claimLost := by rintro rfl; cases hc
  have h2 : c ≠ .busSilent := by rintro rfl; cases hc
  have hf : ∀ u : State, u.requestCut.flushFetch.fault = u.fault := by intro u; simp
  unfold State.raise
  rw [if_neg hn]
  unfold State.followOnActs
  simp only [hh, h1, h2, hc, if_false, if_true, Bool.false_eq_true]
  rw [tryEnd_stands _ (by rw [hf]; exact hp)]
  rfl

/-- R163: a link-class fault flushes the Fetch Unit whatever the phase, and leaves the lane and the station
state. -/
theorem raise_link_fetch (s : State) (c : Cause) (p k : Option Nat) (d : Nat) (hc : c.linkClass = true) :
    (s.raise c p k d).fetch.list = [] ∧ (s.raise c p k d).fetch.answer = none ∧
    (s.raise c p k d).fetch.wants = [] ∧ (s.raise c p k d).fetch.timer = none ∧
    (s.raise c p k d).fetch.hold = true ∧ (s.raise c p k d).fetch.tag = s.fetch.tag ∧
    (s.raise c p k d).lane = s.lane ∧ (s.raise c p k d).ctl = s.ctl := by
  have hh : c.halting = false := by revert hc; cases c <;> decide
  have h2 : c ≠ .claimLost := by rintro rfl; revert hc; decide
  have h3 : c ≠ .busSilent := by rintro rfl; revert hc; decide
  unfold State.raise
  split
  · simp [State.recover, hh, hc, State.recoverLink]
    refine ⟨?_, ?_, ?_, ?_, ?_, ?_, ?_, ?_⟩
    all_goals (first
      | rw [foldl_keeps (fun t : State => t.fetch.list)]
      | rw [foldl_keeps (fun t : State => t.fetch.answer)]
      | rw [foldl_keeps (fun t : State => t.fetch.wants)]
      | rw [foldl_keeps (fun t : State => t.fetch.timer)]
      | rw [foldl_keeps (fun t : State => t.fetch.hold)]
      | rw [foldl_keeps (fun t : State => t.fetch.tag)]
      | rw [foldl_keeps (fun t : State => t.lane)]
      | rw [foldl_keeps (fun t : State => t.ctl)]
      | skip)
    all_goals first | (intros; simp; done) | skip
    all_goals (simp [State.flushFetch])
  · simp [State.followOnActs, hh, h2, h3, hc, State.flushFetch]

end Sys2Proof.Laws
end

