-- ==== Sys2Proof/Laws/Asking.lean ====
section
/-! SUPPORT. What a passed frame of another station leaves of this station's ASK, queued or waiting, and of the run it
ignores (R149, R152). -/

namespace Sys2Proof.Laws

open Sys2Proof Sys2Proof.Machine

/-- R138: a withdrawal that names no ASK keeps the station's ASK and the run it ignores. -/
theorem withdraw_asks (s : State) (names : TxBody → Bool) (h : ∀ b, b.isAsk = true → names b = false) :
    (s.withdraw names).hasAsk = s.hasAsk ∧ (s.withdraw names).port.ignores = s.port.ignores := by
  refine ⟨?_, rfl⟩
  have key : ∀ q : List TxEntry, (q.filter (fun e => e.onBus || !names e.body)).any (fun e => e.body.isAsk) =
      q.any (fun e => e.body.isAsk) := by
    intro q
    induction q with
    | nil => rfl
    | cons x xs ih =>
      rw [List.filter_cons, List.any_cons]
      cases hb : x.body.isAsk
      · split <;> simp [hb, ih]
      · simp [h _ hb, hb]
  exact congrArg (s.ctl.waiting.contains .ask || ·) (key s.port.queue)

/-- R40: withdrawing the pending CLAIM keeps them. -/
theorem reviewPending_asks (s : State) :
    s.reviewPending.hasAsk = s.hasAsk ∧ s.reviewPending.port.ignores = s.port.ignores := by
  unfold State.reviewPending
  split
  · split
    · exact withdraw_asks s TxBody.isClaim (fun b hb => by
        cases b <;> rename_i f <;> cases f <;> simp_all [TxBody.isAsk, TxBody.isClaim])
    · exact ⟨rfl, rfl⟩
  · exact ⟨rfl, rfl⟩

/-- R39: queueing a CLAIM keeps them. -/
theorem evalClaim_asks (s : State) : s.evalClaim.hasAsk = s.hasAsk ∧ s.evalClaim.port.ignores = s.port.ignores := by
  unfold State.evalClaim
  split
  · split
    · refine ⟨?_, rfl⟩
      simp [State.hasAsk, State.queueClaim, State.enqueue, State.setPort, State.setClaims, TxBody.isAsk]
    · exact ⟨rfl, rfl⟩
  · exact ⟨rfl, rfl⟩

/-- R138: so does what follows every applied frame. -/
theorem afterFrame_asks (s : State) :
    s.afterFrame.hasAsk = s.hasAsk ∧ s.afterFrame.port.ignores = s.port.ignores := by
  have h1 := withdraw_asks s (staleRenew s.claims.work) (fun b hb => by
    cases b <;> rename_i f <;> cases f <;> simp_all [TxBody.isAsk, staleRenew])
  have h2 (r : Replica) := withdraw_asks (s.withdraw (staleRenew s.claims.work)) r.staleLapse (fun b hb => by
    cases b <;> rename_i f <;> cases f <;> simp_all [TxBody.isAsk, Replica.staleLapse])
  unfold State.afterFrame
  refine ⟨?_, ?_⟩ <;> simp only [evalClaim_asks, reviewPending_asks] <;> split
  · exact (h2 _).1.trans h1.1
  · exact h1.1
  · exact (h2 _).2.trans h1.2
  · exact h1.2

/-- R140, R141: with no collection under way, all that the port does with another station's passed frame. -/
theorem passFrame_other (s : State) (h : FrameHdr) (f : Frame) (hc : s.ctl.collection = none)
    (hn : h.sender ≠ s.straps.station) :
    s.passFrame h f = s.setPort (s.port.otherPassed (runAfter s.port.run h.sender h.hold)) := by
  simp [State.passFrame, State.isSending, hn, State.meetCollection, hc]

/-- R141: another station's passed frame keeps the station's ASK. -/
theorem otherPassed_asks (s : State) (run : Option RunHeld) :
    (s.setPort (s.port.otherPassed run)).hasAsk = s.hasAsk := by
  simp [State.hasAsk, State.setPort, Port.otherPassed, Port.standBack, TxEntry.wait, Function.comp_def]

end Sys2Proof.Laws
end

