-- ==== Sys2Proof/Laws/Slots.lean ====
section
/-! SUPPORT. What the operations over the tile slots do with references, and what the lookups among the slots find
(R100, R101, R104). -/

namespace Sys2Proof.Laws

open Sys2Proof Sys2Proof.Machine

/-- R101: settling a slot keeps its references. -/
theorem settle_refs (sl : Slot) : sl.settle.refs = sl.refs := by
  cases sl with
  | free => rfl
  | filling p rs => rfl
  | ready p w h rs => cases rs <;> rfl

/-- R101: settling the slots keeps the references of each. -/
theorem withSlots_refs (s : State) (slots : List Slot) (m : Nat) :
    ((s.withSlots slots).tiles.slots[m]?).map Slot.refs = (slots[m]?).map Slot.refs := by
  simp [State.withSlots, State.setTiles, State.setFetch, settle_refs, Function.comp_def]

/-- R101: references added to a slot come after those it has, and no other slot's change. -/
theorem addRefs_refs (s : State) (n : Nat) (new : List Ref) (sl : Slot) (h : s.tiles.slots[n]? = some sl)
    (hf : sl ≠ .free) :
    (∃ sl', (s.addRefs n new).tiles.slots[n]? = some sl' ∧ sl'.refs = sl.refs ++ new) ∧
    ∀ m, m ≠ n → ((s.addRefs n new).tiles.slots[m]?).map Slot.refs = (s.tiles.slots[m]?).map Slot.refs := by
  refine ⟨?_, fun m hm => ?_⟩
  · have hn := withSlots_refs s (s.tiles.slots.modify n (Slot.addRefs new)) n
    simp only [List.getElem?_modify, if_true, h] at hn
    obtain ⟨sl', h1, h2⟩ := Option.map_eq_some_iff.1 hn
    refine ⟨sl', h1, h2.trans ?_⟩
    cases sl <;> first | exact absurd rfl hf | rfl
  · unfold State.addRefs
    rw [withSlots_refs, List.getElem?_modify]
    simp [Ne.symm hm]

/-- R101: of each slot's references those stay that pass. -/
theorem keepRefs_refs (s : State) (keep : Ref → Bool) (m : Nat) :
    ((s.keepRefs keep).tiles.slots[m]?).map Slot.refs = (s.tiles.slots[m]?).map (fun sl => sl.refs.filter keep) := by
  unfold State.keepRefs
  rw [withSlots_refs, List.getElem?_map, Option.map_map]
  congr 1
  funext sl
  cases sl <;> rfl

/-- R101: a reference counted on a slot afterwards passed and was counted on a slot before. -/
theorem mem_keepRefs {s : State} {keep : Ref → Bool} {sl : Slot} {r : Ref} (h : sl ∈ (s.keepRefs keep).tiles.slots)
    (hr : r ∈ sl.refs) : keep r = true ∧ ∃ sl' ∈ s.tiles.slots, r ∈ sl'.refs := by
  obtain ⟨m, hm⟩ := List.mem_iff_getElem?.1 h
  have hk := keepRefs_refs s keep m
  rw [hm] at hk
  cases hs : s.tiles.slots[m]? with
  | none => rw [hs] at hk; cases hk
  | some sl' =>
    rw [hs] at hk
    have he : sl.refs = sl'.refs.filter keep := Option.some.inj hk
    rw [he] at hr
    exact ⟨(List.mem_filter.1 hr).2, sl', List.mem_of_getElem? hs, (List.mem_filter.1 hr).1⟩

/-- The lowest number of a range that passes. -/
theorem find_range_iff (n k : Nat) (p : Nat → Bool) :
    (List.range n).find? p = some k ↔ k < n ∧ p k = true ∧ ∀ m, m < k → p m = false := by
  rw [List.find?_range_eq_some]
  simp [and_left_comm]

/-- R100: the slot that holds a portrait is not FREE. -/
theorem slotOf_held {t : Tiles} {pid : Id32} {n : Nat} {sl : Slot} (h : t.slotOf pid = some n)
    (hs : t.slots[n]? = some sl) : sl.portrait? = some pid := by
  have := List.find?_some h
  rw [hs] at this
  exact of_decide_eq_true this

/-- R104: which slots may be evicted. -/
theorem evicts_iff (t : Tiles) (n : Nat) :
    (match t.slots[n]? with | some sl => sl.isReady && sl.isPrefetch | none => false) = true ↔
      ∃ pid pw ph refs, t.slots[n]? = some (.ready pid pw ph refs) ∧ ∀ i, Ref.composing i ∉ refs := by
  cases hs : t.slots[n]? with
  | none => simp
  | some sl =>
    cases sl with
    | free => simp [Slot.isReady]
    | filling p r => simp [Slot.isReady]
    | ready p w h r =>
      simp only [Slot.isReady, Slot.isPrefetch, Slot.isFree, Slot.composing, Slot.refs, Bool.not_false,
        Bool.true_and, Bool.not_eq_true', List.any_eq_false]
      constructor
      · intro hr
        exact ⟨_, _, _, _, rfl, fun i hi => hr _ hi rfl⟩
      · rintro ⟨_, _, _, _, hq, hr⟩ x hx hc
        cases hq
        cases x with
        | composing i => exact hr i hx
        | prefetch a b => cases hc

end Sys2Proof.Laws
end

