-- ==== Sys2Proof/Laws/Band.lean ====
section
/-! SUPPORT. What the operations of a band do (R71, R72, R74, R84): taking its references, placing its needed cells,
beginning it, handing it, and dropping the references it ends. -/

namespace Sys2Proof.Machine

/-- Placing changes the late flag, the tallies and the cells of the held page alone. -/
def Held.placedFrom (y x : Held) : Prop := y = { x with late := y.late, tallies := y.tallies, cells := y.cells }
/-- Placing changes the Compositor, the Tile Store and the Fetch Unit alone, and neither the Compositor's state nor
its cut request. -/
def State.placedFrom (u s : State) : Prop := u = { s with comp := u.comp, tiles := u.tiles, fetch := u.fetch } ∧
  u.comp.state = s.comp.state ∧ u.comp.cut = s.comp.cut

end Sys2Proof.Machine

namespace Sys2Proof.Laws

open Sys2Proof Sys2Proof.Machine

set_option linter.all false

/-- R74: the cell after it has been placed. -/
def placedCell (p : Placed) (c : Cell) : Cell :=
  { c with cls := some p.cls, place := p.place, ref := c.ref && decide (p.late ≠ some .lowResolution) }

/-- R74: what recording a placed cell does: it changes the late flag, the tallies and its own cell, and nothing outside
the Compositor, the Tile Store and the Fetch Unit. -/
theorem recordPlaced_spec (s : State) (h : Held) (i : Nat) (p : Placed) (hh : s.comp.held = some h) :
    (s.recordPlaced h i p).comp.held = some { h with
      late := h.late || p.late.isSome, tallies := p.notices.foldl Notices.bump h.tallies,
      cells := h.cells.modify i (placedCell p) } ∧
    s.recordPlaced h i p = { s with
      comp := (s.recordPlaced h i p).comp, tiles := (s.recordPlaced h i p).tiles,
      fetch := (s.recordPlaced h i p).fetch } ∧
    (s.recordPlaced h i p).comp.state = s.comp.state ∧ (s.recordPlaced h i p).comp.cut = s.comp.cut := by
  unfold State.recordPlaced
  by_cases hl : p.late = some .lowResolution
  · simp only [hl, if_true]
    refine ⟨?_, rfl, rfl, rfl⟩
    simp [State.modifyCell, State.setHeld, State.keepRefs, State.withSlots, State.setComp, State.setTiles, State.setFetch, List.modify_modify_eq]
    congr 1; funext c; simp [placedCell, hl, Cell.dropRef]
  · simp only [hl, if_false]
    refine ⟨?_, rfl, rfl, rfl⟩
    simp [State.setComp]
    congr 1; funext c; simp [placedCell, hl]

/-- R71, R74: what placing a list of cells does: cells with a class stay as they are; afterwards every cell of the list has
a class, or the first that has none still waits. -/
theorem placeCells_spec (t : Template) : ∀ (l : List Nat) (s : State) (x : Held), s.comp.held = some x →
    ∃ y, (State.placeCells t l s).1.comp.held = some y ∧ y.placedFrom x ∧ State.placedFrom (State.placeCells t l s).1 s ∧
      (∀ (i : Nat) (c : Cell), x.cells[i]? = some c → ∃ d, y.cells[i]? = some d ∧ d.subject = c.subject ∧
        d.last = c.last ∧ d.taken = c.taken ∧ (c.ref = false → d.ref = false) ∧ (c.cls ≠ none → d = c)) ∧
      y.cells.length = x.cells.length ∧
      ((State.placeCells t l s).2 = true → ∀ i ∈ l, ∀ d, y.cells[i]? = some d → d.cls ≠ none) ∧
      ((State.placeCells t l s).2 = false → ∃ pre i post, l = pre ++ i :: post ∧
        (∀ k ∈ pre, ∀ d, y.cells[k]? = some d → d.cls ≠ none) ∧
        ∃ d, y.cells[i]? = some d ∧ d.cls = none ∧ (State.placeCells t l s).1.placing y t i d = none) := by
  intro l
  induction l with
  | nil =>
    intro s x hx
    exact ⟨x, hx, rfl, ⟨rfl, rfl, rfl⟩, fun i c h => ⟨c, h, rfl, rfl, rfl, id, fun _ => rfl⟩, rfl, by simp [State.placeCells], by simp [State.placeCells]⟩
  | cons i rest ih =>
    intro s x hx
    unfold State.placeCells
    simp only [hx]
    cases hc : x.cells[i]? with
    | none =>
      simp only
      obtain ⟨y, h1, h2, h3, h4, h5, h6, h7⟩ := ih s x hx
      refine ⟨y, h1, h2, h3, h4, h5, ?_, ?_⟩
      · intro hr k hk d hd
        rcases List.mem_cons.1 hk with rfl | hk
        · have : y.cells[k]? = none := by rw [List.getElem?_eq_none_iff] at hc ⊢; omega
          rw [this] at hd; cases hd
        · exact h6 hr k hk d hd
      · intro hr
        obtain ⟨pre, j, post, e, ha, hb⟩ := h7 hr
        refine ⟨i :: pre, j, post, by rw [e]; rfl, ?_, hb⟩
        intro k hk d hd
        rcases List.mem_cons.1 hk with rfl | hk
        · have : y.cells[k]? = none := by rw [List.getElem?_eq_none_iff] at hc ⊢; omega
          rw [this] at hd; cases hd
        · exact ha k hk d hd
    | some c =>
      simp only
      by_cases hcls : c.cls.isSome = true
      · simp only [hcls, if_true]
        obtain ⟨y, h1, h2, h3, h4, h5, h6, h7⟩ := ih s x hx
        have hi : ∀ d, y.cells[i]? = some d → d.cls ≠ none := by
          intro d hd
          obtain ⟨d', hd', _, _, _, _, heq⟩ := h4 i c hc
          have hn : c.cls ≠ none := by intro h; rw [h] at hcls; cases hcls
          rw [heq hn] at hd'; rw [hd'] at hd; cases hd; exact hn
        refine ⟨y, h1, h2, h3, h4, h5, ?_, ?_⟩
        · intro hr k hk d hd
          rcases List.mem_cons.1 hk with rfl | hk
          · exact hi d hd
          · exact h6 hr k hk d hd
        · intro hr
          obtain ⟨pre, j, post, e, ha, hb⟩ := h7 hr
          refine ⟨i :: pre, j, post, by rw [e]; rfl, ?_, hb⟩
          intro k hk d hd
          rcases List.mem_cons.1 hk with rfl | hk
          · exact hi d hd
          · exact ha k hk d hd
      · have hn : c.cls = none := by cases h : c.cls <;> simp [h] at hcls ⊢
        simp only [hcls]
        cases hp : s.placing x t i c with
        | none =>
          simp
          exact ⟨x, hx, rfl, ⟨rfl, rfl, rfl⟩, fun i c h => ⟨c, h, rfl, rfl, rfl, id, fun _ => rfl⟩, rfl, [], i, ⟨rest, rfl⟩, by simp, c, hc, hn, hp⟩
        | some p =>
          simp
          obtain ⟨r1, r2, r3, r4⟩ := recordPlaced_spec s x i p hx
          obtain ⟨y, h1, h2, h3, h4, h5, h6, h7⟩ := ih _ _ r1
          have hci : (x.cells.modify i (placedCell p))[i]? = some (placedCell p c) := by
            simp [hc]
          have hi : ∀ d, y.cells[i]? = some d → d.cls ≠ none := by
            intro d hd
            obtain ⟨d', hd', _, _, _, _, heq⟩ := h4 i _ hci
            rw [heq (by simp [placedCell])] at hd'; rw [hd'] at hd; cases hd; simp [placedCell]
          refine ⟨y, h1, ?_, ?_, ?_, ?_, ?_, ?_⟩
          · unfold Held.placedFrom at h2 ⊢; rw [h2]
          · obtain ⟨a, b, c'⟩ := h3
            refine ⟨?_, by rw [b, r3], by rw [c', r4]⟩
            rw [a, r2]
          · intro k e hk
            by_cases hki : k = i
            · subst hki
              rw [hc] at hk; cases hk
              obtain ⟨d, hd, e1, el, e2, e3, e4⟩ := h4 k _ hci
              exact ⟨d, hd, by rw [e1]; rfl, by rw [el]; rfl, by rw [e2]; rfl, fun hr => e3 (by simp [placedCell, hr]), fun hq => absurd hn hq⟩
            · have : (x.cells.modify i (placedCell p))[k]? = some e := by
                rw [List.getElem?_modify_ne]; exact hk; omega
              exact h4 k e this
          · rw [h5]; simp
          · intro hr
            exact ⟨hi, h6 hr⟩
          · intro hr
            obtain ⟨pre, j, post, e, ha, hb⟩ := h7 hr
            refine ⟨i :: pre, j, ⟨post, by rw [e]; rfl⟩, ?_, hb⟩
            intro k hk d hd
            rcases List.mem_cons.1 hk with rfl | hk
            · exact hi d hd
            · exact ha k hk d hd

/-- R72: the cell after its reference has been taken. -/
def takenCell (c : Cell) : Cell := { c with ref := true, taken := true }

/-- R72: what taking one cell's reference does: it changes that cell alone, and only when its reference is due. -/
theorem takeCell_spec (s : State) (t : Template) (i : Nat) (x : Held) (hx : s.comp.held = some x) :
    ∃ y, (State.takeCell s t i).comp.held = some y ∧ y = { x with cells := y.cells } ∧
      State.takeCell s t i = { s with comp := { s.comp with held := some y }, tiles := (State.takeCell s t i).tiles,
                                      fetch := (State.takeCell s t i).fetch } ∧
      y.cells.length = x.cells.length ∧
      (∀ k, k ≠ i → y.cells[k]? = x.cells[k]?) ∧
      (∀ c, x.cells[i]? = some c → y.cells[i]? = some
        (if (s.cellNeeds x i c).isSome = true ∧ t.cellTop i ≤ x.reach ∧ c.taken = false then takenCell c else c)) := by
  unfold State.takeCell
  simp only [hx]
  cases hc : x.cells[i]? with
  | none => exact ⟨x, hx, rfl, by simp only []; rw [← hx], rfl, fun _ _ => rfl, by simp⟩
  | some c =>
    simp only
    cases hn : s.cellNeeds x i c with
    | none => exact ⟨x, hx, rfl, by simp only []; rw [← hx], rfl, fun _ _ => rfl, by intro d hd; cases hd; simp [hn, hc]⟩
    | some pid =>
      simp only
      by_cases hq : t.cellTop i ≤ x.reach ∧ c.taken = false
      · simp only [hq, if_true, and_self]
        refine ⟨{ x with cells := x.cells.modify i takenCell }, ?_, rfl, ?_, by simp, ?_, ?_⟩
        · unfold State.countComposing State.modifyCell
          simp only [hx, State.setHeld]
          (repeat' split) <;> rfl
        · unfold State.countComposing State.modifyCell
          simp only [hx, State.setHeld]
          (repeat' split) <;> rfl
        · intro k hk
          simp only []
          rw [List.getElem?_modify_ne]; omega
        · intro d hd; cases hd; simp [hn, hc, hq]
      · rw [if_neg hq]
        refine ⟨x, hx, rfl, by rw [← hx], rfl, fun _ _ => rfl, ?_⟩
        intro d hd; cases hd
        have : ¬ ((some pid).isSome = true ∧ t.cellTop i ≤ x.reach ∧ c.taken = false) := by simpa using hq
        rw [hn, if_neg this]; exact hc

/-- R72: the same over a list of distinct cells. -/
theorem takeAll_spec (t : Template) : ∀ (l : List Nat) (s : State) (x : Held), s.comp.held = some x → l.Nodup →
    ∃ y, (l.foldl (fun st i => State.takeCell st t i) s).comp.held = some y ∧ y = { x with cells := y.cells } ∧
      l.foldl (fun st i => State.takeCell st t i) s =
        { s with comp := { s.comp with held := some y },
                 tiles := (l.foldl (fun st i => State.takeCell st t i) s).tiles,
                 fetch := (l.foldl (fun st i => State.takeCell st t i) s).fetch } ∧
      y.cells.length = x.cells.length ∧
      (∀ k, k ∉ l → y.cells[k]? = x.cells[k]?) ∧
      (∀ i ∈ l, ∀ c, x.cells[i]? = some c → y.cells[i]? = some
        (if (s.cellNeeds x i c).isSome = true ∧ t.cellTop i ≤ x.reach ∧ c.taken = false then takenCell c else c)) := by
  intro l
  induction l with
  | nil => intro s x hx _; exact ⟨x, hx, rfl, by simp only [List.foldl]; rw [← hx], rfl, fun _ _ => rfl, by simp⟩
  | cons i rest ih =>
    intro s x hx hnd
    obtain ⟨hni, hnd⟩ := List.nodup_cons.1 hnd
    obtain ⟨y1, a1, a2, a3, a4, a5, a6⟩ := takeCell_spec s t i x hx
    obtain ⟨y, b1, b2, b3, b4, b5, b6⟩ := ih _ y1 a1 hnd
    have hn : ∀ k c, (State.takeCell s t i).cellNeeds y1 k c = s.cellNeeds x k c := by
      intro k c
      unfold State.cellNeeds
      rw [a3, a2]
    refine ⟨y, b1, ?_, ?_, by rw [b4, a4], ?_, ?_⟩
    · rw [b2, a2]
    · simp only [List.foldl_cons]
      rw [b3, a3]
    · intro k hk
      rw [List.mem_cons, not_or] at hk
      rw [b5 k hk.2, a5 k hk.1]
    · intro k hk c hc
      rcases List.mem_cons.1 hk with rfl | hk'
      · rw [b5 k hni, a6 c hc]
      · have : k ≠ i := by intro e; subst e; exact hni hk'
        have hc1 : y1.cells[k]? = some c := by rw [a5 k this, hc]
        have hr : y1.reach = x.reach := by rw [a2]
        rw [b6 k hk' c hc1, hn, hr]

/-- R72: what taking the references of band b does. -/
theorem takeReferences_spec (s : State) (t : Template) (b : Nat) (x : Held) (hx : s.comp.held = some x) :
    ∃ y, (s.takeReferences t b).comp.held = some y ∧ y = { x with band := b, reach := t.reachOf b, cells := y.cells } ∧
      s.takeReferences t b = { s with
        comp := { s.comp with held := some y },
        tiles := (s.takeReferences t b).tiles, fetch := (s.takeReferences t b).fetch } ∧
      y.cells.length = x.cells.length ∧
      (∀ (i : Nat) c, x.cells[i]? = some c → y.cells[i]? = some
        (if (s.cellNeeds x i c).isSome = true ∧ t.cellTop i ≤ t.reachOf b ∧ c.taken = false
         then takenCell c else c)) := by
  unfold State.takeReferences
  simp only [hx]
  obtain ⟨y, b1, b2, b3, b4, b5, b6⟩ := takeAll_spec t (List.range x.cells.length)
    (s.setHeld { x with band := b, reach := t.reachOf b }) { x with band := b, reach := t.reachOf b } rfl List.nodup_range
  refine ⟨y, b1, b2, ?_, b4, ?_⟩
  · rw [b3]; rfl
  · intro i c hc
    have hi : i < x.cells.length := by
      by_contra h; rw [List.getElem?_eq_none (by omega)] at hc; cases hc
    exact b6 i (List.mem_range.2 hi) c hc

/-- R71: placing the needed cells leaves the band prepared, or waiting for its first cell without a class. -/
theorem placeBand_spec (s : State) (x : Held) (t : Template) (hx : s.comp.held = some x)
    (ht : s.roster.templates[x.template]? = some t) :
    ∃ y, s.placeBand.comp.held = some y ∧ y.placedFrom x ∧
      s.placeBand = { s with comp := s.placeBand.comp, tiles := s.placeBand.tiles, fetch := s.placeBand.fetch } ∧
      s.placeBand.comp.cut = s.comp.cut ∧ s.placeBand.bandPrepared y t ∧ y.cells.length = x.cells.length ∧
      (∀ (i : Nat) (c : Cell), x.cells[i]? = some c → ∃ d, y.cells[i]? = some d ∧ d.subject = c.subject ∧
        d.last = c.last ∧ d.taken = c.taken ∧ (c.ref = false → d.ref = false) ∧ (c.cls ≠ none → d = c)) := by
  unfold State.placeBand State.templateOf
  simp only [hx, ht]
  obtain ⟨y, h1, h2, ⟨h3, h3', h3''⟩, h4, h5, h6, h7⟩ := placeCells_spec t (neededCells t x.cells.length x.band) s x hx
  have hb : y.band = x.band := by unfold Held.placedFrom at h2; rw [h2]
  have mem : ∀ k, k < x.cells.length → t.neededBy y.band k = true → k ∈ neededCells t x.cells.length x.band := by
    intro k hk hn; unfold neededCells; rw [List.mem_filter, List.mem_range, ← hb]; exact ⟨hk, hn⟩
  refine ⟨y, h1, h2, ?_, h3'', ?_, h5, h4⟩
  · unfold State.setCompState State.setComp
    rw [h3]
  · cases hr : (State.placeCells t (neededCells t x.cells.length x.band) s).2 with
    | true =>
      left; refine ⟨rfl, ?_⟩
      intro i c hc hn
      have hi : i < x.cells.length := by
        by_contra h; rw [List.getElem?_eq_none (by omega)] at hc; cases hc
      exact h6 hr i (mem i hi hn) c hc
    | false =>
      right; refine ⟨rfl, ?_⟩
      obtain ⟨pre, i, post, e, ha, d, hd, hdc, hp⟩ := h7 hr
      have him : i ∈ neededCells t x.cells.length x.band := by rw [e]; simp
      refine ⟨i, d, hd, ?_, hdc, ?_, ?_⟩
      · rw [hb]; unfold neededCells at him; exact (List.mem_filter.1 him).2
      · exact hp
      · intro k c hk hc hn
        have hkl : k < x.cells.length := by
          by_contra h; rw [List.getElem?_eq_none (by omega)] at hc; cases hc
        have hkm := mem k hkl hn
        rw [e] at hkm
        have hsort : (neededCells t x.cells.length x.band).Pairwise (· < ·) := by
          unfold neededCells; exact List.Pairwise.filter _ List.pairwise_lt_range
        rw [e] at hsort
        rcases List.mem_append.1 hkm with hkm | hkm
        · exact ha k hkm c hc
        · exfalso
          rcases List.mem_cons.1 hkm with rfl | hkm
          · omega
          · have := (List.pairwise_cons.1 (List.pairwise_append.1 hsort).2.1).1 k hkm
            omega

/-- R71, R72: what beginning band b does: its references are taken up to its reach and its needed cells placed. -/
theorem startBand_spec (s : State) (x : Held) (t : Template) (b : Nat) (hx : s.comp.held = some x)
    (ht : s.roster.templates[x.template]? = some t) :
    ∃ y, (s.startBand b).comp.held = some y ∧
      y = { x with band := b, reach := t.reachOf b, late := y.late, tallies := y.tallies, cells := y.cells } ∧
      s.startBand b = { s with comp := (s.startBand b).comp, tiles := (s.startBand b).tiles, fetch := (s.startBand b).fetch } ∧
      (s.startBand b).comp.cut = s.comp.cut ∧ (s.startBand b).bandPrepared y t ∧
      (∀ (i : Nat) (c : Cell), x.cells[i]? = some c → ∃ d, y.cells[i]? = some d ∧ d.subject = c.subject ∧
        d.last = c.last ∧ (d.taken = true ↔ c.taken = true ∨ (∃ pid, s.cellNeeds x i c = some pid) ∧ t.cellTop i ≤ y.reach) ∧
        (c.taken = true → c.ref = false → d.ref = false)) := by
  obtain ⟨z, a1, a2, a3, a4, a5⟩ := takeReferences_spec s t b x hx
  have htz : (s.takeReferences t b).roster.templates[z.template]? = some t := by rw [a3, a2]; exact ht
  obtain ⟨y, b1, b2, b3, b4, b5, b6, b7⟩ := placeBand_spec _ z t a1 htz
  have hs : s.startBand b = (s.takeReferences t b).placeBand := by
    unfold State.startBand State.templateOf; simp only [hx, ht]
  rw [hs]
  have hy : y = { x with band := b, reach := t.reachOf b, late := y.late, tallies := y.tallies, cells := y.cells } := by
    unfold Held.placedFrom at b2; rw [b2, a2]
  have hr : y.reach = t.reachOf b := by rw [hy]
  refine ⟨y, b1, hy, ?_, ?_, b5, ?_⟩
  · rw [b3, a3]
  · rw [b4, a3]
  · intro i c hc
    have hz := a5 i c hc
    obtain ⟨d, hd, e1, el, e2, e3, e4⟩ := b7 i _ hz
    refine ⟨d, hd, ?_, ?_, ?_, ?_⟩
    · rw [e1]; split <;> rfl
    · rw [el]; split <;> rfl
    · rw [e2, hr]
      split
      · rename_i h; simp [takenCell]; right; exact ⟨Option.isSome_iff_exists.1 h.1, h.2.1⟩
      · rename_i h; constructor
        · intro h'; exact .inl h'
        · rintro (h' | ⟨h1, h2⟩)
          · exact h'
          · by_contra hct; exact h ⟨Option.isSome_iff_exists.2 h1, h2, by simpa using hct⟩
    · intro ht' hr'
      apply e3
      rw [if_neg (by rw [ht']; simp)]; exact hr'

/-- R71: a prepared band is handed; while a cell waits nothing is. -/
theorem handReady_spec (s : State) (x : Held) (t : Template) (hx : s.comp.held = some x)
    (ht : s.roster.templates[x.template]? = some t) (hp : s.bandPrepared x t) :
    s.handReady.comp = s.comp ∧ s.handReady = { s with lane := s.handReady.lane } ∧ s.handReady.bandHanded x t s.lane := by
  unfold State.handReady State.templateOf
  simp only [hx, ht]
  rcases hp with ⟨h1, h2⟩ | ⟨h1, h2⟩
  · have : ¬ s.comp.state = .waitingTile := by rw [h1]; simp
    rw [if_neg this]
    have hc : (s.handBand t).comp = s.comp := by
      unfold State.handBand; simp only [hx]; unfold State.setCompState State.handPacket; simp [State.setComp, State.setLane, h1.symm]
    refine ⟨hc, ?_, ?_, ?_, ?_⟩
    · unfold State.handBand; simp only [hx]; unfold State.setCompState State.handPacket State.setComp State.setLane; simp only [← h1]
    · left; refine ⟨by rw [hc]; exact h1, h2⟩
    · intro _; unfold State.handBand; simp only [hx]; rfl
    · intro h; rw [hc, h1] at h; cases h
  · rw [if_pos h1]
    exact ⟨rfl, rfl, .inr ⟨h1, h2⟩, (fun h => by rw [h1] at h; cases h), fun _ => rfl⟩

/-- R72: with no reference due nothing is taken. -/
theorem takeCell_noop (s : State) (t : Template) (i : Nat) (x : Held) (hx : s.comp.held = some x)
    (h : ∀ c, x.cells[i]? = some c → c.taken = true ∨ s.cellNeeds x i c = none ∨ x.reach < t.cellTop i) :
    State.takeCell s t i = s := by
  unfold State.takeCell
  simp only [hx]
  cases hc : x.cells[i]? with
  | none => rfl
  | some c =>
    simp only
    cases hn : s.cellNeeds x i c with
    | none => rfl
    | some pid =>
      simp only
      rw [if_neg]
      rintro ⟨h1, h2⟩
      rcases h c hc with h | h | h
      · rw [h] at h2; cases h2
      · rw [hn] at h; cases h
      · omega

/-- A fold of steps that each change nothing changes nothing. -/
theorem foldl_noop {α β : Type} (f : β → α → β) (s : β) : ∀ l : List α, (∀ i ∈ l, f s i = s) → l.foldl f s = s := by
  intro l h
  induction l with
  | nil => rfl
  | cons i rest ih =>
    rw [List.foldl_cons, h i (by simp)]
    exact ih (fun k hk => h k (by simp [hk]))

/-- R71: where every cell of the list has a class nothing is placed. -/
theorem placeCells_noop (t : Template) (s : State) (x : Held) (hx : s.comp.held = some x) : ∀ l : List Nat,
    (∀ i ∈ l, ∀ c, x.cells[i]? = some c → c.cls ≠ none) → State.placeCells t l s = (s, true) := by
  intro l h
  induction l with
  | nil => rfl
  | cons i rest ih =>
    have ih' := ih (fun k hk => h k (by simp [hk]))
    unfold State.placeCells
    simp only [hx]
    cases hc : x.cells[i]? with
    | none => exact ih'
    | some c =>
      have : c.cls.isSome = true := Option.isSome_iff_ne_none.2 (h i (by simp) c hc)
      simp only [this, if_true]; exact ih'

/-- Clearing reference flags leaves the Tile Store alone. -/
theorem clearRefs_tiles (s : State) (gone : Nat → Bool) : (s.clearRefs gone).tiles = s.tiles := by
  unfold State.clearRefs; split <;> rfl

/-- R84: what the end of a BAND does to the references: those of the portraits whose last line it held are gone, every
other one stays where it was. -/
theorem releaseRefs_spec (s : State) (past : Nat) (x : Held) (hx : s.comp.held = some x) :
    ∃ y, (s.releaseRefs past).comp = { s.comp with held := some y } ∧ y = { x with cells := y.cells } ∧
      s.releaseRefs past = { s with
        comp := (s.releaseRefs past).comp,
        tiles := { s.tiles with
          slots := (s.releaseRefs past).tiles.slots, fillOrder := (s.releaseRefs past).tiles.fillOrder },
        fetch := { s.fetch with list := (s.releaseRefs past).fetch.list } } ∧
      (∀ (i : Nat) c, x.cells[i]? = some c →
        y.cells[i]? = some (if c.endsAbove past then { c with ref := false } else c)) ∧
      (∀ (k : Nat) sl, s.tiles.slots[k]? = some sl → ∃ z, (s.releaseRefs past).tiles.slots[k]? = some z ∧
        ∀ r, r ∈ z.refs ↔ r ∈ sl.refs ∧
          ∀ (i : Nat) c, r = .composing i → x.cells[i]? = some c → c.endsAbove past = false) ∧
      (∀ (i : Nat) c, x.cells[i]? = some c → c.endsAbove past = true →
        ∀ sl ∈ (s.releaseRefs past).tiles.slots, Ref.composing i ∉ sl.refs) := by
  let gone (i : Nat) : Bool := (x.cells[i]?).any (Cell.endsAbove past)
  let keep (r : Ref) : Bool := match r with | .composing i => !gone i | .prefetch _ _ => true
  have hrel : s.releaseRefs past = (s.clearRefs gone).keepRefs keep := by
    unfold State.releaseRefs; simp only [hx]; rfl
  rw [hrel]
  refine ⟨_, by simp only [State.clearRefs, hx]; rfl, rfl, ?_, ?_, ?_, ?_⟩
  · simp only [State.clearRefs, hx]; rfl
  · intro i c hc
    simp [List.getElem?_mapIdx, hc, gone, Cell.dropRef]
  · intro k sl hk
    have hs := keepRefs_refs (s.clearRefs gone) keep k
    rw [clearRefs_tiles, hk] at hs
    obtain ⟨z, hz, hr⟩ := Option.map_eq_some_iff.1 hs
    refine ⟨z, hz, fun r => ?_⟩
    rw [hr, List.mem_filter]
    refine and_congr_right fun _ => ?_
    cases r with
    | prefetch p c => simp [keep]
    | composing j =>
      cases hc : x.cells[j]? with
      | none =>
        simp only [keep, gone, hc, Option.any_none, Bool.not_false, true_iff]
        rintro i c h hi
        cases h; rw [hc] at hi; cases hi
      | some c =>
        simp only [keep, gone, hc, Option.any_some, Bool.not_eq_true']
        constructor
        · rintro h i d hj hi
          cases hj; rw [hc] at hi; cases hi; exact h
        · intro h; exact h j c rfl hc
  · intro i c hc he sl hsl hm
    have hk := (mem_keepRefs hsl hm).1
    simp [keep, gone, hc, he] at hk

/-- R13, R20, R86: while a cut is requested a BAND sent reads nothing of the Roster Store: with any other plan in it the
outcome is the same. -/
theorem bandSent_reads_no_plan (s : State) (p : Packet) (b past : Nat) (ro : Roster) (hc : s.comp.cut = true) :
    ({ s with roster := ro }).bandSent p b past = { s.bandSent p b past with roster := ro } := by
  cases hx : s.comp.held with
  | none => simp [State.bandSent, State.sentPacket, State.setLane, hx]
  | some x =>
    simp [State.bandSent, State.sentPacket, State.setLane, State.setComp, State.dueAfter, State.countBand,
      State.releaseRefs, State.clearRefs, State.keepRefs, State.withSlots, State.setTiles, State.setFetch,
      State.unlessCut, hx, hc]

end Sys2Proof.Laws
end

