-- ==== Sys2Proof/Laws/Batches.lean ====
section
/-! SUPPORT. What applying the waiting batches does (R57 to R60, R113), and what keeps the marks of prefetched cells
(R105) as it leaves them. -/

namespace Sys2Proof.Laws

open Sys2Proof Sys2Proof.Machine

/-! ## The roster -/

/-- R59: a record changes no more of the roster than a subject. -/
theorem applyRecord_keeps (ro : Roster) (a : Amendment) :
    (ro.applyRecord a).pages = ro.pages ∧ (ro.applyRecord a).templates = ro.templates ∧
    (ro.applyRecord a).sections = ro.sections ∧ (ro.applyRecord a).head = ro.head ∧
    (ro.applyRecord a).status = ro.status := ⟨rfl, rfl, rfl, rfl, rfl⟩

/-- R59: nor does a batch, but for the edition. -/
theorem applyBatch_keeps (ro : Roster) (b : Batch) :
    (ro.applyBatch b).pages = ro.pages ∧ (ro.applyBatch b).templates = ro.templates ∧
    (ro.applyBatch b).sections = ro.sections ∧ (ro.applyBatch b).head = ro.head ∧
    (ro.applyBatch b).status = ro.status := by
  have key : ∀ (l : List Amendment) (ro : Roster), (l.foldl Roster.applyRecord ro).pages = ro.pages ∧
      (l.foldl Roster.applyRecord ro).templates = ro.templates ∧
      (l.foldl Roster.applyRecord ro).sections = ro.sections ∧ (l.foldl Roster.applyRecord ro).head = ro.head ∧
      (l.foldl Roster.applyRecord ro).status = ro.status := by
    intro l
    induction l with
    | nil => intro ro; exact ⟨rfl, rfl, rfl, rfl, rfl⟩
    | cons a l ih => intro ro; exact ih (ro.applyRecord a)
  exact key b.records ro

/-- R59: nor do the batches of a list. -/
theorem applyBatches_keep (bs : List Batch) (ro : Roster) :
    (bs.foldl Roster.applyBatch ro).pages = ro.pages ∧ (bs.foldl Roster.applyBatch ro).templates = ro.templates ∧
    (bs.foldl Roster.applyBatch ro).sections = ro.sections ∧ (bs.foldl Roster.applyBatch ro).head = ro.head ∧
    (bs.foldl Roster.applyBatch ro).status = ro.status := by
  induction bs generalizing ro with
  | nil => exact ⟨rfl, rfl, rfl, rfl, rfl⟩
  | cons b bs ih =>
    obtain ⟨h1, h2, h3, h4, h5⟩ := ih (ro.applyBatch b)
    obtain ⟨k1, k2, k3, k4, k5⟩ := applyBatch_keeps ro b
    exact ⟨h1.trans k1, h2.trans k2, h3.trans k3, h4.trans k4, h5.trans k5⟩

/-- R9: rosters with one plan show the same subjects. -/
theorem resolve_congr {ro ro' : Roster} (hs : ro'.sections = ro.sections) (p : PageRec) (i : Nat) :
    ro'.resolve p i = ro.resolve p i := by
  unfold Roster.resolve; rw [hs]

theorem subjectAt_congr {ro ro' : Roster} (hp : ro'.pages = ro.pages) (hs : ro'.sections = ro.sections)
    (page cell : Nat) : ro'.subjectAt page cell = ro.subjectAt page cell := by
  unfold Roster.subjectAt Roster.page?
  rw [hp]
  split
  · exact resolve_congr hs _ _
  · rfl

/-! ## Marks -/

/-- R113: a hand-off leaves the mark of each cell that shows a retaken subject NONE. -/
theorem handOff_unmarks (s : State) (subjects : List Nat) (page cell j : Nat)
    (h : s.roster.subjectAt page cell = some j) (hj : j ∈ subjects) : (s.handOff subjects).unmarked page cell := by
  have hw : s.roster.showsOneOf subjects page cell = true := by
    simp [Roster.showsOneOf, h, hj]
  refine ⟨fun sl hsl hm => ?_, fun x hx hp hc => ?_⟩
  · have hk : (!s.roster.showsOneOf subjects page cell) = true := (mem_keepRefs (s := s) hsl hm).1
    rw [hw] at hk
    cases hk
  · obtain ⟨y, _, rfl⟩ := List.mem_map.1 hx
    obtain rfl : y.page = page := hp
    have hk := (List.mem_filter.1 hc).2
    rw [hw] at hk
    cases hk

/-- R113: a hand-off makes no mark. -/
theorem handOff_keepsUnmarked (s : State) (subjects : List Nat) (page cell : Nat) (h : s.unmarked page cell) :
    (s.handOff subjects).unmarked page cell := by
  refine ⟨fun sl hsl hm => ?_, fun x hx hp hc => ?_⟩
  · obtain ⟨_, sl', h1, h2⟩ := mem_keepRefs (s := s) hsl hm
    exact h.1 sl' h1 h2
  · obtain ⟨y, hy, rfl⟩ := List.mem_map.1 hx
    exact h.2 y hy hp (List.mem_filter.1 hc).1

/-- R60: a batch's retaken subjects. -/
theorem mem_retaken {b : Batch} {a : Amendment} (ha : a ∈ b.records) (hk : a.payload.kind = 0) :
    a.subject ∈ b.retaken := by
  refine List.mem_map.2 ⟨a, List.mem_filter.2 ⟨ha, ?_⟩, rfl⟩
  cases hp : a.payload <;> rw [hp] at hk <;> first | rfl | cases hk

/-- R57, R60, R113: what applying a list of batches leaves. -/
theorem applyBatches_spec (bs : List Batch) (s : State) :
    (bs.foldl State.applyBatch s).roster = bs.foldl Roster.applyBatch s.roster ∧
    (bs.foldl State.applyBatch s).handedOff bs ∧
    (∀ page cell, s.unmarked page cell → (bs.foldl State.applyBatch s).unmarked page cell) := by
  induction bs generalizing s with
  | nil => exact ⟨rfl, fun b hb => (nomatch hb), fun _ _ h => h⟩
  | cons b bs ih =>
    obtain ⟨h1, h2, h3⟩ := ih (s.applyBatch b)
    have hr : (s.applyBatch b).roster = s.roster.applyBatch b := rfl
    refine ⟨?_, ?_, fun page cell h => h3 _ _ (handOff_keepsUnmarked _ _ _ _ h)⟩
    · rw [List.foldl_cons, h1, hr, List.foldl_cons]
    · intro c hc a ha hk page cell hs
      rcases List.mem_cons.1 hc with rfl | hc
      · refine h3 page cell (handOff_unmarks _ _ page cell a.subject ?_ (mem_retaken ha hk))
        obtain ⟨k1, _, k3, _⟩ := applyBatches_keep bs (s.roster.applyBatch c)
        rw [List.foldl_cons, h1, hr, subjectAt_congr k1 k3] at hs
        exact hs
      · exact h2 c hc a ha hk page cell hs

/-- R57, R62: what a point of application leaves. -/
theorem applyWaiting_spec (s : State) :
    s.applyWaiting.roster = (s.launch.queue ++ s.launch.forced).foldl Roster.applyBatch s.roster ∧
    s.applyWaiting.launch = ⟨[], []⟩ ∧ s.applyWaiting.handedOff (s.launch.queue ++ s.launch.forced) ∧
    (∀ page cell, s.unmarked page cell → s.applyWaiting.unmarked page cell) := by
  obtain ⟨h1, h2, h3⟩ := applyBatches_spec (s.launch.queue ++ s.launch.forced) s
  exact ⟨h1, rfl, h2, h3⟩

/-- R57: a point of application counts no reference and adds no prefetch record. -/
theorem applyWaiting_refs (s : State) :
    (∀ sl ∈ s.applyWaiting.tiles.slots, ∀ r ∈ sl.refs, ∃ sl' ∈ s.tiles.slots, r ∈ sl'.refs) ∧
    (∀ x ∈ s.applyWaiting.fetch.prefetch, ∃ y ∈ s.fetch.prefetch, y.page = x.page) := by
  have key : ∀ (bs : List Batch) (s : State),
      (∀ sl ∈ (bs.foldl State.applyBatch s).tiles.slots, ∀ r ∈ sl.refs, ∃ sl' ∈ s.tiles.slots, r ∈ sl'.refs) ∧
      (∀ x ∈ (bs.foldl State.applyBatch s).fetch.prefetch, ∃ y ∈ s.fetch.prefetch, y.page = x.page) := by
    intro bs
    induction bs with
    | nil => intro s; exact ⟨fun sl h r hr => ⟨sl, h, hr⟩, fun x hx => ⟨x, hx, rfl⟩⟩
    | cons b bs ih =>
      intro s
      obtain ⟨h1, h2⟩ := ih (s.applyBatch b)
      refine ⟨fun sl h r hr => ?_, fun x hx => ?_⟩
      · obtain ⟨sl', h3, h4⟩ := h1 sl h r hr
        exact (mem_keepRefs (s := s.setRoster (s.roster.applyBatch b)) h3 h4).2
      · obtain ⟨y, h3, h4⟩ := h2 x hx
        obtain ⟨z, h5, rfl⟩ := List.mem_map.1 h3
        exact ⟨z, h5, h4⟩
  exact key _ s

/-- R105: marks that are NONE stay so where no prefetch reference is counted and no record gains a SETTLED cell. -/
theorem unmarked_of (s u : State) (page cell : Nat) (h : s.unmarked page cell)
    (hr : ∀ sl ∈ u.tiles.slots, Ref.prefetch page cell ∈ sl.refs → ∃ sl' ∈ s.tiles.slots, Ref.prefetch page cell ∈ sl'.refs)
    (hp : ∀ x ∈ u.fetch.prefetch, x ∈ s.fetch.prefetch ∨ x.settled = []) : u.unmarked page cell := by
  refine ⟨fun sl h1 h2 => ?_, fun x hx h1 h2 => ?_⟩
  · obtain ⟨sl', h3, h4⟩ := hr sl h1 h2
    exact h.1 sl' h3 h4
  · rcases hp x hx with h3 | h3
    · exact h.2 x h3 h1 h2
    · rw [h3] at h2; cases h2

/-- R103: counting a composing reference makes no mark. -/
theorem countComposing_unmarked (s : State) (p i : Nat) (pid : Id32) (page cell : Nat) (h : s.unmarked page cell) :
    (s.countComposing p i pid).unmarked page cell := by
  have key : ∀ slots : List Slot, (∀ sl ∈ slots, Ref.prefetch page cell ∉ sl.refs) →
      (s.withSlots slots).unmarked page cell := by
    intro slots hs
    refine ⟨fun sl h1 h2 => ?_, h.2⟩
    obtain ⟨sl', h3, rfl⟩ := List.mem_map.1 h1
    exact hs sl' h3 (by rwa [settle_refs] at h2)
  unfold State.countComposing
  split
  · refine key _ fun sl hsl hm => ?_
    obtain ⟨sl', h1, rfl⟩ := List.mem_map.1 hsl
    refine h.1 sl' h1 ?_
    unfold Slot.convert at hm
    split at hm
    · cases sl' <;> simp [Slot.keepRefs, Slot.addRefs, Slot.refs] at hm ⊢ <;> exact hm.1
    · exact hm
  · split
    · refine key _ fun sl hsl hm => ?_
      obtain ⟨m, h1⟩ := List.mem_iff_getElem?.1 hsl
      rw [List.getElem?_modify] at h1
      obtain ⟨sl', h2, rfl⟩ := Option.map_eq_some_iff.1 h1
      refine h.1 sl' (List.mem_of_getElem? h2) ?_
      split at hm
      · cases sl' <;> first | exact hm | (simp [Slot.addRefs, Slot.refs] at hm ⊢; exact hm)
      · exact hm
    · exact h

/-- R72: taking references makes no mark. -/
theorem takeReferences_unmarked (s : State) (t : Template) (b page cell : Nat) (h : s.unmarked page cell) :
    (s.takeReferences t b).unmarked page cell := by
  have step : ∀ (u : State) (i : Nat), u.unmarked page cell → (u.takeCell t i).unmarked page cell := by
    intro u i hu
    unfold State.takeCell
    split
    · exact hu
    · split
      · exact hu
      · split
        · exact hu
        · split
          · refine countComposing_unmarked _ _ _ _ _ _ ?_
            unfold State.modifyCell
            split
            · exact hu
            · exact hu
          · exact hu
  unfold State.takeReferences
  split
  · exact h
  · rename_i x _
    have key : ∀ (l : List Nat) (u : State), u.unmarked page cell →
        (l.foldl (fun st i => State.takeCell st t i) u).unmarked page cell := by
      intro l
      induction l with
      | nil => exact fun u hu => hu
      | cons i l ih => exact fun u hu => ih _ (step u i hu)
    exact key _ _ h

end Sys2Proof.Laws
end

