-- ==== Sys2Proof/Laws/Closing.lean ====
section
/-! SUPPORT. What asking for closing frames does (R47, R137, R162): the frame waits or is queued, no frame asked for
earlier is lost, and a recovery awaits each page it asks for. -/

namespace Sys2Proof.Laws

open Sys2Proof Sys2Proof.Machine

set_option linter.all false

/-- The frame closes this page and no other. -/
def closesOnly (f : Frame) (page : Nat) : Prop := ∀ q, f.closes q = true ↔ q = page

theorem closesOnly_release (page : Nat) : closesOnly (.release page) page := by
  intro q; simp [Frame.closes, eq_comm]

theorem closesOnly_fail (page cause : Nat) : closesOnly (.fail page cause) page := by
  intro q; simp [Frame.closes, eq_comm]

theorem closesOnly_done (page edition : Nat) : closesOnly (.done page edition) page := by
  intro q; simp [Frame.closes, eq_comm]

theorem closesOnly_linkClosing (cause : Cause) (named : Option Nat) (page : Nat) :
    closesOnly (linkClosing cause named page) page := by
  unfold linkClosing; split
  · exact closesOnly_fail _ _
  · exact closesOnly_release _

/-- R47: what asking for one closing frame does. -/
theorem askClosing_spec (s : State) (f : Frame) (page : Nat) (hf : closesOnly f page) :
    (s.askClosing f page).closing page = true ∧ (s.closing page = false → (s.askClosing f page).asked f) ∧
    (∀ g, s.asked g → (s.askClosing f page).asked g) ∧
    (∀ q, q ≠ page → (s.askClosing f page).closing q = s.closing q) := by
  have hp : f.closes page = true := (hf page).2 rfl
  have hq : ∀ q, q ≠ page → f.closes q = false := by
    intro q h; cases hc : f.closes q with
    | false => rfl
    | true => exact absurd ((hf q).1 hc) h
  unfold State.askClosing
  split
  · rename_i h
    exact ⟨h, (fun h' => by rw [h] at h'; cases h'), fun _ => id, fun _ _ => rfl⟩
  · split
    · refine ⟨?_, ?_, ?_, ?_⟩
      · simp [State.closing, State.enqueue, State.setPort, TxBody.closes, hp]
      · intro _; right; exact ⟨_, by simp [State.enqueue, State.setPort]; right; rfl, rfl⟩
      · rintro g (h | ⟨x, hx, hb⟩)
        · exact .inl h
        · exact .inr ⟨x, by simp [State.enqueue, State.setPort, hx], hb⟩
      · intro q h
        simp [State.closing, State.enqueue, State.setPort, TxBody.closes, hq q h]
    · refine ⟨?_, ?_, ?_, ?_⟩
      · simp [State.closing, State.setClaims, hp]
      · intro _; left; simp [State.setClaims]
      · rintro g (h | h)
        · left; simp [State.setClaims, h]
        · exact .inr h
      · intro q h
        simp [State.closing, State.setClaims, hq q h]

/-- R162: the same of a frame whose page the recovery awaits. -/
theorem awaitClose_spec (s : State) (f : Frame) (page : Nat) (hf : closesOnly f page) :
    (s.awaitClose f page).closing page = true ∧ (s.closing page = false → (s.awaitClose f page).asked f) ∧
    (∀ g, s.asked g → (s.awaitClose f page).asked g) ∧
    (∀ q, q ≠ page → (s.awaitClose f page).closing q = s.closing q) ∧
    (s.awaitClose f page).fault.awaited =
      if page ∈ s.fault.awaited then s.fault.awaited else s.fault.awaited ++ [page] := by
  obtain ⟨h1, h2, h3, h4⟩ := askClosing_spec s f page hf
  have ha : (s.askClosing f page).fault = s.fault := by
    unfold State.askClosing; (repeat' split) <;> rfl
  unfold State.awaitClose
  simp only [ha, List.contains_iff_mem]
  split
  · exact ⟨h1, h2, h3, h4, by rw [ha]⟩
  · exact ⟨h1, h2, h3, h4, rfl⟩

/-- R162 to R164: what a recovery does that asks for the closing frames of a list of entries of different pages. -/
theorem awaitAll_spec (f : WorkEntry → Frame) (hf : ∀ w, closesOnly (f w) w.page) :
    ∀ (l : List WorkEntry) (s : State), (l.map (fun w => w.page)).Nodup →
      (∀ w ∈ l, w.page ∉ s.fault.awaited) →
      let t := l.foldl (fun st e => State.awaitClose st (f e) e.page) s
      t.fault.awaited = s.fault.awaited ++ l.map (fun w => w.page) ∧
      (∀ g, s.asked g → t.asked g) ∧
      (∀ q, (∀ w ∈ l, w.page ≠ q) → t.closing q = s.closing q) ∧
      ∀ w ∈ l, t.closing w.page = true ∧ (s.closing w.page = false → t.asked (f w)) := by
  intro l
  induction l with
  | nil => intro s _ _; simp
  | cons e rest ih =>
    intro s hn ha
    rw [List.map_cons, List.nodup_cons] at hn
    obtain ⟨h1, h2, h3, h4, h5⟩ := awaitClose_spec s (f e) e.page (hf e)
    rw [if_neg (ha e (by simp))] at h5
    have hne : ∀ w ∈ rest, w.page ≠ e.page := by
      intro w hw h; exact hn.1 (by rw [← h]; exact List.mem_map_of_mem hw)
    obtain ⟨k1, k2, k3, k4⟩ := ih (s.awaitClose (f e) e.page) hn.2 (by
      intro w hw; rw [h5]; simp only [List.mem_append, List.mem_singleton, not_or]
      exact ⟨ha w (by simp [hw]), hne w hw⟩)
    refine ⟨?_, ?_, ?_, ?_⟩
    · simp only [List.foldl_cons, k1, h5]; simp
    · intro g hg; exact k2 g (h3 g hg)
    · intro q hq
      rw [List.foldl_cons, k3 q (fun w hw => hq w (by simp [hw])), h4 q (fun h => hq e (by simp) h.symm)]
    · intro w hw
      rcases List.mem_cons.1 hw with rfl | hw
      · refine ⟨?_, fun hc => k2 _ (h2 hc)⟩
        rw [List.foldl_cons, k3 w.page (fun v hv => hne v hv)]; exact h1
      · obtain ⟨a, b⟩ := k4 w hw
        refine ⟨a, fun hc => b ?_⟩
        rw [h4 _ (hne w hw)]; exact hc

end Sys2Proof.Laws
end

