-- ==== Sys2Proof/Laws/Collecting.lean ====
section
/-! SUPPORT. What a frame comes to at a station that collects a run: when a frame is kept, what an abandonment does,
and what a frame does at a station with neither a replica nor a collection (R152, R153). -/

namespace Sys2Proof.Laws

open Sys2Proof Sys2Proof.Machine

set_option linter.all false

/-! ## Halting and abandoning (R153, R159, R166) -/

/-- R159, R166: what a halt leaves of the Station Controller. -/
theorem halt_ctl (s : State) (h : s.ctl.state ≠ .halted) :
    s.halt.ctl.state = .halted ∧ s.halt.ctl.syncTimer = none ∧ s.halt.ctl.collection = none := by
  have e : ∀ u : State, u.enterHalted.ctl.state = .halted ∧ u.enterHalted.ctl.syncTimer = none ∧
      u.enterHalted.ctl.collection = none := by
    intro u
    unfold State.enterHalted
    dsimp only
    split <;> simp
  have r : ∀ u : State, (if u.fault.phase = .held then u.repeatFaultReport else u).ctl = u.ctl := by
    intro u
    split <;> simp
  unfold State.halt
  rw [if_neg h]
  dsimp only
  rw [r]
  exact e _

/-- R159, R161: a halting cause halts the station and leaves the lane. -/
theorem raise_halts (s : State) (c : Cause) (p k : Option Nat) (d : Nat) (hc : c.halting = true)
    (h : s.ctl.state ≠ .halted) :
    (s.raise c p k d).ctl.state = .halted ∧ (s.raise c p k d).ctl.syncTimer = none ∧
    (s.raise c p k d).ctl.collection = none ∧ (s.raise c p k d).lane = s.lane := by
  have key : ∀ u : State, u.ctl = s.ctl → u.lane = s.lane → u.halt.ctl.state = .halted ∧
      u.halt.ctl.syncTimer = none ∧ u.halt.ctl.collection = none ∧ u.halt.lane = s.lane := by
    intro u hu hl
    obtain ⟨a, b, e⟩ := halt_ctl u (by rw [hu]; exact h)
    exact ⟨a, b, e, by simp [hl]⟩
  unfold State.raise
  split
  · simp only [State.recover, hc, if_true, tryEnd_frame]
    exact key _ (by simp) (by simp)
  · simp only [State.followOnActs, hc, if_true, tryEnd_frame]
    exact key _ (by simp) (by simp)

/-- R149: the station's ASK is queued or waits once it has been offered. -/
theorem offerAsk_hasAsk (s : State) : s.offerAsk.hasAsk = true := by
  unfold State.offerAsk
  split
  · assumption
  · rw [offerCtl_eq]
    split
    · simp [State.hasAsk, State.enqueue, State.setPort, State.ctlBody, TxBody.isAsk]
    · simp [State.hasAsk, State.setCtl]

/-- R153: what an abandonment does at a SYNCING station: below 3 it asks again, at 3 it halts with SYNC_FAILED. -/
theorem abandon_spec (s : State) (case : Nat) (hs : s.ctl.state = .syncing) :
    (s.abandon case).ctl.collection = none ∧
    (s.abandon case).ctl.abandoned = min (s.ctl.abandoned + 1) 3 ∧ (s.abandon case).lane = s.lane ∧
    (s.ctl.abandoned < 2 → (s.abandon case).ctl.state = .syncing ∧
      (s.abandon case).ctl.syncTimer = some (2 * s.leaseMs) ∧ (s.abandon case).fault = s.fault ∧
      (s.abandon case).hasAsk = true) ∧
    (2 ≤ s.ctl.abandoned → (s.abandon case).ctl.state = .halted ∧ (s.abandon case).ctl.syncTimer = none ∧
      (s.fault.phase = .clear →
        (s.abandon case).fault.record = some (s.fault.first .syncFailed none none none case))) := by
  have hb : ∀ u : State, u.bandOf none = none := by intro u; unfold State.bandOf; split <;> rfl
  unfold State.abandon
  dsimp only
  by_cases ha : s.ctl.abandoned < 2
  · have : ¬ min (s.ctl.abandoned + 1) 3 = 3 := by omega
    simp only [Config.abandonLimit, this, if_false]
    refine ⟨by simp [State.startSync], by simp [State.startSync], by simp [State.startSync], fun _ => ?_,
      fun h => absurd h (by omega)⟩
    refine ⟨by simp [State.startSync, hs], by simp [State.startSync, State.leaseMs], by simp [State.startSync],
      offerAsk_hasAsk _⟩
  · have : min (s.ctl.abandoned + 1) 3 = 3 := by omega
    simp only [Config.abandonLimit, this, if_true]
    obtain ⟨a, b, e, f⟩ := raise_halts (s.setCtl { s.ctl with collection := none, abandoned := 3 }) .syncFailed none none
      case rfl (by simp [hs])
    refine ⟨e, by simp, by simpa using f, fun h => absurd h ha, fun _ => ⟨a, b, fun hp => ?_⟩⟩
    simpa [hb] using (raise_clear (s.setCtl { s.ctl with collection := none, abandoned := 3 }) .syncFailed none none
      case (by simpa using hp)).1

/-! ## Which frames are kept (R152, R180) -/

theorem readEntry_none_iff (b0 b1 n0 n1 p0 p1 b6 : Byte) :
    readEntry b0 b1 n0 n1 p0 p1 b6 = none ↔ entryOutOfRange b0 p0 p1 b6 := by
  unfold readEntry entryOutOfRange
  dsimp only
  split
  · simp_all
  · simp_all

/-- R180: a whole number of entries is refused when one of them is out of range. -/
theorem readEntries_none_iff (m : Nat) (bs : List Byte) (h : bs.length = 7 * m) :
    readEntries bs = none ↔ entriesOutOfRange bs := by
  induction m generalizing bs with
  | zero =>
    obtain rfl : bs = [] := List.length_eq_zero_iff.mp (by omega)
    simp [readEntries, entriesOutOfRange]
  | succ m ih =>
    match bs, h with
    | b0 :: b1 :: n0 :: n1 :: p0 :: p1 :: b6 :: rest, h =>
      have hr := ih rest (by simp at h; omega)
      have step : readEntries (b0 :: b1 :: n0 :: n1 :: p0 :: p1 :: b6 :: rest) = none ↔
          readEntry b0 b1 n0 n1 p0 p1 b6 = none ∨ readEntries rest = none := by
        rw [readEntries]
        cases readEntry b0 b1 n0 n1 p0 p1 b6 <;> cases readEntries rest <;> simp
      rw [step, hr, readEntry_none_iff]
      constructor
      · rintro (h | ⟨j, w⟩)
        · exact ⟨0, b0, b1, n0, n1, p0, p1, b6, rfl, h⟩
        · exact ⟨j + 1, by simpa [Nat.mul_add] using w⟩
      · rintro ⟨j, w⟩
        cases j with
        | zero =>
          obtain ⟨c0, c1, m0, m1, q0, q1, c6, e, w⟩ := w
          simp only [Nat.mul_zero, List.drop_zero, List.take_succ_cons, List.take_zero, List.cons.injEq] at e
          obtain ⟨rfl, rfl, rfl, rfl, rfl, rfl, rfl, -⟩ := e
          exact Or.inl w
        | succ j => exact Or.inr ⟨j, by simpa [Nat.mul_add] using w⟩

/-- R152: a SNAP_PAGES frame is not kept. -/
theorem keepPages_none_iff (c : Collection) (own requester index : Nat) (bs : List Byte) :
    c.keepPages own requester index bs = none ↔
      requester ≠ own ∨ index ≠ c.pageFrames ∨ (c.pages + 7) / 8 ≤ c.pageFrames ∨
      bs.length ≠ 7 * min 8 (c.pages - 8 * index) ∨ entriesOutOfRange bs := by
  unfold Collection.keepPages Collection.pagesExpected ceilDiv
  by_cases hl : bs.length = 7 * min 8 (c.pages - 8 * index)
  · rw [← readEntries_none_iff _ bs hl]
    split
    · simp_all
    · simp_all
      omega
  · simp [hl]

/-- R152: a SNAP_AMEND frame is not kept. -/
theorem keepAmend_none_iff (c : Collection) (own requester index : Nat) (b : AmendBody) :
    c.keepAmend own requester index b = none ↔
      requester ≠ own ∨ c.pageFrames ≠ (c.pages + 7) / 8 ∨ index ≠ c.amendFrames ∨ c.records ≤ c.amendFrames ∨
      4 ≤ b.batch ∨ c.batchStates.testBit b.batch = false ∨ readPayload b.kind b.payload = none ∨
      ∃ p, readPayload b.kind b.payload = some p ∧
        ∃ a ∈ c.kept, a.batch = b.batch ∧ a.subject = b.subject ∧ a.payload.kind = p.kind := by
  unfold Collection.keepAmend
  cases hp : readPayload b.kind b.payload with
  | none => simp
  | some p =>
    dsimp only
    rw [ite_eq_right_iff]
    simp only [Collection.pagesExpected, ceilDiv, Config.batchCount, reduceCtorEq, imp_false, List.any_eq_false, Amendment.sameKey, Bool.and_eq_true, decide_eq_true_eq]
    constructor
    · intro h
      apply Classical.byContradiction
      intro g
      simp only [not_or, not_exists, not_and] at g
      obtain ⟨g1, g2, g3, g4, g5, g6, -, g7⟩ := g
      exact h ⟨Decidable.not_not.mp g1, Decidable.not_not.mp g2, Decidable.not_not.mp g3, by omega, by omega,
        by simpa using g6, fun a ha w => g7 p rfl a ha w.1.1 w.1.2 w.2⟩
    · rintro g h
      rcases g with g | g | g | g | g | g | g | ⟨q, g, a, ha, g1, g2, g3⟩
      · exact g h.1
      · exact g h.2.1
      · exact g h.2.2.1
      · exact absurd h.2.2.2.1 (by omega)
      · exact absurd h.2.2.2.2.1 (by omega)
      · exact absurd (h.2.2.2.2.2.1.symm.trans g) (by decide)
      · cases g
      · cases g
        exact h.2.2.2.2.2.2 a ha ⟨⟨g1, g2⟩, g3⟩

/-- R152: some batch marked OPEN holds none of the records. -/
theorem unmet_iff (c : Collection) : c.unmet c.kept ↔ c.batchesMet = false := by
  unfold Collection.unmet Collection.batchesMet batchOpen batchOf
  simp only [List.all_eq_false, List.mem_range, Config.batchCount]
  refine exists_congr fun b => and_congr_right fun _ => ?_
  cases c.batchStates.testBit b <;> simp

/-- R152: the expected number of frames has been kept. -/
theorem full_iff (c : Collection) (identity : Option Id32) :
    c.full identity = true ↔
      identity ≠ some c.identity ∨ (c.pageFrames = (c.pages + 7) / 8 ∧ c.amendFrames = c.records) := by
  have e : c.pagesExpected = (c.pages + 7) / 8 := rfl
  simp [Collection.full, e]

/-- R152: advancing with a kept frame that is not the last, the run being over, abandons the collection in case 1. -/
theorem advance_early (s : State) (c : Collection) (hi : s.roster.identity = some c.identity)
    (hn : ¬ (c.pageFrames = (c.pages + 7) / 8 ∧ c.amendFrames = c.records)) (hr : s.port.run = none) :
    s.advance c = s.abandon 1 := by
  unfold State.advance
  rw [if_neg (by rw [full_iff]; tauto), if_pos (by rw [hr]; rfl)]

/-- R152: at the last frame a batch marked OPEN without a record makes it unexpected. -/
theorem advance_unmet (s : State) (c : Collection) (hi : s.roster.identity = some c.identity)
    (hl : c.pageFrames = (c.pages + 7) / 8 ∧ c.amendFrames = c.records) (hu : c.unmet c.kept) :
    s.advance c = s.unexpected := by
  unfold State.advance
  rw [if_pos ((full_iff _ _).mpr (Or.inr hl)), if_pos (by simp [hi, (unmet_iff c).mp hu])]

/-- R152: with every OPEN batch met, the last frame of a run is judged. -/
theorem advance_judged (s : State) (c : Collection)
    (hl : c.pageFrames = (c.pages + 7) / 8 ∧ c.amendFrames = c.records) (hu : ¬ c.unmet c.kept) :
    s.advance c = s.judgeCollection c := by
  rw [unmet_iff, Bool.not_eq_false] at hu
  unfold State.advance
  rw [if_pos ((full_iff _ _).mpr (Or.inr hl)), if_neg (by simp [hu])]

/-- R152, R153: what a SNAP_PAGES of the responder comes to while it does not complete the run. -/
theorem pagesFrame_spec (s : State) (c : Collection) (requester k : Nat) (es : List Byte)
    (hc : s.ctl.collection = some c) :
    (s.unexpectedAt c (.snapPages requester k es) → s.pagesFrame requester k es = s.unexpected) ∧
    (¬ s.unexpectedAt c (.snapPages requester k es) → ¬ c.lastIs (.snapPages requester k es) →
      s.roster.identity = some c.identity → s.port.run = none → s.pagesFrame requester k es = s.abandon 1) := by
  have hk := keepPages_none_iff c s.straps.station requester k es
  have kept : ∀ d, c.keepPages s.straps.station requester k es = some d →
      ∃ xs, d = { c with pageFrames := c.pageFrames + 1, entries := c.entries ++ xs } := by
    intro d hd
    unfold Collection.keepPages at hd
    split at hd
    · obtain ⟨xs, -, rfl⟩ := Option.map_eq_some_iff.mp hd
      exact ⟨xs, rfl⟩
    · cases hd
  simp only [State.pagesFrame, hc]
  cases hd : c.keepPages s.straps.station requester k es with
  | none => exact ⟨fun _ => rfl, fun h => absurd (by have := hk.mp hd; unfold State.unexpectedAt; tauto) h⟩
  | some d =>
    obtain ⟨xs, rfl⟩ := kept d hd
    have hn : ¬ _ := fun w => by have := hk.mpr w; rw [hd] at this; cases this
    refine ⟨fun h => ?_, fun _ hl hi hr => ?_⟩
    · obtain ⟨hl, hi, hu⟩ : c.lastIs (.snapPages requester k es) ∧ s.roster.identity = some c.identity ∧
          c.unmet c.kept := by unfold State.unexpectedAt at h; tauto
      exact advance_unmet s _ hi hl hu
    · exact advance_early s _ hi hl hr

/-- R152, R153: what a SNAP_AMEND of the responder comes to while it does not complete the run. -/
theorem snapAmendFrame_spec (s : State) (c : Collection) (requester k : Nat) (b : AmendBody)
    (hc : s.ctl.collection = some c) :
    (s.unexpectedAt c (.snapAmend requester k b) → s.snapAmendFrame requester k b = s.unexpected) ∧
    (¬ s.unexpectedAt c (.snapAmend requester k b) → ¬ c.lastIs (.snapAmend requester k b) →
      s.roster.identity = some c.identity → s.port.run = none → s.snapAmendFrame requester k b = s.abandon 1) := by
  have hk := keepAmend_none_iff c s.straps.station requester k b
  have kept : ∀ d, c.keepAmend s.straps.station requester k b = some d →
      ∃ p, readPayload b.kind b.payload = some p ∧ d = { c with
        amendFrames := c.amendFrames + 1,
        kept := c.kept ++ [{ batch := b.batch, subject := b.subject, payload := p }] } := by
    intro d hd
    unfold Collection.keepAmend at hd
    cases hp : readPayload b.kind b.payload with
    | none => simp [hp] at hd
    | some p =>
      simp only [hp] at hd
      split at hd
      · exact ⟨p, rfl, (Option.some.inj hd).symm⟩
      · cases hd
  simp only [State.snapAmendFrame, hc]
  cases hd : c.keepAmend s.straps.station requester k b with
  | none =>
    refine ⟨fun _ => rfl, fun h => absurd ?_ h⟩
    have := hk.mp hd
    unfold State.unexpectedAt
    rcases this with w | w | w | w | w | w | w | ⟨p, hp, w⟩
    · exact Or.inl w
    · exact Or.inr (Or.inl w)
    · exact Or.inr (Or.inr (Or.inl w))
    · exact Or.inr (Or.inr (Or.inr (Or.inl w)))
    · exact Or.inr (Or.inr (Or.inr (Or.inr (Or.inl w))))
    · exact Or.inr (Or.inr (Or.inr (Or.inr (Or.inr (Or.inl w)))))
    · exact Or.inr (Or.inr (Or.inr (Or.inr (Or.inr (Or.inr (Or.inl w))))))
    · exact Or.inr (Or.inr (Or.inr (Or.inr (Or.inr (Or.inr (Or.inr ⟨p, hp, Or.inl w⟩))))))
  | some d =>
    obtain ⟨p, hp, rfl⟩ := kept d hd
    have hn : ¬ _ := fun w => by have := hk.mpr w; rw [hd] at this; cases this
    refine ⟨fun h => ?_, fun _ hl hi hr => advance_early s _ hi hl hr⟩
    obtain ⟨hl, hi, hu⟩ : c.lastIs (.snapAmend requester k b) ∧ s.roster.identity = some c.identity ∧
        c.unmet (c.kept ++ [{ batch := b.batch, subject := b.subject, payload := p }]) := by
      simp only [not_or] at hn
      obtain ⟨n1, n2, n3, n4, n5, n6, n7, n8⟩ := hn
      unfold State.unexpectedAt at h
      rcases h with w | w | w | w | w | w | w | ⟨q, hq, w | w⟩
      · exact absurd w n1
      · exact absurd w n2
      · exact absurd w n3
      · exact absurd w n4
      · exact absurd w n5
      · exact absurd w n6
      · exact absurd w n7
      · exact absurd ⟨q, hq, w⟩ n8
      · obtain rfl : p = q := Option.some.inj (hp.symm.trans hq)
        exact w
    exact advance_unmet s _ hi hl hu

/-! ## Judging (R154) -/

/-- R154, R155: judging leaves nothing collected, the roster and the lane. -/
theorem judgeCollection_keeps (s : State) (c : Collection) (hs : s.ctl.state = .syncing) :
    (s.judgeCollection c).ctl.collection = none ∧ (s.judgeCollection c).roster = s.roster ∧
    (s.judgeCollection c).lane = s.lane := by
  have hr : ∀ cause d, Cause.halting cause = true →
      ((s.setCtl { s.ctl with collection := none }).raise cause none none d).ctl.collection = none ∧
      ((s.setCtl { s.ctl with collection := none }).raise cause none none d).roster = s.roster ∧
      ((s.setCtl { s.ctl with collection := none }).raise cause none none d).lane = s.lane := by
    intro cause d hc
    obtain ⟨-, -, a, b⟩ := raise_halts (s.setCtl { s.ctl with collection := none }) cause none none d hc (by simp [hs])
    exact ⟨a, by simp, by simpa using b⟩
  unfold State.judgeCollection
  dsimp only
  split
  · exact hr _ _ rfl
  split
  · exact hr _ _ rfl
  split
  · exact hr _ _ rfl
  split
  · split
    · simp [State.reaskPlan]
    · exact hr _ _ rfl
  · simp [State.install]

/-- R154: a run of this plan that is judged and not installed. -/
theorem judgeCollection_turnsDown (s : State) (c : Collection) (hs : s.ctl.state = .syncing)
    (hi : s.roster.identity = some c.identity) (hr : s.board.replica = none) :
    s.turnsDown c (s.judgeCollection c) := by
  obtain ⟨a, b, -⟩ := judgeCollection_keeps s c hs
  refine ⟨a, b, ?_, ?_⟩
  · have hb : ∀ u : State, u.bandOf none = none := by intro u; unfold State.bandOf; split <;> rfl
    have key : ∀ cause d, Cause.halting cause = true → s.fault.phase = .clear →
        let t := (s.setCtl { s.ctl with collection := none }).raise cause none none d
        t.ctl.state = .halted ∧ t.board.replica = none ∧
        t.fault.record = some (s.fault.first cause none none none d) := by
      intro cause d hc hp
      obtain ⟨x, -, -, -⟩ := raise_halts (s.setCtl { s.ctl with collection := none }) cause none none d hc (by simp [hs])
      refine ⟨x, by simpa using hr, ?_⟩
      simpa [hb] using (raise_clear (s.setCtl { s.ctl with collection := none }) cause none none d (by simpa using hp)).1
    intro cause detail hp hcase
    unfold State.judgeCollection
    dsimp only
    rw [if_neg (by rw [hi]; exact fun z => z rfl)]
    rcases hcase with ⟨rfl, rfl, h⟩ | ⟨rfl, rfl, h, h'⟩ | ⟨rfl, rfl, h, h', h''⟩
    · rw [if_pos h]
      exact key _ _ rfl hp
    · rw [if_neg (fun z => z h), if_pos h']
      exact key _ _ rfl hp
    · rw [if_neg (fun z => z h), if_neg (by omega), if_pos h', if_neg (by simp only [Config.reaskLimit]; omega)]
      exact key _ _ rfl hp
  · intro h h' h''
    unfold State.judgeCollection
    dsimp only
    rw [if_neg (by rw [hi]; exact fun z => z rfl), if_neg (fun z => z h), if_neg (by omega), if_pos h',
      if_pos (by simp only [Config.reaskLimit]; omega)]
    simp [State.reaskPlan, emit_link, hi]

/-! ## Frames at a station without a replica (R23, R49) -/

/-- R23, R49: while the replica is ABSENT no frame of the board or the store does anything, but the station's own LEAVE and
another's JOIN. -/
theorem frames_absent (s : State) (h : FrameHdr) (hr : s.board.replica = none) :
    (∀ page st, s.claimFrame h page st = s) ∧ (∀ page, s.renewFrame h page = s) ∧
    (∀ page holder mark, s.lapseFrame h page holder mark = s) ∧ (∀ page edition, s.doneFrame h page edition = s) ∧
    (∀ page, s.releaseFrame h page = s) ∧ (∀ page cause, s.failFrame h page cause = s) ∧
    (∀ st identity, s.joinFrame h st identity = if s.isOwn h then s else s.joinHeard identity) ∧
    (∀ st, s.leaveFrame h st = if s.isOwn h then s.leaveOwn else s) ∧
    (∀ b, s.amendFrame h b = s) ∧ (∀ b, s.launchFrame h b = s) ∧ ∀ b, s.dropFrame h b = s := by
  have hf : ∀ f, s.boardFate h.sender f = .ignored := by intro f; simp [State.boardFate, hr]
  have hb : ∀ f, s.boardFrame h.sender f = s := by intro f; simp [State.boardFrame, hr]
  have hc : s.reviewComplete = s := by simp [State.reviewComplete, hr]
  refine ⟨?_, ?_, ?_, ?_, ?_, ?_, ?_, ?_, ?_, ?_, ?_⟩ <;> intros
  · simp [State.claimFrame, hf, hb, hc]
  · simp [State.renewFrame, hb, hc]
  · simp [State.lapseFrame, hf, hb]
  · simp [State.doneFrame, hf, hb, hc]
  · simp [State.releaseFrame, hf, hb, hc]
  · simp [State.failFrame, hf, hb, hc]
  · simp [State.joinFrame, hf, hb, hc, State.joinOwn]
  · simp [State.leaveFrame, hb, hc]
  · simp [State.amendFrame, hr]
  · simp [State.launchFrame, hr]
  · simp [State.dropFrame, hr]

/-- R162: with the phase CLEAR there is no recovery to end. -/
theorem tryEnd_clear (s : State) (h : s.fault.phase = .clear) : s.tryEnd = s := by
  unfold State.tryEnd
  rw [if_neg]
  rintro ⟨x, -⟩
  rw [h] at x
  cases x

/-- R32, R138: the station's own LEAVE keeps its ASK, the phase being CLEAR. -/
theorem leaveOwn_asks (t : State) (hp : t.fault.phase = .clear) : t.leaveOwn.hasAsk = t.hasAsk := by
  have hd : t.dropReplica.hasAsk = t.hasAsk := by
    unfold State.dropReplica State.relayUnsent
    split
    · dsimp only
      refine Eq.trans ?_ (withdraw_asks _ TxBody.isRelayed (fun b hb => by
        cases b <;> rename_i f <;> cases f <;> simp_all [TxBody.isAsk, TxBody.isRelayed])).1
      simp [State.hasAsk] <;> rfl
    · rfl
  unfold State.leaveOwn
  dsimp only
  rw [tryEnd_clear]
  · show (t.dropReplica.dropWork.withdraw TxBody.isClosing).hasAsk = _
    refine Eq.trans (withdraw_asks _ TxBody.isClosing (fun b hb => by
        cases b <;> rename_i f <;> cases f <;> simp_all [TxBody.isAsk, TxBody.isClosing])).1 ?_
    refine Eq.trans ?_ hd
    unfold State.dropWork
    dsimp only
    refine Eq.trans ?_ (withdraw_asks (t.dropReplica.setClaims { t.dropReplica.claims with work := [], waiting := [] })
      (fun b => match b with | .frame (.renew _) => true | _ => false) (fun b hb => by
        cases b <;> rename_i f <;> cases f <;> simp_all [TxBody.isAsk])).1
    simp [State.hasAsk] <;> rfl
  · simp [hp]

/-- R32, R166: the station's own LEAVE changes no fault that is CLEAR and awaits nothing. -/
theorem leaveOwn_fault (t : State) (hp : t.fault.phase = .clear) (hh : t.fault.haltStep = false)
    (ha : t.fault.awaited = []) : t.leaveOwn.fault = t.fault := by
  unfold State.leaveOwn
  dsimp only
  rw [tryEnd_clear _ (by simp [hp])]
  simp [State.dropWork]
  cases hf : t.fault
  simp_all

/-- R32, R49: the station's own LEAVE empties the store. -/
theorem leaveOwn_pool (t : State) : t.leaveOwn.pool = [] := by
  simp [State.leaveOwn, State.dropReplica]

/-- R150: withdrawing a waiting run keeps the station's ASK. -/
theorem withdrawRun_asks (t : State) (a b : Nat) : (t.withdrawRun a b).hasAsk = t.hasAsk := by
  unfold State.withdrawRun
  split
  · have := (withdraw_asks t (TxBody.runFor b) (fun x hx => by
        cases x <;> rename_i f <;> simp_all [TxBody.isAsk, TxBody.runFor])).1
    refine Eq.trans ?_ this
    simp [State.hasAsk, CtlItem.runFor]
  · rfl

end Sys2Proof.Laws
end

