-- ==== Sys2Proof/Laws/PerInstr.lean ====
section
/-! SUPPORT. A statement about every command: a well-formed one that carries a hall frame carries one whose
sender is a station number and whose payload the length field can announce (R131). -/

namespace Sys2Proof.Laws.FieldsFit

open Sys2Proof Sys2Proof.Machine

set_option linter.all false

/-- The hall frame of a well-formed command fits the fields of R131. -/
def Statement (i : Instr) : Prop :=
  i.wf = true → ∀ h f, frameOf i = some (h, f) → h.sender < 16 ∧ f.payload.length ≤ 64

theorem coldReset : ∀ station rate, Statement (.coldReset station rate) := by
  intro station rate _ _ _ hf
  cases hf

theorem restart : Statement .restart := by
  intro _ _ _ hf
  cases hf

theorem setup : ∀ lease depth fetch, Statement (.setup lease depth fetch) := by
  intro lease depth fetch _ _ _ hf
  cases hf

theorem planHead : ∀ head, Statement (.planHead head) := by
  intro head _ _ _ hf
  cases hf

theorem planTemplate : ∀ t, Statement (.planTemplate t) := by
  intro t _ _ _ hf
  cases hf

theorem planSection : ∀ x, Statement (.planSection x) := by
  intro x _ _ _ hf
  cases hf

theorem planPage : ∀ p, Statement (.planPage p) := by
  intro p _ _ _ hf
  cases hf

theorem planSubject : ∀ j, Statement (.planSubject j) := by
  intro j _ _ _ hf
  cases hf

theorem planEnd : Statement .planEnd := by
  intro _ _ _ hf
  cases hf

theorem portraitHead : ∀ tag portrait width height, Statement (.portraitHead tag portrait width height) := by
  intro tag portrait width height _ _ _ hf
  cases hf

theorem portraitData : ∀ tag raster, Statement (.portraitData tag raster) := by
  intro tag raster _ _ _ hf
  cases hf

theorem portraitEnd : ∀ tag crc, Statement (.portraitEnd tag crc) := by
  intro tag crc _ _ _ hf
  cases hf

theorem portraitAbsent : ∀ tag portrait, Statement (.portraitAbsent tag portrait) := by
  intro tag portrait _ _ _ hf
  cases hf

theorem amendIn : ∀ body, Statement (.amendIn body) := by
  intro body _ _ _ hf
  cases hf

theorem launchIn : ∀ batch, Statement (.launchIn batch) := by
  intro batch _ _ _ hf
  cases hf

theorem dropIn : ∀ batch, Statement (.dropIn batch) := by
  intro batch _ _ _ hf
  cases hf

theorem faultAck : ∀ serial, Statement (.faultAck serial) := by
  intro serial _ _ _ hf
  cases hf

theorem statusAsk : ∀ request, Statement (.statusAsk request) := by
  intro request _ _ _ hf
  cases hf

theorem badInboundRecord : ∀ bytes, Statement (.badInboundRecord bytes) := by
  intro bytes _ _ _ hf
  cases hf

theorem outboundKindRecord : ∀ kind, Statement (.outboundKindRecord kind) := by
  intro kind _ _ _ hf
  cases hf

theorem silenceTimerExpiry : Statement .silenceTimerExpiry := by
  intro _ _ _ hf
  cases hf

theorem outboundRecordSent : Statement .outboundRecordSent := by
  intro _ _ _ hf
  cases hf

theorem frameStart : ∀ others, Statement (.frameStart others) := by
  intro others _ _ _ hf
  cases hf

theorem runNextFrame : ∀ others, Statement (.runNextFrame others) := by
  intro others _ _ _ hf
  cases hf

theorem frameVetoed : ∀ x, Statement (.frameVetoed x) := by
  intro x _ _ _ hf
  cases hf

theorem runIdleEnd : Statement .runIdleEnd := by
  intro _ _ _ hf
  cases hf

theorem claim : ∀ h page claimant, Statement (.claim h page claimant) := by
  intro h page claimant hw h' f' hf
  cases hf
  simp_all [Instr.wf, FrameHdr.wf, AmendBody.wf, entriesWf, Frame.payload, AmendBody.bytes, bytes2, bytes4]
  try omega

theorem renew : ∀ h page, Statement (.renew h page) := by
  intro h page hw h' f' hf
  cases hf
  simp_all [Instr.wf, FrameHdr.wf, AmendBody.wf, entriesWf, Frame.payload, AmendBody.bytes, bytes2, bytes4]
  try omega

theorem lapse : ∀ h page holder mark, Statement (.lapse h page holder mark) := by
  intro h page holder mark hw h' f' hf
  cases hf
  simp_all [Instr.wf, FrameHdr.wf, AmendBody.wf, entriesWf, Frame.payload, AmendBody.bytes, bytes2, bytes4]
  try omega

theorem done : ∀ h page edition, Statement (.done h page edition) := by
  intro h page edition hw h' f' hf
  cases hf
  simp_all [Instr.wf, FrameHdr.wf, AmendBody.wf, entriesWf, Frame.payload, AmendBody.bytes, bytes2, bytes4]
  try omega

theorem release : ∀ h page, Statement (.release h page) := by
  intro h page hw h' f' hf
  cases hf
  simp_all [Instr.wf, FrameHdr.wf, AmendBody.wf, entriesWf, Frame.payload, AmendBody.bytes, bytes2, bytes4]
  try omega

theorem fail : ∀ h page cause, Statement (.fail h page cause) := by
  intro h page cause hw h' f' hf
  cases hf
  simp_all [Instr.wf, FrameHdr.wf, AmendBody.wf, entriesWf, Frame.payload, AmendBody.bytes, bytes2, bytes4]
  try omega

theorem join : ∀ h station identity, Statement (.join h station identity) := by
  intro h station identity hw h' f' hf
  cases hf
  simp_all [Instr.wf, FrameHdr.wf, AmendBody.wf, entriesWf, Frame.payload, AmendBody.bytes, bytes2, bytes4]
  try omega

theorem leave : ∀ h station, Statement (.leave h station) := by
  intro h station hw h' f' hf
  cases hf
  simp_all [Instr.wf, FrameHdr.wf, AmendBody.wf, entriesWf, Frame.payload, AmendBody.bytes, bytes2, bytes4]
  try omega

theorem amend : ∀ h body, Statement (.amend h body) := by
  intro h body hw h' f' hf
  cases hf
  simp_all [Instr.wf, FrameHdr.wf, AmendBody.wf, entriesWf, Frame.payload, AmendBody.bytes, bytes2, bytes4]
  try omega

theorem launch : ∀ h batch, Statement (.launch h batch) := by
  intro h batch hw h' f' hf
  cases hf
  simp_all [Instr.wf, FrameHdr.wf, AmendBody.wf, entriesWf, Frame.payload, AmendBody.bytes, bytes2, bytes4]
  try omega

theorem drop : ∀ h batch, Statement (.drop h batch) := by
  intro h batch hw h' f' hf
  cases hf
  simp_all [Instr.wf, FrameHdr.wf, AmendBody.wf, entriesWf, Frame.payload, AmendBody.bytes, bytes2, bytes4]
  try omega

theorem ask : ∀ h identity, Statement (.ask h identity) := by
  intro h identity hw h' f' hf
  cases hf
  simp_all [Instr.wf, FrameHdr.wf, AmendBody.wf, entriesWf, Frame.payload, AmendBody.bytes, bytes2, bytes4]
  try omega

theorem snapHead : ∀ h requester responder identity pages lastLaunched present batchStates records, Statement (.snapHead h requester responder identity pages lastLaunched present batchStates records) := by
  intro h requester responder identity pages lastLaunched present batchStates records hw h' f' hf
  cases hf
  simp_all [Instr.wf, FrameHdr.wf, AmendBody.wf, entriesWf, Frame.payload, AmendBody.bytes, bytes2, bytes4]
  try omega

theorem snapPages : ∀ h requester index entries, Statement (.snapPages h requester index entries) := by
  intro h requester index entries hw h' f' hf
  cases hf
  simp_all [Instr.wf, FrameHdr.wf, AmendBody.wf, entriesWf, Frame.payload, AmendBody.bytes, bytes2, bytes4]
  try omega

theorem snapAmend : ∀ h requester index body, Statement (.snapAmend h requester index body) := by
  intro h requester index body hw h' f' hf
  cases hf
  simp_all [Instr.wf, FrameHdr.wf, AmendBody.wf, entriesWf, Frame.payload, AmendBody.bytes, bytes2, bytes4]
  try omega

theorem syncTimerExpiry : Statement .syncTimerExpiry := by
  intro _ _ _ hf
  cases hf

theorem portEntersSilent : Statement .portEntersSilent := by
  intro _ _ _ hf
  cases hf

theorem silentFrameRead : ∀ bits vetoed, Statement (.silentFrameRead bits vetoed) := by
  intro bits vetoed _ _ _ hf
  cases hf

theorem portLeavesSilent : Statement .portLeavesSilent := by
  intro _ _ _ hf
  cases hf

theorem queuePlaceGranted : Statement .queuePlaceGranted := by
  intro _ _ _ hf
  cases hf

theorem leaseExpiry : ∀ page, Statement (.leaseExpiry page) := by
  intro page _ _ _ hf
  cases hf

theorem renewalDue : ∀ page, Statement (.renewalDue page) := by
  intro page _ _ _ hf
  cases hf

theorem boundary : Statement .boundary := by
  intro _ _ _ hf
  cases hf

theorem trainPacketSent : Statement .trainPacketSent := by
  intro _ _ _ hf
  cases hf

theorem pageOpenSent : Statement .pageOpenSent := by
  intro _ _ _ hf
  cases hf

theorem pageMetaSent : Statement .pageMetaSent := by
  intro _ _ _ hf
  cases hf

theorem titleSent : Statement .titleSent := by
  intro _ _ _ hf
  cases hf

theorem bandSent : Statement .bandSent := by
  intro _ _ _ hf
  cases hf

theorem captionSent : Statement .captionSent := by
  intro _ _ _ hf
  cases hf

theorem pageCloseSent : Statement .pageCloseSent := by
  intro _ _ _ hf
  cases hf

theorem cutCarriedOut : Statement .cutCarriedOut := by
  intro _ _ _ hf
  cases hf

theorem fetchWantRequest : Statement .fetchWantRequest := by
  intro _ _ _ hf
  cases hf

theorem prefetchWalk : Statement .prefetchWalk := by
  intro _ _ _ hf
  cases hf

theorem fetchTimerExpiry : Statement .fetchTimerExpiry := by
  intro _ _ _ hf
  cases hf

theorem outcomeRecord : ∀ page outcome, Statement (.outcomeRecord page outcome) := by
  intro page outcome _ _ _ hf
  cases hf

theorem badOutcomeRecord : ∀ bytes, Statement (.badOutcomeRecord bytes) := by
  intro bytes _ _ _ hf
  cases hf

theorem headTimerExpiry : Statement .headTimerExpiry := by
  intro _ _ _ hf
  cases hf

theorem sheetReadyAsserted : Statement .sheetReadyAsserted := by
  intro _ _ _ hf
  cases hf

theorem sheetReadyDeasserted : Statement .sheetReadyDeasserted := by
  intro _ _ _ hf
  cases hf

theorem engineOfflineAsserted : Statement .engineOfflineAsserted := by
  intro _ _ _ hf
  cases hf

theorem engineOfflineDeasserted : Statement .engineOfflineDeasserted := by
  intro _ _ _ hf
  cases hf

theorem reportTimerExpiry : Statement .reportTimerExpiry := by
  intro _ _ _ hf
  cases hf

theorem inboundIdleFill : Statement .inboundIdleFill := by
  intro _ _ _ hf
  cases hf

end Sys2Proof.Laws.FieldsFit
end

