-- ==== Sys2Proof/Tests/Slice0.lean ====
section
/-! SUPPORT. The model's own tests: each width check refuses an ill-formed command; the check sequences and the
worked numbers of the manual come out; and for every statement a concrete state meets its hypotheses, at the
boundary values where it has several clauses. -/

namespace Sys2Proof.Tests

open Sys2Proof Sys2Proof.Machine

set_option linter.all false
set_option maxRecDepth 20000

/-! ## A small plan and the states built on it -/

def hdr (n : Nat) : FrameHdr := ⟨n, false, .sinceMove⟩

/-- One cell of 32 x 32 on a page of 64 x 64: two bands. -/
def tpl : Template :=
  ⟨1, 1, 32, 32, 0, 0, 16, 0, 64, 65, 0, 0, List.replicate 16 1, 0⟩

/-- The same page with a title band. -/
def tplTitled : Template := { tpl with titleH := 32, pageH := 96 }

def sec : Section := ⟨0, 1, [0x41#8], 128, 10, 20, 48⟩
def page0 : PageRec := ⟨0, 0, 0, 0, 0, none⟩
def page1 : PageRec := ⟨1, 0, 0, 0, 0, some [0x42#8]⟩
def subj : Subject := ⟨0, some 7#32, ⟨0, 0, 64, 64⟩, 2, [0x43#8], none, false⟩
def planHead : PlanHead := ⟨9#32, 5, 1, 1, 2, 1⟩

def roster : Roster :=
  { status := .loaded, head := some planHead, templates := [tpl], sections := [sec], pages := [page0, page1],
    subjects := [subj], edition := 5, track := none }

def fresh : Entry := { status := .opened, mark := 0, need := 5, lapses := 0, reprints := 0 }
def entryOf (st : PageStatus) : Entry := { fresh with status := st }

/-- Station 2 in ACTIVE with the two pages given, stations 2 and 3 present. -/
def act (a b : Entry) : State :=
  { State.reset with
    straps := ⟨2, 0⟩, setup := some ⟨1000, 2, 500, false, false, false⟩, roster := roster,
    ctl := { Ctl.cleared with state := .active, volumeSeen := true },
    board := { replica := some { entries := [a, b], present := 0x000C#16, complete := false },
               leases := [none, none], lastLaunched := 5, completions := 0 },
    link := { Link.cold with up := true, silence := some 100 } }

def open2 : State := act fresh fresh
def inState (st : StationState) : State := { open2 with ctl := { Ctl.cleared with state := st } }
def queueOf (n : Nat) : List TxEntry := List.replicate n ⟨.frame (.ask 9#32), false, 0, false⟩
def withQueue (s : State) (q : List TxEntry) : State := { s with port := { s.port with queue := q } }
def silentPort (good : Nat) (s : State) : State := { s with port := { s.port with silent := true, good := good } }
def work (p : Nat) (ph : WorkPhase) : WorkEntry := ⟨p, ph, 0, some 5, some Notices.zero⟩
def withWork (s : State) (w : List WorkEntry) : State := { s with claims := { s.claims with work := w } }
def faultRecord : FaultRecord := ⟨0, .linkDown, none, none, none, 3, 0⟩
def faulted (ph : FaultPhase) (s : State) : State :=
  { s with fault := { s.fault with phase := ph, record := some faultRecord, reportTimer := some 1000 } }
def loading (expected : Nat) : State :=
  { inState .planLoad with roster :=
    { Roster.cleared with status := .loading, head := some planHead,
                          track := some ⟨expected, 0, 0, 0, 0, false, none, 0⟩ } }

/-! ## The width checks refuse ill-formed commands -/

theorem test_wf_refuses_straps : (Instr.coldReset 16 0).wf = false ∧ (Instr.coldReset 15 4).wf = false := by decide
theorem test_wf_refuses_setup :
    (Instr.setup 65536 1 50).wf = false ∧ (Instr.setup 250 256 50).wf = false ∧
    (Instr.setup 250 1 65536).wf = false := by decide
theorem test_wf_refuses_planHead :
    (Instr.planHead { planHead with edition := 65536 }).wf = false ∧
    (Instr.planHead { planHead with templates := 256 }).wf = false ∧
    (Instr.planHead { planHead with sections := 256 }).wf = false ∧
    (Instr.planHead { planHead with pages := 65536 }).wf = false ∧
    (Instr.planHead { planHead with subjects := 65536 }).wf = false := by decide
theorem test_wf_refuses_planTemplate :
    (Instr.planTemplate { tpl with columns := 256 }).wf = false ∧
    (Instr.planTemplate { tpl with rows := 256 }).wf = false ∧
    (Instr.planTemplate { tpl with cellW := 65536 }).wf = false ∧
    (Instr.planTemplate { tpl with cellH := 65536 }).wf = false ∧
    (Instr.planTemplate { tpl with hGutter := 256 }).wf = false ∧
    (Instr.planTemplate { tpl with vGutter := 256 }).wf = false ∧
    (Instr.planTemplate { tpl with captionH := 65536 }).wf = false ∧
    (Instr.planTemplate { tpl with titleH := 65536 }).wf = false ∧
    (Instr.planTemplate { tpl with pageW := 65536 }).wf = false ∧
    (Instr.planTemplate { tpl with pageH := 65536 }).wf = false ∧
    (Instr.planTemplate { tpl with facing := 256 }).wf = false ∧
    (Instr.planTemplate { tpl with caption := 256 }).wf = false ∧
    (Instr.planTemplate { tpl with weights := List.replicate 15 1 }).wf = false ∧
    (Instr.planTemplate { tpl with weights := List.replicate 16 256 }).wf = false ∧
    (Instr.planTemplate { tpl with tone := 256 }).wf = false := by decide
theorem test_wf_refuses_planSection :
    (Instr.planSection { sec with first := 65536 }).wf = false ∧
    (Instr.planSection { sec with count := 65536 }).wf = false ∧
    (Instr.planSection { sec with title := List.replicate 256 0x41#8 }).wf = false ∧
    (Instr.planSection { sec with target := 256 }).wf = false ∧
    (Instr.planSection { sec with inner := 256 }).wf = false ∧
    (Instr.planSection { sec with outer := 256 }).wf = false ∧
    (Instr.planSection { sec with ceiling := 256 }).wf = false := by decide +kernel
theorem test_wf_refuses_planPage :
    (Instr.planPage { page0 with number := 65536 }).wf = false ∧
    (Instr.planPage { page0 with kind := 256 }).wf = false ∧
    (Instr.planPage { page0 with template := 256 }).wf = false ∧
    (Instr.planPage { page0 with sectionIx := 256 }).wf = false ∧
    (Instr.planPage { page0 with slice := 65536 }).wf = false ∧
    (Instr.planPage { page0 with title := some [] }).wf = false := by decide
theorem test_wf_refuses_planSubject :
    (Instr.planSubject { subj with sectionIx := 256 }).wf = false ∧
    (Instr.planSubject { subj with crop := ⟨65536, 0, 1, 1⟩ }).wf = false ∧
    (Instr.planSubject { subj with crop := ⟨0, 65536, 1, 1⟩ }).wf = false ∧
    (Instr.planSubject { subj with crop := ⟨0, 0, 65536, 1⟩ }).wf = false ∧
    (Instr.planSubject { subj with crop := ⟨0, 0, 1, 65536⟩ }).wf = false ∧
    (Instr.planSubject { subj with pose := 256 }).wf = false ∧
    (Instr.planSubject { subj with line1 := List.replicate 256 0x41#8 }).wf = false ∧
    (Instr.planSubject { subj with line2 := some [] }).wf = false := by decide +kernel
theorem test_wf_refuses_portrait_records :
    (Instr.portraitHead 256 7#32 64 64).wf = false ∧ (Instr.portraitHead 0 7#32 65536 64).wf = false ∧
    (Instr.portraitHead 0 7#32 64 65536).wf = false ∧ (Instr.portraitData 256 [0#8]).wf = false ∧
    (Instr.portraitData 0 []).wf = false ∧ (Instr.portraitData 0 (List.replicate 4096 0#8)).wf = false ∧
    (Instr.portraitEnd 256 0#32).wf = false ∧ (Instr.portraitAbsent 256 0#32).wf = false := by decide +kernel
theorem test_wf_refuses_requests :
    (Instr.amendIn ⟨256, 0, 2, []⟩).wf = false ∧ (Instr.amendIn ⟨0, 65536, 2, []⟩).wf = false ∧
    (Instr.amendIn ⟨0, 0, 256, []⟩).wf = false ∧ (Instr.amendIn ⟨0, 0, 1, List.replicate 51 0#8⟩).wf = false ∧
    (Instr.launchIn 256).wf = false ∧ (Instr.dropIn 256).wf = false ∧ (Instr.faultAck 256).wf = false ∧
    (Instr.statusAsk 256).wf = false := by decide
theorem test_wf_refuses_outbound_kinds :
    (Instr.outboundKindRecord 0x80).wf = false ∧ (Instr.outboundKindRecord 0x88).wf = false := by decide
theorem test_wf_refuses_arbitration_values :
    (Instr.frameStart [64]).wf = false ∧ (Instr.runNextFrame [64]).wf = false := by decide
theorem test_wf_refuses_board_frames :
    (Instr.claim (hdr 16) 0 0).wf = false ∧ (Instr.claim (hdr 0) 65536 0).wf = false ∧
    (Instr.claim (hdr 0) 0 256).wf = false ∧ (Instr.renew (hdr 16) 0).wf = false ∧
    (Instr.renew (hdr 0) 65536).wf = false ∧ (Instr.lapse (hdr 0) 0 256 0).wf = false ∧
    (Instr.lapse (hdr 0) 0 0 256).wf = false ∧ (Instr.lapse (hdr 0) 65536 0 0).wf = false ∧
    (Instr.done (hdr 0) 65536 0).wf = false ∧ (Instr.done (hdr 0) 0 65536).wf = false ∧
    (Instr.release (hdr 0) 65536).wf = false ∧ (Instr.fail (hdr 0) 65536 0).wf = false ∧
    (Instr.fail (hdr 0) 0 256).wf = false ∧ (Instr.join (hdr 0) 256 0#32).wf = false ∧
    (Instr.leave (hdr 0) 256).wf = false := by decide
theorem test_wf_refuses_other_frames :
    (Instr.amend (hdr 16) ⟨0, 0, 2, []⟩).wf = false ∧ (Instr.launch (hdr 0) 256).wf = false ∧
    (Instr.drop (hdr 0) 256).wf = false ∧ (Instr.ask (hdr 16) 0#32).wf = false ∧
    (Instr.snapHead (hdr 0) 256 0 0#32 0 0 0#16 0 0).wf = false ∧
    (Instr.snapHead (hdr 0) 0 256 0#32 0 0 0#16 0 0).wf = false ∧
    (Instr.snapHead (hdr 0) 0 0 0#32 65536 0 0#16 0 0).wf = false ∧
    (Instr.snapHead (hdr 0) 0 0 0#32 0 65536 0#16 0 0).wf = false ∧
    (Instr.snapHead (hdr 0) 0 0 0#32 0 0 0#16 256 0).wf = false ∧
    (Instr.snapHead (hdr 0) 0 0 0#32 0 0 0#16 0 256).wf = false ∧
    (Instr.snapPages (hdr 0) 0 0 []).wf = false ∧ (Instr.snapPages (hdr 0) 0 0 (List.replicate 8 0#8)).wf = false ∧
    (Instr.snapPages (hdr 0) 0 0 (List.replicate 63 0#8)).wf = false ∧
    (Instr.snapPages (hdr 0) 256 0 (List.replicate 7 0#8)).wf = false ∧
    (Instr.snapAmend (hdr 0) 0 256 ⟨0, 0, 2, []⟩).wf = false := by decide
theorem test_wf_refuses_events :
    (Instr.leaseExpiry 1024).wf = false ∧ (Instr.renewalDue 1024).wf = false ∧
    (Instr.outcomeRecord 65536 .delivered).wf = false := by decide

/-! ## Worked numbers of the manual -/

theorem test_crc16_of_digits :
    crc16 ([0x31#8, 0x32#8, 0x33#8, 0x34#8, 0x35#8, 0x36#8, 0x37#8, 0x38#8, 0x39#8].flatMap byteBits) = 0x29B1#16 := by
  decide +kernel
theorem test_crc32_of_digits :
    crc32On crc32Init [0x31#8, 0x32#8, 0x33#8, 0x34#8, 0x35#8, 0x36#8, 0x37#8, 0x38#8, 0x39#8] = 0x0376E6E7#32 := by
  decide +kernel
theorem test_crc8_of_digits :
    crc8 [0x31#8, 0x32#8, 0x33#8, 0x34#8, 0x35#8, 0x36#8, 0x37#8, 0x38#8, 0x39#8] = 0xF4#8 := by decide +kernel
/-- R77, section 4: the windows of cells 0 and 2 of the worked page, cell 400 x 500. -/
theorem test_worked_windows :
    windowFor ⟨300, 200, 550, 560⟩ 640 800 400 500 = ⟨300, 223, 250, 313⟩ ∧
    windowFor ⟨0, 0, 900, 1300⟩ 900 1200 400 500 = ⟨0, 37, 900, 1125⟩ ∧
    clampCrop ⟨0, 0, 900, 1300⟩ 900 1200 ≠ ⟨0, 0, 900, 1300⟩ := by decide +kernel

/-- Section 5: the weighted means of subjects 42 and 43. -/
theorem test_worked_means :
    weightedMean [1, 1, 1, 1, 1, 4, 4, 1, 1, 4, 4, 1, 1, 1, 1, 1]
      [90, 96, 98, 92, 100, 150, 154, 104, 102, 146, 150, 106, 104, 106, 102, 100] = 128 ∧
    weightedMean (List.replicate 16 1)
      [90, 96, 98, 92, 100, 150, 154, 104, 102, 146, 150, 106, 104, 106, 102, 100] = 112 ∧
    weightedMean (List.replicate 16 0)
      [90, 96, 98, 92, 100, 150, 154, 104, 102, 146, 150, 106, 104, 106, 102, 100] = 112 := by decide +kernel

/-- Sections 4 and 5: gains 23, 18 and 32, 14, with TONE_LIMITED for the mean of 50 alone. -/
theorem test_worked_gains :
    let x : Section := { sec with ceiling := 32 }
    toneStep .steady x 90 = ⟨23, .correcting, false⟩ ∧ toneStep .correcting x 112 = ⟨18, .correcting, false⟩ ∧
    toneStep .correcting x 124 = ⟨16, .steady, false⟩ ∧ toneStep .steady x 118 = ⟨16, .steady, false⟩ ∧
    toneStep .steady x 50 = ⟨32, .correcting, true⟩ ∧ toneStep .correcting x 145 = ⟨14, .correcting, false⟩ ∧
    toneStep .steady x 0 = ⟨32, .correcting, true⟩ := by decide +kernel

/-- Section 5: pixels of cells 4 and 5. -/
theorem test_worked_pixels :
    ([40, 52, 61].map (applyGain 32)) = [80, 104, 122] ∧ ([200, 190, 180].map (applyGain 32)) = [255, 255, 255] ∧
    ([180, 160, 150].map (applyGain 14)) = [157, 140, 131] ∧ luminance 40 52 61 = 49 := by decide

/-- Section 11: 1130 and 1125 both become 1250. -/
theorem test_worked_setup :
    (clampSetup 1130 2 500).lease = 1250 ∧ (clampSetup 1125 2 500).lease = 1250 ∧
    (clampSetup 1124 2 500).lease = 1000 ∧ (clampSetup 249 0 49) = ⟨250, 1, 50, true, true, true⟩ ∧
    (clampSetup 8001 4 2001) = ⟨8000, 3, 2000, true, true, true⟩ ∧
    (clampSetup 8000 3 2000) = ⟨8000, 3, 2000, false, false, false⟩ := by decide

/-! ## The hypotheses of the statements are met: the queue, the resets, the plan -/

theorem test_hyp_StepRunsTheFrontCommandAndAnEmptyQueueIdles :
    ({ open2 with pending := [.boundary, .restart] } : State).pending = .boundary :: [.restart] ∧
    open2.pending = [] := by decide

theorem test_hyp_EveryCommandCompletes : ∀ st rate, Instr.boundary ≠ .coldReset st rate := by
  intro st rate h; cases h

/-- The interval, depth and timeout at and beside each limit, and a state that drops SETUP. -/
theorem test_hyp_SetupIsClampedOnce :
    State.reset.ctl.state = .setupWait ∧ open2.ctl.state ≠ .setupWait ∧
    (249 < 250) ∧ (8000 < 8001) ∧ (250 ≤ 250 ∧ 250 ≤ 8000) ∧ (250 ≤ 8000 ∧ 8000 ≤ 8000) ∧
    (3 < 4) ∧ (1 ≤ 1 ∧ 1 ≤ 3) ∧ (1 ≤ 3 ∧ 3 ≤ 3) ∧ (49 < 50) ∧ (2000 < 2001) ∧ (50 ≤ 50 ∧ 50 ≤ 2000) ∧
    (50 ≤ 2000 ∧ 2000 ≤ 2000) := by decide

theorem test_hyp_PlanHeadStartsALoad :
    (inState .planLoad).ctl.state = .planLoad ∧ open2.ctl.state ≠ .planLoad ∧
    ¬ ((inState .planLoad).ctl.state = .planLoad ∧ (inState .planLoad).roster.status = .loading) ∧
    ¬ (open2.ctl.state = .planLoad ∧ open2.roster.status = .loading) := by decide

/-- A record in order, and one out of order of every kind that can be. -/
theorem test_hyp_BodyRecordIsStoredInOrder :
    (∀ k ∈ [0, 1, 2, 3], (loading k).ctl.state = .planLoad ∧ (loading k).roster.status = .loading ∧
      (loading k).roster.track = some ⟨k, 0, 0, 0, 0, false, none, 0⟩) := by decide

def passing : Roster :=
  { roster with status := .loading, edition := 0, track := some ⟨3, 1, 1, 2, 1, false, none, 5⟩ }

/-- A plan that passes, and one for each failing group. -/
theorem test_hyp_PlanPassesExactlyWhenLawful :
    passing.head = some planHead ∧ passing.track = some ⟨3, 1, 1, 2, 1, false, none, 5⟩ ∧
    passing.validate = none ∧
    ({ passing with head := some { planHead with templates := 17 } } : Roster).validate ≠ none ∧
    ({ passing with track := some ⟨3, 1, 1, 1, 1, false, none, 5⟩ } : Roster).validate ≠ none ∧
    ({ passing with track := some ⟨3, 1, 1, 2, 1, true, some 2, 5⟩ } : Roster).validate ≠ none ∧
    ({ passing with templates := [{ tpl with pageW := 31 }] } : Roster).validate ≠ none ∧
    ({ passing with sections := [{ sec with first := 1 }] } : Roster).validate ≠ none ∧
    ({ passing with pages := [page0, page0] } : Roster).validate ≠ none ∧
    ({ passing with subjects := [{ subj with pose := 3 }] } : Roster).validate ≠ none := by decide +kernel

/-- The code and index of a failing plan: a head count, a received count, the order, and each table; of two failures the
one of the lower check. -/
theorem test_first_failing_check :
    ({ passing with head := some { planHead with templates := 17 } } : Roster).validate = some (1, 0) ∧
    ({ passing with track := some ⟨3, 1, 1, 1, 1, true, some 2, 5⟩ } : Roster).validate = some (1, 3) ∧
    ({ passing with track := some ⟨3, 1, 1, 2, 1, true, some 2, 5⟩ } : Roster).validate = some (2, 2) ∧
    ({ passing with templates := [{ tpl with pageW := 31 }] } : Roster).validate = some (3, 0) ∧
    ({ passing with sections := [{ sec with first := 1 }] } : Roster).validate = some (4, 0) ∧
    ({ passing with pages := [page0, { page0 with kind := 2 }] } : Roster).validate = some (5, 1) ∧
    ({ passing with pages := [page0, page0] } : Roster).validate = some (6, 1) ∧
    ({ passing with subjects := [{ subj with pose := 3 }] } : Roster).validate = some (7, 0) := by decide +kernel

def planEnding (ro : Roster) : State := { inState .planLoad with roster := ro }

/-- A valid plan with a place in the queue, without one, and invalid plans in CLEAR and in HELD. -/
theorem test_hyp_PlanEndSyncsOrHalts :
    (planEnding passing).ctl.state = .planLoad ∧ (planEnding passing).roster.status = .loading ∧
    (planEnding passing).roster.head = some planHead ∧ (planEnding passing).roster.validate = none ∧
    (planEnding passing).port.silent = false ∧ (planEnding passing).port.queue.length < 16 ∧
    ¬ ((withQueue (planEnding passing) (queueOf 16)).port.silent = false ∧
      (withQueue (planEnding passing) (queueOf 16)).port.queue.length < 16) ∧
    (planEnding { passing with subjects := [{ subj with pose := 3 }] }).roster.validate.isSome = true ∧
    (planEnding passing).fault.phase = .clear ∧
    (faulted .held (planEnding passing)).fault.phase ≠ .clear := by decide +kernel

/-! ## Portrait answers -/

def slots (first : Slot) : List Slot := first :: List.replicate 63 .free
def fill : Slot := .filling 7#32 [.composing 0]
def fetchEntry : FetchEntry := { tag := 3, portrait := 7#32, slot := 0, stale := false, retry := false }
def answer (count : Nat) : Answer :=
  { width := 64, height := 64, count := count, crc := 0#32, bad := false, oversize := false }

def fetching (e : FetchEntry) (a : Option Answer) : State :=
  { open2 with tiles := { open2.tiles with slots := slots fill },
               fetch := { open2.fetch with list := [e], answer := a, timer := some 500 } }

def holdingPage : Held :=
  { page := 0, kind := 0, template := 0, sectionIx := 0, edition := 5, bandCount := 2, bandsSent := 0, band := 0,
    reach := 64, late := false, tallies := Notices.zero,
    cells := [{ subject := some 0, last := 31, cls := none, ref := true, taken := true, answer := none, place := none }],
    opened := false, captions := [] }

def holding (x : Held) (s : State) : State :=
  { s with comp := { s.comp with held := some x, state := .streaming } }

/-- The head record's, the data records' (within the raster and one byte beyond it), the good end's, and the
absent record's hypotheses. -/
theorem test_hyp_AnswerIsTakenUntilItsEnd :
    (fetching fetchEntry none).ctl.state ≠ .setupWait ∧ (fetching fetchEntry none).fetch.hold = false ∧
    (fetching fetchEntry none).fetch.list = fetchEntry :: [] ∧ (fetching fetchEntry none).fetch.answer = none ∧
    (fetching fetchEntry (some (answer 12287))).fetch.answer = some (answer 12287) ∧
    (answer 12287).count + [0#8].length ≤ 3 * 64 * 64 ∧
    ¬ ((answer 12288).count + [0#8].length ≤ 3 * 64 * 64) ∧
    (fetching fetchEntry (some (answer 12288))).tiles.slots[fetchEntry.slot]? = some (.filling 7#32 [.composing 0]) ∧
    (fetching fetchEntry (some (answer 12288))).comp.state ≠ .waitingTile ∧ fetchEntry.stale = false ∧
    (answer 12288).oversize = false ∧ (answer 12288).bad = false ∧ (answer 12288).count = 3 * 64 * 64 ∧
    (answer 12288).crc = 0#32 ∧ (fetching fetchEntry none).comp.held = none ∧
    ({ answer 0 with oversize := true } : Answer).oversize = true ∧
    ({ fetchEntry with stale := true } : FetchEntry).stale = true := by decide

/-- The good answer and the two refused ones while the held page's cell waits; the references of two pages. -/
theorem test_hyp_AnswerIsTakenUntilItsEnd_held :
    let s := { holding holdingPage (fetching fetchEntry (some (answer 12288))) with fault := State.reset.fault }
    s.comp.held = some holdingPage ∧ s.ctl.state ≠ .setupWait ∧ s.fetch.hold = false ∧
    s.fetch.list = fetchEntry :: [] ∧ s.fetch.answer = some (answer 12288) ∧
    s.tiles.slots[fetchEntry.slot]? = some (.filling 7#32 [.composing 0]) ∧ fetchEntry.stale = false ∧
    (answer 12288).count = 3 * 64 * 64 ∧ (answer 12288).crc = 0#32 ∧
    (holding holdingPage (fetching fetchEntry none)).fetch.answer = none ∧
    (holding holdingPage (fetching fetchEntry none)).comp.held = some holdingPage ∧
    ({ answer 0 with oversize := true } : Answer).oversize = true := by decide

/-- A stale entry's absent answer and its end while a page is held. -/
theorem test_hyp_AnswerIsTakenUntilItsEnd_stale :
    let e : FetchEntry := { fetchEntry with stale := true }
    let s := holding holdingPage (fetching e none)
    s.ctl.state ≠ .setupWait ∧ s.fetch.hold = false ∧ s.fetch.list = e :: [] ∧ e.stale = true ∧
    s.fetch.answer = none ∧ (fetching e (some (answer 12288))).fetch.answer = some (answer 12288) := by decide

/-- A second bad answer that the held page's first cell waits for, its entry QUEUED or COMPOSING, and in HELD. -/
theorem test_hyp_BadAnswerIsRetriedOnce_held :
    let e : FetchEntry := { fetchEntry with retry := true }
    let s := withWork (holding holdingPage (fetching e (some (answer 12287)))) [work 0 .composing]
    s.ctl.state ≠ .setupWait ∧ s.fetch.hold = false ∧ s.fetch.list = e :: [] ∧
    s.fetch.answer = some (answer 12287) ∧ s.tiles.slots[e.slot]? = some (.filling e.portrait [.composing 0]) ∧
    e.stale = false ∧ (answer 12287).oversize = false ∧ (answer 12287).count ≠ 3 * 64 * 64 ∧ e.retry = true ∧
    s.fault.phase = .clear ∧ s.comp.held = some holdingPage ∧ s.tiles.firstComposing e.slot = some 0 ∧
    work 0 .composing ∈ s.claims.work ∧ (work 0 .composing).page = holdingPage.page ∧
    (work 0 .composing).phase ≠ .inEngine ∧ s.closing holdingPage.page = false ∧ s.cuttable = true ∧
    (faulted .held s).fault.phase ≠ .clear := by decide

/-- A first bad answer (a flag, a short count, a check that differs), and a second one in CLEAR. -/
theorem test_hyp_BadAnswerIsRetriedOnce :
    (fetching fetchEntry (some (answer 12287))).ctl.state ≠ .setupWait ∧
    (fetching fetchEntry (some (answer 12287))).fetch.hold = false ∧
    (fetching fetchEntry (some (answer 12287))).fetch.list = fetchEntry :: [] ∧
    (fetching fetchEntry (some (answer 12287))).fetch.answer = some (answer 12287) ∧
    (fetching fetchEntry (some (answer 12287))).tiles.slots[fetchEntry.slot]? = some (.filling 7#32 [.composing 0]) ∧
    (answer 12287).oversize = false ∧ (answer 12287).count ≠ 3 * 64 * 64 ∧ (answer 12288).crc ≠ 1#32 ∧
    ({ answer 0 with bad := true } : Answer).bad = true ∧
    fetchEntry.retry = false ∧ [Ref.composing 0] ≠ [] ∧ ({ fetchEntry with retry := true } : FetchEntry).retry = true ∧
    (fetching fetchEntry none).fault.phase = .clear ∧ (fetching fetchEntry none).comp.held = none := by decide

/-- Records that fit nothing: an empty list, a wrong tag, data with no answer; with the hold set, in SETUP_WAIT
and in PLAN_LOAD with nothing asked for; in an ACTIVE station; and a timer that runs, with and without a cell. -/
theorem test_hyp_ProtocolLossAndTimeoutFlushTheFetches :
    (¬ ∃ e rest, open2.fetch.list = e :: rest ∧ open2.fetch.answer = none ∧ e.tag = 3 ∧ e.portrait = 7#32) ∧
    (¬ ∃ e rest a, (fetching fetchEntry none).fetch.list = e :: rest ∧
      (fetching fetchEntry none).fetch.answer = some a ∧ e.tag = 3) ∧
    (¬ ∃ e rest a, (fetching fetchEntry (some (answer 0))).fetch.list = e :: rest ∧
      (fetching fetchEntry (some (answer 0))).fetch.answer = some a ∧ e.tag = 4) ∧
    open2.fetch.hold = false ∧ open2.ctl.state = .active ∧ open2.fault.phase = .clear ∧
    (inState .setupWait).ctl.state = .setupWait ∧
    ((inState .planLoad).ctl.state = .planLoad ∧ (inState .planLoad).fetch.list = []) ∧
    open2.fetch.timer = none ∧ (fetching fetchEntry none).fetch.timer.isSome = true ∧
    (fetching fetchEntry none).comp.held = none ∧
    (holding holdingPage (fetching fetchEntry none)).comp.held = some holdingPage ∧
    (fetching fetchEntry none).tiles.firstComposing fetchEntry.slot = some 0 ∧
    open2.tiles.firstComposing 0 = none := by
  refine ⟨?_, ?_, ?_, by decide, by decide, by decide, by decide, by decide, by decide, by decide, by decide,
    by decide, by decide, by decide⟩
  · rintro ⟨e, rest, h, _⟩; cases h
  · rintro ⟨e, rest, a, _, h, _⟩; cases h
  · rintro ⟨e, rest, a, h, _, h'⟩; cases h; cases h'

/-- The silent line, the fetch timer and a second bad answer as follow-ons, in HELD and in a recovery that waits for a
page. -/
theorem test_hyp_ProtocolLossAndTimeoutFlushTheFetches_followOn :
    let e : FetchEntry := { fetchEntry with retry := true }
    let s := holding holdingPage (fetching e (some (answer 12287)))
    let waits : State := { faulted .recovering s with fault := { (faulted .recovering s).fault with awaited := [0] } }
    (faulted .held s).fault.phase = .held ∧ waits.fault.phase = .recovering ∧ waits.fault.settled = false ∧
    s.link.up = true ∧ s.link.silence.isSome = true ∧ s.fetch.timer.isSome = true ∧ s.fetch.list ≠ [] ∧
    s.ctl.state ≠ .setupWait ∧ s.fetch.hold = false ∧ s.fetch.list = e :: [] ∧ s.fetch.answer = some (answer 12287) ∧
    s.tiles.slots[e.slot]? = some (.filling e.portrait [.composing 0]) ∧ e.stale = false ∧
    (answer 12287).oversize = false ∧ (answer 12287).count ≠ 3 * 64 * 64 ∧ e.retry = true ∧
    (∀ c ∈ [Instr.silenceTimerExpiry, .fetchTimerExpiry, .portraitEnd 3 0#32], ∀ u ∈ [faulted .held s, waits],
      (match exec c u with
        | .next t => decide (t.fault = { u.fault with record := u.fault.counted }) && decide (t.fetch.list = []) &&
            t.fetch.hold && t.comp.cut && decide (t.claims = u.claims) && decide (t.port = u.port) &&
            decide (t.tiles.slots[0]? = some .free)
        | _ => false) = true) := by decide +kernel

/-! ## The other library records -/

def relayBusy (s : State) : State := { s with link := { s.link with relay := some (.drop 0) } }

/-- Not ACTIVE; the slot BUSY; the queue full; a SILENT port; and a free place at 15 entries. -/
theorem test_hyp_RelayRequestsAreQueuedOrRefused :
    (inState .syncing).ctl.state ≠ .active ∧ open2.ctl.state = .active ∧ (relayBusy open2).link.relay.isSome = true ∧
    open2.link.relay = none ∧ 16 ≤ (withQueue open2 (queueOf 16)).port.queue.length ∧
    (silentPort 0 open2).port.silent = true ∧ (withQueue open2 (queueOf 15)).port.queue.length < 16 ∧
    open2.port.silent = false := by decide

/-- HELD with the serial asked for and with another one; the claiming condition that follows; another station
state. -/
theorem test_hyp_FaultAckClearsTheHeldFault :
    let s := faulted .held open2
    (s.fault.phase = .held ∧ s.fault.record = some faultRecord ∧ faultRecord.serial = 0) ∧ faultRecord.serial ≠ 1 ∧
    s.claims.waiting = [] ∧ s.ctl.waiting = [] ∧ firstExpired s.board.leases = none ∧ s.ctl.state = .active ∧
    s.lane.offline = false ∧ s.claims.work.length < s.claimDepth ∧ s.claims.pending = none ∧
    s.board.replica = some ⟨[fresh, fresh], 0x000C#16, false⟩ ∧ candidate [fresh, fresh] s.lane.sheets = some 0 ∧
    s.port.silent = false ∧ s.port.queue.length < 16 ∧ (faulted .held (inState .syncing)).ctl.state ≠ .active := by
  decide

theorem test_hyp_StatusDescribesTheStation :
    open2.roster.status = .loaded ∧ State.reset.roster.status ≠ .loaded ∧ State.reset.board.replica = none ∧
    open2.board.replica = some ⟨[fresh, fresh], 0x000C#16, false⟩ := by decide

/-- A record of no payload and its check sequence, which is not 0. -/
theorem test_hyp_RecordWithABadCrcIsDropped :
    open2.link.parser = .hunting ∧ ([] : List Byte).length ≤ 4096 ∧
    (0#32 : Id32) ≠ crc32On crc32Init (0x01#8 :: (bytes2 0 ++ [])) ∧ open2.fetch.answer = none ∧
    (fetching fetchEntry (some (answer 0))).fetch.answer = some (answer 0) := by decide +kernel

def parsing (p : Parser) : State := { open2 with link := { open2.link with parser := p } }

theorem test_hyp_LinkEventsAndTheSilentLine :
    open2.link.parser = .hunting ∧ (parsing (.payload 1 2 [] 0#32)).link.parser = .payload 1 2 [] 0#32 ∧
    ([] : List Byte).length + 1 < 2 ∧ State.reset.link.up = false ∧ open2.link.up = true ∧
    open2.link.silence.isSome = true ∧ open2.fault.phase = .clear ∧ (faulted .held open2).fault.phase ≠ .clear ∧
    (parsing (.payload 1 2 [] 0#32)).link.parser ≠ .hunting := by decide

/-! ## The hall port -/

/-- Records of an outbound kind: a FETCH of its 6 bytes and of 5, and a STATUS with one work-list entry. -/
theorem test_hyp_RecordWithABadCrcIsDropped_outbound :
    open2.link.parser = .hunting ∧ (List.replicate 6 0#8).length ≤ 4096 ∧ 0x81 ≤ 0x82 ∧ 0x82 ≤ 0x87 ∧
    outboundFits 0x82 (List.replicate 6 0#8) = true ∧ outboundFits 0x82 (List.replicate 5 0#8) = false ∧
    outboundFits 0x87 (List.replicate 39 0#8 ++ 1#8 :: List.replicate 63 0#8) = true ∧
    outboundFits 0x87 (List.replicate 96 0#8) = true ∧ outboundFits 0x87 (List.replicate 97 0#8) = false := by
  decide +kernel

/-- The bytes of a FETCH from station 2 for portrait 7 under tag 3. -/
theorem test_outbound_fetch_bytes :
    (OutRecord.bytes ⟨2, .fetch 3 7#32⟩).take 10 = [0x7E#8, 0x82#8, 0#8, 6#8, 2#8, 3#8, 0#8, 0#8, 0#8, 7#8] ∧
    (OutRecord.bytes ⟨2, .fetch 3 7#32⟩).length = 14 := by decide +kernel

/-- A silent line in CLEAR with a QUEUED and a COMPOSING page and one in the engine, with a page to cut and without. -/
theorem test_hyp_LinkEventsAndTheSilentLine_recovery :
    let s := withWork (holding holdingPage open2) [work 0 .composing, work 1 .queued, work 2 .inEngine]
    s.link.up = true ∧ s.link.silence.isSome = true ∧ s.fault.phase = .clear ∧
    (s.claims.work.map (fun w => w.page)).Nodup ∧ s.closing 0 = false ∧ s.cuttable = true ∧
    open2.cuttable = false := by decide

def txOf (b : TxBody) (seq : Nat) : TxEntry := ⟨b, false, seq, false⟩

/-- A CLAIM (class 2) before and a RELEASE (class 1) behind it: the RELEASE is the head. A run as head. An
arbitration against an equal and a lower value. -/
theorem test_hyp_HeadOfQueueIsSent :
    let e := txOf (.frame (.release 0)) 1
    let s := withQueue open2 [txOf (.frame (.claim 1 2)) 0, e]
    let r := txOf (.run 3 true) 2
    let u := withQueue open2 [r]
    s.participation = .full ∧ s.port.sending = none ∧ s.port.run = none ∧
    s.port.queue = [txOf (.frame (.claim 1 2)) 0] ++ e :: [] ∧ (∀ x ∈ s.port.queue, x.onBus = false) ∧
    (∀ x ∈ [txOf (.frame (.claim 1 2)) 0], e.body.cls < x.body.cls) ∧
    (∀ x ∈ [txOf (.frame (.release 1)) 1], e.body.cls ≤ x.body.cls) ∧ e.body = .frame (.release 0) ∧
    (∀ v ∈ [(Frame.release 0).cls * 16 + s.straps.station], (Frame.release 0).cls * 16 + s.straps.station ≤ v) ∧
    (∃ v ∈ [0], v < e.body.cls * 16 + s.straps.station) ∧ u.port.queue = [] ++ r :: [] ∧ r.body = .run 3 true ∧
    (u.runFrames 3 true).length = 2 ∧ (∀ v ∈ [2], u.straps.station ≤ v) := by decide +kernel

def inRun (holder count : Nat) (s : State) : State :=
  { s with port := { s.port with run := some ⟨holder, count⟩, runRest := [(false, .leave 2)] } }

/-- Runs at 1, 254 and 255 frames. -/
theorem test_hyp_RunsGoOnAndEnd :
    (inRun 2 1 open2).participation = .full ∧ (inRun 2 1 open2).port.sending = none ∧
    (inRun 2 1 open2).port.run = some { holder := (inRun 2 1 open2).straps.station, count := 1 } ∧
    (inRun 2 1 open2).port.runRest = (false, .leave 2) :: [] ∧ (inRun 2 1 open2).ctl.collection = none ∧
    (inRun 2 1 open2).port.run.isSome = true ∧ (254 < 255) ∧ (255 ≤ 255) := by decide

def sending (f : Frame) (s : State) : State :=
  { s with port := { s.port with sending := some (false, f) } }
def counts (tx rx : Nat) (s : State) : State := { s with port := { s.port with tx := tx, rx := rx } }

theorem hears_of {s : State} (h : s.participation = .full) (k : s.ctl.collection = none) : s.hears := ⟨h, k⟩

/-- A sender and a reader, of a good frame and of a bad one, at counts of 30. -/
theorem test_hyp_VetoedFrameStaysQueued :
    (counts 30 30 open2).hears ∧ (counts 30 30 open2).port.tx < 31 ∧ (counts 30 30 open2).port.rx < 31 ∧
    (sending (.leave 2) (counts 30 30 open2)).port.sending.isSome = true ∧
    (counts 30 30 open2).port.sending = none ∧ readFrame [] = none ∧
    readFrame (frameBits 3 false (.leave 3)) ≠ none := by
  refine ⟨hears_of (by decide) (by decide), by decide, by decide, by decide, by decide, by decide, by decide +kernel⟩

/-- The station's own frame, and another's, with an outcome. -/
theorem test_hyp_PassedFrameLowersACount :
    frameOf (.release (hdr 2) 0) = some (hdr 2, .release 0) ∧ open2.participation = .full ∧
    (∃ t, exec (.release (hdr 2) 0) open2 = .next t) ∧
    ((hdr 2).sender = (sending (.release 0) open2).straps.station ∧
      (sending (.release 0) open2).port.sending = some ((hdr 2).hold, .release 0)) ∧
    (hdr 3).sender ≠ open2.straps.station :=
  ⟨rfl, by decide, ⟨_, rfl⟩, by decide, by decide⟩

/-- A port that has moved to full part, no start bit known since. -/
def joiningPort (s : State) : State := { s with port := { s.port with awaitsStart := true } }

/-- A listener in either state, SILENT ports at 0 and 126 good frames, and a port on its move to full part. -/
theorem test_hyp_FramesPassAListenerBy :
    frameOf (.release (hdr 3) 0) = some (hdr 3, .release 0) ∧ (inState .setupWait).port.silent = false ∧
    (inState .setupWait).ctl.state = .setupWait ∧ (inState .planLoad).ctl.state = .planLoad ∧
    (silentPort 126 open2).port.silent = true ∧ (silentPort 126 open2).port.good < 127 ∧
    (inState .setupWait).participation = .listener ∧ (joiningPort open2).port.silent = false ∧
    (joiningPort open2).port.awaitsStart = true ∧ (joiningPort open2).ctl.state ≠ .setupWait ∧ (joiningPort open2).ctl.state ≠ .planLoad ∧
    open2.participation = .full ∧ (⟨3, false, .beforeMove⟩ : FrameHdr).began ≠ .sinceMove ∧ (hdr 3).began = .sinceMove ∧
    (inState .setupWait).port.abandons = true ∧ (⟨3, true, .beforeReset⟩ : FrameHdr).began = .beforeReset ∧
    (joiningPort open2).port.sending = none ∧ (joiningPort open2).port.run = none ∧
    (∀ e ∈ (joiningPort open2).port.queue, e.onBus = false) := by decide

/-- The vetoes at 31 of either count, of an own and of a bad frame, with no collection and with one abandoned
before; the counts of 32 of either kind, and 31 beside. -/
theorem test_hyp_CountOf32SilencesThePort :
    (sending (.leave 2) (counts 31 31 open2)).portLaw ∧ (counts 0 31 open2).portLaw ∧
    (counts 0 31 open2).participation = .full ∧ open2.ctl.collection = none ∧ open2.ctl.abandoned < 2 ∧
    (sending (.leave 2) (counts 31 31 open2)).port.sending.isSome = true ∧ (counts 31 31 open2).port.tx = 31 ∧
    (counts 0 31 open2).port.sending = none ∧ readFrame [] = none ∧ (counts 0 31 open2).port.rx = 31 ∧
    ((1 = 1) ∧ 32 ≤ (counts 32 31 open2).port.tx) ∧
    ((2 = 2) ∧ (counts 31 32 open2).port.tx < 32 ∧ 32 ≤ (counts 31 32 open2).port.rx) ∧
    open2.ctl.state ≠ .silent ∧ open2.fault.phase = .clear ∧ (relayBusy open2).link.relay = some (.drop 0) := by
  refine ⟨⟨by decide, by decide, by decide, by decide⟩, ⟨by decide, by decide, by decide, by decide⟩, ?_⟩
  decide

/-- The vetoes at 31 of a transmitted and of a received frame take an ACTIVE station to SILENT. -/
theorem test_veto_at_31_silences :
    (match exec (.frameVetoed ⟨[], .sinceMove⟩) (sending (.leave 2) (counts 31 0 open2)) with
      | .next t => decide (t.port.silent = true ∧ t.ctl.state = .silent ∧
          t.fault.record = some { faultRecord with cause := .busSilent, detail := 1 })
      | _ => false) = true ∧
    (match exec (.frameVetoed ⟨[], .sinceMove⟩) (counts 0 31 open2) with
      | .next t => decide (t.port.silent = true ∧
          t.fault.record = some { faultRecord with cause := .busSilent, detail := 2 })
      | _ => false) = true := by decide +kernel

/-- Frames read at 126 good ones, good, bad and vetoed; and the ways out of SILENT at 127 good ones, in the
states SILENT and HALTED. -/
theorem test_hyp_SilentPortCountsAndComesBack :
    (silentPort 126 (inState .silent)).port.silent = true ∧ (silentPort 126 (inState .silent)).port.good < 127 ∧
    (∃ r, readFrame (frameBits 3 false (.leave 3)) = some r) ∧ readFrame [] = none ∧
    127 ≤ (silentPort 127 (inState .silent)).port.good ∧
    frameOf (.release (hdr 3) 0) = some (hdr 3, .release 0) ∧
    (silentPort 127 (inState .silent)).ctl.state = .silent ∧
    (silentPort 127 (inState .silent)).port.queue = [] ∧ (silentPort 127 (inState .halted)).ctl.state ≠ .silent := by
  refine ⟨by decide, by decide, ?_, by decide, by decide, rfl, by decide, by decide, by decide⟩
  exact Option.isSome_iff_exists.1 (by decide +kernel)

def leased (l : Lease) (s : State) : State := { s with board := { s.board with leases := [some l, none] } }
def claimed3 : State := act (entryOf (.claimed 3)) fresh

/-- Something waiting in the controller, in the Claim Unit alone, and an EXPIRED timer alone. -/
theorem test_hyp_FreePlaceIsGrantedInOrder :
    (withQueue open2 (queueOf 15)).participation = .full ∧ (withQueue open2 (queueOf 15)).port.queue.length < 16 ∧
    ({ open2 with ctl := { open2.ctl with waiting := [.ask] } } : State).ctl.waiting = .ask :: [] ∧
    open2.ctl.waiting = [] ∧
    ({ open2 with claims := { open2.claims with waiting := [.release 0] } } : State).claims.waiting = .release 0 :: [] ∧
    open2.claims.waiting = [] ∧ (leased .expired claimed3).ctl.state = .active ∧
    firstExpired (leased .expired claimed3).board.leases = some 0 ∧
    (leased .expired claimed3).board.replica = some ⟨[entryOf (.claimed 3), fresh], 0x000C#16, false⟩ ∧
    [entryOf (.claimed 3), fresh][0]? = some (entryOf (.claimed 3)) ∧
    (entryOf (.claimed 3)).status = .claimed 3 := by decide

/-- A running timer of page 0 with a place free at 15 entries, and none at 16. A renewal due, and one that is
not: no entry, one still queued, no place. -/
theorem test_hyp_LeaseTimerAndRenewalQueueTheirFrames :
    (leased .running claimed3).board.leases[0]? = some (some .running) ∧
    (∀ l ∈ (leased .running claimed3).board.leases, l ≠ some .expired) ∧
    (leased .running claimed3).ctl.state = .active ∧ (leased .running claimed3).port.silent = false ∧
    (withQueue (leased .running claimed3) (queueOf 15)).port.queue.length < 16 ∧
    ¬ ((withQueue (leased .running claimed3) (queueOf 16)).port.queue.length < 16) ∧
    (∃ e ∈ (withWork open2 [work 0 .inEngine]).claims.work, e.page = 0) ∧
    (∀ x ∈ open2.port.queue, x.body ≠ .frame (.renew 0)) ∧ open2.takesOffers = true ∧
    (joiningPort open2).takesOffers = true ∧ (inState .planLoad).takesOffers = false ∧
    ¬ (∃ e ∈ open2.claims.work, e.page = 0) ∧
    ¬ (∀ x ∈ (withQueue open2 [txOf (.frame (.renew 0)) 0]).port.queue, x.body ≠ .frame (.renew 0)) := by decide

/-- Nothing waits: a page to claim, none, and a station that may not claim. -/
theorem test_hyp_FreePlaceIsGrantedInOrder_claim :
    open2.participation = .full ∧ open2.port.queue.length < 16 ∧ open2.ctl.waiting = [] ∧ open2.claims.waiting = [] ∧
    firstExpired open2.board.leases = none ∧ open2.ctl.state = .active ∧ open2.fault.phase = .clear ∧
    open2.lane.offline = false ∧ open2.claims.work.length < open2.claimDepth ∧ open2.claims.pending = none ∧
    open2.board.replica = some ⟨[fresh, fresh], 0x000C#16, false⟩ ∧
    candidate [fresh, fresh] open2.lane.sheets = some 0 ∧
    candidate [entryOf (.claimed 3)] open2.lane.sheets = none ∧ (inState .syncing).participation = .full ∧
    (inState .syncing).ctl.state ≠ .active := by decide

def voidLapse : State := leased .offered claimed3
def claiming (s : State) : State :=
  { withQueue s [txOf (.frame (.claim 0 2)) 0] with claims := { s.claims with pending := some 0 } }

/-- An own LAPSE with another mark while its timer is OFFERED, and another station's. A listening station's frame of any
kind; a queued LAPSE of a page still so claimed. -/
theorem test_hyp_LeaseTimerAndRenewalQueueTheirFrames_void :
    voidLapse.hears ∧ voidLapse.board.replica = some ⟨[entryOf (.claimed 3), fresh], 0x000C#16, false⟩ ∧
    ¬ ((entryOf (.claimed 3)).status = .claimed 3 ∧ (entryOf (.claimed 3)).mark = 1) ∧
    (hdr 2).sender = voidLapse.straps.station ∧ (hdr 3).sender ≠ voidLapse.straps.station ∧
    voidLapse.board.leases[0]? = some (some .offered) ∧
    frameOf (.renew (hdr 3) 0) = some (hdr 3, .renew 0) ∧ voidLapse.participation = .full ∧
    (entryOf (.claimed 3)).status = .claimed 3 ∧ (entryOf (.claimed 3)).mark = 0 ∧
    txOf (.frame (.lapse 0 3 0)) 0 ∈ (withQueue voidLapse [txOf (.frame (.lapse 0 3 0)) 0]).port.queue :=
  ⟨hears_of (by decide) (by decide), by decide⟩

/-- A pending CLAIM that waits: another station's CLAIM of its page, with another page to claim; the engine going
offline; and the line falling silent. -/
theorem test_hyp_LeaseTimerAndRenewalQueueTheirFrames_pending :
    (claiming open2).claims.pending = some 0 ∧
    (∃ x ∈ (claiming open2).port.queue, x.onBus = false ∧ x.body = .frame (.claim 0 (claiming open2).straps.station)) ∧
    (claiming open2).hears ∧ (claiming open2).board.replica = some ⟨[fresh, fresh], 0x000C#16, false⟩ ∧
    fresh.status = .opened ∧ (0x000C#16).getLsbD (hdr 3).sender = true ∧ (hdr 3).sender ≠ (claiming open2).straps.station ∧
    (claiming open2).ctl.state = .active ∧ (claiming open2).fault.phase = .clear ∧ (claiming open2).lane.offline = false ∧
    (claiming open2).claims.work.length < (claiming open2).claimDepth ∧ (claiming open2).ctl.waiting = [] ∧
    candidate [entryOf (.claimed 3), fresh] (claiming open2).lane.sheets = some 1 ∧
    (claiming open2).claims.waiting = [] ∧ (claiming open2).port.queue.length ≤ 16 ∧
    firstExpired [some .running, none] = none ∧
    (claiming open2).link.up = true ∧ (claiming open2).link.silence.isSome = true :=
  ⟨by decide, ⟨_, List.mem_cons_self, by decide, by decide⟩, hears_of (by decide) (by decide), by decide⟩

/-- The three withdrawals, and the page claimed in its place. -/
theorem test_pending_claim_is_withdrawn :
    (match exec (.claim (hdr 3) 0 3) (claiming open2) with
      | .next t => decide (t.claims.pending = some 1) && decide (t.port.queue.map (fun x => x.body) = [.frame (.claim 1 2)])
      | _ => false) = true ∧
    (∀ c ∈ [Instr.engineOfflineAsserted, .silenceTimerExpiry],
      (match exec c (claiming open2) with
        | .next t => decide (t.claims.pending = none) && t.port.queue.all (fun x => !x.body.isClaim)
        | _ => false) = true) := by decide +kernel

/-! ## The Station Controller -/

def syncing (seen : Bool) (abandoned : Nat) : State :=
  { open2 with ctl := { Ctl.cleared with state := .syncing, syncTimer := some 2000, volumeSeen := seen,
                                         abandoned := abandoned },
               board := { Board.cleared with lastLaunched := 5 } }

/-- A station that has seen no volume; one that has, with 0, 1 and 2 abandoned collections. -/
theorem test_hyp_SyncTimerStartsAfreshOrAsksAgain :
    (syncing false 0).ctl.state = .syncing ∧ (syncing false 0).ctl.syncTimer.isSome = true ∧
    (syncing false 0).ctl.collection = none ∧ (syncing false 0).roster.head = some planHead ∧
    (syncing false 0).roster.status = .loaded ∧ 1 ≤ planHead.pages ∧ (syncing false 0).port.silent = false ∧
    (syncing false 0).port.queue.length < 16 ∧ (syncing false 0).ctl.volumeSeen = false ∧
    (syncing true 1).ctl.volumeSeen = true ∧ (syncing true 1).ctl.abandoned < 2 ∧
    (∀ x ∈ (syncing true 1).port.queue, x.body.isAsk = false) ∧ (syncing true 1).ctl.waiting = [] ∧
    (syncing true 2).ctl.abandoned = 2 ∧ (syncing true 2).fault.phase = .clear := by decide

/-- The third abandonment in HELD with a page to cut and to release. -/
theorem test_hyp_ProtocolLossAndTimeoutFlushTheFetches_halt :
    let s := withWork (holding holdingPage (faulted .held (syncing true 2))) [work 0 .composing, work 1 .inEngine]
    s.ctl.state = .syncing ∧ s.ctl.syncTimer.isSome = true ∧ s.ctl.collection = none ∧ s.ctl.volumeSeen = true ∧
    s.ctl.abandoned = 2 ∧ s.fault.phase = .held ∧ s.fault.record.isSome = true ∧ s.port.silent = false ∧
    (s.claims.work.map (fun w => w.page)).Nodup ∧ s.link.outbound.length < 64 ∧
    (match exec .syncTimerExpiry s with
      | .next t => decide (t.ctl.state = .halted) && decide (t.fault.phase = .held) && t.comp.cut &&
          decide (t.fault.awaited = s.fault.awaited) && decide (t.link.outbound.length = 1) &&
          decide (t.fault.repeats = 1) &&
          decide (t.port.queue.map (fun x => x.body) =
            [.frame (.release 0), .frame (.release 1), .frame (.leave 2)])
      | _ => false) = true := by decide +kernel

/-- An ACTIVE station and another's ASK; its own; one already queued; another state. -/
theorem test_hyp_AskIsAnsweredByARun :
    open2.hears ∧ open2.ctl.state = .active ∧ (hdr 3).sender ≠ open2.straps.station ∧ open2.ctl.waiting = [] ∧
    (∀ x ∈ open2.port.queue, x.body.isRun = false) ∧ open2.port.queue.length < 16 ∧
    (inState .syncing).ctl.state ≠ .active ∧ (hdr 2).sender = open2.straps.station ∧
    (∃ x ∈ (withQueue open2 [txOf (.run 3 true) 0]).port.queue, ∃ full, x.body = .run (hdr 3).sender full) ∧
    open2.board.replica = some ⟨[fresh, fresh], 0x000C#16, false⟩ :=
  ⟨hears_of (by decide) (by decide), by decide, by decide, by decide, by decide, by decide, by decide, by decide,
    ⟨_, List.mem_cons_self, true, rfl⟩, by decide⟩

/-- A run of plan 9 from station 3 with 16 pages and 2 records. -/
def collected (pages pageFrames records amendFrames : Nat) : Collection :=
  { responder := 3, identity := 9#32, pages := pages, lastLaunched := 5, present := 0x0008#16, batchStates := 1,
    records := records, pageFrames := pageFrames, amendFrames := amendFrames, entries := [], kept := [] }

def collecting (c : Collection) : State :=
  { syncing true 0 with ctl := { (syncing true 0).ctl with collection := some c, syncTimer := none },
                        port := { (syncing true 0).port with run := some ⟨3, 1⟩ } }

/-- The third abandonment with a page held and two entries, the port ENABLED and SILENT. -/
theorem test_hyp_SyncTimerStartsAfreshOrAsksAgain_halt :
    let s := withWork (holding holdingPage (syncing true 2)) [work 0 .composing, work 1 .queued]
    s.ctl.state = .syncing ∧ s.ctl.syncTimer.isSome = true ∧ s.ctl.collection = none ∧ s.ctl.volumeSeen = true ∧
    s.ctl.abandoned = 2 ∧ s.fault.phase = .clear ∧ (s.claims.work.map (fun w => w.page)).Nodup ∧
    s.port.silent = false ∧ (silentPort 0 s).port.silent = true ∧ s.closing 0 = false := by decide

/-- A run under collection, with 1 and 2 abandoned before: it can be vetoed, or end with the bus idle. -/
theorem test_hyp_RunIsCollected_broken :
    let s := collecting (collected 16 0 2 0)
    s.participation = .full ∧ s.ctl.state = .syncing ∧ s.ctl.collection = some (collected 16 0 2 0) ∧
    s.port.tx < 31 ∧ s.port.rx < 31 ∧ s.port.run.isSome = true ∧ s.ctl.abandoned < 2 ∧
    2 ≤ (syncing true 2).ctl.abandoned ∧ s.fault.phase = .clear := by decide

/-- Frames of a sender other than the responder: another's ASK and a RENEW; this station's ASK and LEAVE. -/
theorem test_hyp_RunIsCollected_other :
    let s := collecting (collected 16 0 2 0)
    s.board.replica = none ∧ (hdr 5).sender ≠ (collected 16 0 2 0).responder ∧
    (hdr 2).sender ≠ (collected 16 0 2 0).responder ∧ (hdr 2).sender = s.straps.station ∧
    frameOf (.ask (hdr 5) 9#32) = some (hdr 5, .ask 9#32) ∧ frameOf (.renew (hdr 5) 0) = some (hdr 5, .renew 0) ∧
    frameOf (.ask (hdr 2) 9#32) = some (hdr 2, .ask 9#32) ∧ frameOf (.leave (hdr 2) 2) = some (hdr 2, .leave 2) ∧
    s.pool = [] ∧ s.fault.phase = .clear ∧ s.fault.haltStep = false ∧ s.fault.awaited = [] := by decide

/-- The responder's next SNAP_PAGES and SNAP_AMEND, without HOLD or as the 256th frame, with frames to come. -/
theorem test_hyp_RunIsCollected_early :
    let bs := (List.replicate 8 fresh).flatMap Entry.bytes
    let body : AmendBody := { batch := 0, subject := 1, kind := 2, payload := [] }
    ¬ (collecting (collected 16 0 2 0)).unexpectedAt (collected 16 0 2 0) (.snapPages 2 0 bs) ∧
    ¬ (collected 16 0 2 0).lastIs (.snapPages 2 0 bs) ∧
    ¬ (collecting (collected 16 2 2 0)).unexpectedAt (collected 16 2 2 0) (.snapAmend 2 0 body) ∧
    ¬ (collected 16 2 2 0).lastIs (.snapAmend 2 0 body) ∧
    (collected 16 0 2 0).responder ≠ (collecting (collected 16 0 2 0)).straps.station ∧
    (collecting (collected 16 0 2 0)).roster.identity = some (collected 16 0 2 0).identity ∧
    (⟨3, false, .sinceMove⟩ : FrameHdr).hold = false ∧ 255 ≤ (⟨3, 255⟩ : RunHeld).count := by
  intro bs body
  have hb : ¬ entriesOutOfRange bs := by
    rw [← Laws.readEntries_none_iff 8 bs (by decide +kernel)]
    decide +kernel
  refine ⟨?_, fun w => absurd w.1 (by decide), ?_, fun w => absurd w.2 (by decide), by decide, by decide, rfl, by decide⟩
  · rintro (h | h | h | h | h | ⟨h, -⟩)
    · exact absurd h (by decide)
    · exact absurd h (by decide)
    · exact absurd h (by decide)
    · exact absurd h (by decide +kernel)
    · exact hb h
    · exact absurd h.1 (by decide)
  · have hp : readPayload body.kind body.payload = some .withdraw := by decide
    rintro (h | h | h | h | h | h | h | ⟨p, -, ⟨a, h, -⟩ | ⟨h, -⟩⟩)
    · exact absurd h (by decide)
    · exact absurd h (by decide)
    · exact absurd h (by decide)
    · exact absurd h (by decide)
    · exact absurd h (by decide)
    · exact absurd h (by decide)
    · rw [hp] at h; cases h
    · cases h
    · exact absurd h.2 (by decide)

/-- Unexpected frames of the responder: another kind, a second head, another requester, a wrong index, a wrong count, a bad
entry, the last SNAP_PAGES with a batch unmet; a record too early, of a FREE batch, of no kind, a duplicate, and the last with
a batch unmet. -/
theorem test_hyp_RunIsCollected_unexpected :
    let bs := (List.replicate 8 fresh).flatMap Entry.bytes
    let c := collected 16 0 2 0
    let s := collecting c
    let d := { collected 16 2 2 1 with batchStates := 3, kept := [⟨0, 1, .withdraw⟩] }
    let u := collecting d
    (s.board.replica = none ∧ (hdr 3).sender = c.responder ∧ c.responder ≠ s.straps.station ∧
     s.unexpectedAt c (.ask 9#32) ∧ s.unexpectedAt c (.snapHead 2 3 9#32 16 5 0 0 0) ∧
     s.unexpectedAt c (.snapPages 4 0 bs) ∧ s.unexpectedAt c (.snapPages 2 1 bs) ∧
     s.unexpectedAt c (.snapPages 2 0 (bs.take 49)) ∧ s.unexpectedAt c (.snapPages 2 0 (4#8 :: bs.drop 1)) ∧
     (collecting (collected 16 1 0 0)).unexpectedAt (collected 16 1 0 0) (.snapPages 2 1 bs)) ∧
    s.unexpectedAt c (.snapAmend 2 0 ⟨0, 1, 2, []⟩) ∧ u.unexpectedAt d (.snapAmend 2 1 ⟨2, 1, 2, []⟩) ∧
    u.unexpectedAt d (.snapAmend 2 1 ⟨1, 1, 9, []⟩) ∧ u.unexpectedAt d (.snapAmend 2 1 ⟨0, 1, 2, []⟩) ∧
    u.unexpectedAt d (.snapAmend 2 1 ⟨0, 7, 2, []⟩) := by
  intro bs c s d u
  have hw : readPayload 2 [] = some .withdraw := by decide
  refine ⟨⟨by decide, by decide, by decide, trivial, trivial, Or.inl (by decide), Or.inr (Or.inl (by decide)), ?_, ?_, ?_⟩,
    Or.inr (Or.inl (by decide)), ?_, ?_, ?_, ?_⟩
  · exact Or.inr (Or.inr (Or.inr (Or.inl (by decide +kernel))))
  · exact Or.inr (Or.inr (Or.inr (Or.inr (Or.inl ⟨0, 4#8, 0, 0, 5#8, 0, 0, 0, by decide +kernel, by
      unfold entryOutOfRange; decide⟩))))
  · exact Or.inr (Or.inr (Or.inr (Or.inr (Or.inr ⟨⟨by decide, by decide⟩, by decide, 0, by decide, by decide, fun a h => by cases h⟩))))
  · exact Or.inr (Or.inr (Or.inr (Or.inr (Or.inr (Or.inl (by decide))))))
  · exact Or.inr (Or.inr (Or.inr (Or.inr (Or.inr (Or.inr (Or.inl (by decide)))))))
  · exact Or.inr (Or.inr (Or.inr (Or.inr (Or.inr (Or.inr (Or.inr ⟨_, hw, Or.inl ⟨_, List.mem_cons_self, by decide⟩⟩))))))
  · exact Or.inr (Or.inr (Or.inr (Or.inr (Or.inr (Or.inr (Or.inr ⟨_, hw, Or.inr ⟨⟨by decide, by decide⟩, by decide, 1, by decide,
      by decide, by decide⟩⟩))))))

/-- Another station's head that names this station while it collects: of another responder, of this plan, of another. -/
theorem test_hyp_RunIsCollected_head :
    let s := collecting (collected 16 0 2 0)
    s.participation = .full ∧ s.ctl.state = .syncing ∧ s.board.replica = none ∧
    s.ctl.collection = some (collected 16 0 2 0) ∧ (hdr 5).sender ≠ (collected 16 0 2 0).responder ∧
    s.port.run = some { holder := (collected 16 0 2 0).responder, count := 1 } ∧ 4 ≠ (hdr 5).sender ∧
    ¬ (5 ≠ (hdr 5).sender ∨ 16 ≤ 0 ∨ 64 < 2) ∧ s.roster.identity = some 9#32 ∧ s.roster.identity ≠ some 8#32 ∧
    s.fault.phase = .clear ∧ s.ctl.abandoned = 0 ∧ (syncing true 1).ctl.abandoned = 1 ∧
    2 ≤ (syncing true 2).ctl.abandoned := by decide

/-- It counts twice, and halts at the third. -/
theorem test_head_of_another_station_counts_twice :
    (match exec (.snapHead (hdr 5) 2 5 9#32 16 5 0x0008#16 0 2) (collecting (collected 16 0 2 0)) with
      | .next t => decide (t.ctl.abandoned = 2 ∧ t.ctl.state = .syncing ∧ t.ctl.collection = none ∧ t.hasAsk = true)
      | _ => false) = true := by decide +kernel

/-- A station whose collection of the run that station 3 still holds was abandoned at an unexpected frame, its ASK queued. -/
def ignoring : State :=
  let s := withQueue (syncing true 1) [txOf (.frame (.ask 9#32)) 0]
  { s with port := { s.port with run := some ⟨3, 2⟩, ignores := true } }

theorem test_hyp_RunIsCollected_ignored :
    ignoring.participation = .full ∧ ignoring.ctl.state = .syncing ∧ ignoring.ctl.collection = none ∧
    ignoring.port.ignores = true ∧ ignoring.port.run = some { holder := (hdr 3).sender, count := 2 } ∧
    (hdr 3).sender ≠ ignoring.straps.station ∧ ignoring.hasAsk = true ∧ (syncing true 1).hears ∧
    (syncing true 1).port.run = none ∧ (syncing true 1).port.ignores = false := by
  refine ⟨by decide, by decide, by decide, by decide, by decide, by decide, by decide, hears_of (by decide) (by decide), ?_⟩
  decide

/-- A second head of that run starts no collection and leaves the ASK queued. -/
theorem test_head_of_an_ignored_run :
    (match exec (.snapHead ⟨3, true, .sinceMove⟩ 2 3 9#32 2 5 0x0008#16 0 0) ignoring with
      | .next t => decide (t.ctl = ignoring.ctl ∧ t.hasAsk = true ∧ t.port.ignores = true)
      | _ => false) = true := by decide +kernel

/-- The frame that was on the bus at a reset begins no run; the one after it does. -/
theorem test_frame_read_at_a_reset_is_abandoned :
    (match exec (.renew ⟨3, true, .beforeReset⟩ 0) State.reset with
      | .next t => decide (t.port.run = none ∧ t.port.abandons = false)
      | _ => false) = true ∧
    (match exec (.renew ⟨3, true, .sinceMove⟩ 0) State.reset with
      | .next t => decide (t.port.run = some ⟨3, 1⟩ ∧ t.port.abandons = false)
      | _ => false) = true := by decide +kernel

/-- A third break by the veto that brings a count to 32, of an own frame and of a bad one. -/
theorem test_hyp_CountOf32SilencesThePort_run :
    let c := collecting (collected 16 0 2 0)
    let s : State := { c with ctl := { c.ctl with abandoned := 2 } }
    (counts 0 31 s).participation = .full ∧ (counts 0 31 s).portLaw ∧ s.ctl.collection.isSome = true ∧
    s.ctl.abandoned = 2 ∧ s.ctl.state = .syncing ∧ s.fault.phase = .clear ∧ (counts 0 31 s).port.sending = none ∧
    readFrame [] = none ∧ (counts 0 31 s).port.rx = 31 ∧ (counts 31 0 s).port.tx = 31 ∧
    (sending (.leave 2) (counts 31 0 s)).portLaw ∧
    (sending (.leave 2) (counts 31 0 s)).port.sending.isSome = true := by
  refine ⟨by decide, ⟨by decide, by decide, by decide, by decide⟩, by decide, by decide, by decide, by decide,
    by decide, by decide, by decide, by decide, ⟨by decide, by decide, by decide, by decide⟩, by decide⟩

/-- A SNAP_HEAD of 1 page and of 64 records; the first of two SNAP_PAGES, the last of them with records to come,
and the first of two SNAP_AMENDs. -/
theorem test_hyp_RunIsCollected :
    (syncing true 0).hears ∧ (syncing true 0).ctl.state = .syncing ∧ (syncing true 0).board.replica = none ∧
    (syncing true 0).port.run = none ∧ (⟨3, true, .sinceMove⟩ : FrameHdr).hold = true ∧
    (⟨3, true, .sinceMove⟩ : FrameHdr).sender ≠ (syncing true 0).straps.station ∧
    (syncing true 0).roster.identity = some 9#32 ∧ 1 ≤ 1 ∧ 15 < 16 ∧ 64 ≤ 64 ∧
    (collecting (collected 16 0 2 0)).participation = .full ∧
    (collecting (collected 16 0 2 0)).ctl.collection = some (collected 16 0 2 0) ∧
    (collecting (collected 16 0 2 0)).port.run = some { holder := (⟨3, true, .sinceMove⟩ : FrameHdr).sender, count := 1 } ∧
    (∀ e ∈ List.replicate 8 fresh, readEntries e.bytes = some [e]) ∧
    (List.replicate 8 fresh).length = min 8 (16 - 8 * 0) ∧ 0 < (16 + 7) / 8 ∧ 0 + 1 < (16 + 7) / 8 ∧
    (List.replicate 8 fresh).length = min 8 (16 - 8 * 1) ∧ 1 < (16 + 7) / 8 ∧ ¬ (1 + 1 < (16 + 7) / 8) ∧
    (collected 16 1 2 0).amendFrames ≠ (collected 16 1 2 0).records ∧
    readPayload 2 [] = some .withdraw ∧ (collected 16 2 2 0).pageFrames = ((collected 16 2 2 0).pages + 7) / 8 ∧
    (collected 16 2 2 0).amendFrames + 1 < (collected 16 2 2 0).records ∧ 0 < 4 ∧
    (collected 16 2 2 0).batchStates.testBit 0 = true := by
  refine ⟨hears_of (by decide) (by decide), ?_⟩
  decide +kernel

/-- The one SNAP_PAGES of a run of two pages without a record. -/
theorem test_hyp_CompleteRunIsInstalled :
    let c := { collected 2 0 0 0 with batchStates := 0 }
    let s := collecting c
    s.participation = .full ∧ s.ctl.state = .syncing ∧ s.ctl.collection = some c ∧ (hdr 3).sender = c.responder ∧
    (hdr 3).sender ≠ s.straps.station ∧ s.roster.identity = some c.identity ∧ c.pages = s.roster.pageCount ∧
    c.lastLaunched = s.roster.editionRead ∧ c.records = 0 ∧ c.amendFrames = 0 ∧ c.kept = [] ∧ c.batchStates = 0 ∧
    (∀ e ∈ [entryOf (.claimed 3), fresh], readEntries e.bytes = some [e]) ∧
    [entryOf (.claimed 3), fresh].length = min 8 (c.pages - 8 * c.pageFrames) ∧
    c.pageFrames + 1 = (c.pages + 7) / 8 ∧ s.port.queue.length < 16 ∧ s.port.silent = false := by decide +kernel

/-- The one record of a run of two pages, its batch OPEN. -/
theorem test_hyp_CompleteRunIsInstalled_record :
    let c := collected 2 1 1 0
    let s := collecting c
    s.participation = .full ∧ s.ctl.state = .syncing ∧ s.ctl.collection = some c ∧ (hdr 3).sender = c.responder ∧
    (hdr 3).sender ≠ s.straps.station ∧ s.roster.identity = some c.identity ∧ c.pages = s.roster.pageCount ∧
    c.lastLaunched = s.roster.editionRead ∧ readPayload 2 [] = some .withdraw ∧
    c.pageFrames = (c.pages + 7) / 8 ∧ c.amendFrames + 1 = c.records ∧ c.batchStates.testBit 0 = true ∧
    (∀ k ∈ [1, 2, 3], c.batchStates.testBit k = false) ∧
    (∃ a ∈ c.kept ++ [{ batch := 0, subject := 0, payload := .withdraw }], a.batch = 0) ∧
    s.port.queue.length < 16 := by decide +kernel

/-- A head of another plan; a complete run of 8 pages, of an edition below, and of one above with 2 and 3 re-asks. -/
theorem test_hyp_CompleteRunIsInstalled_judged :
    (syncing true 0).hears ∧ (syncing true 0).roster.identity ≠ some 8#32 ∧ (syncing true 0).fault.phase = .clear ∧
    (let c := { collected 2 0 0 0 with batchStates := 0 }
     (collecting c).board.replica = none ∧ (collecting c).ctl.collection = some c ∧ c.records = 0 ∧
     [fresh, fresh].length = min 8 (c.pages - 8 * c.pageFrames) ∧ c.pageFrames + 1 = (c.pages + 7) / 8 ∧
     (collecting c).roster.pageCount = 2 ∧ (collecting c).roster.editionRead = 5) ∧
    (List.replicate 8 fresh).length = min 8 (8 - 8 * 0) ∧ 0 + 1 = (8 + 7) / 8 ∧ 8 ≠ 2 ∧ 4 < 5 ∧ 5 < 6 ∧ 2 < 3 ∧
    3 ≤ 3 := by
  refine ⟨hears_of (by decide) (by decide), by decide +kernel⟩

/-- A run of 8 pages, of an edition below, and of one above with 2 and 3 re-asks, complete at its one SNAP_AMEND. -/
theorem test_hyp_CompleteRunIsInstalled_judgedRecord :
    let c := collected 2 1 1 0
    let kept := c.kept ++ [{ batch := 0, subject := 1, payload := .withdraw }]
    (collecting c).board.replica = none ∧ (hdr 3).sender = c.responder ∧
    (hdr 3).sender ≠ (collecting c).straps.station ∧ (collecting c).roster.identity = some c.identity ∧
    readPayload 2 [] = some .withdraw ∧ c.pageFrames = (c.pages + 7) / 8 ∧ c.amendFrames + 1 = c.records ∧
    c.batchStates.testBit 0 = true ∧ ¬ c.unmet kept ∧ (collecting c).fault.phase = .clear ∧
    (collected 8 1 1 0).pageFrames = ((collected 8 1 1 0).pages + 7) / 8 ∧ 8 ≠ (collecting c).roster.pageCount ∧
    c.pages = (collecting c).roster.pageCount ∧ 4 < (collecting c).roster.editionRead ∧
    (collecting c).roster.editionRead < 6 ∧ 2 < 3 ∧ 3 ≤ 3 := by
  refine ⟨by decide, by decide, by decide, by decide, by decide, by decide, by decide, by decide, ?_, by decide, by decide,
    by decide, by decide, by decide, by decide, by decide, by decide⟩
  rintro ⟨b, hb, ht, h⟩
  have : ∀ b, b < 4 → (1 : Nat).testBit b = true → b = 0 := by decide
  exact h _ (List.mem_cons_self) (this b hb ht).symm

/-- A SILENT station that was never answered comes back with volume-seen set; a fresh start takes the plan edition. -/
theorem test_volume_seen_and_fresh_start :
    (match exec .portLeavesSilent (silentPort 0 (inState .silent)) with
      | .next t => t.ctl.volumeSeen && decide (t.ctl.state = .syncing)
      | _ => false) = true ∧
    (match exec .syncTimerExpiry { syncing false 0 with board := { Board.cleared with lastLaunched := 7 } } with
      | .next t => decide (t.board.lastLaunched = 5)
      | _ => false) = true := by decide +kernel

/-! ## The Page Board and the Claim Unit -/

def claimed2 : State := act (entryOf (.claimed 2)) fresh
def offline (s : State) : State := { s with lane := { s.lane with offline := true } }

/-- A CLAIM that is taken by another station and by this one; void ones (claimed, another claimant, absent
sender); and barred ones, HELD and offline. -/
theorem test_hyp_ClaimFrameTakesAnOpenPage :
    open2.hears ∧ open2.board.replica = some ⟨[fresh, fresh], 0x000C#16, false⟩ ∧ [fresh, fresh][1]? = some fresh ∧
    (fresh.status = .opened ∧ 3 = (hdr 3).sender ∧ (0x000C#16).getLsbD (hdr 3).sender = true) ∧
    (hdr 2).sender = open2.straps.station ∧ (0x000C#16).getLsbD (hdr 2).sender = true ∧
    (entryOf (.claimed 3)).status ≠ .opened ∧ 2 ≠ (hdr 3).sender ∧ (0x000C#16).getLsbD (hdr 4).sender = false ∧
    1 < open2.board.leases.length ∧ (faulted .held open2).fault.phase = .held ∧
    ((offline open2).fault.phase = .clear ∧ (offline open2).lane.offline = true) ∧ open2.claims.waiting = [] ∧
    open2.port.queue.length < 16 ∧ (∀ x ∈ open2.port.queue, x.body.closes 0 = false) :=
  ⟨hears_of (by decide) (by decide), by decide⟩

/-- The station's own CLAIM that is taken in RECOVERING, and one that is void with its flag set: another page is claimed, or
none may be. -/
theorem test_hyp_ClaimFrameTakesAnOpenPage_own :
    let s := faulted .recovering open2
    let held := act (entryOf (.claimed 3)) fresh
    let void : State := { held with claims := { held.claims with pending := some 0 } }
    s.hears ∧ s.board.replica = some ⟨[fresh, fresh], 0x000C#16, false⟩ ∧ fresh.status = .opened ∧
    (0x000C#16).getLsbD (hdr 2).sender = true ∧ (hdr 2).sender = s.straps.station ∧ s.fault.phase = .recovering ∧
    s.closing 0 = false ∧
    (match exec (.claim (hdr 2) 0 2) s with
      | .next t => decide (t.fault.awaited = [0]) && decide (t.claims.pending = none) && t.closing 0
      | _ => false) = true ∧
    void.hears ∧ (∀ e, [entryOf (.claimed 3), fresh][0]? = some e → e.status ≠ .opened) ∧ void.ctl.state = .active ∧
    void.fault.phase = .clear ∧ void.lane.offline = false ∧ void.claims.work.length < void.claimDepth ∧
    candidate [entryOf (.claimed 3), fresh] void.lane.sheets = some 1 ∧ void.ctl.waiting = [] ∧
    void.claims.waiting = [] ∧ firstExpired void.board.leases = none ∧ void.port.queue.length < 16 ∧
    (match exec (.claim (hdr 2) 0 2) void, exec (.claim (hdr 2) 0 2) (offline void) with
      | .next t, .next u => decide (t.claims.pending = some 1) && decide (u.claims.pending = none)
      | _, _ => false) = true :=
  ⟨hears_of (by decide) (by decide), by decide, by decide, by decide, by decide, by decide, by decide,
    by decide +kernel, hears_of (by decide) (by decide), fun e h => by cases h; decide, by decide +kernel⟩

/-- The holder's RENEW at mark 255 and another's; a void frame of every kind; an absent replica. -/
theorem test_hyp_RenewRaisesTheMark :
    claimed3.hears ∧ (∃ t, exec (.renew (hdr 3) 0) claimed3 = .next t) ∧
    claimed3.board.replica = some ⟨[entryOf (.claimed 3), fresh], 0x000C#16, false⟩ ∧
    ({ entryOf (.claimed 3) with mark := 255 } : Entry).status = .claimed (hdr 3).sender ∧
    (entryOf (.claimed 3)).status ≠ .claimed (hdr 2).sender ∧ 0 < claimed3.board.leases.length ∧
    (syncing true 0).board.replica = none ∧
    (∀ e, [entryOf (.claimed 3), fresh][0]? = some e → e.status ≠ .claimed (hdr 2).sender) ∧
    [entryOf (.claimed 3), fresh][2]? = none := by
  refine ⟨hears_of (by decide) (by decide), ⟨_, rfl⟩, by decide, by decide, by decide, by decide, by decide, ?_, by decide⟩
  intro e h
  cases h
  decide

/-- A LAPSE that is taken at lapse counts 1 and 2, void ones by holder and by mark; and the named holder's own,
in each phase of its entry. -/
theorem test_hyp_LapseOpensOrFailsThePage :
    claimed3.hears ∧ claimed3.board.replica = some ⟨[entryOf (.claimed 3), fresh], 0x000C#16, false⟩ ∧
    (let e : Entry := { entryOf (.claimed 3) with lapses := 1 }; e.status = .claimed 3 ∧ e.mark = 0 ∧ e.lapses + 1 < 3) ∧
    (let e : Entry := { entryOf (.claimed 3) with lapses := 2 }; e.status = .claimed 3 ∧ e.mark = 0 ∧ ¬ e.lapses + 1 < 3) ∧
    ¬ ((entryOf (.claimed 3)).status = .claimed 2 ∧ (entryOf (.claimed 3)).mark = 0) ∧
    ¬ ((entryOf (.claimed 3)).status = .claimed 3 ∧ (entryOf (.claimed 3)).mark = 1) ∧ 3 ≠ claimed3.straps.station ∧
    (entryOf (.claimed 2)).status = .claimed claimed2.straps.station ∧
    (∀ ph ∈ [WorkPhase.queued, .composing, .inEngine],
      (withWork claimed2 [work 1 .queued, work 0 ph]).claims.work = [work 1 .queued] ++ work 0 ph :: [] ∧
      (work 0 ph).page = 0) ∧
    (∀ x ∈ [work 1 .queued] ++ [], x.page ≠ 0) ∧ claimed2.fault.phase = .clear ∧
    (faulted .held claimed2).fault.phase ≠ .clear ∧ (holding holdingPage claimed2).comp.held = some holdingPage ∧
    holdingPage.page = 0 ∧ (holding holdingPage claimed2).lane.inFlight = none :=
  ⟨hears_of (by decide) (by decide), by decide⟩

/-- The named holder of a page that its work list lacks. -/
theorem test_hyp_LapseOpensOrFailsThePage_unlisted :
    claimed2.hears ∧ claimed2.board.replica = some ⟨[entryOf (.claimed 2), fresh], 0x000C#16, false⟩ ∧
    (entryOf (.claimed 2)).status = .claimed claimed2.straps.station ∧ (∀ w ∈ claimed2.claims.work, w.page ≠ 0) ∧
    claimed2.fault.phase = .clear ∧ (faulted .held claimed2).fault.phase ≠ .clear :=
  ⟨hears_of (by decide) (by decide), by decide⟩

/-- An unlisted page's LAPSE keeps the work list. -/
theorem test_unlisted_lapse_keeps_the_work_list :
    (match exec (.lapse (hdr 3) 0 2 0) (withWork claimed2 [work 1 .queued]) with
      | .next t => decide (t.claims.work = [work 1 .queued]) && decide (t.fault.record.map (fun x => (x.cause, x.page)) =
          some (.claimLost, some 0))
      | _ => false) = true := by decide +kernel

/-- The lost claim in HELD, of the held page and of another. -/
theorem test_hyp_ProtocolLossAndTimeoutFlushTheFetches_lost :
    let s := withWork (holding holdingPage (faulted .held claimed2)) [work 0 .composing]
    let other := withWork (holding { holdingPage with page := 1 } (faulted .held claimed2)) [work 0 .queued]
    s.hears ∧ s.fault.phase = .held ∧ s.board.replica = some ⟨[entryOf (.claimed 2), fresh], 0x000C#16, false⟩ ∧
    (entryOf (.claimed 2)).status = .claimed s.straps.station ∧ s.comp.held = some holdingPage ∧ holdingPage.page = 0 ∧
    (match exec (.lapse (hdr 3) 0 2 0) s, exec (.lapse (hdr 3) 0 2 0) other with
      | .next t, .next u => t.comp.cut && decide (t.fault.record = s.fault.counted) && decide (u.comp = other.comp)
      | _, _ => false) = true :=
  ⟨hears_of (by decide) (by decide), by decide, by decide, by decide, by decide, by decide, by decide +kernel⟩

/-- The last OPEN page printed by another station: the board passes to complete; and with a page left it does not. -/
theorem test_hyp_DonePrintsOrReopensThePage_complete :
    let s := act (entryOf (.claimed 3)) (entryOf (.failed 4 .lapsed))
    s.hears ∧ s.board.replica = some ⟨[entryOf (.claimed 3), entryOf (.failed 4 .lapsed)], 0x000C#16, false⟩ ∧
    (hdr 3).sender ≠ s.straps.station ∧ completeBoard [entryOf (.printed 3 5), entryOf (.failed 4 .lapsed)] = true ∧
    completeBoard [entryOf (.printed 3 5), fresh] = false :=
  ⟨hears_of (by decide) (by decide), by decide⟩

/-- A SYNCING station and another's JOIN of its plan, with no ASK offered, with one, and with a full queue. -/
theorem test_hyp_JoinAndLeaveOpenTheSendersClaims_heard :
    (syncing true 0).hears ∧ (syncing true 0).ctl.state = .syncing ∧ (syncing true 0).board.replica = none ∧
    (hdr 3).sender ≠ (syncing true 0).straps.station ∧ (syncing true 0).roster.identity = some 9#32 ∧
    (syncing true 0).hasAsk = false ∧ (syncing true 0).port.queue.length < 16 ∧
    (withQueue (syncing true 0) (queueOf 1)).hasAsk = true ∧
    16 ≤ (withQueue (syncing true 0) (List.replicate 16 ⟨.frame (.leave 2), false, 0, false⟩)).port.queue.length ∧
    (withQueue (syncing true 0) (List.replicate 16 ⟨.frame (.leave 2), false, 0, false⟩)).hasAsk = false :=
  ⟨hears_of (by decide) (by decide), by decide⟩

/-- The station's own LEAVE with a relayed frame of each kind in the slot. -/
theorem test_hyp_OwnJoinActivatesAndOwnLeaveDrops_relay :
    (relayBusy claimed2).hears ∧ (relayBusy claimed2).link.relay = some (.drop 0) ∧
    (relayBusy claimed2).link.outbound.length < 64 ∧ Frame.drop 0 ≠ .launch 0 :=
  ⟨hears_of (by decide) (by decide), by decide⟩

/-- The holder's DONE at the need edition, one below it, another station's, and this station's own. -/
theorem test_hyp_DonePrintsOrReopensThePage :
    claimed3.hears ∧ claimed3.board.replica = some ⟨[entryOf (.claimed 3), fresh], 0x000C#16, false⟩ ∧
    (entryOf (.claimed 3)).status = .claimed (hdr 3).sender ∧ (entryOf (.claimed 3)).need ≤ 5 ∧
    ¬ ((entryOf (.claimed 3)).need ≤ 4) ∧ (entryOf (.claimed 3)).status ≠ .claimed (hdr 2).sender ∧
    (hdr 3).sender ≠ claimed3.straps.station ∧ (hdr 2).sender = claimed2.straps.station ∧
    (entryOf (.claimed 2)).status = .claimed (hdr 2).sender ∧ claimed2.fault.phase ≠ .recovering ∧
    claimed2.link.outbound.length < 64 ∧ 0 < claimed3.board.leases.length :=
  ⟨hears_of (by decide) (by decide), by decide⟩

/-- The causes 1, 2, 3 and 4, from the holder and from another station, at a listener and at the sender. -/
theorem test_hyp_ReleaseOpensAndFailFailsThePage :
    claimed3.hears ∧ claimed3.board.replica = some ⟨[entryOf (.claimed 3), fresh], 0x000C#16, false⟩ ∧
    (entryOf (.claimed 3)).status = .claimed (hdr 3).sender ∧ (entryOf (.claimed 3)).status ≠ .claimed (hdr 2).sender ∧
    (1 ≠ 2 ∧ 1 ≠ 3) ∧ (4 ≠ 2 ∧ 4 ≠ 3) ∧ (hdr 3).sender ≠ claimed3.straps.station ∧
    (hdr 2).sender = claimed2.straps.station ∧ claimed2.fault.phase ≠ .recovering ∧
    (entryOf (.claimed 2)).status = .claimed (hdr 2).sender ∧ claimed2.link.outbound.length < 64 :=
  ⟨hears_of (by decide) (by decide), by decide⟩

/-- A JOIN of this plan and of another, a LEAVE of a present and of an absent station, and a wrong number. -/
theorem test_hyp_JoinAndLeaveOpenTheSendersClaims :
    claimed3.hears ∧ claimed3.board.replica = some ⟨[entryOf (.claimed 3), fresh], 0x000C#16, false⟩ ∧
    (hdr 3).sender < 16 ∧ (hdr 15).sender < 16 ∧ (hdr 3).sender ≠ claimed3.straps.station ∧
    claimed3.ctl.state ≠ .syncing ∧ claimed3.roster.identity = some 9#32 ∧ claimed3.roster.identity ≠ some 8#32 ∧
    (⟨[entryOf (.claimed 3), fresh], 0x000C#16, false⟩ : Replica).isPresent 3 = true ∧
    (⟨[entryOf (.claimed 3), fresh], 0x000C#16, false⟩ : Replica).isPresent 15 = false ∧ 4 ≠ (hdr 3).sender :=
  ⟨hears_of (by decide) (by decide), by decide⟩

/-- The station's own JOIN in SYNCING with its replica installed, and its own LEAVE. -/
theorem test_hyp_OwnJoinActivatesAndOwnLeaveDrops :
    ({ claimed2 with ctl := { Ctl.cleared with state := .syncing } } : State).hears ∧
    ({ claimed2 with ctl := { Ctl.cleared with state := .syncing } } : State).ctl.state = .syncing ∧
    claimed2.board.replica = some ⟨[entryOf (.claimed 2), fresh], 0x000C#16, false⟩ ∧
    claimed2.roster.identity = some 9#32 ∧ claimed2.fault.phase ≠ .recovering :=
  ⟨hears_of (by decide) (by decide), by decide⟩

def recovering : State :=
  { faulted .recovering claimed2 with
    fault := { (faulted .recovering claimed2).fault with awaited := [0], reportTimer := none } }

/-- One awaited page with no step open; the report timer in HELD, and in another phase. -/
theorem test_hyp_RecoveryEndsAndItsFaultIsReportedAgain :
    recovering.hears ∧ recovering.board.replica = some ⟨[entryOf (.claimed 2), fresh], 0x000C#16, false⟩ ∧
    recovering.fault.phase = .recovering ∧ recovering.fault.record = some faultRecord ∧
    recovering.fault.awaited = [0] ∧ recovering.fault.cutStep = false ∧ recovering.fault.flushStep = false ∧
    recovering.fault.haltStep = false ∧ recovering.fault.deferred = [] ∧ recovering.link.outbound.length ≤ 62 ∧
    (faulted .held open2).fault.phase = .held ∧ (faulted .held open2).fault.reportTimer.isSome = true ∧
    (faulted .held open2).fault.record = some faultRecord ∧ open2.fault.phase ≠ .held :=
  ⟨hears_of (by decide) (by decide), by decide⟩

/-- One outcome deferred: of a page with no entry in the engine, of one the recovery kept, delivered and spoiled;
and the own LEAVE with no step open but the halt, and with the cut open. -/
theorem test_hyp_RecoveryEndsAndItsFaultIsReportedAgain_replay :
    let d (o : EngineOutcome) : State :=
      { withWork recovering [work 0 .queued, work 1 .inEngine] with
        fault := { recovering.fault with deferred := [(⟨1, 5, false⟩, o)], haltStep := false } }
    (d .delivered).hears ∧ (d .delivered).fault.deferred = [(⟨1, 5, false⟩, .delivered)] ∧
    (d .delivered).fault.awaited = [0] ∧ (d .delivered).link.outbound.length ≤ 60 ∧
    (⟨1, 5, false⟩ : Sheet).cut = false ∧ (d .delivered).claims.work = [work 0 .queued] ++ work 1 .inEngine :: [] ∧
    (work 1 .inEngine).phase = .inEngine ∧ (1 ≠ 0) ∧ (∀ y ∈ [work 0 .queued] ++ [], y.page ≠ 1) ∧
    (d .delivered).closing 1 = false ∧ EngineOutcome.spoiled ≠ .delivered ∧ (work 1 .inEngine).spoils = 0 ∧
    (∀ w ∈ (withWork recovering [work 1 .queued]).claims.work, w.page = 1 → w.phase ≠ .inEngine) ∧
    (d .delivered).link.outbound.length + (d .delivered).fault.deferred.length ≤ 62 ∧
    (d .delivered).fault.cutStep = false ∧ (d .delivered).fault.flushStep = false :=
  ⟨hears_of (by decide) (by decide), by decide⟩

/-! ## The Amendment Store and the Launch Queue -/

/-- A payload of each kind; one with a byte too many, and an empty caption line. -/
theorem test_PayloadBytesAreReadExactly :
    readPayload 2 [] = some .withdraw ∧ readPayload 3 [] = some .restore ∧ readPayload 2 [0#8] = none ∧
    readPayload 1 [1#8, 0x41#8, 0#8] = some (.caption [0x41#8] none) ∧ readPayload 1 [0#8, 0#8] = none ∧
    readPayload 4 [] = none := by decide +kernel

def record (b : Nat) : Amendment := { batch := b, subject := 0, payload := .withdraw }
def pooled (l : List Amendment) (s : State) : State := { s with pool := l }

/-- An AMEND that is taken new and as a replacement; void ones by batch 4, kind 4, subject 1 (the plan's count),
payload, and a store of 64; at the station whose frame it is. A DROP of batch 4, of a FREE batch and of an OPEN
one. -/
theorem test_hyp_AmendAndDropAreJudgedInOrder :
    open2.hears ∧ open2.board.replica = some ⟨[fresh, fresh], 0x000C#16, false⟩ ∧
    ¬ (4 ≤ 3 ∨ 4 ≤ 3) ∧ 4 ≤ 4 ∧ open2.roster.subjectCount ≤ 1 ∧ ¬ (open2.roster.subjectCount ≤ 0) ∧
    readPayload 2 [] = some .withdraw ∧ readPayload 2 [0#8] = none ∧
    (pooled [record 0] open2).pool.any (fun x => decide (x.batch = 0 ∧ x.subject = 0 ∧ x.payload.kind = 2)) = true ∧
    open2.pool.any (fun x => decide (x.batch = 0 ∧ x.subject = 0 ∧ x.payload.kind = 2)) = false ∧
    64 ≤ (pooled (List.replicate 64 (record 1)) open2).pool.length ∧
    (hdr 2).sender = open2.straps.station ∧ (relayBusy open2).link.relay.isSome = true ∧
    (relayBusy open2).link.outbound.length < 64 ∧
    ¬ ((hdr 3).sender = open2.straps.station ∧ (relayBusy open2).link.relay.isSome = true) ∧
    batchOf (pooled [record 3] open2).pool 3 ≠ [] ∧ batchOf open2.pool 3 = [] :=
  ⟨hears_of (by decide) (by decide), by decide⟩

/-- A LAUNCH of batch 4, of a FREE batch, at 65535, and a taken one at 65534 over pages printed, claimed and
untouched. -/
theorem test_hyp_LaunchRaisesTheTouchedPages :
    open2.hears ∧ open2.board.replica = some ⟨[fresh, fresh], 0x000C#16, false⟩ ∧ batchOf open2.pool 0 = [] ∧
    batchOf (pooled [record 3] open2).pool 3 ≠ [] ∧ open2.board.lastLaunched ≠ 65535 ∧
    (65534 ≠ 65535) ∧ open2.roster.touchedBy [record 0] 0 = true ∧
    open2.roster.touchedBy [{ record 0 with subject := 1 }] 0 = false := by
  exact ⟨hears_of (by decide) (by decide), by decide +kernel⟩

/-- An own relayed LAUNCH that is taken and that is EMPTY, at a board that is complete. -/
theorem test_own_launch_is_answered :
    let s : State := pooled [record 3] (relayBusy (act (entryOf (.printed 3 5)) (entryOf (.failed 4 .lapsed))))
    s.hears ∧ (hdr 2).sender = s.straps.station ∧ s.link.relay.isSome = true ∧ s.link.outbound.length < 64 ∧
    (∀ b ∈ [3, 0], (match exec (.launch (hdr 2) b) s with
      | .next t => decide (t.link.relay = none) && (match t.link.outbound with
          | [⟨2, .relayResult r⟩] =>
            decide ((r.verdict, r.reason, r.edition) = if b = 3 then (.taken, none, some 6) else (.void, some .emptyBatch, none))
          | _ => false)
      | _ => false) = true) :=
  ⟨hears_of (by decide) (by decide), by decide +kernel⟩

/-- A taken LAUNCH with no page held and one batch waiting; one held with room for the batch, that touches it and
that does not, with a cut to make and with the close handed; no room by the 4 batches and by the 64 records; and a
boundary already forced. A batch that retakes a subject, and one that does not. -/
theorem test_hyp_LaunchedBatchWaitsOrIsApplied :
    let b : Batch := ⟨6, [record 0]⟩
    let s := pooled [record 0] (holding holdingPage open2)
    let forced : State := { s with launch := ⟨[b], [b]⟩ }
    let taking : Amendment := ⟨0, 0, .retake 11#32 ⟨0, 0, 9, 9⟩ 1⟩
    s.hears ∧ s.board.replica = some ⟨[fresh, fresh], 0x000C#16, false⟩ ∧ batchOf s.pool 0 = [record 0] ∧
    batchOf s.pool 0 ≠ [] ∧ s.board.lastLaunched ≠ 65535 ∧ open2.launch = ⟨[], []⟩ ∧ open2.comp.held = none ∧
    s.comp.held = some holdingPage ∧ s.launch.queue.length < 4 ∧ s.cuttable = true ∧
    ({ s with lane := { s.lane with inFlight := some (.pageClose false 2) } } : State).cuttable = false ∧
    b.records.length + (s.launch.queue.map (fun q => q.records.length)).sum ≤ 64 ∧
    s.roster.touchedBy b.records holdingPage.page = true ∧
    s.roster.touchedBy [{ record 0 with subject := 1 }] holdingPage.page = false ∧ forced.launch.forced ≠ [] ∧
    ¬ ((List.replicate 4 b).length < 4) ∧ ¬ (b.records.length + 64 ≤ 64) ∧
    s.roster.subjects[(record 0).subject]? = some subj ∧ (record 0).payload = .withdraw ∧
    (pooled [taking] open2).roster.subjectAt 0 0 = some taking.subject ∧ taking.payload.kind = 0 ∧
    (record 0).payload.kind ≠ 0 ∧
    roster.sections[page0.sectionIx]? = some sec ∧ roster.templates[page0.template]? = some tpl ∧ page0.kind = 0 ∧
    ({ page0 with kind := 1 } : PageRec).kind ≠ 0 ∧ sec.count ≤ tpl.columns * tpl.rows := by
  exact ⟨hears_of (by decide) (by decide), by decide +kernel⟩

/-! ## Composing -/

def ready : State :=
  { withWork claimed2 [work 1 .inEngine, ⟨0, .queued, 0, none, none⟩] with
    lane := { claimed2.lane with sheetReady := true, sheets := [⟨1, 5, false⟩, ⟨1, 5, true⟩, ⟨1, 5, true⟩] } }

/-- The first QUEUED entry behind one in the engine, with 3 sheets out, and with another or the same template
sent last; and each way the condition fails, with 4 sheets out. -/
theorem test_hyp_BoundaryTakesTheFirstQueuedPage :
    ready.comp.state = .idle ∧ ready.ctl.state = .active ∧ ready.fault.phase ≠ .recovering ∧
    ready.lane.sheetReady = true ∧ ready.lane.sheets.length < 4 ∧ ready.launch = ⟨[], []⟩ ∧
    ready.claims.work = [work 1 .inEngine] ++ ⟨0, .queued, 0, none, none⟩ :: [] ∧ ready.closing 0 = false ∧
    (∀ x ∈ [work 1 .inEngine], x.phase ≠ .queued ∨ ready.closing x.page = true) ∧
    (∀ x ∈ [work 1 .inEngine] ++ [], x.page ≠ 0) ∧ ready.roster.page? 0 = some page0 ∧
    ready.roster.templates[page0.template]? = some tpl ∧ ready.lane.lastTemplate ≠ some page0.template ∧
    ({ ready with lane := { ready.lane with lastTemplate := some 0 } } : State).lane.lastTemplate = some page0.template ∧
    (holding holdingPage ready).comp.state ≠ .idle ∧ (inState .syncing).ctl.state ≠ .active ∧
    (faulted .recovering ready).fault.phase = .recovering ∧ open2.lane.sheetReady = false ∧
    4 ≤ (List.replicate 4 (⟨1, 5, true⟩ : Sheet)).length ∧
    (∀ x ∈ open2.claims.work, x.phase ≠ .queued ∨ open2.closing x.page = true) := by decide +kernel

/-- Two batches wait, one of them behind a forced boundary; the learned record names this page and edition, another
page, and is absent. -/
theorem test_hyp_BoundaryTakesTheFirstQueuedPage_batches :
    let s : State := { ready with launch := ⟨[⟨6, [record 0]⟩], [⟨7, [record 0]⟩]⟩ }
    s.comp.state = .idle ∧ s.claims.work = [work 1 .inEngine] ++ ⟨0, .queued, 0, none, none⟩ :: [] ∧
    s.closing 0 = false ∧ s.roster.page? 0 = some page0 ∧ s.roster.templates[page0.template]? = some tpl ∧
    (match exec .boundary s with
      | .next t => decide (t.roster.edition = 7) && decide (t.launch = ⟨[], []⟩) &&
          decide (t.comp.learned = some ⟨0, 7, []⟩)
      | _ => false) = true ∧
    (let l : Learned := ⟨0, 5, [(0, .oversize)]⟩
     (match exec .boundary { ready with comp := { ready.comp with learned := some l } } with
      | .next t => decide (t.comp.learned = some l)
      | _ => false) = true) ∧
    ready.comp.learned = none := by decide +kernel

def inFlight (p : Packet) (s : State) : State := { s with lane := { s.lane with inFlight := some p } }
def cutting (s : State) : State := { s with comp := { s.comp with cut := true } }

/-- Packets 0, 1, 2 and 3 in flight, without and with a cut requested. -/
theorem test_hyp_TrainingSequence :
    (∀ n ∈ [0, 1, 2, 3],
      (inFlight (.train 0 n tpl.geometry []) (holding holdingPage open2)).lane.inFlight =
        some (.train holdingPage.template n tpl.geometry [])) ∧
    (holding holdingPage open2).comp.held = some holdingPage ∧ open2.roster.templates[holdingPage.template]? = some tpl ∧
    (holding holdingPage open2).comp.cut = false ∧ (cutting (holding holdingPage open2)).comp.cut = true ∧
    (63 < 64) ∧ (2 < 3) := by decide

def titled : State := { open2 with roster := { roster with templates := [tplTitled] } }

/-- PAGE_OPEN, PAGE_META and TITLE in flight; a page without a title band, one with the section's title, and one
with an override. -/
theorem test_hyp_PageOpensWithItsMetaAndTitle :
    (inFlight (.pageOpen 0 5 0) (holding holdingPage open2)).lane.inFlight = some (.pageOpen 0 5 0) ∧
    (inFlight (.pageMeta 0 5 2 0 1 []) (holding holdingPage open2)).lane.inFlight = some (.pageMeta 0 5 2 0 1 []) ∧
    (inFlight (.title [0x41#8]) (holding holdingPage titled)).lane.inFlight = some (.title [0x41#8]) ∧
    (holding holdingPage open2).comp.held = some holdingPage ∧ open2.roster.templates[0]? = some tpl ∧
    tpl.titleH = 0 ∧ titled.roster.templates[0]? = some tplTitled ∧ tplTitled.titleH ≠ 0 ∧
    open2.roster.page? 0 = some page0 ∧ page0.title = none ∧ open2.roster.page? 1 = some page1 ∧
    page1.title = some [0x42#8] ∧ open2.roster.sections[page0.sectionIx]? = some sec ∧
    (holding holdingPage open2).comp.cut = false ∧ (cutting (holding holdingPage open2)).comp.cut = true := by decide

def cellOf (subject : Option Nat) (a : Option FetchAnswer) : Cell :=
  { subject := subject, last := 31, cls := none, ref := true, taken := true, answer := a, place := none }
def readySlot (w h : Nat) (s : State) : State :=
  { s with tiles := { s.tiles with slots := slots (.ready 7#32 w h [.composing 0]) } }
def withSubject (j : Subject) (s : State) : State := { s with roster := { s.roster with subjects := [j] } }

/-- A cell in each case of the rule; the READY one at a window of half the cell's width, one line below that, at
the cell's width and beyond, the crop within the portrait and clamped, toned and not. -/
theorem test_hyp_CellClassIsTheFirstCase :
    (cellOf none none).subject = none ∧ (cellOf (some 0) none).subject = some 0 ∧
    open2.roster.subjects[0]? = some subj ∧ open2.roster.sections[holdingPage.sectionIx]? = some sec ∧
    holdingPage.cells[0]? = some (cellOf (some 0) none) ∧ ({ subj with withdrawn := true } : Subject).withdrawn = true ∧
    subj.withdrawn = false ∧ ({ subj with portrait := none } : Subject).portrait = none ∧ subj.portrait ≠ none ∧
    learnedKind (some ⟨0, 5, [(0, .oversize)]⟩) 0 5 0 = some .oversize ∧ learnedKind none 0 5 0 = none ∧
    (cellOf (some 0) (some .oversize)).answer = some .oversize ∧ (cellOf (some 0) none).answer = none ∧
    open2.tiles.readyFor 0 = none ∧ (readySlot 64 64 open2).tiles.readyFor 0 = some (0, 64, 64) ∧
    ¬ (2 * (windowFor ⟨0, 0, 16, 64⟩ 64 64 32 32).width < 32) ∧ 2 * (windowFor ⟨0, 0, 15, 64⟩ 64 64 32 32).width < 32 ∧
    (windowFor ⟨0, 0, 31, 64⟩ 64 64 32 32).width < 32 ∧ ¬ ((windowFor ⟨0, 0, 32, 64⟩ 64 64 32 32).width < 32) ∧
    clampCrop ⟨0, 0, 64, 64⟩ 64 64 = ⟨0, 0, 64, 64⟩ ∧ clampCrop ⟨0, 0, 65, 64⟩ 64 64 ≠ ⟨0, 0, 65, 64⟩ ∧
    tpl.tone = 0 ∧ ({ tpl with tone := 1 } : Template).tone ≠ 0 := by decide +kernel

/-- A learned record that names the cell, and those of another page, edition and cell. -/
theorem test_hyp_CellClassIsTheFirstCase_learned :
    learnedKind (some ⟨0, 5, [(0, .oversize)]⟩) 1 5 0 = none ∧ learnedKind (some ⟨0, 5, [(0, .oversize)]⟩) 0 6 0 = none ∧
    learnedKind (some ⟨0, 5, [(0, .oversize)]⟩) 0 5 1 = none := by decide

/-- The placing of four of those cells: VACANT, the pre-known PLACEHOLDER, the waiting cell, and a late one. -/
theorem test_CellClassIsTheFirstCase :
    ((withSubject { subj with withdrawn := true } open2).placing holdingPage tpl 0 (cellOf (some 0) none)).map
      (fun p => p.cls) = some .vacant ∧
    ((withSubject { subj with portrait := none } open2).placing holdingPage tpl 0 (cellOf (some 0) none)).map
      (fun p => p.notices) = some [.noPortrait] ∧
    (open2.placing holdingPage tpl 0 (cellOf (some 0) none)).isNone = true ∧
    (open2.placing holdingPage tpl 0 (cellOf (some 0) (some .oversize))).map (fun p => p.late) =
      some (some .oversize) := by decide +kernel

/-- The smallest and the largest portrait, crop and cell; an odd and an even column count at the middle; a mean at
each edge of a band and beside it, and 0. -/
theorem test_hyp_WindowMirrorAndTone :
    (0 < 1 ∧ 64 ≤ 64 ∧ 64 ≤ 2048 ∧ 32 ≤ 32 ∧ 2048 ≤ 2048 ∧ 2560 ≤ 2560) ∧
    (let w := windowFor ⟨4095, 4095, 4096, 4096⟩ 64 64 32 2560; w.left + w.width ≤ 64 ∧ w.top + w.height ≤ 64 ∧
      1 ≤ w.height ∧ 1 ≤ w.width) ∧
    mirrored 2 0 0 1 3 = false ∧ mirrored 2 0 0 0 3 = true ∧ mirrored 2 1 0 1 3 = false ∧ mirrored 2 1 0 2 3 = true ∧
    mirrored 2 0 0 1 4 = true ∧ mirrored 2 1 0 2 4 = true ∧ mirrored 1 0 0 0 1 = true ∧ mirrored 1 1 1 0 1 = true ∧
    16 ≤ sec.ceiling ∧ (sec.target ≤ 108 + sec.outer ∧ 108 ≤ sec.target + sec.outer) ∧
    ¬ (sec.target ≤ 107 + sec.outer) ∧ (148 ≤ sec.target + sec.outer) ∧ ¬ (149 ≤ sec.target + sec.outer) := by
  decide +kernel

/-- A window within the portrait at its top, moved up from its foot, in its middle, and taller than it; a resampled
pixel of a block of two by two; a measure with and without weights. -/
theorem test_hyp_WindowMirrorAndTone_values :
    windowFor ⟨0, 0, 64, 8⟩ 64 64 32 32 = ⟨0, 0, 64, 64⟩ ∧ windowFor ⟨0, 60, 16, 64⟩ 64 64 32 32 = ⟨0, 48, 16, 16⟩ ∧
    windowFor ⟨0, 0, 16, 8⟩ 64 64 32 32 = ⟨0, 0, 16, 16⟩ ∧ windowFor ⟨0, 20, 16, 44⟩ 64 64 32 32 = ⟨0, 24, 16, 16⟩ ∧
    windowFor ⟨0, 0, 64, 64⟩ 64 64 32 64 = ⟨16, 0, 32, 64⟩ ∧
    resampled ⟨[⟨0, 8#8⟩, ⟨3, 4#8⟩, ⟨192, 3#8⟩], 0, 64⟩ ⟨0, 0, 64, 64⟩ 32 32 0 0 0 = 3 ∧
    measure (fun x y => if x < 4 ∧ y < 4 then 160 else 0) ⟨0, 0, 19, 16⟩ (List.replicate 16 0) = 10 ∧
    measure (fun x y => if x < 4 ∧ y < 4 then 160 else 0) ⟨0, 0, 19, 16⟩ (4 :: List.replicate 15 1) = 33 := by
  decide +kernel

def placed : Held :=
  { holdingPage with cells := [{ cellOf (some 0) none with cls := some .placeholder }], bandsSent := 1, opened := true,
                     captions := [] }

def waitingTile (s : State) : State := { s with comp := { s.comp with state := .waitingTile } }

/-- A cell placed and one that waits; every class decided, in a page whose one cell is EMPTY; a band with a caption due
after it and one with none, with a band to come and as the last, without and with a late cell; captions with one more
to come and with none, with a band to come that is ready and that waits; and a cut. -/
theorem test_hyp_BandsAndCaptionsGoOn :
    (holding placed open2).comp.held = some placed ∧ open2.roster.templates[placed.template]? = some tpl ∧
    holdingPage.cells[0]? = some (cellOf (some 0) none) ∧
    open2.placing holdingPage tpl 0 (cellOf (some 0) none) = none ∧
    (open2.placing holdingPage tpl 0 (cellOf none none)).isSome = true ∧
    (∀ c ∈ placed.cells, c.cls ≠ none ∧ c.taken = true) ∧ tpl.neededBy 0 0 = true ∧ tpl.neededBy 1 0 = false ∧
    open2.cellNeeds { holdingPage with cells := [{ cellOf none none with taken := false }] } 0
      { cellOf none none with taken := false } = none ∧
    (waitingTile (holding holdingPage open2)).comp.state = .waitingTile ∧
    (waitingTile (holding holdingPage open2)).comp.cut = false ∧
    (waitingTile (holding holdingPage open2)).lane.inFlight = none ∧
    (inFlight (.band 1 64 1 []) (holding placed open2)).lane.inFlight = some (.band 1 64 1 []) ∧
    (holding placed open2).comp.cut = false ∧ (cutting (holding placed open2)).comp.cut = true ∧
    captionsDue placed tpl 0 = [.cell 0] ∧ captionsDue placed tpl 1 = [] ∧
    captionsDue holdingPage tpl 0 = [] ∧ holdingPage.bandsSent + 1 < holdingPage.bandCount ∧
    placed.bandCount ≤ placed.bandsSent + 1 ∧ placed.late = false ∧ ({ placed with late := true } : Held).late = true ∧
    (inFlight (.captionCell 0 [] none) (holding placed open2)).lane.inFlight = some (.captionCell 0 [] none) ∧
    (inFlight (.captionRow 0 []) (holding placed open2)).lane.inFlight = some (.captionRow 0 []) ∧
    ({ placed with captions := [.cell 0] } : Held).captions = .cell 0 :: [] ∧ placed.captions = [] ∧
    placed.bandsSent < placed.bandCount ∧ (holding placed open2).comp.state ≠ .waitingTile ∧
    ({ placed with bandsSent := 2 } : Held).bandCount ≤ ({ placed with bandsSent := 2 } : Held).bandsSent := by
  decide +kernel

def portraitPage : Held :=
  { placed with cells := [{ cellOf (some 0) none with
      cls := some .portrait, place := some ⟨⟨0, 0, 64, 64⟩, false, 32⟩ }] }

/-- A PORTRAIT cell whose one READY slot holds its reference, a pixel inside it and one outside; the PER_CELL and the
PER_ROW captions; a BAND in flight with the plan's tables empty, and one with a cut requested; the last lines of a cell
that end with a BAND of 32 lines and beside it. -/
theorem test_hyp_BandsAndCaptionsGoOn_values :
    tpl.cellLeft 0 = 0 ∧ tpl.cellTop 0 = 0 ∧ 1 ≤ tpl.cellH ∧ 64 * 1 < tpl.pageH ∧
    (readySlot 64 64 open2).tiles.slots[0]? = some (.ready 7#32 64 64 [.composing 0]) ∧
    ((readySlot 64 64 open2).bandRaster portraitPage tpl 1).length = 192 ∧
    (let s := readySlot 64 64 open2
     let t := { tpl with cellH := 64 }
     (s.bandRaster portraitPage { t with vGutter := 64, pageH := 256 } 1)[(0 * 64 + 33) * 3]? = some 255#8 ∧
     (s.bandRaster portraitPage { t with vGutter := 64, pageH := 65 } 1)[(0 * 64 + 31) * 3]? = some 0#8) ∧
    tpl.caption = 0 ∧ captionsDue portraitPage tpl 0 = [.cell 0] ∧
    captionsDue portraitPage { tpl with caption := 1 } 0 = [.row 0] ∧
    (let s := inFlight (.band 0 0 64 []) (holding placed { open2 with roster := { roster with templates := [] } })
     s.lane.inFlight = some (.band 0 0 64 []) ∧ s.comp.held = some placed ∧
     s.roster.templates[placed.template]? = none) ∧
    (let s := inFlight (.band 0 0 64 []) (cutting (holding portraitPage (readySlot 64 64 open2)))
     s.lane.inFlight = some (.band 0 0 64 []) ∧ s.comp.held = some portraitPage ∧ s.comp.cut = true) ∧
    (∀ c ∈ portraitPage.cells, c.ref = true ∧ c.taken = true ∧ c.cls = some .portrait ∧ c.last < 0 + 32 ∧
      ¬ c.last < 0 + 31) := by
  decide +kernel

/-- The BAND that holds a portrait's last line (line 31) is sent while the cut waits and another plan is being loaded,
whose template would end the cell elsewhere: the reference goes (R84); with the BAND that ends a line above it stays. -/
theorem test_band_sent_under_a_cut_drops_its_references :
    let s (n : Nat) := inFlight (.band 0 0 n []) (cutting (holding portraitPage { readySlot 64 64 open2 with
      roster := { roster with status := .loading, templates := [{ tpl with cellH := 640 }] } }))
    (match exec .bandSent (s 32), exec .bandSent (s 31) with
      | .next t, .next u =>
        decide (t.comp.held.map (fun y => (y.bandsSent, y.cells.map Cell.ref)) = some (2, [false])) &&
        decide (t.tiles.slots[0]? = some .free) &&
        decide (u.comp.held.map (fun y => y.cells.map Cell.ref) = some [true]) &&
        decide (u.tiles.slots[0]? = some (.ready 7#32 64 64 [.composing 0]))
      | _, _ => false) = true := by decide +kernel

/-- BAND 0 sent with a caption due: band 1 begins in the same step and its BAND goes behind the caption. -/
theorem test_next_band_begins_as_a_band_is_sent :
    let s := inFlight (.band 0 0 64 []) (holding { placed with bandsSent := 0 } open2)
    (match exec .bandSent s with
      | .next t => decide (t.comp.held.map (fun y => (y.band, y.reach)) = some (1, 64)) &&
          decide (t.lane.inFlight = some (.captionCell 0 [0x43#8] none)) &&
          (match exec .captionSent t with
            | .next u => (match u.lane.inFlight with | some (.band b first n _) => decide ((b, first, n) = (1, 64, 1)) | _ => false)
            | _ => false)
      | _ => false) = true := by decide +kernel

/-- A cut in RECOVERING with a page awaited and without, with the flush waiting for it and without. -/
theorem test_hyp_PageCloseAndCutEndThePage_recovery :
    let s := cutting (faulted .recovering (holding placed open2))
    s.comp.held = some placed ∧ s.comp.cut = true ∧ s.lane.inFlight = none ∧ s.launch = ⟨[], []⟩ ∧
    s.fault.phase = .recovering ∧ s.fault.record = some faultRecord ∧ s.fault.awaited = [] ∧
    s.fault.haltStep = false ∧ s.fault.flushStep = false ∧ recovering.fault.awaited ≠ [] ∧
    s.link.outbound.length + s.fault.deferred.length ≤ 62 ∧
    ({ s.fault with flushStep := true } : FaultUnit).flushStep = true := by decide

/-- The close and the cut with a waiting and a forced batch, TRAIN packet 0 in flight, outside RECOVERING and in it; the
cuts that wait. -/
theorem test_hyp_PageCloseAndCutEndThePage_batches :
    let batched (s : State) : State := { s with launch := ⟨[⟨6, [record 0]⟩], [⟨7, [record 0]⟩]⟩ }
    let train : Packet := .train 0 0 tpl.geometry []
    let closing := batched (inFlight (.pageClose false 2) (holding placed open2))
    let cut := batched (inFlight train (cutting (holding holdingPage open2)))
    closing.lane.inFlight = some (.pageClose false 2) ∧ closing.comp.held = some placed ∧
    cut.comp.held = some holdingPage ∧ cut.comp.cut = true ∧ cut.lane.inFlight = some train ∧
    cut.fault.phase ≠ .recovering ∧ cut.fault.flushStep = false ∧
    (faulted .recovering cut).fault.phase = .recovering ∧ (faulted .recovering cut).fault.record = some faultRecord ∧
    (∀ r ∈ [exec .pageCloseSent closing, exec .cutCarriedOut cut, exec .cutCarriedOut (faulted .recovering cut)],
      (match r with
        | .next t => decide (t.roster.edition = 7) && decide (t.launch = ⟨[], []⟩) && decide (t.comp.held = none)
        | _ => false) = true) ∧
    open2.comp.held = none ∧ (holding placed open2).comp.cut = false ∧
    (inFlight (.band 0 0 64 []) (cutting (holding placed open2))).lane.inFlight = some (.band 0 0 64 []) := by
  decide +kernel

/-- The normal close in flight; a cut with no packet in flight, of a page opened and not, its entry first, last
and gone. -/
theorem test_hyp_PageCloseAndCutEndThePage :
    (inFlight (.pageClose false 2) (holding placed open2)).lane.inFlight = some (.pageClose false 2) ∧
    (holding placed open2).comp.held = some placed ∧ open2.launch = ⟨[], []⟩ ∧
    (cutting (holding placed open2)).comp.cut = true ∧ (cutting (holding placed open2)).lane.inFlight = none ∧
    open2.fault.phase ≠ .recovering ∧ open2.fault.flushStep = false ∧ placed.opened = true ∧
    holdingPage.opened = false ∧
    (withWork open2 [work 1 .inEngine, work 0 .composing]).claims.work = [work 1 .inEngine] ++ work 0 .composing :: [] ∧
    (work 0 .composing).page = placed.page ∧ (∀ y ∈ [work 1 .inEngine] ++ [], y.page ≠ placed.page) ∧
    (∀ y ∈ (withWork open2 [work 1 .inEngine]).claims.work, y.page ≠ placed.page) := by decide

/-! ## Fetching -/

def wanting : State := { open2 with fetch := { open2.fetch with wants := [⟨7#32, [0]⟩] } }
def listed (n : Nat) (s : State) : State :=
  { s with fetch := { s.fetch with list := List.replicate n fetchEntry } }
def walking : State :=
  { withWork open2 [⟨0, .queued, 0, none, none⟩] with fetch := { open2.fetch with prefetch := [⟨0, []⟩] } }

/-- A head want with a free slot and 7 entries in the list; the list at 8, the link DOWN, the hold set; a walk to
one cell, with the same obstacles; and a reference on no slot, on a want and on a slot. -/
theorem test_hyp_WantsAndThePrefetchWalkAskAhead :
    wanting.fetch.wants = ⟨7#32, [0]⟩ :: [] ∧ (listed 7 wanting).fetch.list.length < 8 ∧ wanting.link.up = true ∧
    wanting.fetch.hold = false ∧ wanting.tiles.slotOf 7#32 = none ∧ wanting.tiles.firstFree = some 0 ∧
    (⟨7#32, [0]⟩ : Want).cells ≠ [] ∧ 8 ≤ (listed 8 wanting).fetch.list.length ∧ State.reset.link.up = false ∧
    wanting.fetch.wants ≠ [] ∧ walking.fetch.wants = [] ∧ walking.walkCells = [(0, 0)] ∧
    walking.walkNeeds 0 0 = some 7#32 ∧ walking.tiles.slotOf 7#32 = none ∧ walking.tiles.firstFree = some 0 ∧
    walking.tiles.prefetchSlots < 24 ∧ walking.fetch.list.length < 8 ∧ walking.link.up = true ∧
    8 ≤ (listed 8 walking).fetch.list.length ∧
    (∀ sl ∈ open2.tiles.slots, Ref.prefetch 0 0 ∉ sl.refs) ∧ open2.tiles.slotOf 7#32 = none ∧
    (∀ w ∈ open2.fetch.wants, w.portrait ≠ 7#32) ∧ (∃ w ∈ wanting.fetch.wants, w.portrait = 7#32) ∧
    (readySlot 64 64 open2).tiles.slotOf 7#32 = some 0 := by decide +kernel

def wantsTwice (first : Slot) : State :=
  { wanting with tiles := { wanting.tiles with
      slots := first :: List.replicate 63 (.ready 9#32 64 64 [.composing 1]), fillOrder := [1, 0] } }

/-- A want whose portrait is held; every slot READY with slot 0 the latest that may be evicted, and with none; a walk's
cell on a slot, and one passed over; a prefetch reference counted for the held page; no FREE slot. -/
theorem test_hyp_WantsAndThePrefetchWalkAskAhead_slots :
    (readySlot 64 64 wanting).tiles.slotOf 7#32 = some 0 ∧
    (readySlot 64 64 wanting).tiles.slots[0]? = some (.ready 7#32 64 64 [.composing 0]) ∧
    (wantsTwice (.ready 8#32 64 64 [.prefetch 1 0])).tiles.slotOf 7#32 = none ∧
    (∀ sl ∈ (wantsTwice (.ready 8#32 64 64 [.prefetch 1 0])).tiles.slots, sl ≠ .free) ∧
    (wantsTwice (.ready 8#32 64 64 [.prefetch 1 0])).tiles.fillOrder = [1] ++ 0 :: [] ∧
    (wantsTwice (.ready 8#32 64 64 [.prefetch 1 0])).tiles.slots[0]? = some (.ready 8#32 64 64 [.prefetch 1 0]) ∧
    (match exec .fetchWantRequest (wantsTwice (.ready 8#32 64 64 [.prefetch 1 0])) with
      | .next t => decide (t.tiles.slots[0]? = some (.filling 7#32 [.composing 0])) && decide (t.tiles.fillOrder = [1])
      | _ => false) = true ∧
    (match exec .fetchWantRequest (wantsTwice (.ready 8#32 64 64 [.composing 2])) with
      | .next t => decide (t.fetch.wants = wanting.fetch.wants)
      | _ => false) = true ∧
    (readySlot 64 64 walking).walkNeeds 0 0 = some 7#32 ∧ (readySlot 64 64 walking).tiles.slotOf 7#32 = some 0 ∧
    walking.walkNeeds 0 1 = none ∧
    (let s : State := { open2 with tiles := { open2.tiles with slots := slots (.ready 7#32 64 64 [.prefetch 0 0]) } }
     s.tiles.slots[0]? = some (.ready 7#32 64 64 [.prefetch 0 0]) ∧ [Ref.prefetch 0 0].Nodup ∧
     (s.countComposing 0 0 7#32).tiles.slots[0]? = some (.ready 7#32 64 64 [.composing 0])) := by decide +kernel

/-- Two QUEUED pages of one cell each behind one in the engine: the walk's order; a step with a cell behind it. -/
theorem test_walk_goes_in_list_order :
    let s : State := { walking with claims := { walking.claims with
      work := [work 0 .inEngine, ⟨1, .queued, 0, none, none⟩, ⟨0, .queued, 0, none, none⟩] } }
    s.walkCells = [(1, 0), (0, 0)] ∧ s.walkNeeds 1 0 = some 7#32 ∧ s.tiles.slotOf 7#32 = none ∧
    s.tiles.firstFree = some 0 ∧ s.tiles.prefetchSlots < 24 ∧
    (match exec .prefetchWalk s with
      | .next t => decide (t.tiles.slots[0]? = some (.filling 7#32 [.prefetch 1 0, .prefetch 0 0])) &&
          decide (t.fetch.list.length = 1)
      | _ => false) = true := by decide +kernel

/-! ## The print engine -/

def sheetOut (cut : Bool) (s : State) : State :=
  { s with lane := { s.lane with hold := false, sheets := [⟨0, 5, cut⟩], headTimer := some 30000 } }
def inEngine (spoils : Nat) : State :=
  sheetOut false (withWork claimed2 [⟨0, .inEngine, spoils, some 5, some Notices.zero⟩])

/-- A matching sheet at 0 and 1 spoils, a cut one, one that no entry matches, and a recovery. -/
theorem test_hyp_OutcomeOfTheHeadSheet :
    (inEngine 0).lane.hold = false ∧ (inEngine 0).lane.sheets = ⟨0, 5, false⟩ :: [] ∧ (⟨0, 5, false⟩ : Sheet).page < 1024 ∧
    (faulted .recovering (inEngine 0)).fault.phase = .recovering ∧ (inEngine 0).fault.phase ≠ .recovering ∧
    (sheetOut true claimed2).lane.sheets = ⟨0, 5, true⟩ :: [] ∧
    (inEngine 1).claims.work = [] ++ ⟨0, .inEngine, 1, some 5, some Notices.zero⟩ :: [] ∧
    (inEngine 0).closing 0 = false ∧ (inEngine 0).claims.waiting = [] ∧ (inEngine 0).participation = .full ∧
    (inEngine 0).port.queue.length < 16 ∧
    (∀ y ∈ (sheetOut false claimed2).claims.work, y.page = 0 → y.phase ≠ .inEngine) := by decide

/-- The hold set; another page and an empty list; pages 1023 and 1024, codes 0 and 4. -/
theorem test_hyp_WrongOutcomeRaisesEngineMismatch :
    State.reset.lane.hold = true ∧ (inEngine 0).lane.hold = false ∧ (inEngine 0).fault.phase = .clear ∧ 1023 < 1024 ∧
    (∀ sh ∈ (inEngine 0).lane.sheets, sh.page ≠ 1023) ∧ (inEngine 0).lane.hunt = [] ∧
    1024 ≤ (4#8).toNat * 256 + (0#8).toNat ∧ (0#8).toNat = 0 ∧ 3 < (4#8).toNat := by decide

/-- Bad records: a wrong CRC-8, another kind, a payload of 2 bytes of which one stood over, a page of 1024, a code of 0; and a
whole record with page 1024. -/
theorem test_hyp_WrongOutcomeRaisesEngineMismatch_bad :
    let s := inEngine 0
    let left : State := { s with lane := { s.lane with
      hunt := [0xA5#8, 0x10#8, 0#8, 0#8, 2#8, crc8 [0x10#8, 0#8, 0#8, 2#8], 0#8] } }
    s.lane.hold = false ∧ s.fault.phase = .clear ∧ s.lane.hunt = [] ∧ crc8 [0x10#8, 0#8, 0#8, 3#8] ≠ 0#8 ∧
    left.lane.hunt ++ [1#8] =
      0xA5#8 :: 0x10#8 :: 0#8 :: 0#8 :: 2#8 :: crc8 [0x10#8, 0#8, 0#8, 2#8] :: [0#8, 1#8] ∧
    (∀ r ∈ [exec (.badOutcomeRecord [0xA5#8, 0x10#8, 0#8, 0#8, 3#8, 0#8, 0#8, 0#8, 1#8]) s,
        exec (.badOutcomeRecord [0xA5#8, 0x11#8, 0#8, 0#8, 3#8, crc8 [0x11#8, 0#8, 0#8, 3#8]]) s,
        exec (.badOutcomeRecord [1#8]) left, exec (.outcomeRecord 1024 .delivered) s],
      (match r with
        | .next t => decide (t.fault.record = some (s.fault.first .engineMismatch none none none 0))
        | _ => false) = true) := by decide +kernel

/-- The head timer with a sheet out; ENGINE_OFFLINE with one, in PLAN_LOAD with one, and in PLAN_LOAD with none. -/
theorem test_hyp_EngineFaultsAndLevels :
    (inEngine 0).fault.phase = .clear ∧ (inEngine 0).comp.held = none ∧ (inEngine 0).lane.headTimer.isSome = true ∧
    (inEngine 0).lane.sheets = ⟨0, 5, false⟩ :: [] ∧ (inEngine 0).lane.offline = false ∧
    ¬ (((inEngine 0).ctl.state = .setupWait ∨ (inEngine 0).ctl.state = .planLoad) ∧ (inEngine 0).lane.sheets = []) ∧
    ¬ (((sheetOut false (inState .planLoad)).ctl.state = .planLoad) ∧
      (sheetOut false (inState .planLoad)).lane.sheets = []) ∧
    (offline open2).lane.offline = true ∧ (inState .planLoad).ctl.state = .planLoad ∧
    (inState .planLoad).lane.sheets = [] ∧ (inState .planLoad).claims.pending = none ∧
    (inState .planLoad).ctl.state ≠ .active := by decide

/-- The head timer with two entries, with a page to cut and without. -/
theorem test_hyp_EngineFaultsAndLevels_recovery :
    let s := withWork (holding holdingPage (inEngine 0)) [work 0 .composing, work 1 .inEngine]
    s.fault.phase = .clear ∧ s.lane.headTimer.isSome = true ∧ s.lane.sheets = ⟨0, 5, false⟩ :: [] ∧
    (s.claims.work.map (fun w => w.page)).Nodup ∧ s.closing 0 = false ∧ s.cuttable = true ∧
    (inEngine 0).cuttable = false := by decide

/-- ENGINE_OFFLINE with a page to cut and a sheet out. -/
theorem test_hyp_EngineFaultsAndLevels_offline :
    let s := withWork (holding holdingPage (inEngine 0)) [work 0 .composing, work 1 .inEngine]
    s.lane.offline = false ∧ ¬ ((s.ctl.state = .setupWait ∨ s.ctl.state = .planLoad) ∧ s.lane.sheets = []) ∧
    (match exec .engineOfflineAsserted s with
      | .next t => decide (t.lane = { s.lane with offline := true }) && t.comp.cut && t.fault.flushStep &&
          decide (t.fault.awaited = [0, 1]) && decide (t.fault.phase = .recovering) &&
          decide (t.fault.record = some (s.fault.first .engineOffline (some 0) none (some 0) 1))
      | _ => false) = true := by decide +kernel

/-! ## Wire formats and laws -/

/-- A frame of each shortest and longest payload, and an entry at every limit. -/
theorem test_hyp_FramesAndEntriesRoundTrip :
    frameOf (.leave (hdr 15) 15) = some (hdr 15, .leave 15) ∧ (Instr.leave (hdr 15) 15).wf = true ∧
    (Instr.snapPages (hdr 0) 15 127 (List.replicate 56 0#8)).wf = true ∧
    (let e : Entry := { status := .failed 15 .lapsed, mark := 255, need := 65535, lapses := 3, reprints := 15 };
      e.mark < 256 ∧ e.need < 65536 ∧ e.lapses ≤ 3 ∧ e.reprints ≤ 15 ∧ readEntries e.bytes = some [e]) ∧
    (let e : Entry := { status := .printed 15 65535, mark := 0, need := 0, lapses := 2, reprints := 0 };
      readEntries e.bytes = some [e]) ∧
    (open2.status 0).work.length < 256 ∧ (open2.status 0).sheets.length < 256 := by decide +kernel

/-- A PLAN_ASK's bytes around its payload. -/
theorem test_outbound_record_is_spelt :
    let r : OutRecord := ⟨2, .planAsk false none none⟩
    r.bytes.take 3 = [0x7E#8, 0x81#8, 0#8] ∧ r.bytes.length = r.payload.length + 8 := by decide +kernel

/-- The frame of a LEAVE from station 15, bit by bit: class 3, station 15, its kind, no HOLD, length 1. -/
theorem test_frame_bits_of_leave :
    readWhole (frameBits 15 false (.leave 15)) = some (15, false, .leave 15) ∧
    (frameBits 15 false (.leave 15)).length = 41 ∧
    (frameBits 15 false (.leave 15)).take 6 = [true, true, true, true, true, true] := by decide +kernel

theorem test_hyp_laws_are_met :
    open2.portLaw ∧ open2.sheetLaw ∧ open2.listLaw ∧ open2.dramLaw ∧
    (∀ e ∈ [fresh, fresh], e.lapses ≤ 3) ∧ open2.ctl.collection = none := by
  refine ⟨⟨by decide, by decide, by decide, by decide⟩, ⟨by decide, by decide⟩, ⟨by decide, by decide⟩, ?_, by decide, by decide⟩
  exact ⟨List.Pairwise.nil, fun c h => by cases h⟩

/-- A station that collects the run that station 3 holds. -/
theorem test_hyp_CollectLaw : (collecting (collected 16 0 2 0)).collectLaw := by
  intro c h
  cases h
  exact ⟨by decide, by decide, by decide, 1, by decide⟩

theorem test_hyp_StoreLaw : open2.storeLaw := ⟨by decide, fun c h => by cases h⟩

theorem test_hyp_FaultRecordStands :
    open2.faultLaw ∧ (faulted .held open2).faultLaw ∧ (faulted .held open2).fault.record = some faultRecord ∧
    (∃ t, exec .boundary (faulted .held open2) = .next t ∧ t.fault.record = some faultRecord) := by
  refine ⟨⟨by decide, fun r h => by cases h⟩, ⟨by decide, fun r h => by cases h; decide⟩, rfl, _, rfl, by decide +kernel⟩

theorem test_hyp_BoardLawIsKept : open2.boardLaw ∧ claimed3.boardLaw := by
  constructor
  · intro r h
    cases h
    intro e he
    simp only [List.mem_cons, List.not_mem_nil, or_false, or_self] at he
    subst he
    exact ⟨⟨by decide, fun h => absurd h (by decide), fun h n k => by cases k⟩, fun h k => by cases k⟩
  · intro r h
    cases h
    intro e he
    simp only [List.mem_cons, List.not_mem_nil, or_false] at he
    rcases he with rfl | rfl
    · exact ⟨⟨by decide, fun h => absurd h (by decide), fun h n k => by cases k⟩, fun h k => by cases k; decide⟩
    · exact ⟨⟨by decide, fun h => absurd h (by decide), fun h n k => by cases k⟩, fun h k => by cases k⟩

theorem test_hyp_SlotLawIsKept : open2.slotLaw := by
  refine ⟨by decide, fun n sl h => ?_, fun e h => by cases h⟩
  have : open2.tiles.slots = List.replicate 64 .free := rfl
  rw [this, List.getElem?_replicate] at h
  split at h
  · cases h; rfl
  · cases h

/-- Stations 2 and 3 with one board, at a frame of station 4. -/
theorem test_hyp_EqualReplicasStayEqual :
    let s1 := claimed3
    let s2 : State := { claimed3 with straps := ⟨3, 0⟩ }
    frameOf (.claim (hdr 4) 1 4) = some (hdr 4, .claim 1 4) ∧ s1.hears ∧ s2.hears ∧
    s1.board.replica = some ⟨[entryOf (.claimed 3), fresh], 0x000C#16, false⟩ ∧ s2.board.replica = s1.board.replica ∧
    s1.pool = s2.pool ∧ s1.roster.status = .loaded ∧ s1.roster.head = s2.roster.head ∧
    (∃ t1, exec (.claim (hdr 4) 1 4) s1 = .next t1) ∧ (∃ t2, exec (.claim (hdr 4) 1 4) s2 = .next t2) ∧
    (∀ st, Frame.claim 1 4 ≠ .leave st) :=
  ⟨rfl, hears_of (by decide) (by decide), hears_of (by decide) (by decide), rfl, rfl, rfl, rfl, rfl, ⟨_, rfl⟩, ⟨_, rfl⟩,
    fun st h => by cases h⟩

end Sys2Proof.Tests
end

section
/-! PROOFS. Chapter 1: what a body record does to the load in progress (R14). -/

namespace Sys2Proof.PlanLoad

open Sys2Proof Sys2Proof.Machine Sys2Proof.Laws

/-- R14: a body record of kind n is in order when the expected kind is not past n. -/
theorem takeBody_tracked {ro : Roster} {k : Track} (hk : ro.track = some k) (n : Nat) (add : Roster → Roster) :
    ro.takeBody n add =
      if k.expected ≤ n then add { ro with track := some (k.inOrder n) }
      else { ro with track := some k.outOfOrder } := by
  simp only [Roster.takeBody, hk]
  by_cases hn : n < k.expected
  · rw [if_pos hn, if_neg (Nat.not_le.mpr hn)]
  · rw [if_neg hn, if_pos (Nat.not_lt.mp hn)]

/-- R171: taking a good record leaves the station in its load. -/
theorem loading_goodRecord {s : State} (hc : s.ctl.state = .planLoad) (hr : s.roster.status = .loading) :
    s.goodRecord.loading = true := by
  simp [State.loading, goodRecord_eq, hc, hr]

/-- R12, R14: in LOADING a body record reaches the Roster Store alone, and the link notes a good record. -/
theorem takePlanBody_loading {s : State} (hc : s.ctl.state = .planLoad) (hr : s.roster.status = .loading)
    (n : Nat) (add : Roster → Roster) :
    s.goodRecord.takePlanBody n add =
      { s with roster := s.roster.takeBody n add, link := s.link.afterGood } := by
  rw [State.takePlanBody, if_pos (loading_goodRecord hc hr)]
  rfl

/-- R12, R14: the fate of a body record of kind n, for whichever table `add` stores it in. -/
theorem takePlanBody_tracked {s : State} {k : Track} (hc : s.ctl.state = .planLoad)
    (hr : s.roster.status = .loading) (hk : s.roster.track = some k) (n : Nat) (add : Roster → Roster) :
    s.goodRecord.takePlanBody n add = { s with
      roster := if k.expected ≤ n then add { s.roster with track := some (k.inOrder n) }
        else { s.roster with track := some k.outOfOrder },
      link := s.link.afterGood } := by
  rw [takePlanBody_loading hc hr, takeBody_tracked hk]

/-- R7: a caption line 2 of length 0 is stored as absent, every other one as it came. -/
theorem stored_eq (j : Subject) :
    Subject.stored j = { j with line2 := if j.line2 = some [] then none else j.line2 } := by
  obtain ⟨sectionIx, portrait, crop, pose, line1, line2, withdrawn⟩ := j
  match line2 with
  | none => rfl
  | some [] => rfl
  | some (_ :: _) => rfl

/-! Each body record is a good record of the link whose fate the Roster Store decides. -/

theorem exec_planTemplate (t : Template) (s : State) :
    exec (.planTemplate t) s = .next (s.goodRecord.takePlanTemplate t) := rfl

theorem exec_planSection (x : Section) (s : State) :
    exec (.planSection x) s = .next (s.goodRecord.takePlanSection x) := rfl

theorem exec_planPage (p : PageRec) (s : State) :
    exec (.planPage p) s = .next (s.goodRecord.takePlanPage p) := rfl

theorem exec_planSubject (j : Subject) (s : State) :
    exec (.planSubject j) s = .next (s.goodRecord.takePlanSubject j) := rfl

/-- Settles O7: each of the four records is `takePlanBody` at its own kind and table, so one lemma about
`takePlanBody` answers them all. The first kind is in order only as the expected one (nothing comes before it),
and a subject's empty second line is stored as absent. What each closing `rfl` computes is `Track.inOrder` at that
kind, with `push` at the capacity of its table. -/
theorem bodyRecordIsStoredInOrder : Obligations.BodyRecordIsStoredInOrder := by
  intro s k hc hr hk
  have body := takePlanBody_tracked hc hr hk
  refine ⟨fun t => ?template, fun x => ?sec, fun p => ?page, fun j => ?subject⟩
  case template =>
    rw [exec_planTemplate, State.takePlanTemplate, body]
    simp only [Nat.le_zero]
    rfl
  case sec =>
    rw [exec_planSection, State.takePlanSection, body]
    rfl
  case page =>
    rw [exec_planPage, State.takePlanPage, body]
    rfl
  case subject =>
    rw [exec_planSubject, State.takePlanSubject, body, stored_eq]
    rfl

end Sys2Proof.PlanLoad
end

section
/-! PROOFS. Chapter 3: the relay slot and what the hall server's requests come to (R63). -/

namespace Sys2Proof.RelaySlot

open Sys2Proof Sys2Proof.Machine Sys2Proof.Laws

/-! Each outcome of R63, by the condition that leads to it. -/

/-- R63: in a state other than ACTIVE the request is refused NOT_ACTIVE. -/
theorem relay_notActive {s : State} (h : s.ctl.state ≠ .active) (f : Frame) :
    s.relay f = s.refuseRelay f .notActive := if_pos h

/-- R63: with the relay slot BUSY the request is refused BUSY. -/
theorem relay_slotBusy {s : State} (ha : s.ctl.state = .active) (hb : s.link.relay.isSome = true) (f : Frame) :
    s.relay f = s.refuseRelay f .busy := by
  rw [State.relay, if_neg (not_not_intro ha), if_pos hb]

/-- R63: with the slot EMPTY the transmit queue decides. -/
theorem relay_slotEmpty {s : State} (ha : s.ctl.state = .active) (he : s.link.relay = none) (f : Frame) :
    s.relay f =
      if s.canQueue then
        { s with port := s.port.queued (.frame f), link := { s.link with relay := some f } }
      else s.refuseRelay f .busy := by
  have hb : ¬ s.link.relay.isSome = true := by simp [he]
  rw [State.relay, if_neg (not_not_intro ha), if_neg hb]
  rfl

/-- R136, R145: in ACTIVE the port queues a frame unless it is SILENT or its queue is full. -/
theorem canQueue_active {s : State} (ha : s.ctl.state = .active) :
    s.canQueue = true ↔ s.port.silent = false ∧ s.port.queue.length < 16 := by
  simp [canQueue_iff, takesOffers_iff, ha]

/-- R63, R177: a refusal of a good record hands one RELAY_RESULT over and changes nothing but the link. -/
theorem refuseRelay_goodRecord (s : State) (f : Frame) (r : Reason) :
    s.goodRecord.refuseRelay f r =
      { s with link :=
          s.link.afterGood.handed ⟨s.straps.station, .relayResult (relayBare f .refused (some r))⟩ } := by
  rw [State.refuseRelay, emit_link]
  rfl

/-! The two resets. -/

/-- R63, R170: cold reset leaves the slot EMPTY. -/
theorem coldReset_relay (s : State) (straps : Straps) : (s.coldReset straps).link.relay = none := rfl

/-- R63, R176: RESTART leaves the slot EMPTY. -/
theorem restartBlocks_relay (s : State) : s.restartBlocks.link.relay = none := rfl

/-- R63, R146: RESTART discards the transmit queue, a relayed frame with it. -/
theorem restartBlocks_queue (s : State) : s.restartBlocks.port.queue = [] := rfl

/-- R176: RESTART keeps of the outbound list at most the record being sent, so it reports nothing. -/
theorem restartBlocks_outbound (s : State) : s.restartBlocks.link.outbound = s.link.outbound.take 1 := rfl

/-! The commands. -/

theorem exec_amendIn (b : AmendBody) (s : State) : exec (.amendIn b) s = .next (s.goodRecord.relay (.amend b)) := rfl

theorem exec_launchIn (batch : Nat) (s : State) :
    exec (.launchIn batch) s = .next (s.goodRecord.relay (.launch batch)) := rfl

theorem exec_dropIn (batch : Nat) (s : State) :
    exec (.dropIn batch) s = .next (s.goodRecord.relay (.drop batch)) := rfl

theorem exec_coldReset (station rate : Nat) (s : State) :
    exec (.coldReset station rate) s = .next (s.coldReset { station := station, rate := rate }) := rfl

theorem exec_restart (s : State) : exec .restart s = .next s.goodRecord.restartBlocks := rfl

/-- Settles O13: the three requests are one relay of their own frame, whose refusal carries what `relayBare` says
of that frame, so R63's four outcomes are shown once, for any frame. -/
theorem relayRequestsAreQueuedOrRefused : Obligations.RelayRequestsAreQueuedOrRefused := by
  refine ⟨?requests, ?coldReset, ?restart⟩
  case requests =>
    intro s c f answer hc
    obtain ⟨hx, rfl⟩ : exec c s = .next (s.goodRecord.relay f) ∧
        answer = fun r => relayBare f .refused (some r) := by
      rcases hc with ⟨b, rfl, rfl, rfl⟩ | ⟨b, rfl, rfl, rfl⟩ | ⟨b, rfl, rfl, rfl⟩
      · exact ⟨exec_amendIn b s, rfl⟩
      · exact ⟨exec_launchIn b s, rfl⟩
      · exact ⟨exec_dropIn b s, rfl⟩
    rw [hx]
    refine ⟨fun hn => ?notActive, fun ha hb => ?slotBusy, fun ha he hfull => ?noPlace,
      fun ha he hroom hs => ?queued⟩
    case notActive =>
      rw [relay_notActive (s := s.goodRecord) hn, refuseRelay_goodRecord]
    case slotBusy =>
      rw [relay_slotBusy (s := s.goodRecord) ha hb, refuseRelay_goodRecord]
    case noPlace =>
      have hno : ¬ s.goodRecord.canQueue = true := by
        rw [canQueue_active (s := s.goodRecord) ha]
        rintro ⟨hs, hroom⟩
        rcases hfull with hfull | hsilent
        · exact absurd hroom (Nat.not_lt.mpr hfull)
        · exact absurd hsilent (Bool.eq_false_iff.mp hs)
      rw [relay_slotEmpty (s := s.goodRecord) ha he, if_neg hno, refuseRelay_goodRecord]
    case queued =>
      have hyes : s.goodRecord.canQueue = true := (canQueue_active ha).mpr ⟨hs, hroom⟩
      rw [relay_slotEmpty (s := s.goodRecord) ha he, if_pos hyes, goodRecord_eq]
  case coldReset =>
    intro s t station rate h
    rw [exec_coldReset] at h
    cases h
    exact coldReset_relay s _
  case restart =>
    intro s t h
    rw [exec_restart] at h
    cases h
    refine ⟨restartBlocks_relay _, restartBlocks_queue _, fun r hr => ?_⟩
    rw [restartBlocks_outbound] at hr
    exact List.mem_of_mem_take hr

end Sys2Proof.RelaySlot
end

section
/-! PROOFS. What every step keeps: the laws of the state as one relation between two states, and what each way of
changing a block needs to keep them. -/

namespace Sys2Proof.Keeping

open Sys2Proof Sys2Proof.Machine Sys2Proof.Laws

/-! ## The relation -/

/-- R142, R143: a SILENT port has no frame to send and both counts at 0. -/
def Quiet (p : Port) : Prop := p.silent = true → p.queue = [] ∧ p.sending = none ∧ p.tx = 0 ∧ p.rx = 0

/-- R136, R141, R143: the three parts of the port's law, each kept on its own (a veto breaks one for a moment). -/
structure PortKept (p q : Port) : Prop where
  room : p.queue.length ≤ 16 → q.queue.length ≤ 16
  counts : p.tx < 32 ∧ p.rx < 32 → q.tx < 32 ∧ q.rx < 32
  quiet : Quiet p → Quiet q

/-- R161: a fault record that stands goes on standing, its follow-on count apart. -/
def Stands (f g : FaultUnit) : Prop :=
  f.phase ≠ .clear → g.phase ≠ .clear ∧ ∀ x, f.record = some x → ∃ n, g.record = some { x with followOn := n }

/-- What an operation keeps. Four of the laws stand under a condition of their own, for the few operations that keep them
only so: a fault record goes on standing under `record`, the store's law is kept under `store`, the board's under `board`,
and that of a run under collection under `collect`. -/
structure KeptIf (record store board collect : Prop) (s t : State) : Prop where
  port : PortKept s.port t.port
  sheets : s.sheetLaw → t.sheetLaw
  out : s.link.outbound.length ≤ 64 → t.link.outbound.length ≤ 64
  list : s.fetch.list.length ≤ 8 → t.fetch.list.length ≤ 8
  fault : s.faultLaw → t.faultLaw
  dram : s.dramLaw → t.dramLaw
  slot : s.slotLaw → t.slotLaw
  stands : record → Stands s.fault t.fault
  store : store → s.storeLaw → t.storeLaw
  board : board → s.boardLaw → t.boardLaw
  collect : collect → s.collectLaw → t.collectLaw

/-- Every law is kept, and a fault record that stands goes on standing. -/
abbrev Kept (s t : State) : Prop := KeptIf True True True True s t

theorem PortKept.refl (p : Port) : PortKept p p := ⟨id, id, id⟩

theorem PortKept.trans {p q r : Port} (a : PortKept p q) (b : PortKept q r) : PortKept p r :=
  ⟨b.room ∘ a.room, b.counts ∘ a.counts, b.quiet ∘ a.quiet⟩

theorem Stands.refl (f : FaultUnit) : Stands f f := fun h => ⟨h, fun x hx => ⟨x.followOn, hx⟩⟩

theorem Stands.trans {f g k : FaultUnit} (a : Stands f g) (b : Stands g k) : Stands f k := by
  intro h
  obtain ⟨hg, hx⟩ := a h
  obtain ⟨hk, hy⟩ := b hg
  refine ⟨hk, fun x hfx => ?_⟩
  obtain ⟨n, hn⟩ := hx x hfx
  obtain ⟨m, hm⟩ := hy _ hn
  exact ⟨m, hm⟩

section
variable {record store board collect : Prop} {s t u : State}

theorem KeptIf.trans (a : KeptIf record store board collect s t) (b : KeptIf record store board collect t u) :
    KeptIf record store board collect s u :=
  ⟨a.port.trans b.port, b.sheets ∘ a.sheets, b.out ∘ a.out, b.list ∘ a.list, b.fault ∘ a.fault, b.dram ∘ a.dram,
   b.slot ∘ a.slot, fun h => (a.stands h).trans (b.stands h), fun h => b.store h ∘ a.store h,
   fun h => b.board h ∘ a.board h, fun h => b.collect h ∘ a.collect h⟩

theorem KeptIf.refl (s : State) : KeptIf record store board collect s s :=
  ⟨.refl _, id, id, id, id, id, id, fun _ => .refl _, fun _ => id, fun _ => id, fun _ => id⟩

/-- What is kept under conditions is kept under stronger ones. -/
theorem KeptIf.under {r p b c : Prop} (k : KeptIf r p b c s t) (hr : record → r) (hp : store → p) (hb : board → b)
    (hc : collect → c) : KeptIf record store board collect s t :=
  { k with
    stands := k.stands ∘ hr
    store := k.store ∘ hp
    board := k.board ∘ hb
    collect := k.collect ∘ hc }

/-- What is kept without condition is kept under any. -/
theorem KeptIf.always (k : Kept s t) : KeptIf record store board collect s t :=
  k.under (fun _ => trivial) (fun _ => trivial) (fun _ => trivial) (fun _ => trivial)

end

theorem Kept.refl (s : State) : Kept s s := KeptIf.refl s

theorem Kept.trans {s t u : State} (a : Kept s t) (b : Kept t u) : Kept s u := KeptIf.trans a b

theorem portLaw_iff (s : State) :
    s.portLaw ↔ s.port.queue.length ≤ 16 ∧ (s.port.tx < 32 ∧ s.port.rx < 32) ∧ Quiet s.port := by
  simp only [State.portLaw, Quiet, and_assoc]

theorem KeptIf.portLaw {r p b c : Prop} {s t : State} (k : KeptIf r p b c s t) (h : s.portLaw) : t.portLaw := by
  rw [portLaw_iff] at h ⊢
  exact ⟨k.port.room h.1, k.port.counts h.2.1, k.port.quiet h.2.2⟩

theorem KeptIf.listLaw {r p b c : Prop} {s t : State} (k : KeptIf r p b c s t) (h : s.listLaw) : t.listLaw :=
  ⟨k.out h.1, k.list h.2⟩

/-- A fold keeps the laws when each of its steps does. -/
theorem foldl_kept {α : Type} (f : State → α → State) (h : ∀ s a, Kept s (f s a)) (l : List α) :
    ∀ s, Kept s (l.foldl f s) := by
  induction l with
  | nil => exact Kept.refl
  | cons a l ih => exact fun s => (h s a).trans (ih _)

/-- A choice keeps the laws when both its branches do. -/
theorem ite_kept {s t u : State} (p : Prop) [Decidable p] (ht : p → Kept s t) (hu : ¬ p → Kept s u) :
    Kept s (if p then t else u) := by
  split
  · exact ht ‹_›
  · exact hu ‹_›

/-- R145: how far the port takes part depends on its silence, its start and the station state. -/
theorem participation_congr {s t : State} (hs : t.port.silent = s.port.silent)
    (ha : t.port.awaitsStart = s.port.awaitsStart) (hc : t.ctl.state = s.ctl.state) :
    t.participation = s.participation := by
  unfold State.participation
  rw [hs, ha, hc]

/-! ## One rule per block: what a new value of it has to keep -/

theorem setSetup_kept (s : State) (x : Option Setup) : Kept s (s.setSetup x) := { Kept.refl s with }

theorem setRoster_kept (s : State) (x : Roster) : Kept s (s.setRoster x) := { Kept.refl s with }

theorem setClaims_kept (s : State) (x : Claims) : Kept s (s.setClaims x) := { Kept.refl s with }

theorem setLaunch_kept (s : State) (x : Launch) : Kept s (s.setLaunch x) := { Kept.refl s with }

theorem setPool_kept (s : State) (x : List Amendment) (h : s.pool.length ≤ 64 → x.length ≤ 64) :
    Kept s (s.setPool x) :=
  { Kept.refl s with store := fun _ ⟨hp, hr⟩ => ⟨h hp, hr⟩ }

theorem setComp_kept (s : State) (x : Comp) (h : x.held.isSome = true → s.comp.held.isSome = true) :
    Kept s (s.setComp x) :=
  { Kept.refl s with sheets := fun ⟨h4, h3⟩ => ⟨h4, fun hx => h3 (h hx)⟩ }

theorem setLane_kept (s : State) (x : Lane) (h : x.sheets.length ≤ s.lane.sheets.length) : Kept s (s.setLane x) :=
  { Kept.refl s with sheets := fun ⟨h4, h3⟩ => ⟨h.trans h4, fun hx => h.trans (h3 hx)⟩ }

theorem setLink_kept (s : State) (x : Link) (h : s.link.outbound.length ≤ 64 → x.outbound.length ≤ 64) :
    Kept s (s.setLink x) :=
  { Kept.refl s with out := h }

/-- The Fetch Unit with the same fetch list. -/
theorem setFetch_kept (s : State) (x : Fetch) (h : x.list = s.fetch.list) : Kept s (s.setFetch x) :=
  { Kept.refl s with
    list := fun hl => (congrArg List.length h).le.trans hl
    slot := fun hs => by
      simpa only [State.slotLaw, setFetch_tiles, setFetch_fetch, h] using hs }

theorem setBoard_kept (s : State) (x : Board) (hb : s.boardLaw → ∀ r, x.replica = some r → r.lawful)
    (hr : s.board.replica = none → x.replica = none) : Kept s (s.setBoard x) :=
  { Kept.refl s with
    board := fun _ => hb
    collect := fun _ hs c hc => by
      obtain ⟨hp, hst, hn, hk⟩ := hs c hc
      exact ⟨hp, hst, hr hn, hk⟩ }

/-- The Fault Unit with the same phase and record. -/
theorem setFault_kept (s : State) (x : FaultUnit) (hp : x.phase = s.fault.phase) (hr : x.record = s.fault.record) :
    Kept s (s.setFault x) :=
  { Kept.refl s with
    fault := fun hs => by simpa only [State.faultLaw, setFault_fault, hp, hr] using hs
    stands := fun _ h => ⟨by simpa [hp] using h, fun y hy => ⟨y.followOn, by simpa [hr] using hy⟩⟩ }

/-- The controller with no run under collection, or with the same one in the same state. -/
theorem setCtl_kept (s : State) (x : Ctl)
    (h : x.collection = none ∨ (x.collection = s.ctl.collection ∧ x.state = s.ctl.state)) : Kept s (s.setCtl x) :=
  { Kept.refl s with
    store := fun _ hs => ⟨hs.1, fun c hc => by
      rcases h with h | ⟨h, -⟩
      · rw [setCtl_ctl, h] at hc; cases hc
      · exact hs.2 c (h ▸ hc)⟩
    collect := fun _ hs c hc => by
      rcases h with h | ⟨h, hst⟩
      · rw [setCtl_ctl, h] at hc; cases hc
      · obtain ⟨hp, hy, hk⟩ := hs c (h ▸ hc)
        exact ⟨(participation_congr (s := s) (t := s.setCtl x) rfl rfl hst).trans hp, hst.trans hy, hk⟩ }

/-- The port with its run, its silence and its start as they were. -/
theorem setPort_kept (s : State) (x : Port) (h : PortKept s.port x) (hr : x.run = s.port.run)
    (hs : x.silent = s.port.silent) (ha : x.awaitsStart = s.port.awaitsStart) : Kept s (s.setPort x) :=
  { Kept.refl s with
    port := h
    collect := fun _ hc c hx => by
      obtain ⟨hp, hy, hn, k, hk⟩ := hc c hx
      exact ⟨(participation_congr (s := s) (t := s.setPort x) hs ha rfl).trans hp, hy, hn, k, hr.trans hk⟩ }

/-! ## The outbound list and the transmit queue -/

theorem handed_length (l : Link) (r : OutRecord) (h : l.outbound.length ≤ 64) : (l.handed r).outbound.length ≤ 64 := by
  unfold Link.handed
  split
  · simpa using by omega
  · exact h

theorem emit_kept (s : State) (b : OutBody) : Kept s (s.emit b) := by
  rw [emit_link]
  exact setLink_kept s _ (handed_length _ _)

theorem dropInbound_kept (s : State) : Kept s s.dropInbound := setLink_kept s _ id

/-- R137: a port that may queue is not SILENT and has a place free. -/
theorem enqueue_kept (s : State) (b : TxBody) (h : s.canQueue = true) : Kept s (s.enqueue b) := by
  obtain ⟨ht, hl⟩ := (canQueue_iff s).mp h
  have hq : s.port.silent = false := ((takesOffers_iff s).mp ht).1
  refine setPort_kept s _ ⟨fun _ => ?_, id, fun _ hsil => ?_⟩ rfl rfl rfl
  · simpa using hl
  · exact absurd hsil (by simp [hq])

theorem withdraw_kept (s : State) (names : TxBody → Bool) : Kept s (s.withdraw names) := by
  refine setPort_kept s _ ⟨fun h => (List.length_filter_le _ _).trans h, id, fun hq hs => ?_⟩ rfl rfl rfl
  obtain ⟨h1, h2⟩ := hq hs
  exact ⟨by simp [h1], h2⟩

theorem offerCtl_kept (s : State) (i : CtlItem) : Kept s (s.offerCtl i) := by
  rw [offerCtl_eq]
  exact ite_kept _ (enqueue_kept s _) (fun _ => setCtl_kept s _ (.inr ⟨rfl, rfl⟩))

theorem offerAsk_kept (s : State) : Kept s s.offerAsk :=
  ite_kept _ (fun _ => .refl s) (fun _ => offerCtl_kept s _)

theorem askClosing_kept (s : State) (f : Frame) (page : Nat) : Kept s (s.askClosing f page) := by
  refine ite_kept _ (fun _ => .refl s) (fun _ => ite_kept _ (fun h => ?_) (fun _ => setClaims_kept s _))
  exact enqueue_kept s _ (by simp_all)

theorem reviewPending_kept (s : State) : Kept s s.reviewPending := by
  unfold State.reviewPending
  split
  · exact ite_kept _ (fun _ => (withdraw_kept s _).trans (setClaims_kept _ _)) (fun _ => .refl s)
  · exact .refl s

theorem evalClaim_kept (s : State) : Kept s s.evalClaim := by
  unfold State.evalClaim
  split
  · refine ite_kept _ (fun h => ?_) (fun _ => .refl s)
    exact (enqueue_kept s _ (by simp_all)).trans (setClaims_kept _ _)
  · exact .refl s

/-- R34: a LAPSE is offered where a place is free. -/
theorem offerLapse_kept (s : State) (page : Nat) (h : s.canQueue = true) : Kept s (s.offerLapse page) := by
  unfold State.offerLapse
  split
  · exact .refl s
  split
  · split
    · exact (enqueue_kept s _ h).trans (setBoard_kept (s.enqueue _) _ (by exact id) (by exact id))
    all_goals exact .refl s
  · exact .refl s

theorem offerFirst_kept (s : State) : Kept s s.offerFirst := by
  refine ite_kept _ (fun h => ?_) (fun _ => .refl s)
  simp only [State.mayOffer, Bool.and_eq_true] at h
  split
  · exact offerLapse_kept s _ h.2
  · exact .refl s

theorem offerUpTo_kept (n : Nat) : ∀ s : State, Kept s (State.offerUpTo n s) := by
  induction n with
  | zero => exact Kept.refl
  | succ n ih => exact fun s => (offerFirst_kept s).trans (ih _)

/-! ## The tile slots and the fetch list (R100 to R114) -/

/-- A slot without its references: what `withSlots` may not change. -/
def bare (sl : Slot) : Slot := sl.keepRefs (fun _ => false)

theorem bare_keepRefs (keep : Ref → Bool) (sl : Slot) : bare (sl.keepRefs keep) = bare sl := by
  cases sl <;> simp [bare, Slot.keepRefs]

theorem bare_addRefs (new : List Ref) (sl : Slot) : bare (sl.addRefs new) = bare sl := by
  cases sl <;> simp [bare, Slot.keepRefs, Slot.addRefs]

theorem restale_slot (slots : List Slot) (e : FetchEntry) : (e.restale slots).slot = e.slot := rfl

/-- The entries of a restaled list that name a slot are those of the list, restaled. -/
theorem named_restale (list : List FetchEntry) (slots : List Slot) (n : Nat) :
    (list.map (FetchEntry.restale slots)).filter (fun e => decide (e.slot = n)) =
      (list.filter (fun e => decide (e.slot = n))).map (FetchEntry.restale slots) := by
  rw [List.filter_map]
  rfl

/-- R101, R113: settling the slots keeps their law, whatever references they had. -/
theorem slotLawful_settled {list : List FetchEntry} {slots : List Slot} {n : Nat} {a b : Slot}
    (h : slotLawful list n a) (hab : bare b = bare a) (hn : slots[n]? = some b.settle) :
    slotLawful (list.map (FetchEntry.restale slots)) n b.settle := by
  match a, b with
  | .free, .free =>
    simp only [slotLawful, Slot.settle, named_restale] at h ⊢
    simp [h]
  | .filling p rs, .filling q us =>
    obtain ⟨e, hnamed, hp, -⟩ := h
    have he : e.slot = n := by
      have : e ∈ list.filter (fun e => decide (e.slot = n)) := by simp [hnamed]
      simpa using (List.mem_filter.mp this).2
    have hq : q = p := by simpa [bare, Slot.keepRefs] using hab
    refine ⟨e.restale slots, by rw [named_restale, hnamed]; rfl, hp.trans hq.symm, ?_⟩
    simp [FetchEntry.restale, he, hn, Slot.settle, Slot.refs]
  | .ready p w k rs, .ready q x y us =>
    have hnamed := h.1
    by_cases hu : us = []
    · simp only [hu, Slot.settle, slotLawful, named_restale]
      simp [hnamed]
    · simp only [Slot.settle, List.isEmpty_iff, hu, if_false, slotLawful, named_restale]
      simp [hnamed, hu]
  | .free, .filling _ _ => simp [bare, Slot.keepRefs] at hab
  | .free, .ready _ _ _ _ => simp [bare, Slot.keepRefs] at hab
  | .filling _ _, .free => simp [bare, Slot.keepRefs] at hab
  | .filling _ _, .ready _ _ _ _ => simp [bare, Slot.keepRefs] at hab
  | .ready _ _ _ _, .free => simp [bare, Slot.keepRefs] at hab
  | .ready _ _ _ _, .filling _ _ => simp [bare, Slot.keepRefs] at hab

/-- R101: new references on the same slots. -/
theorem withSlots_kept (s : State) (slots : List Slot) (h : slots.map bare = s.tiles.slots.map bare) :
    Kept s (s.withSlots slots) := by
  have hlen : slots.length = s.tiles.slots.length := by simpa using congrArg List.length h
  refine { Kept.refl s with list := fun hl => by simpa [State.withSlots] using hl, slot := fun hs => ?_ }
  obtain ⟨h64, hsl, hlist⟩ := hs
  refine ⟨by simp [State.withSlots, hlen, h64], fun n sl hn => ?_, fun e he => ?_⟩
  · obtain ⟨b, hb, rfl⟩ : ∃ b, slots[n]? = some b ∧ b.settle = sl := by
      simpa [State.withSlots, State.setTiles, State.setFetch] using hn
    have hab := congrArg (fun l => l[n]?) h
    simp only [List.getElem?_map, hb, Option.map_some] at hab
    obtain ⟨a, ha, hba⟩ := Option.map_eq_some_iff.mp hab.symm
    exact slotLawful_settled (hsl n a ha) hba.symm (by simpa using ⟨b, hb, rfl⟩)
  · obtain ⟨e', he', rfl⟩ := List.mem_map.mp he
    exact hlist e' he'

theorem keepRefs_kept (s : State) (keep : Ref → Bool) : Kept s (s.keepRefs keep) :=
  withSlots_kept s _ (by simp [bare_keepRefs, Function.comp_def])

theorem addRefs_kept (s : State) (slot : Nat) (new : List Ref) : Kept s (s.addRefs slot new) := by
  refine withSlots_kept s _ (List.ext_getElem? fun n => ?_)
  simp only [List.getElem?_map, List.getElem?_modify]
  split
  · cases s.tiles.slots[n]? <;> simp [bare_addRefs]
  · simp

theorem dropPrefetch_kept (s : State) (page : Nat) : Kept s (s.dropPrefetch page) :=
  (keepRefs_kept s _).trans (setFetch_kept _ _ rfl)

theorem newPrefetch_kept (s : State) (page : Nat) : Kept s (s.newPrefetch page) := setFetch_kept s _ rfl

theorem clearRefs_kept (s : State) (gone : Nat → Bool) : Kept s (s.clearRefs gone) := by
  unfold State.clearRefs
  split
  · exact .refl s
  · exact setComp_kept s _ (by simp_all)

theorem leaveWork_kept (s : State) (page : Nat) : Kept s (s.leaveWork page) :=
  ((setClaims_kept s _).trans (withdraw_kept _ _)).trans (dropPrefetch_kept _ _)

/-- The Tile Store and the Fetch Unit together, with what their laws ask of them. -/
theorem setTilesFetch_kept (s : State) (x : Tiles) (y : Fetch) (hd : x.dram = s.tiles.dram)
    (hl : s.fetch.list.length ≤ 8 → y.list.length ≤ 8)
    (hs : s.slotLaw → ((s.setTiles x).setFetch y).slotLaw) : Kept s ((s.setTiles x).setFetch y) :=
  { Kept.refl s with list := hl, slot := hs, dram := fun h => by simpa only [State.dramLaw, setFetch_tiles, setTiles_tiles, hd] using h }

/-- The law of one slot is the same for two lists that name it alike. -/
theorem slotLawful_congr {list list' : List FetchEntry} {n : Nat} {sl : Slot}
    (h : list'.filter (fun e => decide (e.slot = n)) = list.filter (fun e => decide (e.slot = n)))
    (hs : slotLawful list n sl) : slotLawful list' n sl := by
  cases sl <;> simpa only [slotLawful, h] using hs

/-- One slot changes, and the list changes in the entries that name it alone. -/
theorem slotLaw_set {s t : State} {n : Nat} {sl : Slot} (hs : s.slotLaw)
    (hslots : t.tiles.slots = s.tiles.slots.set n sl)
    (hothers : ∀ m, m ≠ n → t.fetch.list.filter (fun e => decide (e.slot = m)) =
      s.fetch.list.filter (fun e => decide (e.slot = m)))
    (hrange : ∀ e ∈ t.fetch.list, e.slot < 64) (hn : slotLawful t.fetch.list n sl) : t.slotLaw := by
  obtain ⟨h64, hsl, -⟩ := hs
  refine ⟨by rw [hslots, List.length_set, h64], fun m sl' hm => ?_, hrange⟩
  rw [hslots] at hm
  by_cases hmn : m = n
  · subst hmn
    rw [List.getElem?_set_self'] at hm
    obtain ⟨_, -, rfl⟩ := Option.map_eq_some_iff.mp hm
    exact hn
  · rw [List.getElem?_set_ne (Ne.symm hmn)] at hm
    exact slotLawful_congr (hothers m hmn) (hsl m sl' hm)

/-- R104: a READY or FREE slot that is freed. -/
theorem freeSlot_kept (s : State) (n : Nat)
    (h : ∀ sl, s.tiles.slots[n]? = some sl → sl.isReady = true ∨ sl.isFree = true) : Kept s (s.freeSlot n) := by
  refine setTilesFetch_kept s { s.tiles with
    slots := s.tiles.slots.set n .free
    fillOrder := s.tiles.fillOrder.filter (fun k => decide (k ≠ n)) } s.fetch rfl id fun hs => ?_
  by_cases hlt : n < s.tiles.slots.length
  · refine slotLaw_set hs rfl (fun _ _ => rfl) hs.2.2 ?_
    have hlaw := hs.2.1 n _ (List.getElem?_eq_getElem hlt)
    have hr := h _ (List.getElem?_eq_getElem hlt)
    cases hsl : s.tiles.slots[n] with
    | free => simpa [hsl] using hlaw
    | filling p refs => simp [hsl, Slot.isReady, Slot.isFree] at hr
    | ready p w k refs => exact (by simpa only [hsl] using hlaw : slotLawful s.fetch.list n (.ready p w k refs)).1
  · simpa only [State.slotLaw, setTiles_tiles, setFetch_tiles, setFetch_fetch, List.set_eq_of_length_le (Nat.le_of_not_lt hlt)] using hs

/-- R102: a FREE slot that a request fills. -/
theorem request_kept (s : State) (n : Nat) (pid : Id32) (refs : List Ref) (retry : Bool)
    (hl : s.fetch.list.length < 8) (hf : s.tiles.slots[n]? = some .free) :
    Kept s (s.request n pid refs retry) := by
  refine (setTilesFetch_kept s _ _ (by rfl) (fun _ => ?_) fun hs => ?_).trans (emit_kept _ _)
  · simpa using hl
  · have hnamed : s.fetch.list.filter (fun e => decide (e.slot = n)) = [] := hs.2.1 n _ hf
    have h64 : n < 64 := hs.1 ▸ (List.getElem?_eq_some_iff.mp hf).1
    refine slotLaw_set (n := n) hs rfl (fun m hm => ?_) (fun e he => ?_) ?_
    · simp [List.filter_append, Ne.symm hm]
    · rcases List.mem_append.mp he with he | he
      · exact hs.2.2 e he
      · rw [List.mem_singleton] at he
        exact he ▸ h64
    · refine ⟨{ tag := s.fetch.tag, portrait := pid, slot := n, stale := refs.isEmpty, retry := retry }, ?_, rfl, rfl⟩
      simp [hnamed]

/-- Freeing the slots of a list's entries one after another: each of them is FREE, every other as it was. -/
theorem freeAll_getElem? (list : List FetchEntry) (slots : List Slot) (n : Nat) :
    (list.foldl (fun sl e => sl.set e.slot .free) slots)[n]? =
      if ∃ e ∈ list, e.slot = n then (slots[n]?).map (fun _ => Slot.free) else slots[n]? := by
  induction list generalizing slots with
  | nil => simp
  | cons e list ih =>
    rw [List.foldl_cons, ih]
    by_cases he : e.slot = n
    · subst he
      simp [List.getElem?_set_self', Function.const_def]
    · simp [List.getElem?_set_ne he, he]

theorem freeAll_length (list : List FetchEntry) (slots : List Slot) :
    (list.foldl (fun sl e => sl.set e.slot .free) slots).length = slots.length := by
  induction list generalizing slots with
  | nil => rfl
  | cons e list ih => rw [List.foldl_cons, ih, List.length_set]

/-- R114: the flush frees every slot that is asked for, and empties the list. -/
theorem flushFetch_kept (s : State) : Kept s s.flushFetch := by
  refine (setTilesFetch_kept s _ _ (by rfl) (fun _ => by simp) fun hs => ?_).trans (clearRefs_kept _ _)
  obtain ⟨h64, hsl, -⟩ := hs
  refine ⟨by simp [freeAll_length, h64], fun n sl hn => ?_, by simp⟩
  simp only [setFetch_tiles, setTiles_tiles, freeAll_getElem?] at hn
  split at hn
  next =>
    obtain ⟨_, -, rfl⟩ := Option.map_eq_some_iff.mp hn
    simp [slotLawful]
  next hno =>
    have hnamed : s.fetch.list.filter (fun e => decide (e.slot = n)) = [] := by
      simpa [List.filter_eq_nil_iff] using hno
    have hlaw := hsl n sl hn
    cases sl with
    | free => simp [slotLawful]
    | filling p refs => obtain ⟨e, he, -⟩ := hlaw; simp [hnamed] at he
    | ready p w k refs => exact ⟨by simp, hlaw.2⟩

end Sys2Proof.Keeping
end

section
/-! PROOFS. The laws under the launches, the Claim Unit's reports, the faults with their recoveries, and the sync
record. -/

namespace Sys2Proof.Keeping

open Sys2Proof Sys2Proof.Machine Sys2Proof.Laws

/-! ## Launches and reports (R48, R57 to R62) -/

theorem handOff_kept (s : State) (subjects : List Nat) : Kept s (s.handOff subjects) :=
  (keepRefs_kept s _).trans (setFetch_kept _ _ rfl)

theorem applyBatch_kept (s : State) (b : Batch) : Kept s (s.applyBatch b) :=
  (setRoster_kept s _).trans (handOff_kept _ _)

theorem applyWaiting_kept (s : State) : Kept s s.applyWaiting :=
  (foldl_kept _ applyBatch_kept _ s).trans (setLaunch_kept _ _)

theorem requestCut_kept (s : State) : Kept s s.requestCut :=
  ite_kept _ (fun _ => setComp_kept s _ id) (fun _ => .refl s)

theorem enqueueBatch_kept (s : State) (b : Batch) : Kept s (s.enqueueBatch b) := by
  refine ite_kept _ (fun _ => setLaunch_kept s _) fun _ => ite_kept _
    (fun _ => (setLaunch_kept s _).trans (applyWaiting_kept _)) fun _ => ite_kept _ (fun _ => ?_)
    (fun _ => (setLaunch_kept s _).trans (requestCut_kept _))
  exact ite_kept _ (fun _ => (setLaunch_kept s _).trans (requestCut_kept _)) (fun _ => setLaunch_kept s _)

theorem reportPage_kept (s : State) (page : Nat) (edition : Option Nat) (o : PageOutcome) (n : Option Notices) :
    Kept s (s.reportPage page edition o n) :=
  emit_kept s _

theorem requeueSpoiled_kept (s : State) (e : WorkEntry) : Kept s (s.requeueSpoiled e) :=
  (setClaims_kept s _).trans (newPrefetch_kept _ _)

theorem claimOutcome_kept (s : State) (sh : Sheet) (o : EngineOutcome) : Kept s (s.claimOutcome sh o) := by
  refine ite_kept _ (fun _ => .refl s) (fun _ => ?_)
  split
  · split
    · exact askClosing_kept s _ _
    all_goals exact ite_kept _ (fun _ => requeueSpoiled_kept s _) (fun _ => askClosing_kept s _ _)
  · exact reportPage_kept s _ _ _ _

theorem dropWork_kept (s : State) : Kept s s.dropWork :=
  ((((setClaims_kept s _).trans (withdraw_kept _ _)).trans (keepRefs_kept _ _)).trans
    (setFetch_kept _ _ (by rfl))).trans (setFault_kept _ _ (by rfl) (by rfl))

/-- R37: the complete flag is no part of a board's laws. -/
theorem reviewComplete_kept (s : State) : Kept s s.reviewComplete := by
  unfold State.reviewComplete
  split
  · exact .refl s
  next r hr =>
    have flag : Kept s (s.setBoard { s.board with replica := some { r with complete := completeBoard r.entries } }) :=
      setBoard_kept s _ (fun hs q hq => by cases hq; exact hs r hr) (by simp [hr])
    exact ite_kept _ (fun _ => (flag.trans (setBoard_kept _ _ (by exact id) (by exact id))).trans (emit_kept _ _))
      (fun _ => flag)

/-! ## Faults and recoveries (R161 to R169) -/

theorem sendFaultReport_kept (s : State) (repeats : Nat) : Kept s (s.sendFaultReport repeats) := by
  unfold State.sendFaultReport
  split
  · exact .refl s
  · exact (emit_kept s _).trans (setFault_kept _ _ rfl rfl)

theorem repeatFaultReport_kept (s : State) : Kept s s.repeatFaultReport := sendFaultReport_kept s _

/-- R162: as a recovery ends, the phase goes from RECOVERING to HELD and the record stays. -/
theorem toHeldPhase_kept (s : State) (x : FaultUnit) (hs : s.fault.phase = .recovering) (hp : x.phase = .held)
    (hr : x.record = s.fault.record) : Kept s (s.setFault x) :=
  { Kept.refl s with
    fault := fun hf => by
      simp only [State.faultLaw, setFault_fault, hp, hr, hs] at hf ⊢
      simpa using hf
    stands := fun _ _ => ⟨by simp [hp], fun y hy => ⟨y.followOn, by simpa [hr] using hy⟩⟩ }

theorem tryEnd_kept (s : State) : Kept s s.tryEnd :=
  ite_kept _ (fun h => ((toHeldPhase_kept s _ h.1 (by rfl) (by rfl)).trans
    (foldl_kept _ (fun t (d : Sheet × EngineOutcome) => claimOutcome_kept t d.1 d.2) _ _)).trans
      (sendFaultReport_kept _ _)) (fun _ => .refl s)

theorem settlePage_kept (s : State) (page : Nat) (byFrame : Bool) : Kept s (s.settlePage page byFrame) :=
  ite_kept _ (fun _ => setFault_kept s _ rfl rfl) (fun _ => .refl s)

theorem awaitClose_kept (s : State) (f : Frame) (page : Nat) : Kept s (s.awaitClose f page) :=
  ite_kept _ (fun _ => askClosing_kept s f page)
    (fun _ => (askClosing_kept s f page).trans (setFault_kept _ _ rfl rfl))

theorem flushSheets_kept (s : State) : Kept s s.flushSheets :=
  (setLane_kept s _ (Nat.zero_le _)).trans (setFault_kept _ _ rfl rfl)

theorem cutForRecovery_kept (s : State) : Kept s s.cutForRecovery :=
  ite_kept _ (fun _ => (requestCut_kept s).trans (setFault_kept _ _ rfl rfl)) (fun _ => requestCut_kept s)

theorem recoverLink_kept (s : State) (cause : Cause) (named : Option Nat) : Kept s (s.recoverLink cause named) :=
  ((cutForRecovery_kept s).trans (flushFetch_kept _)).trans
    (foldl_kept _ (fun t (e : WorkEntry) => awaitClose_kept t (linkClosing cause named e.page) e.page) _ _)

theorem recoverEngine_kept (s : State) : Kept s s.recoverEngine := by
  have asked := (cutForRecovery_kept s).trans
    (foldl_kept _ (fun t (e : WorkEntry) => awaitClose_kept t (.release e.page) e.page)
      s.cutForRecovery.claims.work _)
  exact ite_kept _ (fun _ => asked.trans (setFault_kept _ _ rfl rfl)) (fun _ => asked.trans (flushSheets_kept _))

theorem cutIfHeld_kept (s : State) (page : Option Nat) : Kept s (s.cutIfHeld page) := by
  unfold State.cutIfHeld
  split
  · exact ite_kept _ (fun _ => requestCut_kept s) (fun _ => .refl s)
  · exact .refl s

theorem recoverClaimLost_kept (s : State) (page : Option Nat) : Kept s (s.recoverClaimLost page) := by
  unfold State.recoverClaimLost
  split
  · exact ite_kept _ (fun _ => cutForRecovery_kept s) (fun _ => .refl s)
  · exact .refl s

theorem recoverSilent_kept (s : State) : Kept s s.recoverSilent := by
  have dropped := ((requestCut_kept s).trans (dropWork_kept _)).trans
    (setClaims_kept _ { s.requestCut.dropWork.claims with pending := none })
  exact ite_kept _ (fun _ => dropped.trans (setFault_kept _ _ rfl rfl)) (fun _ => dropped)

theorem enterHalted_kept (s : State) : Kept s s.enterHalted := by
  have halted := (setCtl_kept s { s.ctl with
    state := .halted, syncTimer := none, collection := none, waiting := [] } (.inl rfl)).trans
      (withdraw_kept _ TxBody.dropsAtHalt)
  exact ite_kept _ (fun _ => halted) (fun _ => halted.trans (offerCtl_kept _ _))

theorem releaseAll_kept (s : State) : Kept s s.releaseAll :=
  foldl_kept _ (fun _ _ => ite_kept _ (fun _ => askClosing_kept _ _ _) (fun _ => awaitClose_kept _ _ _)) _ s

theorem halt_kept (s : State) : Kept s s.halt := by
  refine ite_kept _ (fun _ => .refl s) (fun _ => ?_)
  have cut : Kept s (if s.fault.phase = .recovering then s.cutForRecovery else s.requestCut) :=
    ite_kept _ (fun _ => cutForRecovery_kept s) (fun _ => requestCut_kept s)
  have gone (u : State) : Kept u (if u.port.silent then u.dropWork else u.releaseAll) :=
    ite_kept _ (fun _ => dropWork_kept u) (fun _ => releaseAll_kept u)
  have open' (u : State) : Kept u (if u.fault.phase = .recovering ∧ u.port.silent = false then
      u.setFault { u.fault with haltStep := true } else u) :=
    ite_kept _ (fun _ => setFault_kept u _ rfl rfl) (fun _ => .refl u)
  have told (u : State) : Kept u (if u.fault.phase = .held then u.repeatFaultReport else u) :=
    ite_kept _ (fun _ => repeatFaultReport_kept u) (fun _ => .refl u)
  exact (((cut.trans (gone _)).trans (open' _)).trans (enterHalted_kept _)).trans (told _)

theorem recover_kept (s : State) (cause : Cause) (page : Option Nat) : Kept s (s.recover cause page) :=
  ite_kept _ (fun _ => halt_kept s) fun _ => ite_kept _ (fun _ => recoverLink_kept s _ _) fun _ =>
    ite_kept _ (fun _ => recoverEngine_kept s) fun _ => ite_kept _ (fun _ => recoverClaimLost_kept s _)
      (fun _ => recoverSilent_kept s)

theorem followOnActs_kept (s : State) (cause : Cause) (page : Option Nat) : Kept s (s.followOnActs cause page) :=
  ite_kept _ (fun _ => halt_kept s) fun _ => ite_kept _ (fun _ => cutIfHeld_kept s _) fun _ =>
    ite_kept _ (fun _ => recoverSilent_kept s) fun _ => ite_kept _
      (fun _ => (requestCut_kept s).trans (flushFetch_kept _)) (fun _ => .refl s)

/-- R161: the first fault writes its record where none stands. -/
theorem recordFault_kept (s : State) (cause : Cause) (page cell : Option Nat) (detail : Nat)
    (h : s.fault.phase = .clear) : Kept s (s.recordFault cause page cell detail) :=
  { Kept.refl s with
    fault := fun _ => ⟨by simp [State.recordFault], fun r hr => by
      obtain rfl := Option.some.inj hr
      exact Nat.zero_le _⟩
    stands := fun _ hc => absurd h hc }

/-- R161: a follow-on is counted in the record, which stands. -/
theorem countFault_kept (s : State) :
    Kept s (s.setFault { s.fault with record := s.fault.record.map FaultRecord.again }) :=
  { Kept.refl s with
    fault := fun hs => ⟨by simpa using hs.1, fun r hr => by
      obtain ⟨x, -, rfl⟩ := Option.map_eq_some_iff.mp hr
      exact Nat.min_le_right _ _⟩
    stands := fun _ hc => ⟨hc, fun x hx => ⟨_, by simp only [setFault_fault, hx]; rfl⟩⟩ }

theorem raise_kept (s : State) (cause : Cause) (page cell : Option Nat) (detail : Nat) :
    Kept s (s.raise cause page cell detail) :=
  ite_kept _
    (fun h => (((recordFault_kept s cause page cell detail h).trans (reviewPending_kept _)).trans
      (recover_kept _ _ _)).trans (tryEnd_kept _))
    (fun _ => ((countFault_kept s).trans (followOnActs_kept _ _ _)).trans (tryEnd_kept _))

/-! ## The sync record (R147 to R157) -/

theorem startSync_kept (s : State) : Kept s s.startSync := setCtl_kept s _ (.inr ⟨rfl, rfl⟩)

theorem enterSyncing_kept (s : State) : Kept s s.enterSyncing :=
  ((setCtl_kept s _ (.inl rfl)).trans (startSync_kept _)).trans (offerCtl_kept _ _)

/-- R153: abandoning ends the collection, whatever the controller's record of it was. -/
theorem abandon_setCtl_kept (s : State) (y : Ctl) (case : Nat) : Kept s ((s.setCtl y).abandon case) := by
  have gone : Kept s ((s.setCtl y).setCtl
      { y with collection := none, abandoned := min (y.abandoned + 1) Config.abandonLimit }) :=
    setCtl_kept s _ (.inl rfl)
  exact ite_kept _ (fun _ => gone.trans (raise_kept _ _ _ _ _))
    (fun _ => (gone.trans (startSync_kept _)).trans (offerAsk_kept _))

theorem abandon_kept (s : State) (case : Nat) : Kept s (s.abandon case) := abandon_setCtl_kept s s.ctl case

/-- R152: whether the rest of a run is ignored is no part of the port's law. -/
theorem setIgnores_kept (s : State) (b : Bool) : Kept s (s.setPort { s.port with ignores := b }) :=
  setPort_kept s _ ⟨id, id, id⟩ rfl rfl rfl

theorem unexpected_setCtl_kept (s : State) (y : Ctl) : Kept s (s.setCtl y).unexpected :=
  (abandon_setCtl_kept s y 2).trans (setIgnores_kept _ _)

theorem unexpected_kept (s : State) : Kept s s.unexpected := unexpected_setCtl_kept s s.ctl

theorem reaskPlan_kept (s : State) (wanted : Nat) : Kept s (s.reaskPlan wanted) :=
  (emit_kept s _).trans (setCtl_kept _ _ (.inl rfl))

/-- R21: a replica is held where no run is collected any more; the laws of the board and of the store are those of what
is held. -/
theorem holdReplica_kept (s : State) (es : List Entry) (present : StationSet) (lastLaunched : Nat)
    (pool : List Amendment) (hc : s.ctl.collection = none) :
    KeptIf True (pool.length ≤ 64) (∀ e ∈ es, e.lawful ∧ ∀ h, e.status = .claimed h → present.getLsbD h = true) True s
      (s.holdReplica es present lastLaunched pool) := by
  refine KeptIf.trans (t := (s.setBoard {
      replica := some { entries := es, present := present, complete := false }
      leases := leasesOf s.straps.station es
      lastLaunched := lastLaunched
      completions := 0 }).setPool pool) ?_ (reviewComplete_kept _).always
  exact { Kept.refl s with
    store := fun hp hs => ⟨hp, hs.2⟩
    board := fun hb _ r hr => by cases hr; exact hb
    collect := fun _ _ c h => by rw [setPool_ctl, setBoard_ctl, hc] at h; cases h }

/-- R154, R155: no more records are kept of a run than its batches held. -/
theorem poolOf_length_le (kept : List Amendment) : (poolOf kept).length ≤ kept.length := by
  induction kept with
  | nil => simp [poolOf, batchOf]
  | cons a l ih =>
    have batch (b : Nat) : (batchOf (a :: l) b).length = (batchOf l b).length + if a.batch = b then 1 else 0 := by
      by_cases h : a.batch = b <;> simp [batchOf, h]
    simp only [poolOf, List.range, List.range.loop, List.flatMap_cons, List.flatMap_nil,
      List.length_append, List.length_nil, List.length_cons, batch] at ih ⊢
    split_ifs <;> omega

end Sys2Proof.Keeping
end

section
/-! PROOFS. The laws under a run's collecting, judging and installing, and under the hall port. -/

namespace Sys2Proof.Keeping

open Sys2Proof Sys2Proof.Machine Sys2Proof.Laws

/-! ## Collecting, judging and installing a run (R152 to R157) -/

/-- R152: what the law of the store asks of the run being collected. -/
def RunLawful (c : Collection) : Prop :=
  c.kept.length = c.amendFrames ∧ c.amendFrames ≤ c.records ∧ c.records ≤ 64

/-- R24, R27, R28: what the law of the board asks of the entries that a run brings. -/
def EntriesLawful (c : Collection) : Prop :=
  ∀ e ∈ c.entries, e.lawful ∧ ∀ h, e.status = .claimed h → c.present.getLsbD h = true

/-- R139, R145, R152: a run of that responder may be collected here: the station is SYNCING with no replica, its port takes
full part, and nobody else holds a run. -/
def CollectsFrom (s : State) (responder : Nat) : Prop :=
  s.participation = .full ∧ s.ctl.state = .syncing ∧ s.board.replica = none ∧
  ∀ r, s.port.run = some r → r.holder = responder

theorem RunLawful.kept_le {c : Collection} (h : RunLawful c) : c.kept.length ≤ 64 := by
  obtain ⟨h1, h2, h3⟩ := h
  omega

theorem install_kept (s : State) (c : Collection) (hc : s.ctl.collection = none) :
    KeptIf True (RunLawful c) (EntriesLawful c) True s (s.install c) :=
  ((holdReplica_kept s c.entries c.present c.lastLaunched (poolOf c.kept) hc).under id
    (fun h => (poolOf_length_le _).trans h.kept_le) id id).trans
    ((setCtl_kept _ _ (.inl rfl)).trans (offerCtl_kept _ _)).always

/-- R154: judging ends the collection, whatever the controller's record of it was. -/
theorem judgeCollection_setCtl_kept (s : State) (y : Ctl) (c : Collection) :
    KeptIf True (RunLawful c) (EntriesLawful c) True s ((s.setCtl y).judgeCollection c) := by
  have gone : KeptIf True (RunLawful c) (EntriesLawful c) True s
      ((s.setCtl y).setCtl { y with collection := none }) := (setCtl_kept s _ (.inl rfl)).always
  have fault (cause : Cause) (d : Nat) := gone.trans (raise_kept _ cause none none d).always
  unfold State.judgeCollection
  dsimp only
  split_ifs
  · exact fault _ _
  · exact fault _ _
  · exact fault _ _
  · exact gone.trans (reaskPlan_kept _ _).always
  · exact fault _ _
  · exact gone.trans (install_kept _ c rfl)

/-- R152: a run that goes on being collected. -/
theorem collecting_kept (s : State) (y : Ctl) (c : Collection) (hr : s.port.run.isNone = false) :
    KeptIf True (RunLawful c) True (CollectsFrom (s.setCtl y) c.responder) s
      ((s.setCtl y).setCtl { y with collection := some c }) :=
  { Kept.refl s with
    store := fun hc hs => ⟨hs.1, fun d hd => by cases hd; exact hc⟩
    collect := fun ⟨hp, hst, hn, hh⟩ _ d hd => by
      cases hd
      obtain ⟨r, hrun⟩ := Option.isSome_iff_exists.mp (by simpa using hr)
      exact ⟨(participation_congr (s := s.setCtl y) (t := (s.setCtl y).setCtl _) rfl rfl rfl).trans hp, hst, hn,
        r.count, hrun.trans (by rw [← hh r hrun])⟩ }

/-- R152, R153: what a kept frame leads to. -/
theorem advance_setCtl_kept (s : State) (y : Ctl) (c : Collection) :
    KeptIf True (RunLawful c) (EntriesLawful c) (CollectsFrom (s.setCtl y) c.responder) s ((s.setCtl y).advance c) := by
  unfold State.advance
  split_ifs with _ _ hn
  · exact (unexpected_setCtl_kept s y).always
  · exact (judgeCollection_setCtl_kept s y c).under id id id (fun _ => trivial)
  · exact (abandon_setCtl_kept s y 1).always
  · exact (collecting_kept s y c (by exact Bool.eq_false_iff.mpr hn)).under id id (fun _ => trivial) id

theorem withdrawAsk_kept (s : State) : Kept s s.withdrawAsk :=
  (withdraw_kept s _).trans (setCtl_kept _ _ (.inr ⟨rfl, rfl⟩))

theorem withdrawRun_kept (s : State) (sender requester : Nat) : Kept s (s.withdrawRun sender requester) :=
  ite_kept _ (fun _ => (withdraw_kept s _).trans (setCtl_kept _ _ (.inr ⟨rfl, rfl⟩))) (fun _ => .refl s)

/-- R152: a SNAP_HEAD has no record and no entry yet. -/
theorem startCollection_kept (s : State) (responder : Nat) (c : Collection) (hk : c.kept = [])
    (ha : c.amendFrames = 0) (he : c.entries = []) :
    KeptIf True True True (CollectsFrom s c.responder) s (s.startCollection responder c) := by
  unfold State.startCollection
  dsimp only
  split_ifs with hu
  · exact (unexpected_setCtl_kept s _).always
  · have hrec : c.records ≤ 64 := by simpa using ((by simpa [headUnexpected] using hu : _ ∧ _).2)
    exact (advance_setCtl_kept s _ c).under id (fun _ => ⟨by simp [hk, ha], by simp [ha], hrec⟩)
      (fun _ => by simp [EntriesLawful, he]) (fun ⟨hp, hst, hr⟩ =>
        ⟨(participation_congr (s := s) (t := s.setCtl _) rfl rfl rfl).trans hp, hst, hr⟩)

theorem answerAsk_kept (s : State) (sender : Nat) (identity : Id32) : Kept s (s.answerAsk sender identity) :=
  ite_kept _ (fun _ => offerCtl_kept s _) (fun _ => .refl s)

/-- R157: a station with a replica collects no run. -/
theorem activate_kept (s : State) (h : s.board.replica.isSome = true) : Kept s s.activate := by
  refine Kept.trans (t := s.setCtl { s.ctl with state := .active, reask := 0, volumeSeen := true }) ?_
    (offerUpTo_kept _ _)
  exact { Kept.refl s with
    collect := fun _ hs c hc => by
      obtain ⟨-, -, hn, -⟩ := hs c hc
      simp [hn] at h }

theorem Entry.fresh_lawful (edition : Nat) : (Entry.fresh edition).lawful :=
  ⟨by simp [Entry.fresh], by simp [Entry.fresh], by simp [Entry.fresh]⟩

/-- R156: a fresh start brings OPEN pages and an empty store. -/
theorem freshStart_kept (s : State) (hc : s.ctl.collection = none) : Kept s s.freshStart := by
  refine (((holdReplica_kept s (List.replicate s.roster.pageCount (Entry.fresh s.roster.planEdition)) 0
    s.roster.planEdition [] hc).under id (fun _ => by simp) (fun _ e he => ?_) id).trans
    (setCtl_kept _ _ (.inr ⟨by rfl, by rfl⟩))).trans (offerCtl_kept _ _)
  obtain ⟨-, rfl⟩ := List.mem_replicate.mp he
  exact ⟨Entry.fresh_lawful _, by simp [Entry.fresh]⟩

/-! ## The replica becomes ABSENT (R21, R49, R64) -/

theorem relayUnsent_kept (s : State) : Kept s s.relayUnsent := by
  unfold State.relayUnsent
  split
  · exact ((withdraw_kept s _).trans (setLink_kept _ _ (by exact id))).trans (emit_kept _ _)
  · exact .refl s

theorem dropReplica_kept (s : State) : Kept s s.dropReplica :=
  ((setBoard_kept s _ (fun _ r hr => by cases hr) (fun _ => rfl)).trans
    (setPool_kept _ _ (fun _ => Nat.zero_le _))).trans (relayUnsent_kept _)

/-! ## The hall port (R132 to R146, R158) -/

/-- A port that is not SILENT keeps its law with a queue no longer and counts no higher. -/
theorem portKept_of {p q : Port} (hs : q.silent = true → p.silent = true) (hq : q.queue.length ≤ p.queue.length)
    (ht : q.tx ≤ p.tx) (hr : q.rx ≤ p.rx) (hn : p.sending = none → q.sending = none) : PortKept p q where
  room h := hq.trans h
  counts h := ⟨ht.trans_lt h.1, hr.trans_lt h.2⟩
  quiet h hsil := by
    obtain ⟨h1, h2, h3, h4⟩ := h (hs hsil)
    refine ⟨List.length_eq_zero_iff.mp (by simpa [h1] using hq), hn h2, by omega, by omega⟩

theorem standBack_portKept (p : Port) : PortKept p p.standBack :=
  portKept_of id (by simp [Port.standBack]) le_rfl le_rfl (fun _ => rfl)

theorem ownPassed_portKept (p : Port) (run : Option RunHeld) : PortKept p (p.ownPassed run) := by
  unfold Port.ownPassed
  dsimp only
  split_ifs
  · exact portKept_of id (List.length_filter_le _ _) (Nat.sub_le _ _) le_rfl (fun _ => rfl)
  · exact portKept_of id (by simp [Port.standBack]) (by exact Nat.sub_le _ _) le_rfl (fun _ => rfl)
  · exact portKept_of id le_rfl (Nat.sub_le _ _) le_rfl (fun _ => rfl)

theorem otherPassed_portKept (p : Port) (run : Option RunHeld) : PortKept p (p.otherPassed run) :=
  portKept_of id (by simp [Port.otherPassed, Port.standBack]) le_rfl (Nat.sub_le _ _) (fun _ => rfl)

/-- A new port, the law of a run under collection apart. -/
theorem setPort_keptIf (s : State) (x : Port) (h : PortKept s.port x) : KeptIf True True True False s (s.setPort x) :=
  { Kept.refl s with
    port := h
    collect := False.elim }

/-- A new port where no run is collected. -/
theorem setPort_kept_of_idle (s : State) (x : Port) (h : PortKept s.port x)
    (hc : s.collectLaw → s.ctl.collection = none) : Kept s (s.setPort x) :=
  { Kept.refl s with
    port := h
    collect := fun _ hs c hx => by rw [setPort_ctl, hc hs] at hx; cases hx }

theorem begun_kept (s : State) : Kept s s.begun :=
  { Kept.refl s with
    port := ⟨id, id, id⟩
    collect := fun _ hs c hc => by
      obtain ⟨hp, hst, hr⟩ := hs c hc
      refine ⟨?_, hst, hr⟩
      unfold State.participation at hp ⊢
      simp only [State.begun, setPort_ctl, setPort_port] at hp ⊢
      rw [show s.ctl.state = .syncing from hst] at hp ⊢
      split_ifs at hp ⊢ <;> simp_all }

/-- R139: a run is collected at a port that takes full part alone. -/
theorem collection_none_of_not_full {s : State} (hs : s.collectLaw) (h : s.participation ≠ .full) :
    s.ctl.collection = none := by
  by_contra hc
  obtain ⟨c, hc⟩ := Option.ne_none_iff_exists'.mp hc
  exact h (hs c hc).1

theorem startBit_kept (s : State) : Kept s s.startBit := by
  unfold State.startBit
  split
  · exact begun_kept s
  all_goals exact .refl s

theorem letBy_kept (s : State) (began : FrameBegan) (run : Option RunHeld) (h : s.participation ≠ .full) :
    Kept s (s.letBy began run) :=
  setPort_kept_of_idle s _ ⟨id, id, id⟩ (fun hs => collection_none_of_not_full hs h)

theorem meetCollection_kept (s : State) (sender : Nat) (f : Frame) : Kept s (s.meetCollection sender f) := by
  unfold State.meetCollection
  split
  · exact ite_kept _ (fun _ => abandon_kept s 1) fun _ => ite_kept _ (fun _ => .refl s) (fun _ => unexpected_kept s)
  · exact .refl s

theorem passFrame_kept (s : State) (h : FrameHdr) (f : Frame) :
    KeptIf True True True False s (s.passFrame h f) := by
  refine KeptIf.trans (setPort_keptIf s _ ?_) (meetCollection_kept _ _ _).always
  split
  · exact ownPassed_portKept _ _
  · exact otherPassed_portKept _ _

/-! ## Silence (R141 to R144, R158) -/

theorem controllerSilent_kept (s : State) : Kept s s.controllerSilent := by
  unfold State.controllerSilent
  split
  case h_1 | h_2 => exact setCtl_kept s _ (.inl rfl)
  case h_6 => exact setCtl_kept s _ (.inr ⟨rfl, rfl⟩)
  all_goals exact .refl s

/-- R139: where a run was collected as its law says, and none is any more, the law of the run is kept. -/
theorem KeptIf.collected {r p b : Prop} {s t : State} (k : KeptIf r p b False s t)
    (h : s.collectLaw → t.ctl.collection = none) : KeptIf r p b True s t :=
  { k with collect := fun _ hs c hc => by rw [h hs] at hc; cases hc }

/-- R158: a SYNCING station that has fallen silent collects no run. -/
theorem controllerSilent_collection (s : State) (h : s.ctl.collection = none ∨ s.ctl.state = .syncing) :
    s.controllerSilent.ctl.collection = none := by
  unfold State.controllerSilent
  split <;> simp_all

theorem enterSilent_kept (s : State) (detail : Nat) : Kept s (s.enterSilent detail) := by
  have port : KeptIf True True True False s (s.setPort { s.port with
      silent := true, ignores := false, tx := 0, rx := 0, queue := [], sending := none, runRest := [], good := 0,
      quiet := some (2 * s.leaseMs) }) :=
    setPort_keptIf s _ ⟨fun _ => Nat.zero_le _, fun _ => ⟨Nat.zero_lt_succ _, Nat.zero_lt_succ _⟩, fun _ _ => ⟨rfl, rfl, rfl, rfl⟩⟩
  have told := (port.trans (dropReplica_kept _).always).trans (controllerSilent_kept _).always
  refine (told.collected fun hs => controllerSilent_collection _ ?_).trans
    ((setFault_kept _ _ (by rfl) (by rfl)).trans (raise_kept _ _ _ _ _))
  simp only [dropReplica_frame, setPort_ctl]
  rw [or_iff_not_imp_left]
  intro hc
  obtain ⟨c, hc⟩ := Option.ne_none_iff_exists'.mp hc
  exact (hs c hc).2.1

theorem confine_kept (s : State) : Kept s s.confine :=
  ite_kept _ (fun _ => enterSilent_kept s 1) fun _ => ite_kept _ (fun _ => enterSilent_kept s 2) (fun _ => .refl s)

theorem participation_of_silent {s : State} (h : s.port.silent = true) : s.participation = .silent := by
  simp [State.participation, h]

theorem silent_of_participation {s : State} (h : s.participation = .silent) : s.port.silent = true := by
  by_contra hs
  rw [State.participation, if_neg hs] at h
  cases hst : s.ctl.state <;> cases ha : s.port.awaitsStart <;> simp [hst, ha] at h

theorem collection_none_of_silent {s : State} (h : s.port.silent = true) (hs : s.collectLaw) :
    s.ctl.collection = none :=
  collection_none_of_not_full hs (by simp [participation_of_silent h])

theorem leaveSilent_kept (s : State) (h : s.port.silent = true) : Kept s s.leaveSilent := by
  have port : Kept s (s.setPort { s.port with silent := false, tx := 0, rx := 0, good := 0, quiet := none }) :=
    setPort_kept_of_idle s _ ⟨id, fun _ => ⟨Nat.zero_lt_succ _, Nat.zero_lt_succ _⟩, fun _ hf => by cases hf⟩
      (collection_none_of_silent h)
  exact ite_kept _ (fun _ => (port.trans (setCtl_kept _ _ (.inr ⟨by rfl, by rfl⟩))).trans (enterSyncing_kept _))
    (fun _ => port)

theorem silentPassed_kept (s : State) (run : Option RunHeld) (h : s.port.silent = true) :
    Kept s (s.silentPassed run) := by
  have port : Kept s (s.setPort { s.port with
      run := run, good := s.port.good + 1, quiet := some (2 * s.leaseMs) }) :=
    setPort_kept_of_idle s _ ⟨id, id, id⟩ (collection_none_of_silent h)
  exact ite_kept _ (fun _ => port.trans (leaveSilent_kept _ h)) (fun _ => port)

theorem silentBad_kept (s : State) (run : Option RunHeld) (h : s.port.silent = true) : Kept s (s.silentBad run) :=
  setPort_kept_of_idle s _ ⟨id, id, id⟩ (collection_none_of_silent h)

theorem readSilently_kept (s : State) (bits : List Bool) (vetoed : Bool) (h : s.port.silent = true) :
    Kept s (s.readSilently bits vetoed) := by
  unfold State.readSilently
  split
  · exact ite_kept _ (fun _ => silentBad_kept s _ h) (fun _ => silentPassed_kept s _ h)
  · exact silentBad_kept s _ h

/-! ## Vetoes and the end of a run (R134, R140, R141, R153) -/

theorem runBroken_kept (s : State) : Kept s s.runBroken :=
  ite_kept _ (fun _ => abandon_kept s 1) (fun _ => .refl s)

/-- R153: what breaks the run ends the collecting of it. -/
theorem runBroken_collection (s : State) (h : s.ctl.collection = none ∨ s.ctl.state = .syncing) :
    s.runBroken.ctl.collection = none := by
  unfold State.runBroken
  split_ifs with hc
  · rcases h with h | h
    · simp [h] at hc
    · exact (abandon_spec s 1 h).1
  · simpa using hc

theorem collecting_or_syncing {s : State} (hs : s.collectLaw) : s.ctl.collection = none ∨ s.ctl.state = .syncing := by
  rw [or_iff_not_imp_left]
  intro hc
  obtain ⟨c, hc⟩ := Option.ne_none_iff_exists'.mp hc
  exact (hs c hc).2.1

theorem endRun_kept (s : State) : Kept s s.endRun :=
  ite_kept _ (fun _ => .refl s) fun _ =>
    ((setPort_keptIf s { s.port.standBack with run := none }
      ⟨(standBack_portKept s.port).room, (standBack_portKept s.port).counts, (standBack_portKept s.port).quiet⟩).trans
      (runBroken_kept _).always).collected
      (fun hs => runBroken_collection _ (collecting_or_syncing (s := s) hs))

theorem silent_of_full {s : State} (h : s.participation = .full) : s.port.silent = false := by
  by_contra hn
  simp [participation_of_silent (by simpa using hn)] at h

/-- R141: a port that was not confined has both counts below 32. -/
theorem confine_counts (s : State) : s.confine.port.tx < 32 ∧ s.confine.port.rx < 32 := by
  have cleared (d : Nat) : (s.enterSilent d).port.tx = 0 ∧ (s.enterSilent d).port.rx = 0 := by
    simp [State.enterSilent]
  unfold State.confine Config.countLimit
  split_ifs
  · simp [cleared]
  · simp [cleared]
  · omega

/-- R134, R141: a veto raises a count by one, and a count of 32 confines the port in the same step. -/
theorem takeVeto_kept (s : State) (bits : List Bool) (h : s.participation = .full) : Kept s (s.takeVeto bits) := by
  let p := s.port.vetoed s.port.sending.isSome (readFrame bits).isNone
  have hp : p.queue.length = s.port.queue.length ∧ p.silent = false := by
    unfold p Port.vetoed
    split_ifs <;> simp [Port.standBack, silent_of_full h]
  have broken := runBroken_kept (s.setPort p)
  have confined := confine_kept (s.setPort p).runBroken
  have k := broken.trans confined
  exact { k with
    port := ⟨fun hq => k.port.room (hp.1.le.trans hq), fun _ => confine_counts _,
      fun _ => k.port.quiet (fun hs => by rw [show p.silent = true from hs] at hp; simp at hp)⟩
    collect := fun _ hs => confined.collect trivial fun c hc => by
      rw [runBroken_collection (s.setPort p) (collecting_or_syncing (s := s) hs)] at hc
      cases hc }

theorem vetoFrame_kept (s : State) (x : Heard) : Kept s (s.vetoFrame x) := by
  unfold State.vetoFrame
  split
  next h => exact letBy_kept s _ _ (by simp [h])
  next h =>
    exact ite_kept _ (fun _ => (begun_kept s).trans (takeVeto_kept _ _ (begun_full_of_joining h)))
      (fun _ => letBy_kept s _ _ (by simp [h]))
  next h =>
    exact silentBad_kept s _ (silent_of_participation h)
  next h => exact takeVeto_kept s _ h

/-! ## Starting frames and granting places (R132, R136, R137, R139) -/

theorem markOnBus_length (e : TxEntry) (l : List TxEntry) : (markOnBus e l).length = l.length := by
  induction l with
  | nil => rfl
  | cons x l ih =>
    unfold markOnBus
    split_ifs <;> simp [ih]

/-- A frame begins at a port that is not SILENT. -/
theorem sending_kept (s : State) (q : List TxEntry) (f : Option (Bool × Frame)) (rest : List (Bool × Frame))
    (hq : q.length = s.port.queue.length) (h : s.port.silent = false) :
    Kept s (s.setPort { s.port with queue := q, sending := f, runRest := rest }) :=
  setPort_kept s _ ⟨fun hl => hq.le.trans hl, id, fun _ hs => by simp [h] at hs⟩ rfl rfl rfl

theorem startHead_kept (s : State) (others : List Nat) (h : s.port.silent = false) : Kept s (s.startHead others) := by
  unfold State.startHead State.sendEntry
  split
  · refine ite_kept _ (fun _ => ?_) (fun _ => .refl s)
    split
    · exact sending_kept s _ _ _ (markOnBus_length _ _) h
    · exact .refl s
  · exact .refl s

theorem startNext_kept (s : State) (others : List Nat) (h : s.port.silent = false) : Kept s (s.startNext others) := by
  unfold State.startNext
  split
  · exact ite_kept _ (fun _ => sending_kept s _ _ _ rfl h) (fun _ => .refl s)
  · exact startHead_kept s others h

theorem grantPlace_kept (s : State) (h : s.canQueue = true) : Kept s s.grantPlace := by
  unfold State.grantPlace
  split
  · exact (enqueue_kept s _ h).trans (setCtl_kept _ _ (.inr ⟨by rfl, by rfl⟩))
  · split
    · exact (enqueue_kept s _ h).trans (setClaims_kept _ _)
    · exact ite_kept _ (fun _ => offerFirst_kept s) (fun _ => evalClaim_kept s)

theorem renewDue_kept (s : State) (page : Nat) : Kept s (s.renewDue page) :=
  ite_kept _ (fun h => enqueue_kept s _ (by simp_all)) (fun _ => .refl s)

theorem expireLease_kept (s : State) (page : Nat) : Kept s (s.expireLease page) :=
  ite_kept _ (fun _ => (setBoard_kept s _ (by exact id) (by exact id)).trans (offerUpTo_kept _ _))
    (fun _ => .refl s)

end Sys2Proof.Keeping
end

section
/-! PROOFS. The laws under the frames of the hall: what each does to the board, the store and the run, and what every
applied frame does. -/

namespace Sys2Proof.Keeping

open Sys2Proof Sys2Proof.Machine Sys2Proof.Laws

/-! ## The laws of a replica under board frames (R24 to R32, R55) -/

/-- R24, R27, R28: what the law of a replica asks of one entry, with those stations present. -/
def EntryStands (present : StationSet) (e : Entry) : Prop :=
  e.lawful ∧ ∀ h, e.status = .claimed h → present.getLsbD h = true

/-- An OPEN entry with a lapse count below 3 is lawful. -/
theorem entryStands_opened (present : StationSet) {e : Entry} (ho : e.status = .opened) (hl : e.lapses < 3) :
    EntryStands present e := by
  refine ⟨⟨hl.le, fun h3 => ?_, fun h n hp => ?_⟩, fun h hc => ?_⟩
  · omega
  · simp [ho] at hp
  · simp [ho] at hc

/-- R27: only a FAILED page has a lapse count of 3. -/
theorem lapses_lt {e : Entry} (h : e.lawful) (hf : ∀ st c, e.status ≠ .failed st c) : e.lapses < 3 := by
  obtain ⟨hle, h3, -⟩ := h
  by_contra hn
  obtain ⟨st, c, hst⟩ := h3 (by omega)
  exact hf st c hst

theorem put_lawful {r : Replica} (hr : r.lawful) (page : Nat) {e : Entry} (he : EntryStands r.present e) :
    (r.put page e).lawful := by
  intro x hx
  rcases List.mem_or_eq_of_mem_set hx with hx | rfl
  · exact hr x hx
  · exact he

theorem entry_stands {r : Replica} (hr : r.lawful) {page : Nat} {e : Entry} (he : r.entries[page]? = some e) :
    EntryStands r.present e :=
  hr e (List.mem_of_getElem? he)

theorem claim_stands {r : Replica} {e : Entry} (he : EntryStands r.present e) (ho : e.status = .opened) {sender : Nat}
    (hp : r.isPresent sender = true) : EntryStands r.present (e.claim sender) := by
  have hl := lapses_lt he.1 (by simp [ho])
  refine ⟨⟨hl.le, fun h3 => ?_, fun h n hs => ?_⟩, fun h hs => ?_⟩
  · exact absurd h3 (by simpa [Entry.claim] using hl.ne)
  · simp [Entry.claim] at hs
  · obtain rfl : sender = h := by simpa [Entry.claim] using hs
    exact hp

theorem lapse_stands {present : StationSet} {e : Entry} (he : EntryStands present e) {holder : Nat}
    (hc : e.status = .claimed holder) : EntryStands present (e.lapse holder) := by
  have hl := lapses_lt he.1 (by simp [hc])
  by_cases h3 : e.lapses + 1 < 3
  · exact entryStands_opened present (by simp [Entry.lapse, h3]) (by simpa [Entry.lapse] using h3)
  · refine ⟨⟨by simp [Entry.lapse]; omega, fun _ => ⟨holder, .lapsed, by simp [Entry.lapse, h3]⟩, fun h n hs => ?_⟩,
      fun h hs => ?_⟩ <;> simp [Entry.lapse, h3] at hs

theorem done_stands {present : StationSet} {e : Entry} (he : EntryStands present e) {sender : Nat}
    (hc : e.status = .claimed sender) (edition : Nat) : EntryStands present (e.done sender edition) := by
  have hl := lapses_lt he.1 (by simp [hc])
  by_cases hn : e.need ≤ edition
  · refine ⟨⟨hl.le, fun h3 => absurd h3 (by simpa [Entry.done] using hl.ne), fun h n hs => ?_⟩, fun h hs => ?_⟩
    · simp only [Entry.done, hn, if_true, PageStatus.printed.injEq] at hs
      exact hs.2 ▸ hn
    · simp [Entry.done, hn] at hs
  · exact entryStands_opened present (by simp [Entry.done, hn]) (by simpa [Entry.done] using hl)

theorem fail_stands {present : StationSet} {e : Entry} (he : EntryStands present e) (sender : Nat) (c : FailCause) :
    EntryStands present { e with status := .failed sender c } :=
  ⟨⟨he.1.1, fun _ => ⟨sender, c, rfl⟩, fun _ _ hs => by cases hs⟩, fun _ hs => by cases hs⟩

/-- R31, R32: a station's flag changes and its claims open; every other holder's flag stays. -/
theorem free_lawful {r : Replica} (hr : r.lawful) (station : Nat) (present : StationSet)
    (hp : ∀ h, h ≠ station → r.present.getLsbD h = true → present.getLsbD h = true) :
    (r.free station present).lawful := by
  intro x hx
  obtain ⟨e, he, rfl⟩ := List.mem_map.mp hx
  obtain ⟨hlaw, hhold⟩ := hr e he
  by_cases hc : e.status = .claimed station
  · exact entryStands_opened present (by simp [Entry.freeFrom, hc, Entry.open])
      (by simpa [Entry.freeFrom, hc, Entry.open] using lapses_lt hlaw (by simp [hc]))
  · simp only [Entry.freeFrom, hc, if_false]
    exact ⟨hlaw, fun h hs => hp h (fun heq => hc (heq ▸ hs)) (hhold h hs)⟩

theorem stationBit_other {h station : Nat} (hne : h ≠ station) : (stationBit station).getLsbD h = false := by
  rw [stationBit, BitVec.getLsbD_ofNat, Nat.testBit_two_pow]
  simp [Ne.symm hne]

theorem apply_lawful {r q : Replica} {identity : Option Id32} {sender : Nat} {f : Frame} (hr : r.lawful)
    (h : r.apply identity sender f = some q) : q.lawful := by
  cases f with
  | claim page claimant =>
    simp only [Replica.apply] at h
    split at h
    next e he =>
      split_ifs at h with hc
      obtain ⟨ho, -, hp⟩ := hc
      cases h
      exact put_lawful hr _ (claim_stands (entry_stands hr he) ho hp)
    · cases h
  | renew page =>
    simp only [Replica.apply] at h
    split at h
    next e he =>
      split_ifs at h
      cases h
      have he' := entry_stands hr he
      exact put_lawful hr _ he'
    · cases h
  | lapse page holder mark =>
    simp only [Replica.apply] at h
    split at h
    next e he =>
      split_ifs at h with hc
      cases h
      exact put_lawful hr _ (lapse_stands (entry_stands hr he) hc.1)
    · cases h
  | done page edition =>
    simp only [Replica.apply] at h
    split at h
    next e he =>
      split_ifs at h with hc
      cases h
      exact put_lawful hr _ (done_stands (entry_stands hr he) hc _)
    · cases h
  | release page =>
    simp only [Replica.apply] at h
    split at h
    next e he =>
      split_ifs at h with hc
      cases h
      have hl := lapses_lt (entry_stands hr he).1 (by simp [hc])
      exact put_lawful hr _ (entryStands_opened _ rfl hl)
    · cases h
  | fail page code =>
    simp only [Replica.apply] at h
    split at h
    next e c he hcode =>
      split_ifs at h
      cases h
      exact put_lawful hr _ (fail_stands (entry_stands hr he) _ _)
    · cases h
  | join station pid =>
    simp only [Replica.apply] at h
    split_ifs at h
    cases h
    exact free_lawful hr _ _ (fun h _ hp => by simp [hp])
  | leave station =>
    simp only [Replica.apply] at h
    split_ifs at h
    cases h
    refine free_lawful hr _ _ (fun h hne hp => ?_)
    have h16 : h < 16 := BitVec.lt_of_getLsbD hp
    rw [BitVec.getLsbD_and, BitVec.getLsbD_not, hp, stationBit_other hne]
    simp [h16]
  | _ => cases h

/-- R55: a launch reopens a PRINTED page; no other status changes. -/
theorem launch_stands {present : StationSet} {e : Entry} (he : EntryStands present e) (edition : Nat) :
    EntryStands present (e.launch edition) := by
  have kept (hn : ∀ h n, e.status ≠ .printed h n) : EntryStands present { e with need := edition } :=
    ⟨⟨he.1.1, he.1.2.1, fun h n hp => absurd hp (hn h n)⟩, he.2⟩
  unfold Entry.launch
  split
  next hs => exact kept (by simp [hs])
  next hs => exact kept (by simp [hs])
  next hs =>
    have hl := lapses_lt he.1 (by simp [hs])
    exact entryStands_opened present rfl hl
  next hs => exact kept (by simp [hs])

theorem launch_lawful {r : Replica} (hr : r.lawful) (touched : Nat → Bool) (edition : Nat) :
    (r.launch touched edition).lawful := by
  intro x hx
  obtain ⟨n, hn, rfl⟩ := List.mem_mapIdx.mp hx
  have he := hr _ (List.getElem_mem hn)
  split_ifs
  · exact launch_stands he edition
  · exact he

/-! ## The frames of the board at a station (R23 to R41) -/

theorem boardFrame_kept (s : State) (sender : Nat) (f : Frame) : Kept s (s.boardFrame sender f) := by
  unfold State.boardFrame
  split
  · exact .refl s
  next r hr =>
    split
    · exact .refl s
    next q hq =>
      exact setBoard_kept s _ (fun hs x hx => by cases hx; exact apply_lawful (hs r hr) hq) (by simp [hr])

theorem releaseIfBarred_kept (s : State) (page : Nat) : Kept s (s.releaseIfBarred page) :=
  ite_kept _ (fun _ => awaitClose_kept s _ _) fun _ => ite_kept _ (fun _ => askClosing_kept s _ _) (fun _ => .refl s)

theorem takeWork_kept (s : State) (page : Nat) : Kept s (s.takeWork page) :=
  (setClaims_kept s _).trans (newPrefetch_kept _ _)

theorem claimFrame_kept (s : State) (h : FrameHdr) (page claimant : Nat) : Kept s (s.claimFrame h page claimant) := by
  have board := boardFrame_kept s h.sender (.claim page claimant)
  unfold State.claimFrame
  refine Kept.trans ?_ (reviewComplete_kept _)
  refine ite_kept _ (fun _ => ?_) (fun _ => board)
  split
  · exact (board.trans (takeWork_kept _ _)).trans (releaseIfBarred_kept _ _)
  · exact board.trans (setClaims_kept _ _)
  · exact board

theorem renewFrame_kept (s : State) (h : FrameHdr) (page : Nat) : Kept s (s.renewFrame h page) :=
  (boardFrame_kept s _ _).trans (reviewComplete_kept _)

theorem loseUnlisted_kept (s : State) (page : Nat) : Kept s (s.loseUnlisted page) :=
  (setFault_kept s { s.fault with unlisted := s.fault.unlisted + 1 } (by rfl) (by rfl)).trans (raise_kept _ _ _ _ _)

theorem loseClaim_kept (s : State) (page : Nat) : Kept s (s.loseClaim page) := by
  have left := ((leaveWork_kept s page).trans (settlePage_kept _ page false)).trans (reviewComplete_kept _)
  unfold State.loseClaim
  dsimp only
  split
  · exact left.trans (raise_kept _ _ _ _ _)
  · exact left.trans (loseUnlisted_kept _ _)

theorem restartLease_kept (s : State) (page : Nat) : Kept s (s.restartLease page) :=
  ite_kept _ (fun _ => setBoard_kept s _ (by exact id) (by exact id)) (fun _ => .refl s)

theorem lapseFrame_kept (s : State) (h : FrameHdr) (page holder mark : Nat) :
    Kept s (s.lapseFrame h page holder mark) := by
  have board := boardFrame_kept s h.sender (.lapse page holder mark)
  unfold State.lapseFrame
  dsimp only
  split
  · exact ite_kept _ (fun _ => board.trans (loseClaim_kept _ _)) (fun _ => board.trans (reviewComplete_kept _))
  · exact ite_kept _ (fun _ => board.trans (restartLease_kept _ _)) (fun _ => board)
  · exact board

theorem closeApplied_kept (s : State) (page : Nat) : Kept s (s.closeApplied page) :=
  ((settlePage_kept s page true).trans (reviewComplete_kept _)).trans (tryEnd_kept _)

theorem doneFrame_kept (s : State) (h : FrameHdr) (page edition : Nat) : Kept s (s.doneFrame h page edition) := by
  have board := boardFrame_kept s h.sender (.done page edition)
  unfold State.doneFrame
  refine ite_kept _ (fun _ => ?_) (fun _ => board.trans (reviewComplete_kept _))
  split
  · exact ((board.trans (leaveWork_kept _ _)).trans (reportPage_kept _ _ _ _ _)).trans (closeApplied_kept _ _)
  · exact (board.trans (reportPage_kept _ _ _ _ _)).trans (closeApplied_kept _ _)
  · exact board

theorem releaseFrame_kept (s : State) (h : FrameHdr) (page : Nat) : Kept s (s.releaseFrame h page) := by
  have board := boardFrame_kept s h.sender (.release page)
  unfold State.releaseFrame
  refine ite_kept _ (fun _ => ?_) (fun _ => board.trans (reviewComplete_kept _))
  split
  · exact (board.trans (leaveWork_kept _ _)).trans (closeApplied_kept _ _)
  · exact board.trans (closeApplied_kept _ _)
  · exact board

theorem failFrame_kept (s : State) (h : FrameHdr) (page cause : Nat) : Kept s (s.failFrame h page cause) := by
  have board := boardFrame_kept s h.sender (.fail page cause)
  unfold State.failFrame
  refine ite_kept _ (fun _ => ?_) (fun _ => board.trans (reviewComplete_kept _))
  split
  · exact ((board.trans (leaveWork_kept _ _)).trans (reportPage_kept _ _ _ _ _)).trans (closeApplied_kept _ _)
  · exact board.trans (closeApplied_kept _ _)
  · exact board

/-! ### JOIN and LEAVE -/

/-- R23: a taken frame finds a replica, and leaves one. -/
theorem boardFrame_isSome (s : State) (sender : Nat) (f : Frame) (h : s.boardFate sender f = .taken) :
    (s.boardFrame sender f).board.replica.isSome = true := by
  unfold State.boardFate at h
  unfold State.boardFrame
  split at h
  · cases h
  next r hr =>
    split
    · simp [hr]
    · rfl

theorem reviewComplete_isSome (s : State) : s.reviewComplete.board.replica.isSome = s.board.replica.isSome := by
  unfold State.reviewComplete
  split
  · rfl
  next r hr =>
    dsimp only
    split_ifs <;> simp [hr]

theorem joinHeard_kept (s : State) (identity : Id32) : Kept s (s.joinHeard identity) :=
  ite_kept _ (fun _ => (startSync_kept s).trans (offerAsk_kept _)) (fun _ => .refl s)

theorem joinFrame_kept (s : State) (h : FrameHdr) (station : Nat) (identity : Id32) :
    Kept s (s.joinFrame h station identity) := by
  have board := (boardFrame_kept s h.sender (.join station identity)).trans (reviewComplete_kept _)
  refine ite_kept _ (fun _ => ?_) (fun _ => board.trans (joinHeard_kept _ _))
  refine ite_kept _ (fun ht => board.trans (activate_kept _ ?_)) (fun _ => board)
  rw [reviewComplete_isSome]
  exact boardFrame_isSome s _ _ ht.1

theorem leaveOwn_kept (s : State) : Kept s s.leaveOwn :=
  ((((dropReplica_kept s).trans (dropWork_kept _)).trans (withdraw_kept _ _)).trans
    (setFault_kept _ _ (by rfl) (by rfl))).trans (tryEnd_kept _)

theorem leaveFrame_kept (s : State) (h : FrameHdr) (station : Nat) : Kept s (s.leaveFrame h station) :=
  ite_kept _ (fun _ => (boardFrame_kept s _ _).trans (leaveOwn_kept _))
    (fun _ => (boardFrame_kept s _ _).trans (reviewComplete_kept _))

/-! ## The frames of the Amendment Store (R51 to R55, R65) -/

theorem relayApplied_kept (s : State) (h : FrameHdr) (r : RelayResult) : Kept s (s.relayApplied h r) :=
  ite_kept _ (fun _ => (setLink_kept s _ (by exact id)).trans (emit_kept _ _)) (fun _ => .refl s)

theorem insertRecord_length (pool : List Amendment) (a : Amendment) :
    (insertRecord pool a).length = pool.length + 1 := by
  have h := List.length_eq_length_filter_add (l := pool) (fun x => decide (x.batch ≤ a.batch))
  have hn : pool.filter (fun x => !decide (x.batch ≤ a.batch)) = pool.filter (fun x => decide (a.batch < x.batch)) :=
    List.filter_congr (fun x _ => by rw [← decide_not, decide_eq_decide, Nat.not_le])
  rw [hn] at h
  simp [insertRecord, h, Nat.add_assoc]

/-- R49, R51: a record enters the store only where a place is free. -/
theorem judgeAmend_length {pool q : List Amendment} {n : Nat} {b : AmendBody} {replaced : Bool}
    (h : judgeAmend pool n b = .taken (q, replaced)) (hp : pool.length ≤ 64) : q.length ≤ 64 := by
  unfold judgeAmend at h
  split at h
  · cases h
  split at h
  · cases h
  split at h
  · cases h
  dsimp only at h
  split at h
  · cases h
    simpa [replaceRecord] using hp
  split at h
  · cases h
  next hcap =>
    cases h
    rw [insertRecord_length]
    simp only [Config.poolCap, Nat.not_le] at hcap
    omega

theorem amendFrame_kept (s : State) (h : FrameHdr) (b : AmendBody) : Kept s (s.amendFrame h b) := by
  refine ite_kept _ (fun _ => .refl s) (fun _ => ?_)
  split
  · exact relayApplied_kept s _ _
  next pool replaced hj =>
    exact (setPool_kept s pool (judgeAmend_length hj)).trans (relayApplied_kept _ _ _)

theorem launchBoard_kept (s : State) (b : Batch) (pool : List Amendment)
    (h : s.pool.length ≤ 64 → pool.length ≤ 64) : Kept s (s.launchBoard b pool) := by
  refine (setPool_kept s pool h).trans (setBoard_kept _ _ (fun hs x hx => ?_) (fun hn => ?_))
  · obtain ⟨r, hr, rfl⟩ := Option.map_eq_some_iff.mp hx
    exact launch_lawful (hs r hr) _ _
  · exact Option.map_eq_none_iff.mpr hn

theorem withoutBatch_length_le (pool : List Amendment) (b : Nat) : (withoutBatch pool b).length ≤ pool.length :=
  List.length_filter_le _ _

theorem launchFrame_kept (s : State) (h : FrameHdr) (b : Nat) : Kept s (s.launchFrame h b) := by
  refine ite_kept _ (fun _ => .refl s) (fun _ => ?_)
  split
  · exact relayApplied_kept s _ _
  · exact (((launchBoard_kept s _ _ (withoutBatch_length_le _ _).trans).trans (relayApplied_kept _ _ _)).trans
      (reviewComplete_kept _)).trans (enqueueBatch_kept _ _)

theorem dropFrame_kept (s : State) (h : FrameHdr) (b : Nat) : Kept s (s.dropFrame h b) := by
  refine ite_kept _ (fun _ => .refl s) (fun _ => ?_)
  split
  · exact relayApplied_kept s _ _
  next pool hj =>
    refine (setPool_kept s pool (fun hp => ?_)).trans (relayApplied_kept _ _ _)
    unfold judgeDrop at hj
    split_ifs at hj
    cases hj
    exact (withoutBatch_length_le _ _).trans hp

/-! ## What every applied frame does (R134, R138) -/

theorem afterFrame_kept (s : State) : Kept s s.afterFrame := by
  have stale := withdraw_kept s (staleRenew s.claims.work)
  unfold State.afterFrame
  refine (Kept.trans ?_ (reviewPending_kept _)).trans (evalClaim_kept _)
  split
  · exact stale.trans (withdraw_kept _ _)
  · exact stale

end Sys2Proof.Keeping
end

section
/-! PROOFS. The laws under a frame that passed: the port, the block that owns the frame, and what follows every applied
frame. -/

namespace Sys2Proof.Keeping

open Sys2Proof Sys2Proof.Machine Sys2Proof.Laws

/-! ## What a passed frame meets (R139, R140, R152) -/

/-- R139, R140, R152: the state in which a frame of that sender is handed on: where a run is held it is the sender's, and
where one is still being collected the frame is the responder's and of a kind that a collection takes. -/
structure Meets (t : State) (sender : Nat) (f : Frame) : Prop where
  run : t.ctl.state = .syncing → t.participation = .full ∧ ∀ r, t.port.run = some r → r.holder = sender
  collected : ∀ c, t.ctl.collection = some c →
    f.isCollected = true ∧ c.responder = sender ∧ t.ctl.state = .syncing ∧ t.board.replica = none

theorem Meets.collectsFrom {t : State} {sender : Nat} {f : Frame} (m : Meets t sender f) {c : Collection}
    (h : t.ctl.collection = some c) : CollectsFrom t c.responder := by
  obtain ⟨-, rfl, hst, hn⟩ := m.collected c h
  obtain ⟨hp, hr⟩ := m.run hst
  exact ⟨hp, hst, hn, hr⟩

theorem Meets.idle {t : State} {sender : Nat} {f : Frame} (m : Meets t sender f) (hf : f.isCollected = false) :
    t.ctl.collection = none := by
  rw [Option.eq_none_iff_forall_ne_some]
  intro c hc
  exact absurd (m.collected c hc).1 (by simp [hf])

theorem collectLaw_of_none {t : State} (h : t.ctl.collection = none) : t.collectLaw := by
  intro c hc
  rw [h] at hc
  cases hc

theorem runAfter_holder {run : Option RunHeld} {sender : Nat} {hold : Bool} {r : RunHeld}
    (h : runAfter run sender hold = some r) : r.holder = sender := by
  unfold runAfter at h
  split at h <;> split_ifs at h <;> cases h <;> rfl

theorem offerAsk_awaitsStart (s : State) : s.offerAsk.port.awaitsStart = s.port.awaitsStart := by
  unfold State.offerAsk
  split_ifs
  · rfl
  · rw [offerCtl_eq]
    split_ifs <;> rfl

/-- R153: a station that goes on SYNCING after it has abandoned a run takes the same part as before. -/
theorem abandon_participation (s : State) (case : Nat) (hs : s.ctl.state = .syncing)
    (ht : (s.abandon case).ctl.state = .syncing) : (s.abandon case).participation = s.participation := by
  refine participation_congr (by simp) ?_ (ht.trans hs.symm)
  revert ht
  unfold State.abandon
  dsimp only
  split_ifs
  · intro ht
    rw [(raise_halts _ .syncFailed none none case rfl (by simp [hs])).1] at ht
    cases ht
  · intro _
    rw [offerAsk_awaitsStart]
    rfl

theorem passFrame_port (s : State) (h : FrameHdr) (f : Frame) :
    ∃ p : Port, s.passFrame h f = (s.setPort p).meetCollection h.sender f ∧ p.silent = s.port.silent ∧
      p.awaitsStart = s.port.awaitsStart ∧ p.run = runAfter s.port.run h.sender h.hold := by
  refine ⟨_, rfl, ?_⟩
  split_ifs
  · unfold Port.ownPassed
    dsimp only
    split_ifs <;> exact ⟨rfl, rfl, rfl⟩
  · exact ⟨rfl, rfl, rfl⟩

theorem passFrame_idle (s : State) (h : FrameHdr) (f : Frame) (hc : s.ctl.collection = none) :
    (s.passFrame h f).ctl.collection = none := by
  simp [State.passFrame, State.meetCollection, hc]

/-- R152, R153: a passed frame of another station, or one of a kind that a collection does not take, ends it. -/
theorem passFrame_meets {s : State} (h : FrameHdr) (f : Frame) (hf : s.participation = .full) (hs : s.collectLaw) :
    Meets (s.passFrame h f) h.sender f := by
  obtain ⟨p, hp, hsil, haw, hrun⟩ := passFrame_port s h f
  have full : (s.setPort p).participation = .full :=
    (participation_congr (s := s) (t := s.setPort p) hsil haw rfl).trans hf
  have held (r : RunHeld) (hr : p.run = some r) : r.holder = h.sender := runAfter_holder (hrun.symm.trans hr)
  have ended (case : Nat) (hst : s.ctl.state = .syncing) : Meets ((s.setPort p).abandon case) h.sender f := by
    have gone := (abandon_spec (s.setPort p) case hst).1
    refine ⟨fun ht => ⟨(abandon_participation (s.setPort p) case hst ht).trans full, by simpa using held⟩,
      fun c hc => ?_⟩
    rw [gone] at hc
    cases hc
  rw [hp]
  unfold State.meetCollection
  split
  next c hc =>
    obtain ⟨-, hst, hn, -⟩ := hs c hc
    split_ifs with hsender hcol
    · exact ended 1 hst
    · exact ⟨fun _ => ⟨full, held⟩, fun d hd => ⟨hcol, (by
        obtain rfl : c = d := Option.some.inj (hc.symm.trans hd)
        exact (not_not.mp hsender).symm), hst, hn⟩⟩
    · obtain ⟨hr, hc⟩ := ended 2 hst
      exact ⟨hr, hc⟩
  next hc => exact ⟨fun _ => ⟨full, held⟩, fun c hd => by rw [hc] at hd; cases hd⟩

/-! ## The frames of a run (R149 to R152) -/

theorem advance_kept (t : State) (c : Collection) :
    KeptIf True (RunLawful c) (EntriesLawful c) (CollectsFrom t c.responder) t (t.advance c) :=
  advance_setCtl_kept t t.ctl c

/-- R152: with a frame kept, what is collected of a run is collected as its law says. -/
theorem advance_collectLaw (t : State) (c : Collection) (h : CollectsFrom t c.responder) : (t.advance c).collectLaw :=
  (advance_setCtl_kept (t.setCtl { t.ctl with collection := none }) t.ctl c).collect h (collectLaw_of_none rfl)

theorem keepPages_spec {c d : Collection} {own requester index : Nat} {bs : List Byte}
    (h : c.keepPages own requester index bs = some d) :
    d.responder = c.responder ∧ d.kept = c.kept ∧ d.amendFrames = c.amendFrames ∧ d.records = c.records := by
  unfold Collection.keepPages at h
  split_ifs at h
  obtain ⟨es, -, rfl⟩ := Option.map_eq_some_iff.mp h
  exact ⟨rfl, rfl, rfl, rfl⟩

theorem keepAmend_spec {c d : Collection} {own requester index : Nat} {b : AmendBody}
    (h : c.keepAmend own requester index b = some d) : d.responder = c.responder ∧ (RunLawful c → RunLawful d) := by
  unfold Collection.keepAmend at h
  split at h
  · cases h
  dsimp only at h
  split_ifs at h with hk
  cases h
  refine ⟨rfl, fun ⟨h1, h2, h3⟩ => ⟨by simp [h1], ?_, h3⟩⟩
  exact hk.2.2.2.1

theorem collect_kept (t : State) (kept : Option Collection) (hr : t.storeLaw → ∀ c, kept = some c → RunLawful c) :
    KeptIf True True False False t (t.collect kept) := by
  unfold State.collect
  split
  next c =>
    have k := advance_kept t c
    exact { k with
      store := fun _ hs => k.store (hr hs c rfl) hs
      board := False.elim
      collect := False.elim }
  · exact (unexpected_kept t).always

/-- R153: an unexpected frame ends the collection. -/
theorem unexpected_collectLaw (t : State) (h : t.ctl.state = .syncing) : t.unexpected.collectLaw :=
  collectLaw_of_none (abandon_spec t 2 h).1

theorem pagesFrame_kept (t : State) (requester index : Nat) (es : List Byte) :
    KeptIf True True (t.ctl.collection = none) False t (t.pagesFrame requester index es) := by
  unfold State.pagesFrame
  split
  next c hc =>
    refine (collect_kept t _ (fun hs d hd => ?_)).under id id (fun hn => by simp [hc] at hn) id
    obtain ⟨-, hk, ha, hr⟩ := keepPages_spec hd
    have hrun : RunLawful c := hs.2 c hc
    simpa only [RunLawful, hk, ha, hr] using hrun
  · exact (Kept.refl t).always

theorem pagesFrame_collectLaw {t : State} {sender : Nat} {f : Frame} (m : Meets t sender f) (requester index : Nat)
    (es : List Byte) : (t.pagesFrame requester index es).collectLaw := by
  unfold State.pagesFrame
  split
  next c hc =>
    have hfrom := m.collectsFrom hc
    unfold State.collect
    split
    next d hd => exact advance_collectLaw t d ((keepPages_spec hd).1 ▸ hfrom)
    · exact unexpected_collectLaw t hfrom.2.1
  next hc => exact collectLaw_of_none hc

theorem snapAmendFrame_kept (t : State) (requester index : Nat) (b : AmendBody) :
    KeptIf True True (t.ctl.collection = none) False t (t.snapAmendFrame requester index b) := by
  unfold State.snapAmendFrame
  split
  next c hc =>
    exact (collect_kept t _ (fun hs d hd => (keepAmend_spec hd).2 (hs.2 c hc))).under id id
      (fun hn => by simp [hc] at hn) id
  · exact (Kept.refl t).always

theorem snapAmendFrame_collectLaw {t : State} {sender : Nat} {f : Frame} (m : Meets t sender f) (requester index : Nat)
    (b : AmendBody) : (t.snapAmendFrame requester index b).collectLaw := by
  unfold State.snapAmendFrame
  split
  next c hc =>
    have hfrom := m.collectsFrom hc
    unfold State.collect
    split
    next d hd => exact advance_collectLaw t d ((keepAmend_spec hd).1 ▸ hfrom)
    · exact unexpected_collectLaw t hfrom.2.1
  next hc => exact collectLaw_of_none hc

theorem withdrawRun_participation (s : State) (sender requester : Nat) :
    (s.withdrawRun sender requester).participation = s.participation := by
  unfold State.withdrawRun
  split_ifs
  · exact participation_congr rfl rfl rfl
  · rfl

/-- R149, R150, R152: a head begins a collection at a SYNCING station with no replica. -/
theorem headFrame_kept (t : State) (fresh : Bool) (sender requester responder : Nat) (c : Collection)
    (hk : c.kept = []) (ha : c.amendFrames = 0) (he : c.entries = []) :
    KeptIf True True True
      (t.ctl.state = .syncing → t.participation = .full ∧ ∀ r, t.port.run = some r → r.holder = c.responder)
      t (t.headFrame fresh sender requester responder c) := by
  unfold State.headFrame
  dsimp only
  generalize hu : (if (fresh && decide (requester = t.straps.station)) = true then t.withdrawAsk else t) = u
  have asked : Kept t u := by
    rw [← hu]
    exact ite_kept _ (fun _ => withdrawAsk_kept t) (fun _ => .refl t)
  have same : u.participation = t.participation ∧ u.port.run = t.port.run ∧ u.ctl.state = t.ctl.state := by
    rw [← hu]
    split_ifs
    · exact ⟨participation_congr rfl rfl rfl, rfl, rfl⟩
    · exact ⟨rfl, rfl, rfl⟩
  have gone := asked.trans (withdrawRun_kept u sender requester)
  split_ifs with hm
  · refine gone.always.trans ((startCollection_kept _ responder c hk ha he).under id id id fun hr => ?_)
    obtain ⟨hst, hn⟩ : (u.withdrawRun sender requester).ctl.state = .syncing ∧
        (u.withdrawRun sender requester).board.replica = none := by
      simp only [Bool.and_eq_true, State.mayCollect, decide_eq_true_eq, Option.isNone_iff_eq_none] at hm
      exact hm.1.2
    have hst' : t.ctl.state = .syncing := by
      rw [← hst, ← same.2.2]
      unfold State.withdrawRun
      split_ifs <;> rfl
    obtain ⟨hp, hrun⟩ := hr hst'
    exact ⟨(withdrawRun_participation u _ _).trans (same.1.trans hp), hst, hn, by simpa [same.2.1] using hrun⟩
  · exact gone.always

/-! ## A frame that passed (R134, R143, R145, R146) -/

/-- What the block that owns a frame does with it keeps the laws, that of the run under collection included where the frame was
met as `Meets` says. -/
structure ActKeeps (sender : Nat) (f : Frame) (act : State → State) : Prop where
  kept : ∀ t, KeptIf True True (t.ctl.collection = none) False t (act t)
  collect : ∀ t, Meets t sender f → (act t).collectLaw

/-- A frame of a kind that no collection takes, to a block that keeps every law. -/
theorem ActKeeps.of_kept {sender : Nat} {f : Frame} {act : State → State} (hf : f.isCollected = false)
    (h : ∀ t, Kept t (act t)) : ActKeeps sender f act :=
  ⟨fun t => (h t).always, fun t m => (h t).collect trivial (collectLaw_of_none (m.idle hf))⟩

theorem takeFrame_kept (s : State) (h : FrameHdr) (f : Frame) (act : State → State) (hf : s.participation = .full)
    (ha : ActKeeps h.sender f act) :
    KeptIf True True (s.ctl.collection = none) True s (s.takeFrame h f act) := by
  have passed := (passFrame_kept s h f).under (record := True) (store := True) (board := s.ctl.collection = none)
    (collect := False) id id (fun _ => trivial) id
  have acted := (ha.kept (s.passFrame h f)).under (record := True) (store := True) (board := s.ctl.collection = none)
    (collect := False) id id (passFrame_idle s h f) id
  have after := afterFrame_kept (act (s.passFrame h f))
  have k := (passed.trans acted).trans after.always
  exact { k with
    collect := fun _ hs => after.collect trivial (ha.collect _ (passFrame_meets h f hf hs)) }

theorem applyFrame_kept (s : State) (h : FrameHdr) (f : Frame) (act : State → State) (ha : ActKeeps h.sender f act) :
    KeptIf True True (s.ctl.collection = none) True s (s.applyFrame h f act) := by
  unfold State.applyFrame
  split
  next hp => exact (letBy_kept s _ _ (by simp [hp])).always
  next hp =>
    split_ifs
    · exact (begun_kept s).always.trans (takeFrame_kept s.begun h f act (begun_full_of_joining hp) ha)
    · exact (letBy_kept s _ _ (by simp [hp])).always
  next hp => exact (silentPassed_kept s _ (silent_of_participation hp)).always
  next hp => exact takeFrame_kept s h f act hp ha

/-- R149, R150, R152: what a SNAP_HEAD does. -/
theorem headAct_keeps (h : FrameHdr) (f : Frame) (hf : f.isCollected = false) (ignored fresh : Bool)
    (requester responder : Nat) (c : Collection) (hk : c.kept = []) (ha : c.amendFrames = 0) (he : c.entries = [])
    (hc : c.responder = h.sender) :
    ActKeeps h.sender f (fun t => if ignored then t
      else t.headFrame fresh h.sender requester responder c) where
  kept t := by
    split_ifs
    · exact (Kept.refl t).always
    · exact (headFrame_kept t fresh h.sender requester responder c hk ha he).under id id (fun _ => trivial) False.elim
  collect t m := by
    have idle := collectLaw_of_none (m.idle hf)
    split_ifs
    · exact idle
    · exact (headFrame_kept t fresh h.sender requester responder c hk ha he).collect (hc ▸ m.run) idle

end Sys2Proof.Keeping
end

section
/-! PROOFS. The laws under the Compositor, the Fetch Unit and the print engine's side. -/

namespace Sys2Proof.Keeping

open Sys2Proof Sys2Proof.Machine Sys2Proof.Laws

/-! ## References and placing (R72 to R74, R103) -/

theorem setHeld_kept (s : State) (h : Held) (hh : s.comp.held.isSome = true) : Kept s (s.setHeld h) :=
  setComp_kept s _ (fun _ => hh)

theorem modifyCell_kept (s : State) (i : Nat) (f : Cell → Cell) : Kept s (s.modifyCell i f) := by
  unfold State.modifyCell
  split
  · exact .refl s
  next hh => exact setHeld_kept s _ (by simp [hh])

theorem bare_convert (page cell : Nat) (sl : Slot) : bare (sl.convert page cell) = bare sl := by
  unfold Slot.convert
  split_ifs
  · rw [bare_addRefs, bare_keepRefs]
  · rfl

theorem countComposing_kept (s : State) (page cell : Nat) (pid : Id32) : Kept s (s.countComposing page cell pid) := by
  refine ite_kept _ (fun _ => withSlots_kept s _ (by simp [bare_convert, Function.comp_def])) (fun _ => ?_)
  split
  · exact addRefs_kept s _ _
  · exact setFetch_kept s _ rfl

theorem takeCell_kept (s : State) (t : Template) (i : Nat) : Kept s (s.takeCell t i) := by
  unfold State.takeCell
  split
  · exact .refl s
  split
  · exact .refl s
  split
  · exact .refl s
  · exact ite_kept _ (fun _ => (modifyCell_kept s _ _).trans (countComposing_kept _ _ _ _)) (fun _ => .refl s)

theorem takeReferences_kept (s : State) (t : Template) (b : Nat) : Kept s (s.takeReferences t b) := by
  unfold State.takeReferences
  split
  · exact .refl s
  next hh =>
    exact (setHeld_kept s _ (by simp [hh])).trans (foldl_kept _ (fun u i => takeCell_kept u t i) _ _)

theorem recordPlaced_kept (s : State) (h : Held) (i : Nat) (p : Placed) (hh : s.comp.held = some h) :
    Kept s (s.recordPlaced h i p) := by
  have told (c : Comp) : Kept s (s.setComp c) := setComp_kept s c (fun _ => by simp [hh])
  exact ite_kept _ (fun _ => ((told _).trans (modifyCell_kept _ i Cell.dropRef)).trans
    (keepRefs_kept _ (fun r => decide (r ≠ .composing i)))) (fun _ => told _)

theorem placeCells_kept (t : Template) (cells : List Nat) : ∀ s : State, Kept s (State.placeCells t cells s).1 := by
  induction cells with
  | nil => exact Kept.refl
  | cons i rest ih =>
    intro s
    unfold State.placeCells
    split
    · exact .refl s
    next h hh =>
      split
      · exact ih s
      split_ifs
      · exact ih s
      split
      · exact (recordPlaced_kept s h i _ hh).trans (ih _)
      · exact .refl s

/-! ## The lane and the bands (R70, R71, R82 to R86) -/

theorem handPacket_kept (s : State) (p : Packet) : Kept s (s.handPacket p) := setLane_kept s _ le_rfl

theorem setCompState_kept (s : State) (c : CompState) : Kept s (s.setCompState c) := setComp_kept s _ id

theorem handBand_kept (s : State) (t : Template) : Kept s (s.handBand t) := by
  unfold State.handBand
  split
  · exact .refl s
  · exact (handPacket_kept s _).trans (setCompState_kept _ _)

theorem placeBand_kept (s : State) : Kept s s.placeBand := by
  unfold State.placeBand
  split
  · exact .refl s
  split
  · exact .refl s
  · exact (placeCells_kept _ _ s).trans (setCompState_kept _ _)

theorem handReady_kept (s : State) : Kept s s.handReady := by
  unfold State.handReady
  split
  · exact .refl s
  split
  · exact .refl s
  · exact ite_kept _ (fun _ => .refl s) (fun _ => handBand_kept s _)

theorem proceed_kept (s : State) : Kept s s.proceed := by
  unfold State.proceed
  split
  · exact .refl s
  next hh =>
    split
    · exact .refl s
    split
    · exact (setHeld_kept s _ (by simp [hh])).trans (handPacket_kept _ _)
    · exact ite_kept _ (fun _ => handReady_kept s) fun _ => ite_kept _ (fun _ => setComp_kept s _ id)
        (fun _ => (setFetch_kept s { s.fetch with wants := [] } rfl).trans (handPacket_kept _ _))

theorem startBand_kept (s : State) (b : Nat) : Kept s (s.startBand b) := by
  unfold State.startBand
  split
  · exact .refl s
  split
  · exact .refl s
  · exact (takeReferences_kept s _ _).trans (placeBand_kept _)

theorem beginBand_kept (s : State) (b : Nat) : Kept s (s.beginBand b) := (startBand_kept s b).trans (handReady_kept _)

theorem afterBand_kept (s : State) : Kept s s.afterBand := by
  unfold State.afterBand
  split
  · exact .refl s
  · exact (ite_kept _ (fun _ => startBand_kept s _) (fun _ => .refl s)).trans (proceed_kept _)

theorem unlessCut_kept (s : State) (go : State → State) (h : Kept s (go s)) : Kept s (s.unlessCut go) :=
  ite_kept _ (fun _ => .refl s) (fun _ => h)

theorem sentPacket_kept (s : State) (p : Packet) : Kept s (s.sentPacket p) := setLane_kept s _ le_rfl

theorem handOpen_kept (s : State) : Kept s s.handOpen := by
  unfold State.handOpen
  split
  · exact (handPacket_kept s _).trans (setCompState_kept _ _)
  · exact .refl s

theorem trained_sheets (l : Lane) (t n : Nat) : (l.trained t n).sheets = l.sheets := by
  unfold Lane.trained
  split_ifs <;> rfl

theorem trainSent_kept (s : State) (ix n : Nat) (p : Packet) : Kept s (s.trainSent ix n p) := by
  unfold State.trainSent
  dsimp only
  refine ((sentPacket_kept s p).trans (setLane_kept _ _ (congrArg List.length (trained_sheets _ ix n)).le)).trans (unlessCut_kept _ _ ?_)
  refine ite_kept _ (fun _ => ?_) (fun _ => handOpen_kept _)
  split
  · exact handPacket_kept _ _
  · exact .refl _

theorem openSent_kept (s : State) (p : Packet) : Kept s (s.openSent p) := by
  have opened := (sentPacket_kept s p).trans
    (setLane_kept _ { (s.sentPacket p).lane with phase := .opened } le_rfl)
  unfold State.openSent
  dsimp only
  split
  next hh =>
    exact (opened.trans (setHeld_kept _ _ (Option.isSome_iff_exists.mpr ⟨_, hh⟩))).trans (unlessCut_kept _ _ (handPacket_kept _ _))
  · exact opened

theorem metaSent_kept (s : State) (p : Packet) : Kept s (s.metaSent p) := by
  refine (sentPacket_kept s p).trans (unlessCut_kept _ _ ?_)
  split
  · exact .refl _
  split
  · exact ite_kept _ (fun _ => beginBand_kept _ _) (fun _ => handPacket_kept _ _)
  · exact .refl _

theorem titleSent_kept (s : State) (p : Packet) : Kept s (s.titleSent p) :=
  (sentPacket_kept s p).trans (unlessCut_kept _ _ (beginBand_kept _ _))

theorem releaseRefs_kept (s : State) (past : Nat) : Kept s (s.releaseRefs past) := by
  unfold State.releaseRefs
  split
  · exact .refl s
  · exact (clearRefs_kept s _).trans (keepRefs_kept _ _)

theorem bandSent_kept (s : State) (p : Packet) (b past : Nat) : Kept s (s.bandSent p b past) := by
  unfold State.bandSent
  dsimp only
  split
  · exact sentPacket_kept s p
  next h hh =>
    have counted : Kept (s.sentPacket p) ((s.sentPacket p).countBand h ((s.sentPacket p).dueAfter h b)) :=
      setComp_kept _ _ (fun _ => Option.isSome_iff_exists.mpr ⟨_, hh⟩)
    exact (((sentPacket_kept s p).trans counted).trans (releaseRefs_kept _ _)).trans
      (unlessCut_kept _ _ (afterBand_kept _))

theorem captionSent_kept (s : State) (p : Packet) : Kept s (s.captionSent p) :=
  (sentPacket_kept s p).trans (unlessCut_kept _ _ (proceed_kept _))

/-! ## Boundary, close and cut (R68, R69, R85 to R87, R120) -/

theorem modifyWork_kept (s : State) (page : Nat) (f : WorkEntry → WorkEntry) : Kept s (s.modifyWork page f) :=
  setClaims_kept s _

theorem trainOrOpen_kept (s : State) (ix : Nat) (t : Template) : Kept s (s.trainOrOpen ix t) :=
  ite_kept _ (fun _ => handOpen_kept s) (fun _ => (handPacket_kept s _).trans (setCompState_kept _ _))

/-- R68: a page is begun where the sheet list has room for its sheet. -/
theorem enterPage_kept (s : State) (p : PageRec) (t : Template) (hr : s.lane.sheets.length ≤ 3) :
    Kept s (s.enterPage p t) := by
  have begun (u : State) (c : Comp) (hu : u.lane.sheets.length ≤ 3) : Kept u (u.setComp c) :=
    { Kept.refl u with sheets := fun h => ⟨h.1, fun _ => hu⟩ }
  exact (((modifyWork_kept s p.number _).trans (begun _ _ hr)).trans (takeReferences_kept _ t 0)).trans
    (trainOrOpen_kept _ _ _)

theorem pageStart_room {s : State} {e : WorkEntry} (h : s.pageStart = some e) : s.lane.sheets.length ≤ 3 := by
  unfold State.pageStart at h
  split_ifs at h with hc
  exact Nat.lt_succ_iff.mp hc.2.2.2.2

theorem boundaryStep_kept (s : State) : Kept s s.boundaryStep := by
  unfold State.boundaryStep
  split
  · exact .refl s
  next he =>
    dsimp only
    split
    · exact .refl s
    split
    · exact (applyWaiting_kept s).trans (enterPage_kept _ _ _ (by simpa using pageStart_room he))
    · exact .refl s

/-- R85, R86, R120: the held page's sheet enters the list, and the Compositor holds a page no more. -/
theorem passOver_kept (s : State) (l : Lane) (c : Comp) (hl : l.sheets.length = s.lane.sheets.length + 1)
    (hh : s.comp.held.isSome = true) (hc : c.held = none) : Kept s ((s.setLane l).setComp c) :=
  { Kept.refl s with sheets := fun ⟨_, h3⟩ => ⟨hl.le.trans (Nat.succ_le_succ (h3 hh)), fun hx => by simp [hc] at hx⟩ }

theorem closeSent_kept (s : State) (p : Packet) (h : Held) (hh : s.comp.held.isSome = true) :
    Kept s (s.closeSent p h) := by
  have passed := passOver_kept (s.sentPacket p)
    { ((s.sentPacket p).lane.addSheet { page := h.page, edition := h.edition, cut := false }) with phase := .idle }
    s.comp.release (by simp [Lane.addSheet]) hh rfl
  exact ((((sentPacket_kept s p).trans passed).trans (modifyWork_kept _ h.page _)).trans
    (dropPrefetch_kept _ h.page)).trans (applyWaiting_kept _)

theorem cutSettled_kept (s : State) : Kept s s.cutSettled := by
  refine Kept.trans ((setFault_kept s { s.fault with cutStep := false } rfl rfl).trans ?_) (tryEnd_kept _)
  exact ite_kept _ (fun _ => (flushSheets_kept _).trans (setFault_kept _ _ rfl rfl)) (fun _ => .refl _)

theorem carryOutCut_kept (s : State) (h : Held) (hh : s.comp.held.isSome = true) : Kept s (s.carryOutCut h) := by
  have passed := passOver_kept s
    { (s.lane.addSheet { page := h.page, edition := h.edition, cut := true }) with
      phase := .idle
      inFlight := none
      sent := s.lane.sent ++ h.cutPackets } s.comp.release (by simp [Lane.addSheet]) hh rfl
  exact ((((passed.trans (keepRefs_kept _ (fun r => !r.isComposing))).trans (setFetch_kept _ _ (by rfl))).trans
    (setClaims_kept _ _)).trans (applyWaiting_kept _)).trans (cutSettled_kept _)

/-! ## The Fetch Unit (R102 to R113) -/

theorem isFree_iff (sl : Slot) : sl.isFree = true ↔ sl = .free := by
  cases sl <;> simp [Slot.isFree]

theorem firstFree_spec {t : Tiles} {n : Nat} (h : t.firstFree = some n) : t.slots[n]? = some .free := by
  have hn := List.find?_some h
  split at hn
  next sl hsl => rw [hsl, (isFree_iff sl).mp hn]
  · cases hn

theorem mayFetch_room {s : State} (h : s.mayFetch = true) : s.fetch.list.length < 8 := by
  simp only [State.mayFetch, Bool.and_eq_true, decide_eq_true_eq] at h
  exact h.1.1

theorem dropWant_kept (s : State) : Kept s s.dropWant := setFetch_kept s _ rfl

theorem placeWant_kept (s : State) (w : Want) (hr : s.fetch.list.length < 8) : Kept s (s.placeWant w) := by
  unfold State.placeWant
  split
  · exact (dropWant_kept s).trans (addRefs_kept _ _ _)
  split
  next n hn => exact (dropWant_kept s).trans (request_kept _ _ _ _ _ hr (firstFree_spec hn))
  split
  next n hn =>
    have he := List.find?_some hn
    obtain ⟨pid, pw, ph, refs, hsl, -⟩ := (evicts_iff s.tiles n).mp he
    have freed : (s.dropWant.freeSlot n).tiles.slots[n]? = some .free := by
      have hlt : n < s.tiles.slots.length := (List.getElem?_eq_some_iff.mp hsl).1
      simp [State.freeSlot, State.dropWant, hlt]
    refine ((dropWant_kept s).trans (freeSlot_kept _ n (fun sl h => ?_))).trans (request_kept _ _ _ _ _ hr freed)
    obtain rfl : Slot.ready pid pw ph refs = sl := Option.some.inj (hsl.symm.trans h)
    exact .inl rfl
  · exact .refl s

theorem wantStep_kept (s : State) : Kept s s.wantStep := by
  unfold State.wantStep
  split
  · exact ite_kept _ (fun h => placeWant_kept s _ (mayFetch_room h)) (fun _ => .refl s)
  · exact .refl s

theorem walk_kept (cells : List (Nat × Nat)) : ∀ s : State, Kept s (State.walk cells s) := by
  induction cells with
  | nil => exact Kept.refl
  | cons x rest ih =>
    intro s
    unfold State.walk
    split
    · exact ih s
    split
    · exact (addRefs_kept s _ _).trans (ih _)
    split
    next n hn =>
      exact ite_kept _ (fun h => (request_kept s _ _ _ _ (mayFetch_room h.2) (firstFree_spec hn)).trans (ih _))
        (fun _ => .refl s)
    · exact .refl s

theorem walkStep_kept (s : State) : Kept s s.walkStep := ite_kept _ (fun _ => walk_kept _ s) (fun _ => .refl s)

theorem protocolLoss_kept (s : State) (tag : Nat) : Kept s (s.protocolLoss tag) := raise_kept s _ _ _ _

theorem resume_kept (s : State) : Kept s s.resume := by
  refine ite_kept _ (fun _ => (placeBand_kept s).trans ?_) (fun _ => .refl s)
  exact ite_kept _ (fun _ => handReady_kept _) (fun _ => .refl _)

theorem tell_kept (s : State) (a : FetchAnswer) (r : Ref) : Kept s (s.tell a r) := by
  unfold State.tell
  split
  · exact modifyCell_kept s _ _
  · exact .refl s

/-! ### The head's answer ends (R107, R110 to R113) -/

/-- R100, R113: the head of the fetch list names a FILLING slot, whose references its stale flag tells of, and no other entry
names it. -/
theorem head_names {s : State} {e : FetchEntry} {rest : List FetchEntry} (hs : s.slotLaw) (hl : s.fetch.list = e :: rest) :
    rest.filter (fun x => decide (x.slot = e.slot)) = [] ∧
    ∃ refs, s.tiles.slots[e.slot]? = some (.filling e.portrait refs) ∧ e.stale = refs.isEmpty := by
  obtain ⟨h64, hsl, hlist⟩ := hs
  have he : e.slot < s.tiles.slots.length := by simpa [h64] using hlist e (by simp [hl])
  have hlaw := hsl e.slot _ (List.getElem?_eq_getElem he)
  simp only [slotLawful, hl, List.filter_cons, decide_true, if_true] at hlaw
  split at hlaw
  · cases hlaw
  next p refs hfill =>
    obtain ⟨x, hx, hp, hst⟩ := hlaw
    obtain ⟨rfl, hrest⟩ := List.cons.inj hx
    exact ⟨hrest, refs, by rw [List.getElem?_eq_getElem he, hfill, hp], hst⟩
  · cases hlaw.1

/-- The head leaves the list and its slot changes; new entries of the list name that slot. -/
theorem headEnds_kept (s : State) (e : FetchEntry) (rest new : List FetchEntry) (x : Tiles) (y : Fetch) (sl : Slot)
    (hl : s.fetch.list = e :: rest) (hx : x.slots = s.tiles.slots.set e.slot sl) (hd : x.dram = s.tiles.dram)
    (hy : y.list = rest ++ new) (h1 : new.length ≤ 1) (hn : ∀ z ∈ new, z.slot = e.slot)
    (hlaw : ∀ refs, s.tiles.slots[e.slot]? = some (.filling e.portrait refs) → e.stale = refs.isEmpty →
      rest.filter (fun z => decide (z.slot = e.slot)) = [] → slotLawful (rest ++ new) e.slot sl) :
    Kept s ((s.setTiles x).setFetch y) := by
  refine setTilesFetch_kept s x y hd (fun h8 => ?_) (fun hs => ?_)
  · simp only [hl, List.length_cons] at h8
    simp only [hy, List.length_append]
    omega
  · obtain ⟨hrest, refs, hfill, hst⟩ := head_names hs hl
    refine slotLaw_set hs hx (fun m hm => ?_) (fun z hz => ?_) (by simpa only [setFetch_fetch, hy] using hlaw refs hfill hst hrest)
    · have hnew : new.filter (fun z => decide (z.slot = m)) = [] :=
        List.filter_eq_nil_iff.mpr (fun z hz => by simp [hn z hz, Ne.symm hm])
      simp [hy, hl, List.filter_append, hnew, Ne.symm hm]
    · have he := hs.2.2 e (by simp [hl])
      rw [setFetch_fetch, hy] at hz
      rcases List.mem_append.mp hz with hz | hz
      · exact hs.2.2 z (by simp [hl, hz])
      · exact (hn z hz).symm ▸ he

theorem popFree_kept (s : State) (e : FetchEntry) (rest : List FetchEntry) (hl : s.fetch.list = e :: rest) :
    Kept s (s.popHead.freeSlot e.slot) :=
  headEnds_kept s e rest [] _ s.popHead.fetch .free hl (by rfl) (by rfl) (by simp [State.popHead, hl]) (by simp)
    (by simp) (fun _ _ _ hn => by simpa [slotLawful] using hn)

theorem refusePortrait_kept (s : State) (e : FetchEntry) (rest : List FetchEntry) (a : FetchAnswer)
    (hl : s.fetch.list = e :: rest) : Kept s (s.popHead.refusePortrait e.slot a) :=
  (((popFree_kept s e rest hl).trans (setFetch_kept _ _ (by rfl))).trans
    (foldl_kept _ (fun u r => tell_kept u a r) _ _)).trans (resume_kept _)

/-- R110, R113: a portrait is accepted where a reference is left, and its slot is READY. -/
theorem acceptPortrait_kept (s : State) (e : FetchEntry) (rest : List FetchEntry) (a : Answer)
    (hl : s.fetch.list = e :: rest) (hst : e.stale = false) : Kept s (s.popHead.acceptPortrait e a) := by
  refine (headEnds_kept s e rest [] _ s.popHead.fetch (.ready e.portrait a.width a.height (s.tiles.refsOf e.slot)) hl
    (by rfl) (by rfl) (by simp [State.popHead, hl]) (by simp) (by simp) (fun refs hfill hstale hn => ?_)).trans
    (resume_kept _)
  rw [List.append_nil]
  refine ⟨hn, ?_⟩
  simpa [Tiles.refsOf, hfill, Slot.refs, hst] using hstale.symm

theorem corrupt_kept (s : State) (e : FetchEntry) (rest : List FetchEntry) (hl : s.fetch.list = e :: rest) :
    Kept s (s.popHead.corrupt e) :=
  ((popFree_kept s e rest hl).trans (clearRefs_kept _ _)).trans (raise_kept _ _ _ _ _)

/-- R111: after a first bad answer the portrait is asked for again, for the same slot. -/
theorem badAnswer_kept (s : State) (e : FetchEntry) (rest : List FetchEntry) (hl : s.fetch.list = e :: rest) :
    Kept s (s.popHead.badAnswer e) := by
  refine ite_kept _ (fun _ => corrupt_kept s e rest hl) (fun _ => ?_)
  refine (headEnds_kept s e rest [FetchEntry.mk s.fetch.tag e.portrait e.slot (s.tiles.refsOf e.slot).isEmpty true] _ _ (.filling e.portrait (s.tiles.refsOf e.slot)) hl
    (by rfl) (by rfl) (by simp [State.popHead, hl]) (by simp) (by simp) (fun refs _ _ hn => ?_)).trans (emit_kept _ _)
  exact ⟨⟨s.fetch.tag, e.portrait, e.slot, (s.tiles.refsOf e.slot).isEmpty, true⟩, by simp [List.filter_append, hn],
    rfl, rfl⟩

theorem endAnswer_kept (s : State) (e : FetchEntry) (rest : List FetchEntry) (a : Answer) (crc : BitVec 32)
    (hl : s.fetch.list = e :: rest) : Kept s (s.endAnswer e a crc) :=
  ite_kept _ (fun _ => popFree_kept s e rest hl) fun hst => ite_kept _ (fun _ => refusePortrait_kept s e rest _ hl)
    fun _ => ite_kept _ (fun _ => acceptPortrait_kept s e rest a hl (by simpa using hst))
      (fun _ => badAnswer_kept s e rest hl)

theorem endAbsent_kept (s : State) (e : FetchEntry) (rest : List FetchEntry) (hl : s.fetch.list = e :: rest) :
    Kept s (s.endAbsent e) :=
  ite_kept _ (fun _ => popFree_kept s e rest hl) (fun _ => refusePortrait_kept s e rest _ hl)

theorem setAnswer_kept (s : State) (a : Answer) : Kept s (s.setAnswer a) := setFetch_kept s _ rfl

/-- R109: writing keeps the canonical form of the memory. -/
theorem setDram_kept (s : State) (a : Nat) (bs : List Byte) :
    Kept s (s.setTiles { s.tiles with dram := Mem.write s.tiles.dram a bs }) :=
  { Kept.refl s with dram := fun h => write_wf _ _ _ h }

theorem takeData_kept (s : State) (e : FetchEntry) (a : Answer) (bs : List Byte) : Kept s (s.takeData e a bs) :=
  (ite_kept _ (fun _ => setDram_kept s _ _) (fun _ => .refl s)).trans (setAnswer_kept _ _)

theorem portraitHeadRecord_kept (s : State) (tag : Nat) (pid : Id32) (width height : Nat) :
    Kept s (s.portraitHeadRecord tag pid width height) := by
  unfold State.portraitHeadRecord
  split
  · exact ite_kept _ (fun _ => setAnswer_kept s _) (fun _ => protocolLoss_kept s tag)
  · exact protocolLoss_kept s tag

theorem portraitDataRecord_kept (s : State) (tag : Nat) (bs : List Byte) : Kept s (s.portraitDataRecord tag bs) := by
  unfold State.portraitDataRecord
  split
  · exact ite_kept _ (fun _ => takeData_kept s _ _ _) (fun _ => protocolLoss_kept s tag)
  · exact protocolLoss_kept s tag

theorem portraitEndRecord_kept (s : State) (tag : Nat) (crc : BitVec 32) : Kept s (s.portraitEndRecord tag crc) := by
  unfold State.portraitEndRecord
  split
  next hl _ => exact ite_kept _ (fun _ => endAnswer_kept s _ _ _ _ hl) (fun _ => protocolLoss_kept s tag)
  · exact protocolLoss_kept s tag

theorem portraitAbsentRecord_kept (s : State) (tag : Nat) (pid : Id32) : Kept s (s.portraitAbsentRecord tag pid) := by
  unfold State.portraitAbsentRecord
  split
  next hl _ => exact ite_kept _ (fun _ => endAbsent_kept s _ _ hl) (fun _ => protocolLoss_kept s tag)
  · exact protocolLoss_kept s tag

theorem fetchTimeout_kept (s : State) : Kept s s.fetchTimeout := by
  unfold State.fetchTimeout
  split
  · exact (setFetch_kept s _ (by rfl)).trans (raise_kept _ _ _ _ _)
  · exact .refl s

/-! ## The print engine's side (R121 to R128) -/

theorem handOutcome_kept (s : State) (sh : Sheet) (o : EngineOutcome) : Kept s (s.handOutcome sh o) :=
  ite_kept _ (fun _ => setFault_kept s _ rfl rfl) (fun _ => claimOutcome_kept s sh o)

theorem count_sheets (l : Lane) (o : EngineOutcome) : (l.count o).sheets = l.sheets := by
  cases o <;> rfl

theorem goodOutcome_kept (s : State) (page : Nat) (o : EngineOutcome) : Kept s (s.goodOutcome page o) := by
  unfold State.goodOutcome
  split
  next hl =>
    exact ite_kept _ (fun _ => ((setLane_kept s _ (by simp [count_sheets, Lane.popSheet, hl])).trans
      (handOutcome_kept _ _ _)).trans (evalClaim_kept _)) (fun _ => raise_kept s _ _ _ _)
  · exact raise_kept s _ _ _ _

theorem returnEvent_kept (s : State) (e : ReturnEvent) : Kept s (s.returnEvent e) := by
  refine ite_kept _ (fun _ => .refl s) (fun _ => ?_)
  split
  · exact goodOutcome_kept s _ _
  · exact raise_kept s _ _ _ _

theorem setHunt_kept (s : State) (bs : List Byte) : Kept s (s.setHunt bs) := setLane_kept s _ le_rfl

theorem returnBytes_kept (s : State) (bs : List Byte) : Kept s (s.returnBytes bs) := by
  refine ite_kept _ (fun _ => setHunt_kept s _) (fun _ => ?_)
  have taken := (setHunt_kept s (huntReturn ((s.lane.hunt ++ bs).length + 1) (s.lane.hunt ++ bs)).2).trans
    (foldl_kept _ returnEvent_kept (huntReturn ((s.lane.hunt ++ bs).length + 1) (s.lane.hunt ++ bs)).1 _)
  exact ite_kept _ (fun _ => taken.trans (setHunt_kept _ _)) (fun _ => taken)

theorem outcomeRecord_kept (s : State) (page : Nat) (o : EngineOutcome) : Kept s (s.outcomeRecord page o) :=
  (setHunt_kept s _).trans (returnEvent_kept _ _)

theorem headTimeout_kept (s : State) : Kept s s.headTimeout := by
  unfold State.headTimeout
  split
  · exact (setLane_kept s _ (by exact le_rfl)).trans (raise_kept _ _ _ _ _)
  · exact .refl s

theorem goOffline_kept (s : State) : Kept s s.goOffline := by
  refine ite_kept _ (fun _ => .refl s) (fun _ => ?_)
  have off := (setLane_kept s { s.lane with offline := true } le_rfl).trans (reviewPending_kept _)
  exact ite_kept _ (fun _ => off) (fun _ => off.trans (raise_kept _ _ _ _ _))

theorem goOnline_kept (s : State) : Kept s s.goOnline :=
  (setLane_kept s _ (by exact le_rfl)).trans (evalClaim_kept _)

theorem reportExpiry_kept (s : State) : Kept s s.reportExpiry :=
  ite_kept _ (fun _ => repeatFaultReport_kept s) (fun _ => .refl s)

end Sys2Proof.Keeping
end

section
/-! PROOFS. The laws under the link's records, the resets and the bus's own commands, under every command, and under a
step. -/

namespace Sys2Proof.Keeping

open Sys2Proof Sys2Proof.Machine Sys2Proof.Laws

/-! ## The records of the library link (R12 to R19, R63, R148, R169 to R177) -/

theorem goodRecord_kept (s : State) : Kept s s.goodRecord := setLink_kept s _ id

theorem badRecord_kept (s : State) : Kept s s.badRecord := by
  unfold State.badRecord
  split
  · exact setFetch_kept s _ rfl
  · exact dropInbound_kept s

/-- R147, R148: only a SYNCING station collects a run, so that SETUP finds none. -/
theorem takeSetup_kept (s : State) (lease depth fetch : Nat) : Kept s (s.takeSetup lease depth fetch) := by
  refine ite_kept _ (fun hw => ?_) (fun _ => dropInbound_kept s)
  have moved (u : State) (hu : u.ctl.state = .setupWait) : Kept u (u.setCtl { u.ctl with state := .planLoad }) :=
    { Kept.refl u with
      collect := fun _ hs c hc => by
        obtain ⟨-, hst, -⟩ := hs c hc
        simp [hu] at hst }
  exact ((setSetup_kept s (some (clampSetup lease depth fetch))).trans (moved _ hw)).trans (emit_kept _ _)

theorem takePlanHead_kept (s : State) (p : PlanHead) : Kept s (s.takePlanHead p) :=
  ite_kept _ (fun _ => (setRoster_kept s _).trans (setLaunch_kept _ _)) (fun _ => dropInbound_kept s)

theorem takePlanBody_kept (s : State) (k : Nat) (add : Roster → Roster) : Kept s (s.takePlanBody k add) :=
  ite_kept _ (fun _ => setRoster_kept s _) (fun _ => dropInbound_kept s)

theorem planLoaded_kept (s : State) : Kept s s.planLoaded :=
  ((setRoster_kept s _).trans (setBoard_kept _ _ (by exact id) (by exact id))).trans (enterSyncing_kept _)

theorem planFailed_kept (s : State) (code index : Nat) : Kept s (s.planFailed code index) :=
  (setRoster_kept s _).trans (raise_kept _ _ _ _ _)

theorem judgePlan_kept (s : State) : Kept s s.judgePlan := by
  unfold State.judgePlan
  split
  · exact planLoaded_kept s
  · exact planFailed_kept s _ _

theorem enterSyncing_collection (s : State) : s.enterSyncing.ctl.collection = none := by
  simp [State.enterSyncing, State.startSync]

/-- R15, R19: after a plan has been judged no run is collected: the station begins to ask, or it halts. -/
theorem judgePlan_collection (s : State) (h : s.ctl.state = .planLoad) : s.judgePlan.ctl.collection = none := by
  unfold State.judgePlan
  split
  · exact enterSyncing_collection _
  · exact (raise_halts _ .planInvalid none none _ rfl (by simp [h])).2.2.1

theorem takePlanEnd_kept (s : State) : Kept s s.takePlanEnd := by
  refine ite_kept _ (fun hl => (judgePlan_kept s).trans ?_) (fun _ => dropInbound_kept s)
  have hp : s.ctl.state = .planLoad := by
    simp only [State.loading, Bool.and_eq_true, decide_eq_true_eq] at hl
    exact hl.1
  exact setPort_kept_of_idle _ _ ⟨id, id, id⟩ (fun _ => judgePlan_collection s hp)

theorem ifPortraits_kept (s : State) (go : State → State) (h : Kept s (go s)) : Kept s (s.ifPortraits go) :=
  ite_kept _ (fun _ => h) (fun _ => dropInbound_kept s)

theorem refuseRelay_kept (s : State) (f : Frame) (reason : Reason) : Kept s (s.refuseRelay f reason) := emit_kept s _

theorem relay_kept (s : State) (f : Frame) : Kept s (s.relay f) :=
  ite_kept _ (fun _ => refuseRelay_kept s _ _) fun _ => ite_kept _ (fun _ => refuseRelay_kept s _ _) fun _ =>
    ite_kept _ (fun h => (enqueue_kept s _ h).trans (setLink_kept _ _ (by exact id)))
      (fun _ => refuseRelay_kept s _ _)

theorem answerStatus_kept (s : State) (request : Nat) : Kept s (s.answerStatus request) := emit_kept s _

theorem lineSilent_kept (s : State) : Kept s s.lineSilent := by
  refine ite_kept _ (fun _ => ?_) (fun _ => .refl s)
  have lost := setLink_kept s { s.link with up := false, silence := none, parser := .hunting } (by exact id)
  exact (lost.trans (ite_kept _ (fun _ => .refl _) (fun _ => badRecord_kept _))).trans (raise_kept _ _ _ _ _)

/-! ## What may end a fault's record (R161, R169, R176) -/

/-- R161, R169, R176: every law is kept; the fault record stands, or there is none any more. -/
structure Taken (s t : State) : Prop where
  laws : KeptIf False True True True s t
  stands : Stands s.fault t.fault ∨ t.fault.record = none

theorem Taken.of_kept {s t : State} (k : Kept s t) : Taken s t :=
  ⟨k.always, .inl (k.stands trivial)⟩

theorem Taken.after {s t u : State} (k : Kept s t) (h : Taken t u) : Taken s u :=
  ⟨k.always.trans h.laws, h.stands.imp_left (k.stands trivial).trans⟩

/-- R169: an acknowledgement of the fault held clears it. -/
theorem clearFault_taken (s : State) (x : FaultUnit) (hp : x.phase = .clear) (hr : x.record = none) :
    Taken s (s.setFault x) where
  laws := { (KeptIf.refl s : KeptIf False True True True s s) with
    fault := fun _ => ⟨by simp [hp, hr], by simp [hr]⟩
    stands := False.elim }
  stands := .inr hr

theorem Taken.before {s t u : State} (h : Taken s t) (k : Kept t u) (hf : u.fault = t.fault) : Taken s u :=
  ⟨h.laws.trans k.always, hf ▸ h.stands⟩

theorem takeAck_taken (s : State) (serial : Nat) : Taken s (s.takeAck serial) := by
  unfold State.takeAck
  split_ifs
  · exact (clearFault_taken s _ rfl rfl).before ((setFetch_kept _ _ (by rfl)).trans (evalClaim_kept _)) (by simp)
  · exact .of_kept (.refl s)

theorem slotLaw_of_cleared {t : State} (hs : t.tiles.slots = List.replicate 64 .free) (hl : t.fetch.list = []) :
    t.slotLaw := by
  refine ⟨by simp [hs], fun n sl hn => ?_, by simp [hl]⟩
  rw [hs, List.getElem?_replicate] at hn
  split_ifs at hn
  cases hn
  simp [slotLawful, hl]

/-- R115, R146, R160, R176: the blocks that a reset clears keep every law. -/
theorem cleared_taken (s t : State) (hd : t.tiles.dram = s.tiles.dram) (hc : t.clearedByReset)
    (ho : t.link.outbound.length ≤ s.link.outbound.length) : Taken s t := by
  obtain ⟨-, -, hcol, -, -, -, -, -, -, -, -, -, -, -, -, -, hrep, -, -, -, -, -, -, hpool, -, -, -, hheld, -, -, -,
    hslots, -, hlist, -, -, -, -, -, -, -, -, -, hsheets, -, -, -, hsil, -, -, -, htx, hrx, hqueue, -, -, -, -, -, -,
    hphase, hrec, -⟩ := hc
  refine ⟨?_, .inr hrec⟩
  exact
    { port := ⟨fun _ => by simp [hqueue], fun _ => by simp [htx, hrx], fun _ h => by simp [hsil] at h⟩
      sheets := fun _ => ⟨by simp [hsheets], by simp [hsheets]⟩
      out := ho.trans
      list := fun _ => by simp [hlist]
      fault := fun _ => ⟨by simp [hphase, hrec], by simp [hrec]⟩
      dram := fun h => by simpa only [State.dramLaw, hd] using h
      slot := fun _ => slotLaw_of_cleared hslots hlist
      stands := False.elim
      store := fun _ _ => ⟨by simp [hpool], by simp [hcol]⟩
      board := fun _ _ r hr => by simp [hrep] at hr
      collect := fun _ _ => collectLaw_of_none hcol }

theorem coldReset_cleared (s : State) (straps : Straps) : (s.coldReset straps).clearedByReset := by
  simp [State.clearedByReset, State.coldReset, State.reset, Ctl.cleared, Roster.cleared, Board.cleared, Claims.cleared,
    Launch.cleared, Comp.cleared, Tiles.cleared, Fetch.cleared, FaultUnit.cleared, Lane.cold, Port.cold, Link.cold,
    Config.slotCount]

theorem restartBlocks_cleared (s : State) : s.restartBlocks.clearedByReset := by
  simp [State.clearedByReset, State.restartBlocks, State.reset, Ctl.cleared, Roster.cleared, Board.cleared, Claims.cleared,
    Launch.cleared, Comp.cleared, Tiles.cleared, Fetch.cleared, FaultUnit.cleared, Lane.cold, Port.cold, Lane.restarted,
    Port.restarted, Link.restarted, Config.slotCount]

theorem coldReset_taken (s : State) (straps : Straps) : Taken s (s.coldReset straps) :=
  cleared_taken s _ rfl (coldReset_cleared s straps) (Nat.zero_le _)

theorem restartBlocks_taken (s : State) : Taken s s.restartBlocks :=
  cleared_taken s _ rfl (restartBlocks_cleared s) (List.length_take_le' _ _)

/-! ## The byte stream (R171 to R173) -/

theorem dispatch_taken (s : State) (i : Instr) : Taken s (s.dispatch i) := by
  unfold State.dispatch
  split
  · exact .of_kept (takeSetup_kept s _ _ _)
  · exact .of_kept (takePlanHead_kept s _)
  · exact .of_kept (takePlanBody_kept s _ _)
  · exact .of_kept (takePlanBody_kept s _ _)
  · exact .of_kept (takePlanBody_kept s _ _)
  · exact .of_kept (takePlanBody_kept s _ _)
  · exact .of_kept (takePlanEnd_kept s)
  · exact .of_kept (ifPortraits_kept s _ (portraitHeadRecord_kept s _ _ _ _))
  · exact .of_kept (ifPortraits_kept s _ (portraitDataRecord_kept s _ _))
  · exact .of_kept (ifPortraits_kept s _ (portraitEndRecord_kept s _ _))
  · exact .of_kept (ifPortraits_kept s _ (portraitAbsentRecord_kept s _ _))
  · exact .of_kept (relay_kept s _)
  · exact .of_kept (relay_kept s _)
  · exact .of_kept (relay_kept s _)
  · exact takeAck_taken s _
  · exact .of_kept (answerStatus_kept s _)
  · exact restartBlocks_taken s
  · exact .of_kept (.refl s)

theorem wholeRecord_taken (s : State) (kind : Nat) (payload : List Byte) : Taken s (s.wholeRecord kind payload) := by
  unfold State.wholeRecord
  split
  · exact .after (goodRecord_kept s) (dispatch_taken _ _)
  · exact .of_kept (ite_kept _ (fun _ => (goodRecord_kept s).trans (dropInbound_kept _)) (fun _ => badRecord_kept s))

theorem heard_outbound (l : Link) : l.heard.outbound = l.outbound := by
  unfold Link.heard
  split_ifs <;> rfl

theorem feedByte_taken (s : State) (b : Byte) : Taken s (s.feedByte b) := by
  have heard := setLink_kept s { s.link.heard with parser := (s.link.parser.feed b).1 }
    (congrArg List.length (heard_outbound s.link)).le.trans
  unfold State.feedByte
  dsimp only
  split
  · exact .of_kept heard
  · exact .of_kept (heard.trans (badRecord_kept _))
  · exact .after heard (wholeRecord_taken _ _ _)

theorem feedBytes_laws (bs : List Byte) : ∀ s : State, KeptIf False True True True s (bs.foldl State.feedByte s) := by
  induction bs with
  | nil => exact KeptIf.refl
  | cons b bs ih => exact fun s => (feedByte_taken s b).laws.trans (ih _)

end Sys2Proof.Keeping
end

section
/-! PROOFS. The laws under every command and under a step. -/

namespace Sys2Proof.Keeping

open Sys2Proof Sys2Proof.Machine Sys2Proof.Laws

/-- What a command keeps: every law (that of the board while no run is collected), and, unless it is a reset or brings bytes of
the link, a fault record that stands or is cleared. -/
structure StepKeeps (c : Instr) (s t : State) : Prop where
  laws : KeptIf False True (s.ctl.collection = none) True s t
  stands : (∀ st rate, c ≠ .coldReset st rate) → (∀ bs, c ≠ .badInboundRecord bs) →
    Stands s.fault t.fault ∨ t.fault.record = none

theorem StepKeeps.of_taken {c : Instr} {s t : State} (h : Taken s t) : StepKeeps c s t :=
  ⟨h.laws.under id id (fun _ => trivial) id, fun _ _ => h.stands⟩

theorem StepKeeps.of_kept {c : Instr} {s t : State} (k : Kept s t) : StepKeeps c s t := .of_taken (.of_kept k)

theorem StepKeeps.of_frame {c : Instr} {s t : State} (k : KeptIf True True (s.ctl.collection = none) True s t) :
    StepKeeps c s t :=
  ⟨k.under False.elim id id id, fun _ _ => .inl (k.stands trivial)⟩

/-- A frame handed to a block that keeps every law. -/
theorem StepKeeps.of_act {c : Instr} {s : State} {h : FrameHdr} {f : Frame} {act : State → State}
    (hf : f.isCollected = false) (ha : ∀ t, Kept t (act t)) : StepKeeps c s (s.applyFrame h f act) :=
  .of_frame (applyFrame_kept s h f act (.of_kept hf ha))

/-! ## The bus's own commands and the station's timers -/

theorem frameStart_kept (s : State) (others : List Nat) :
    Kept s (if s.startBit.mayStart then s.startBit.startHead others else s) := by
  refine ite_kept _ (fun h => (startBit_kept s).trans (startHead_kept _ _ (silent_of_full ?_))) (fun _ => .refl s)
  simp only [State.mayStart, Bool.and_eq_true, decide_eq_true_eq] at h
  exact h.1.1.1

theorem runNextFrame_kept (s : State) (others : List Nat) : Kept s (if s.holdsRun then s.startNext others else s) := by
  refine ite_kept _ (fun h => startNext_kept s _ (silent_of_full ?_)) (fun _ => .refl s)
  simp only [State.holdsRun, Bool.and_eq_true, decide_eq_true_eq] at h
  exact h.1.1

theorem syncTimer_kept (s : State) :
    Kept s (if s.ctl.state = .syncing ∧ s.ctl.syncTimer.isSome = true ∧ s.ctl.collection.isNone = true then
      if s.ctl.volumeSeen then s.abandon 3 else s.freshStart
    else s) :=
  ite_kept _ (fun h => ite_kept _ (fun _ => abandon_kept s 3)
    (fun _ => freshStart_kept s (Option.isNone_iff_eq_none.mp h.2.2))) (fun _ => .refl s)

/-! ## The lane's commands -/

theorem execTrainPacketSent_keeps (s : State) : ∃ t, execTrainPacketSent s = .next t ∧ Kept s t := by
  unfold execTrainPacketSent
  split
  · exact ⟨_, rfl, trainSent_kept s _ _ _⟩
  · exact ⟨_, rfl, .refl s⟩

theorem execPageOpenSent_keeps (s : State) : ∃ t, execPageOpenSent s = .next t ∧ Kept s t := by
  unfold execPageOpenSent
  split
  · exact ⟨_, rfl, openSent_kept s _⟩
  · exact ⟨_, rfl, .refl s⟩

theorem execPageMetaSent_keeps (s : State) : ∃ t, execPageMetaSent s = .next t ∧ Kept s t := by
  unfold execPageMetaSent
  split
  · exact ⟨_, rfl, metaSent_kept s _⟩
  · exact ⟨_, rfl, .refl s⟩

theorem execTitleSent_keeps (s : State) : ∃ t, execTitleSent s = .next t ∧ Kept s t := by
  unfold execTitleSent
  split
  · exact ⟨_, rfl, titleSent_kept s _⟩
  · exact ⟨_, rfl, .refl s⟩

theorem execBandSent_keeps (s : State) : ∃ t, execBandSent s = .next t ∧ Kept s t := by
  unfold execBandSent
  split
  · exact ⟨_, rfl, bandSent_kept s _ _ _⟩
  · exact ⟨_, rfl, .refl s⟩

theorem execCaptionSent_keeps (s : State) : ∃ t, execCaptionSent s = .next t ∧ Kept s t := by
  unfold execCaptionSent
  split
  · exact ⟨_, rfl, captionSent_kept s _⟩
  · exact ⟨_, rfl, captionSent_kept s _⟩
  · exact ⟨_, rfl, .refl s⟩

theorem execPageCloseSent_keeps (s : State) : ∃ t, execPageCloseSent s = .next t ∧ Kept s t := by
  unfold execPageCloseSent
  split
  next hh => exact ⟨_, rfl, closeSent_kept s _ _ (Option.isSome_iff_exists.mpr ⟨_, hh⟩)⟩
  · exact ⟨_, rfl, .refl s⟩

theorem execCutCarriedOut_keeps (s : State) : ∃ t, execCutCarriedOut s = .next t ∧ Kept s t := by
  unfold execCutCarriedOut
  split
  next hh =>
    split_ifs
    · exact ⟨_, rfl, carryOutCut_kept s _ (Option.isSome_iff_exists.mpr ⟨_, hh⟩)⟩
    · exact ⟨_, rfl, .refl s⟩
  · exact ⟨_, rfl, .refl s⟩

/-- The laws under a command that may find nothing to do. -/
theorem StepKeeps.of_exists {c : Instr} {s : State} {o : Host.Outcome State Fault Refusal}
    (h : ∃ t, o = .next t ∧ Kept s t) : ∃ t, o = .next t ∧ StepKeeps c s t :=
  h.imp (fun _ ⟨ho, k⟩ => ⟨ho, .of_kept k⟩)

/-! ## Every command, and a step -/

theorem exec_keeps (c : Instr) (s : State) : ∃ t, exec c s = .next t ∧ StepKeeps c s t := by
  have good := goodRecord_kept s
  cases c with
  | coldReset station rate => exact ⟨_, rfl, .of_taken (coldReset_taken s _)⟩
  | restart => exact ⟨_, rfl, .of_taken (.after good (restartBlocks_taken _))⟩
  | setup lease depth fetch => exact ⟨_, rfl, .of_kept (good.trans (takeSetup_kept _ _ _ _))⟩
  | planHead head => exact ⟨_, rfl, .of_kept (good.trans (takePlanHead_kept _ _))⟩
  | planTemplate t => exact ⟨_, rfl, .of_kept (good.trans (takePlanBody_kept _ _ _))⟩
  | planSection x => exact ⟨_, rfl, .of_kept (good.trans (takePlanBody_kept _ _ _))⟩
  | planPage p => exact ⟨_, rfl, .of_kept (good.trans (takePlanBody_kept _ _ _))⟩
  | planSubject j => exact ⟨_, rfl, .of_kept (good.trans (takePlanBody_kept _ _ _))⟩
  | planEnd => exact ⟨_, rfl, .of_kept (good.trans (takePlanEnd_kept _))⟩
  | portraitHead tag portrait width height =>
    exact ⟨_, rfl, .of_kept (good.trans (ifPortraits_kept _ _ (portraitHeadRecord_kept _ _ _ _ _)))⟩
  | portraitData tag raster =>
    exact ⟨_, rfl, .of_kept (good.trans (ifPortraits_kept _ _ (portraitDataRecord_kept _ _ _)))⟩
  | portraitEnd tag crc =>
    exact ⟨_, rfl, .of_kept (good.trans (ifPortraits_kept _ _ (portraitEndRecord_kept _ _ _)))⟩
  | portraitAbsent tag portrait =>
    exact ⟨_, rfl, .of_kept (good.trans (ifPortraits_kept _ _ (portraitAbsentRecord_kept _ _ _)))⟩
  | amendIn body => exact ⟨_, rfl, .of_kept (good.trans (relay_kept _ _))⟩
  | launchIn batch => exact ⟨_, rfl, .of_kept (good.trans (relay_kept _ _))⟩
  | dropIn batch => exact ⟨_, rfl, .of_kept (good.trans (relay_kept _ _))⟩
  | faultAck serial => exact ⟨_, rfl, .of_taken (.after good (takeAck_taken _ _))⟩
  | statusAsk request => exact ⟨_, rfl, .of_kept (good.trans (answerStatus_kept _ _))⟩
  | badInboundRecord bytes =>
    exact ⟨_, rfl, (feedBytes_laws bytes s).under id id (fun _ => trivial) id, fun _ h => absurd rfl (h bytes)⟩
  | outboundKindRecord kind => exact ⟨_, rfl, .of_kept (good.trans (dropInbound_kept _))⟩
  | silenceTimerExpiry => exact ⟨_, rfl, .of_kept (lineSilent_kept s)⟩
  | outboundRecordSent =>
    exact ⟨_, rfl, .of_kept (setLink_kept s _ (fun h => (by simpa using Nat.le_succ_of_le h)))⟩
  | frameStart others => exact ⟨_, rfl, .of_kept (frameStart_kept s others)⟩
  | runNextFrame others => exact ⟨_, rfl, .of_kept (runNextFrame_kept s others)⟩
  | frameVetoed x => exact ⟨_, rfl, .of_kept (vetoFrame_kept s x)⟩
  | runIdleEnd => exact ⟨_, rfl, .of_kept (endRun_kept s)⟩
  | claim h page claimant => exact ⟨_, rfl, .of_act rfl (fun t => claimFrame_kept t h page claimant)⟩
  | renew h page => exact ⟨_, rfl, .of_act rfl (fun t => renewFrame_kept t h page)⟩
  | lapse h page holder mark => exact ⟨_, rfl, .of_act rfl (fun t => lapseFrame_kept t h page holder mark)⟩
  | done h page edition => exact ⟨_, rfl, .of_act rfl (fun t => doneFrame_kept t h page edition)⟩
  | release h page => exact ⟨_, rfl, .of_act rfl (fun t => releaseFrame_kept t h page)⟩
  | fail h page cause => exact ⟨_, rfl, .of_act rfl (fun t => failFrame_kept t h page cause)⟩
  | join h station identity => exact ⟨_, rfl, .of_act rfl (fun t => joinFrame_kept t h station identity)⟩
  | leave h station => exact ⟨_, rfl, .of_act rfl (fun t => leaveFrame_kept t h station)⟩
  | amend h body => exact ⟨_, rfl, .of_act rfl (fun t => amendFrame_kept t h body)⟩
  | launch h batch => exact ⟨_, rfl, .of_act rfl (fun t => launchFrame_kept t h batch)⟩
  | drop h batch => exact ⟨_, rfl, .of_act rfl (fun t => dropFrame_kept t h batch)⟩
  | ask h identity => exact ⟨_, rfl, .of_act rfl (fun t => answerAsk_kept t h.sender identity)⟩
  | snapHead h requester responder identity pages lastLaunched present batchStates records =>
    exact ⟨_, rfl, .of_frame (applyFrame_kept s h _ _ (headAct_keeps h _ rfl _ _ _ _ _ rfl rfl rfl rfl))⟩
  | snapPages h requester index entries =>
    exact ⟨_, rfl, .of_frame (applyFrame_kept s h _ _
      ⟨fun t => pagesFrame_kept t _ _ _, fun t m => pagesFrame_collectLaw m _ _ _⟩)⟩
  | snapAmend h requester index body =>
    exact ⟨_, rfl, .of_frame (applyFrame_kept s h _ _
      ⟨fun t => snapAmendFrame_kept t _ _ _, fun t m => snapAmendFrame_collectLaw m _ _ _⟩)⟩
  | syncTimerExpiry => exact ⟨_, rfl, .of_kept (syncTimer_kept s)⟩
  | portEntersSilent => exact ⟨_, rfl, .of_kept (ite_kept _ (fun _ => confine_kept s) (fun _ => .refl s))⟩
  | silentFrameRead bits vetoed =>
    exact ⟨_, rfl, .of_kept (ite_kept _ (fun h => readSilently_kept s _ _ h) (fun _ => .refl s))⟩
  | portLeavesSilent => exact ⟨_, rfl, .of_kept (ite_kept _ (fun h => leaveSilent_kept s h) (fun _ => .refl s))⟩
  | queuePlaceGranted => exact ⟨_, rfl, .of_kept (ite_kept _ (fun h => grantPlace_kept s h) (fun _ => .refl s))⟩
  | leaseExpiry page => exact ⟨_, rfl, .of_kept (expireLease_kept s page)⟩
  | renewalDue page => exact ⟨_, rfl, .of_kept (renewDue_kept s page)⟩
  | boundary => exact ⟨_, rfl, .of_kept (boundaryStep_kept s)⟩
  | trainPacketSent => exact StepKeeps.of_exists (execTrainPacketSent_keeps s)
  | pageOpenSent => exact StepKeeps.of_exists (execPageOpenSent_keeps s)
  | pageMetaSent => exact StepKeeps.of_exists (execPageMetaSent_keeps s)
  | titleSent => exact StepKeeps.of_exists (execTitleSent_keeps s)
  | bandSent => exact StepKeeps.of_exists (execBandSent_keeps s)
  | captionSent => exact StepKeeps.of_exists (execCaptionSent_keeps s)
  | pageCloseSent => exact StepKeeps.of_exists (execPageCloseSent_keeps s)
  | cutCarriedOut => exact StepKeeps.of_exists (execCutCarriedOut_keeps s)
  | fetchWantRequest => exact ⟨_, rfl, .of_kept (wantStep_kept s)⟩
  | prefetchWalk => exact ⟨_, rfl, .of_kept (walkStep_kept s)⟩
  | fetchTimerExpiry => exact ⟨_, rfl, .of_kept (fetchTimeout_kept s)⟩
  | outcomeRecord page outcome => exact ⟨_, rfl, .of_kept (outcomeRecord_kept s page outcome)⟩
  | badOutcomeRecord bytes => exact ⟨_, rfl, .of_kept (returnBytes_kept s bytes)⟩
  | headTimerExpiry => exact ⟨_, rfl, .of_kept (headTimeout_kept s)⟩
  | sheetReadyAsserted => exact ⟨_, rfl, .of_kept (setLane_kept s _ le_rfl)⟩
  | sheetReadyDeasserted => exact ⟨_, rfl, .of_kept (setLane_kept s _ le_rfl)⟩
  | engineOfflineAsserted => exact ⟨_, rfl, .of_kept (goOffline_kept s)⟩
  | engineOfflineDeasserted => exact ⟨_, rfl, .of_kept (goOnline_kept s)⟩
  | reportTimerExpiry => exact ⟨_, rfl, .of_kept (reportExpiry_kept s)⟩
  | inboundIdleFill => exact ⟨_, rfl, .of_taken (feedByte_taken s _)⟩

/-- A step keeps every law, that of the board while no run is collected. -/
theorem step_keeps {s t : State} (h : step s = .next t) : KeptIf False True (s.ctl.collection = none) True s t := by
  unfold step at h
  split at h
  · cases h
    exact .refl s
  next c rest hp =>
    obtain ⟨u, hu, k⟩ := exec_keeps c { s with pending := rest }
    obtain rfl : u = t := by simpa [hu] using h
    exact { k.laws with }

end Sys2Proof.Keeping

open Sys2Proof Sys2Proof.Machine Sys2Proof.Keeping

/-- Settles O55: no step breaks the law of the port. -/
theorem portLawIsKept : Obligations.PortLawIsKept := by
  intro s t hs h
  exact (step_keeps h).portLaw hs

/-- Settles O56: a step keeps the store, the run under collection, the lists and the memory. -/
theorem listAndMemoryLawsAreKept : Obligations.ListAndMemoryLawsAreKept :=
  ⟨fun _ _ hs h => (step_keeps h).store trivial hs, fun _ _ hs h => (step_keeps h).collect trivial hs,
   fun _ _ hs hl h => ⟨(step_keeps h).sheets hs, (step_keeps h).listLaw hl⟩, fun _ _ hs h => (step_keeps h).dram hs⟩

/-- Settles O57: with a fault record there is a phase other than CLEAR, and a record that stands changes in its follow-on count
alone. -/
theorem faultRecordStands : Obligations.FaultRecordStands := by
  refine ⟨fun _ _ hs h => (step_keeps h).fault hs, fun s t c x y hs h hreset hbytes hx hy => ?_⟩
  obtain ⟨u, hu, k⟩ := exec_keeps c s
  obtain rfl : u = t := by simpa [hu] using h
  rcases k.stands hreset hbytes with hst | hnone
  · have hp : s.fault.phase ≠ .clear := fun hc => by simp [hs.1.mp hc] at hx
    obtain ⟨n, hn⟩ := (hst hp).2 x hx
    obtain rfl : { x with followOn := n } = y := Option.some.inj (hn.symm.trans hy)
    rfl
  · simp [hnone] at hy

/-- Settles O58: while no run is collected a step keeps the law of the board. -/
theorem boardLawIsKept : Obligations.BoardLawIsKept := by
  intro s t hs hc h
  exact (step_keeps h).board hc hs

/-- Settles O59: a step keeps the law of the tile slots. -/
theorem slotLawIsKept : Obligations.SlotLawIsKept := by
  intro s t hs h
  exact (step_keeps h).slot hs
end

section
/-! PROOFS. The step, the state after a reset, the resets, SETUP and the plan's head (R1, R12, R146, R148, R174, R176). -/

namespace Sys2Proof.Start

open Sys2Proof Sys2Proof.Machine Sys2Proof.Laws Sys2Proof.Keeping

theorem reset_cleared : State.reset.clearedByReset := by
  simp [State.clearedByReset, State.reset, Ctl.cleared, Roster.cleared, Board.cleared, Claims.cleared, Launch.cleared,
    Comp.cleared, Tiles.cleared, Fetch.cleared, FaultUnit.cleared, Lane.cold, Port.cold, Link.cold, Config.slotCount]

/-- The laws hold where a reset has cleared every block and the link and the memory are empty. -/
theorem reset_laws : State.reset.portLaw ∧ State.reset.storeLaw ∧ State.reset.collectLaw ∧ State.reset.sheetLaw ∧
    State.reset.faultLaw ∧ State.reset.listLaw ∧ State.reset.dramLaw ∧ State.reset.boardLaw ∧ State.reset.slotLaw := by
  refine ⟨?_, ⟨Nat.zero_le _, fun c h => ?_⟩, fun c h => ?_, ⟨Nat.zero_le _, fun h => ?_⟩,
    ⟨⟨fun _ => rfl, fun _ => rfl⟩, fun r h => ?_⟩, ⟨Nat.zero_le _, Nat.zero_le _⟩, ?_, fun r h => ?_,
    slotLaw_of_cleared rfl rfl⟩
  case refine_1 => exact ⟨Nat.zero_le _, Nat.zero_lt_succ _, Nat.zero_lt_succ _, fun h => by cases h⟩
  case refine_6 => exact ⟨List.Pairwise.nil, by simp [State.reset, Tiles.cleared]⟩
  all_goals cases h

end Sys2Proof.Start

open Sys2Proof Sys2Proof.Machine Sys2Proof.Laws Sys2Proof.Keeping Sys2Proof.Start

/-- Settles O1: `step` looks at the front of the queue alone. -/
theorem stepRunsTheFrontCommandAndAnEmptyQueueIdles : Obligations.StepRunsTheFrontCommandAndAnEmptyQueueIdles :=
  ⟨fun c rest s h => by simp [step, h], fun s h => by simp [step, h]⟩

/-- Settles O3: every block is cleared, and the laws of a cleared state hold. -/
theorem stateAfterResetKeepsTheLaws : Obligations.StateAfterResetKeepsTheLaws :=
  ⟨⟨reset_cleared, rfl, rfl, rfl, rfl, rfl, rfl, rfl, rfl, rfl, rfl, rfl, rfl, rfl, rfl, rfl⟩, reset_laws⟩

/-- Settles O4: both resets clear every block; what each keeps is read off its definition. -/
theorem resetsClearEveryBlock : Obligations.ResetsClearEveryBlock :=
  ⟨fun s station rate => ⟨_, rfl, coldReset_cleared s ⟨station, rate⟩, rfl, rfl, rfl, rfl, rfl, rfl, rfl, rfl, rfl, rfl,
     rfl, rfl, rfl, rfl, rfl, rfl, rfl, rfl⟩,
   fun s => ⟨_, rfl, restartBlocks_cleared s.goodRecord, rfl, rfl, rfl, rfl, rfl, rfl, rfl, rfl, rfl, rfl, rfl, rfl, rfl, rfl,
     rfl, rfl, rfl, rfl⟩⟩

namespace Sys2Proof.Start

/-! ## SETUP (R148, R174) -/

/-- R174: the nearest multiple of 250 or of 50 within the legal range, half-way rounding up. -/
theorem clampStep_lease (n : Nat) :
    (n < 250 → clampStep 250 8000 250 n = 250) ∧ (8000 < n → clampStep 250 8000 250 n = 8000) ∧
    (250 ≤ n → n ≤ 8000 → clampStep 250 8000 250 n % 250 = 0 ∧ clampStep 250 8000 250 n ≤ n + 125 ∧
      n + 125 < clampStep 250 8000 250 n + 250) := by
  unfold clampStep
  split_ifs <;> omega

theorem clampStep_fetch (n : Nat) :
    (n < 50 → clampStep 50 2000 50 n = 50) ∧ (2000 < n → clampStep 50 2000 50 n = 2000) ∧
    (50 ≤ n → n ≤ 2000 → clampStep 50 2000 50 n % 50 = 0 ∧ clampStep 50 2000 50 n ≤ n + 25 ∧
      n + 25 < clampStep 50 2000 50 n + 50) := by
  unfold clampStep
  split_ifs <;> omega

theorem clampDepth_spec (n : Nat) :
    (n = 0 → clampDepth n = 1) ∧ (3 < n → clampDepth n = 3) ∧ (1 ≤ n → n ≤ 3 → clampDepth n = n) := by
  unfold clampDepth
  split_ifs <;> omega

theorem exec_setup (s : State) (lease depth fetch : Nat) :
    exec (.setup lease depth fetch) s = .next (s.goodRecord.takeSetup lease depth fetch) := rfl

theorem takeSetup_waiting {s : State} (h : s.ctl.state = .setupWait) (lease depth fetch : Nat) :
    s.takeSetup lease depth fetch = { s with
      setup := some (clampSetup lease depth fetch)
      ctl := { s.ctl with state := .planLoad }
      link := s.link.handed ⟨s.straps.station, .planAsk false none none⟩ } := by
  rw [State.takeSetup, if_pos h, emit_link]
  rfl

end Sys2Proof.Start

open Sys2Proof Sys2Proof.Machine Sys2Proof.Laws Sys2Proof.Start

/-- Settles O5: SETUP is clamped in SETUP_WAIT, and dropped anywhere else. -/
theorem setupIsClampedOnce : Obligations.SetupIsClampedOnce := by
  refine fun s lease depth fetch => ⟨fun h => ⟨clampSetup lease depth fetch, ?_, ?_⟩, fun h => ?_⟩
  · rw [exec_setup, takeSetup_waiting (s := s.goodRecord) h]
    rfl
  · obtain ⟨l1, l2, l3⟩ := clampStep_lease lease
    obtain ⟨d1, d2, d3⟩ := clampDepth_spec depth
    obtain ⟨f1, f2, f3⟩ := clampStep_fetch fetch
    exact ⟨l1, l2, l3, d1, d2, d3, f1, f2, f3, decide_eq_true_iff, decide_eq_true_iff, decide_eq_true_iff⟩
  · rw [exec_setup, State.takeSetup, if_neg (by exact h), goodRecord_dropped]

namespace Sys2Proof.Start

/-! ## The plan's records outside a load (R12) -/

theorem takePlanBody_outside {s : State} (h : ¬ (s.ctl.state = .planLoad ∧ s.roster.status = .loading)) (k : Nat)
    (add : Roster → Roster) : s.takePlanBody k add = s.dropInbound := by
  rw [State.takePlanBody, if_neg (by simpa [State.loading] using h)]

theorem takePlanEnd_outside {s : State} (h : ¬ (s.ctl.state = .planLoad ∧ s.roster.status = .loading)) :
    s.takePlanEnd = s.dropInbound := by
  rw [State.takePlanEnd, if_neg (by simpa [State.loading] using h)]

theorem exec_planHead (s : State) (p : PlanHead) : exec (.planHead p) s = .next (s.goodRecord.takePlanHead p) := rfl

theorem exec_planEnd (s : State) : exec .planEnd s = .next s.goodRecord.takePlanEnd := rfl

end Sys2Proof.Start

open Sys2Proof Sys2Proof.Machine Sys2Proof.Laws Sys2Proof.PlanLoad Sys2Proof.Start

/-- Settles O6: a head starts a load in PLAN_LOAD; a record out of its place is dropped and counted. -/
theorem planHeadStartsALoad : Obligations.PlanHeadStartsALoad := by
  refine ⟨fun s p => ⟨fun h => ?_, fun h => ?_⟩, fun s c h hc => ?_⟩
  · rw [exec_planHead, State.takePlanHead, if_pos (by exact h)]
    rfl
  · rw [exec_planHead, State.takePlanHead, if_neg (by exact h), goodRecord_dropped]
  · have outside : ¬ (s.goodRecord.ctl.state = .planLoad ∧ s.goodRecord.roster.status = .loading) := h
    have body (k : Nat) (add : Roster → Roster) :
        s.goodRecord.takePlanBody k add = { s with link := s.link.afterDropped } :=
      (takePlanBody_outside outside k add).trans (goodRecord_dropped s)
    rcases hc with ⟨t, rfl⟩ | ⟨x, rfl⟩ | ⟨p, rfl⟩ | ⟨j, rfl⟩ | rfl
    · exact congrArg _ (body _ _)
    · exact congrArg _ (body _ _)
    · exact congrArg _ (body _ _)
    · exact congrArg _ (body _ _)
    · rw [exec_planEnd, takePlanEnd_outside outside, goodRecord_dropped]
end

section
/-! PROOFS. Every command completes, leaves the queue alone, and, COLD_RESET apart, the straps. -/

namespace Sys2Proof.Completes

open Sys2Proof Sys2Proof.Machine Sys2Proof.Laws Sys2Proof.Keeping

/-- The queue and the straps are as they were. -/
def Untouched (s t : State) : Prop := t.pending = s.pending ∧ t.straps = s.straps

theorem Untouched.refl (s : State) : Untouched s s := ⟨rfl, rfl⟩

theorem Untouched.trans {s t u : State} (a : Untouched s t) (b : Untouched t u) : Untouched s u :=
  ⟨b.1.trans a.1, b.2.trans a.2⟩

theorem ite_untouched {s t u : State} (p : Prop) [Decidable p] (ht : Untouched s t) (hu : Untouched s u) :
    Untouched s (if p then t else u) := by
  split
  · exact ht
  · exact hu

/-! ## Frames -/

theorem takeFrame_untouched (s : State) (h : FrameHdr) (f : Frame) (act : State → State)
    (ha : ∀ t, Untouched t (act t)) : Untouched s (s.takeFrame h f act) := by
  have passed : Untouched s (s.passFrame h f) := ⟨by simp, by simp⟩
  have after : Untouched (act (s.passFrame h f)) (act (s.passFrame h f)).afterFrame := ⟨by simp, by simp⟩
  exact passed.trans ((ha _).trans after)

theorem letBy_untouched (s : State) (began : FrameBegan) (run : Option RunHeld) : Untouched s (s.letBy began run) :=
  ⟨by simp, by simp⟩

theorem applyFrame_untouched (s : State) (h : FrameHdr) (f : Frame) (act : State → State)
    (ha : ∀ t, Untouched t (act t)) : Untouched s (s.applyFrame h f act) := by
  unfold State.applyFrame
  split
  · exact letBy_untouched s _ _
  · exact ite_untouched _ (.trans ⟨rfl, rfl⟩ (takeFrame_untouched s.begun h f act ha)) (letBy_untouched s _ _)
  · exact ⟨by simp, by simp⟩
  · exact takeFrame_untouched s h f act ha

/-! ## The link -/

theorem goodRecord_untouched (s : State) : Untouched s s.goodRecord := ⟨rfl, rfl⟩

theorem ifPortraits_untouched (s : State) (go : State → State) (h : Untouched s (go s)) :
    Untouched s (s.ifPortraits go) :=
  ite_untouched _ h ⟨by simp, by simp⟩

theorem dispatch_untouched (s : State) (i : Instr) : Untouched s (s.dispatch i) := by
  unfold State.dispatch
  split
  case h_8 | h_9 | h_10 | h_11 => exact ifPortraits_untouched s _ ⟨by simp, by simp⟩
  case h_17 => exact ⟨rfl, rfl⟩
  all_goals exact ⟨by simp, by simp⟩

theorem feedByte_untouched (s : State) (b : Byte) : Untouched s (s.feedByte b) := by
  unfold State.feedByte
  dsimp only
  split
  · exact ⟨by simp, by simp⟩
  · exact ⟨by simp, by simp⟩
  · refine Untouched.trans (t := s.setLink { s.link.heard with parser := (s.link.parser.feed b).1 })
      ⟨by simp, by simp⟩ ?_
    unfold State.wholeRecord
    split
    · exact (goodRecord_untouched _).trans (dispatch_untouched _ _)
    · exact ite_untouched _ ⟨by simp, by simp⟩ ⟨by simp, by simp⟩

theorem feedBytes_untouched (bs : List Byte) : ∀ s : State, Untouched s (bs.foldl State.feedByte s) := by
  induction bs with
  | nil => exact Untouched.refl
  | cons b bs ih => exact fun s => (feedByte_untouched s b).trans (ih _)

/-! ## Every command -/

/-- The command completes and leaves the queue alone, and the straps unless it is COLD_RESET. -/
def Ends (c : Instr) (s : State) : Prop :=
  ∃ t, exec c s = .next t ∧ t.pending = s.pending ∧ ((∀ st rate, c ≠ .coldReset st rate) → t.straps = s.straps)

theorem Ends.of_untouched {c : Instr} {s t : State} (h : exec c s = .next t) (u : Untouched s t) :
    Ends c s :=
  ⟨t, h, u.1, fun _ => u.2⟩

theorem Ends.of_frame {c : Instr} {s : State} {h : FrameHdr} {f : Frame} {act : State → State}
    (he : exec c s = .next (s.applyFrame h f act)) (ha : ∀ t, Untouched t (act t)) : Ends c s :=
  .of_untouched he (applyFrame_untouched s h f act ha)

theorem exec_ends (c : Instr) (s : State) : Ends c s := by
  have good := goodRecord_untouched s
  cases c
  case coldReset station rate => exact ⟨_, rfl, rfl, fun h => absurd rfl (h station rate)⟩
  case restart => exact .of_untouched rfl ⟨rfl, rfl⟩
  case portraitHead | portraitData | portraitEnd | portraitAbsent =>
    exact .of_untouched rfl (good.trans (ifPortraits_untouched _ _ ⟨by simp, by simp⟩))
  case badInboundRecord bytes => exact .of_untouched rfl (feedBytes_untouched bytes s)
  case inboundIdleFill => exact .of_untouched rfl (feedByte_untouched s _)
  case claim | renew | lapse | done | release | fail | join | leave | amend | launch | drop | ask | snapPages | snapAmend =>
    exact .of_frame rfl (fun t => ⟨by simp, by simp⟩)
  case snapHead =>
    exact .of_frame rfl (fun t => ite_untouched _ (.refl t) ⟨by simp, by simp⟩)
  case frameStart others =>
    exact .of_untouched rfl (ite_untouched _ ⟨by simp, by simp⟩ (.refl s))
  case runNextFrame others => exact .of_untouched rfl (ite_untouched _ ⟨by simp, by simp⟩ (.refl s))
  case syncTimerExpiry =>
    exact .of_untouched rfl (ite_untouched _ (ite_untouched _ ⟨by simp, by simp⟩ ⟨by simp, by simp⟩) (.refl s))
  case portEntersSilent | silentFrameRead | portLeavesSilent | queuePlaceGranted =>
    exact .of_untouched rfl (ite_untouched _ ⟨by simp, by simp⟩ (.refl s))
  case trainPacketSent | pageOpenSent | pageMetaSent | titleSent | bandSent | captionSent | pageCloseSent | cutCarriedOut =>
    simp only [Ends, exec, execTrainPacketSent, execPageOpenSent, execPageMetaSent, execTitleSent, execBandSent,
      execCaptionSent, execPageCloseSent, execCutCarriedOut]
    repeat' split
    all_goals exact ⟨_, rfl, by simp, fun _ => by simp⟩
  all_goals exact .of_untouched rfl ⟨by simp, by simp⟩

end Sys2Proof.Completes

open Sys2Proof Sys2Proof.Machine Sys2Proof.Completes

/-- Settles O2, command by command. -/
theorem everyCommandCompletes : Obligations.EveryCommandCompletes := exec_ends
end

section
/-! PROOFS. The checks of a plan: what each asks, and that the first failure is the one reported (R15 to R19). -/

namespace Sys2Proof.PlanChecks

open Sys2Proof Sys2Proof.Machine Sys2Proof.Laws

/-! ## The first failure -/

/-- The check answers the first index at which it fails. -/
def FirstOf (o : Option Nat) (fails : Nat → Prop) : Prop :=
  (∀ i, o = some i → fails i ∧ ∀ j, fails j → i ≤ j) ∧ (o = none → ∀ i, ¬ fails i)

/-- The checks from number `n` on answer the first failure: the lowest number and, within it, the lowest index. -/
def FirstFrom (n : Nat) (o : Option (Nat × Nat)) (fails : Nat → Nat → Prop) : Prop :=
  (∀ c i, o = some (c, i) → fails c i ∧ n ≤ c ∧ ∀ c' i', n ≤ c' → fails c' i' → c < c' ∨ (c = c' ∧ i ≤ i')) ∧
  (o = none → ∀ c i, n ≤ c → ¬ fails c i)

theorem FirstFrom.nil {n : Nat} {fails : Nat → Nat → Prop} (h : ∀ c i, n ≤ c → ¬ fails c i) : FirstFrom n none fails :=
  ⟨by simp, fun _ => h⟩

theorem FirstFrom.cons {n : Nat} {o : Option Nat} {p : Option (Nat × Nat)} {fails : Nat → Nat → Prop}
    (h : FirstOf o (fails n)) (hp : FirstFrom (n + 1) p fails) : FirstFrom n ((o.map (Prod.mk n)).or p) fails := by
  obtain ⟨hsome, hnone⟩ := h
  cases o with
  | some k =>
    obtain ⟨hk, hmin⟩ := hsome k rfl
    refine ⟨fun c i hci => ?_, fun hn => by simp at hn⟩
    obtain ⟨rfl, rfl⟩ : n = c ∧ k = i := by simpa using hci
    refine ⟨hk, le_rfl, fun c' i' hc' hf => ?_⟩
    rcases hc'.lt_or_eq with hlt | rfl
    · exact .inl hlt
    · exact .inr ⟨rfl, hmin i' hf⟩
  | none =>
    have no := hnone rfl
    have later {c i : Nat} (hc : n ≤ c) (hf : fails c i) : n + 1 ≤ c := by
      rcases hc.lt_or_eq with hlt | rfl
      · exact hlt
      · exact absurd hf (no i)
    refine ⟨fun c i hci => ?_, fun hn c i hc hf => hp.2 (by simpa using hn) c i (later hc hf) hf⟩
    obtain ⟨hf, hc, hmin⟩ := hp.1 c i (by simpa using hci)
    exact ⟨hf, (Nat.le_succ n).trans hc, fun c' i' hc' hf' => hmin c' i' (later hc' hf') hf'⟩

theorem FirstFrom.eq_none_iff {n : Nat} {o : Option (Nat × Nat)} {fails : Nat → Nat → Prop} (h : FirstFrom n o fails) :
    o = none ↔ ∀ c i, n ≤ c → ¬ fails c i := by
  refine ⟨h.2, fun hno => ?_⟩
  rcases o with _ | ⟨c, i⟩
  · rfl
  · obtain ⟨hf, hc, -⟩ := h.1 c i rfl
    exact absurd hf (hno c i hc)

theorem FirstFrom.eq_some_iff {n : Nat} {o : Option (Nat × Nat)} {fails : Nat → Nat → Prop} (h : FirstFrom n o fails)
    (hlow : ∀ c i, fails c i → n ≤ c) (code index : Nat) :
    o = some (code, index) ↔ fails code index ∧ ∀ c i, fails c i → code < c ∨ (code = c ∧ index ≤ i) := by
  refine ⟨fun ho => ?_, fun ⟨hf, hmin⟩ => ?_⟩
  · obtain ⟨hf, -, hmin⟩ := h.1 code index ho
    exact ⟨hf, fun c i hci => hmin c i (hlow c i hci) hci⟩
  · rcases o with _ | ⟨c, i⟩
    · exact absurd hf (h.2 rfl _ _ (hlow _ _ hf))
    · obtain ⟨hci, hc, hmin'⟩ := h.1 c i rfl
      have h1 := hmin' code index (hlow _ _ hf) hf
      have h2 := hmin c i hci
      obtain ⟨rfl, rfl⟩ : c = code ∧ i = index := by omega
      rfl

/-! ## What each check asks (R3, R5 to R8, R16 to R18) -/

theorem firstFail_first {α : Type} {ok : Nat → α → Bool} {lawful : Nat → α → Prop} (xs : List α)
    (h : ∀ i x, ok i x = true ↔ lawful i x) :
    FirstOf (firstFail ok xs) (fun i => ∃ x, xs[i]? = some x ∧ ¬ lawful i x) := by
  have fails (i : Nat) : (match xs[i]? with | some x => !ok i x | none => false) = true ↔
      ∃ x, xs[i]? = some x ∧ ¬ lawful i x := by
    cases hx : xs[i]? with
    | none => simp
    | some x => simp [← h]
  refine ⟨fun i hi => ?_, fun hn i hf => ?_⟩
  · obtain ⟨-, hfail, hmin⟩ := (find_range_iff _ _ _).mp hi
    refine ⟨(fails i).mp hfail, fun j hj => ?_⟩
    by_contra hlt
    exact Bool.false_ne_true ((hmin j (Nat.lt_of_not_le hlt)).symm.trans ((fails j).mpr hj))
  · obtain ⟨x, hx, -⟩ := id hf
    have hlt : i < xs.length := (List.getElem?_eq_some_iff.mp hx).1
    exact List.find?_eq_none.mp hn i (List.mem_range.mpr hlt) ((fails i).mpr hf)

theorem inRange_iff (lo hi n : Nat) : inRange lo hi n = true ↔ lo ≤ n ∧ n ≤ hi := by
  simp [inRange]

theorem textOk_iff (lo hi : Nat) (w : List Byte) : textOk lo hi w = true ↔ textLawful lo hi w := by
  simp [textOk, textLawful, isChar]

theorem templateOk_iff (t : Template) : templateOk t = true ↔ templateLawful t := by
  simp [templateOk, templateLawful, templateFits, inRange_iff, and_assoc]

theorem sectionOk_iff {ro : Roster} {h : PlanHead} (hh : ro.head = some h) (n : Nat) (x : Section) :
    sectionOk ro n x = true ↔ sectionLawful ro h n x := by
  simp [sectionOk, sectionLawful, inRange_iff, textOk_iff, Roster.subjectCount, hh, tiling, and_assoc, imp_iff_not_or]

theorem pageOk_iff (ro : Roster) (p : PageRec) : pageOk ro p = true ↔ pageLawful ro p := by
  unfold pageOk pageLawful
  cases ht : ro.templates[p.template]? with
  | none => simp
  | some t =>
    cases hx : ro.sections[p.sectionIx]? with
    | none => simp
    | some x =>
      have title : (match p.title with | some title => textOk 1 32 title | none => true) = true ↔
          ∀ w, p.title = some w → textLawful 1 32 w := by
        cases p.title <;> simp [textOk_iff]
      have kind : (match p.kind with
          | 0 => decide (p.slice < x.count)
          | 1 => decide (p.slice = 0) && decide (x.count ≤ t.cellCount)
          | _ => false) = true ↔
          (p.kind = 0 ∧ p.slice < x.count) ∨ (p.kind = 1 ∧ p.slice = 0 ∧ x.count ≤ t.cellCount) := by
        rcases p.kind with _ | _ | k <;> simp
      exact (Bool.and_eq_true_iff.trans (and_congr kind title)).trans (by simp [Template.cellCount])

theorem pageNumberOk_iff {ro : Roster} {h : PlanHead} (hh : ro.head = some h) (a : Nat) (p : PageRec) :
    pageNumberOk ro a p = true ↔ pageNumberLawful ro h a p := by
  have earlier : (ro.pages.take a).any (fun q => decide (q.number = p.number)) = false ↔
      ∀ (b : Nat) (q : PageRec), b < a → ro.pages[b]? = some q → q.number ≠ p.number := by
    simp only [List.any_eq_false, List.mem_iff_getElem?, List.getElem?_take, decide_eq_true_eq]
    refine ⟨fun hq b q hb hg => hq q ⟨b, by simp [hb, hg]⟩, fun hq q ⟨b, hb⟩ => ?_⟩
    split_ifs at hb with hlt
    exact hq b q hlt hb
  simp [pageNumberOk, pageNumberLawful, Roster.pageCount, hh, ← earlier]

theorem cropOk_iff (c : Crop) : cropOk c = true ↔
    c.x0 ≤ 4095 ∧ c.y0 ≤ 4095 ∧ c.x1 ≤ 4096 ∧ c.y1 ≤ 4096 ∧ c.x0 < c.x1 ∧ c.y0 < c.y1 := by
  simp only [cropOk, Bool.and_eq_true, decide_eq_true_eq]
  omega

theorem subjectOk_iff (ro : Roster) (n : Nat) (j : Subject) : subjectOk ro n j = true ↔ subjectLawful ro n j := by
  have place : (match ro.sections[j.sectionIx]? with
      | some x => decide (x.first ≤ n) && decide (n < x.first + x.count)
      | none => false) = true ↔ ∃ x, ro.sections[j.sectionIx]? = some x ∧ x.first ≤ n ∧ n < x.first + x.count := by
    cases ro.sections[j.sectionIx]? <;> simp
  have line2 : (match j.line2 with | some t => textOk 0 24 t | none => true) = true ↔
      ∀ w, j.line2 = some w → textLawful 0 24 w := by
    cases j.line2 <;> simp [textOk_iff]
  have checks : subjectOk ro n j = true ↔ _ :=
    Bool.and_eq_true_iff.trans (and_congr (Bool.and_eq_true_iff.trans (and_congr (Bool.and_eq_true_iff.trans
      (and_congr (Bool.and_eq_true_iff.trans (and_congr place decide_eq_true_iff)) (cropOk_iff j.crop)))
      (textOk_iff 1 24 j.line1))) line2)
  rw [checks]
  simp only [subjectLawful, and_assoc]

theorem checkCounts_first (ro : Roster) (h : PlanHead) (k : Track) : FirstOf (checkCounts h k) (planFails ro h k 1) := by
  simp only [FirstOf, checkCounts, planFails]
  by_cases hr : (1 ≤ h.templates ∧ h.templates ≤ 16) ∧ (1 ≤ h.sections ∧ h.sections ≤ 128) ∧
      (1 ≤ h.pages ∧ h.pages ≤ 1024) ∧ (1 ≤ h.subjects ∧ h.subjects ≤ 4096)
  · have : (inRange 1 Config.templateCap h.templates && inRange 1 Config.sectionCap h.sections &&
       inRange 1 Config.pageCap h.pages && inRange 1 Config.subjectCap h.subjects) = true := by
      simpa [inRange_iff, and_assoc] using hr
    simp only [this, hr]
    split_ifs <;> simp_all <;> omega
  · have : (inRange 1 Config.templateCap h.templates && inRange 1 Config.sectionCap h.sections &&
       inRange 1 Config.pageCap h.pages && inRange 1 Config.subjectCap h.subjects) = false := by
      rw [Bool.eq_false_iff]
      simpa [inRange_iff, and_assoc] using hr
    simp [this, hr]

theorem checkOrder_first (ro : Roster) (h : PlanHead) (k : Track) : FirstOf (checkOrder k) (planFails ro h k 2) := by
  simp only [FirstOf, checkOrder, planFails]
  split_ifs with hd
  · simp [hd]
  · simp [hd]

theorem planFails_code {ro : Roster} {h : PlanHead} {k : Track} {c i : Nat} (hf : planFails ro h k c i) :
    1 ≤ c ∧ c ≤ 7 := by
  unfold planFails at hf
  split at hf <;> simp_all

theorem validate_first {ro : Roster} {h : PlanHead} {k : Track} (hh : ro.head = some h) (hk : ro.track = some k) :
    FirstFrom 1 ro.validate (planFails ro h k) := by
  have c3 : FirstOf (firstFail (fun _ => templateOk) ro.templates) (planFails ro h k 3) :=
    firstFail_first _ (fun _ => templateOk_iff)
  have c4 : FirstOf (firstFail (sectionOk ro) ro.sections) (planFails ro h k 4) :=
    firstFail_first _ (sectionOk_iff hh)
  have c5 : FirstOf (firstFail (fun _ => pageOk ro) ro.pages) (planFails ro h k 5) :=
    firstFail_first _ (fun _ => pageOk_iff ro)
  have c6 : FirstOf (firstFail (pageNumberOk ro) ro.pages) (planFails ro h k 6) :=
    firstFail_first _ (pageNumberOk_iff hh)
  have c7 : FirstOf (firstFail (subjectOk ro) ro.subjects) (planFails ro h k 7) :=
    firstFail_first _ (subjectOk_iff ro)
  have last : FirstFrom 7 ((firstFail (subjectOk ro) ro.subjects).map (Prod.mk 7)) (planFails ro h k) := by
    rw [← Option.or_none (o := (firstFail (subjectOk ro) ro.subjects).map (Prod.mk 7))]
    refine .cons c7 (.nil fun c i hc hf => ?_)
    have := (planFails_code hf).2
    omega
  rw [Roster.validate, hh, hk]
  exact .cons (checkCounts_first ro h k) (.cons (checkOrder_first ro h k) (.cons c3 (.cons c4 (.cons c5 (.cons c6 last)))))

/-! ## Nothing fails exactly where the plan is lawful -/

theorem never_fails_iff {α : Type} (xs : List α) (lawful : Nat → α → Prop) :
    (∀ i, ¬ ∃ x, xs[i]? = some x ∧ ¬ lawful i x) ↔ ∀ i x, xs[i]? = some x → lawful i x := by
  simp only [not_exists, not_and, not_not]

theorem all_mem_iff {α : Type} (xs : List α) (lawful : α → Prop) :
    (∀ (i : Nat) x, xs[i]? = some x → lawful x) ↔ ∀ x ∈ xs, lawful x :=
  ⟨fun h x hx => (List.mem_iff_getElem?.mp hx).elim (fun i hi => h i x hi), fun h _ x hi => h x (List.mem_of_getElem? hi)⟩

theorem counts_never_fail_iff (ro : Roster) (h : PlanHead) (k : Track) :
    (∀ i, ¬ planFails ro h k 1 i) ↔
      ((1 ≤ h.templates ∧ h.templates ≤ 16) ∧ (1 ≤ h.sections ∧ h.sections ≤ 128) ∧
        (1 ≤ h.pages ∧ h.pages ≤ 1024) ∧ (1 ≤ h.subjects ∧ h.subjects ≤ 4096)) ∧
      k.gotTemplates = h.templates ∧ k.gotSections = h.sections ∧ k.gotPages = h.pages ∧
      k.gotSubjects = h.subjects := by
  constructor
  · intro hn
    have h0 := hn 0
    have h1 := hn 1
    have h2 := hn 2
    have h3 := hn 3
    have h4 := hn 4
    simp only [planFails] at h0 h1 h2 h3 h4
    simp_all
  · rintro ⟨hr, h1, h2, h3, h4⟩ i hf
    simp_all [planFails]

theorem order_never_fails_iff (ro : Roster) (h : PlanHead) (k : Track) :
    (∀ i, ¬ planFails ro h k 2 i) ↔ k.disorder = false := by
  simp [planFails]

end Sys2Proof.PlanChecks

open Sys2Proof Sys2Proof.Machine Sys2Proof.PlanChecks

/-- Settles O8: the checks in their order answer the first failure, and each fails exactly where its records are unlawful. -/
theorem planPassesExactlyWhenLawful : Obligations.PlanPassesExactlyWhenLawful := by
  refine ⟨fun ro h k hh hk => ?_, fun ro h k code index hh hk =>
    (validate_first hh hk).eq_some_iff (fun c i hf => (planFails_code hf).1) code index⟩
  have codes : (∀ c i, 1 ≤ c → ¬ planFails ro h k c i) ↔ (∀ i, ¬ planFails ro h k 1 i) ∧ (∀ i, ¬ planFails ro h k 2 i) ∧
      (∀ i, ¬ planFails ro h k 3 i) ∧ (∀ i, ¬ planFails ro h k 4 i) ∧ (∀ i, ¬ planFails ro h k 5 i) ∧
      (∀ i, ¬ planFails ro h k 6 i) ∧ ∀ i, ¬ planFails ro h k 7 i := by
    refine ⟨fun hn => ⟨fun i => hn 1 i (by simp), fun i => hn 2 i (by simp), fun i => hn 3 i (by simp),
      fun i => hn 4 i (by simp), fun i => hn 5 i (by simp), fun i => hn 6 i (by simp), fun i => hn 7 i (by simp)⟩, ?_⟩
    rintro ⟨h1, h2, h3, h4, h5, h6, h7⟩ c i - hf
    obtain ⟨hlo, hhi⟩ := planFails_code hf
    interval_cases c
    exacts [h1 i hf, h2 i hf, h3 i hf, h4 i hf, h5 i hf, h6 i hf, h7 i hf]
  have c3 := (never_fails_iff ro.templates (fun _ => templateLawful)).trans (all_mem_iff _ _)
  have c4 := never_fails_iff ro.sections (sectionLawful ro h)
  have c5 := (never_fails_iff ro.pages (fun _ => pageLawful ro)).trans (all_mem_iff _ _)
  have c6 := never_fails_iff ro.pages (pageNumberLawful ro h)
  have c7 := never_fails_iff ro.subjects (subjectLawful ro)
  rw [(validate_first hh hk).eq_none_iff, codes, counts_never_fail_iff, order_never_fails_iff]
  simp only [planFails] at *
  rw [c3, c4, c5, c6, c7]
  simp only [templateLawful, sectionLawful, pageLawful, pageNumberLawful, subjectLawful, textLawful, and_assoc,
    Nat.zero_le, true_and]
end

section
/-! PROOFS. The end of a plan (R15, R19, R149). -/

namespace Sys2Proof.PlanEnd

open Sys2Proof Sys2Proof.Machine Sys2Proof.Laws Sys2Proof.Keeping Sys2Proof.Start

/-- R161: after a fault has been raised the phase is not CLEAR. -/
theorem raise_phase (s : State) (cause : Cause) (page cell : Option Nat) (detail : Nat) :
    (s.raise cause page cell detail).fault.phase ≠ .clear := by
  unfold State.raise
  split_ifs with hc
  · have k := ((reviewPending_kept (s.recordFault cause page cell detail)).trans (recover_kept _ cause page)).trans
      (tryEnd_kept _)
    exact (k.stands trivial (by simp [State.recordFault])).1
  · have k := (followOnActs_kept (s.setFault { s.fault with record := s.fault.record.map FaultRecord.again })
      cause page).trans (tryEnd_kept _)
    exact (k.stands trivial hc).1

/-! ## A plan that passed -/

/-- R149: the controller of a station that has entered SYNCING. -/
def syncing (s : State) : Ctl :=
  { s.ctl with state := .syncing, abandoned := 0, collection := none, syncTimer := some (2 * s.leaseMs) }

theorem enterSyncing_queued (s : State) (hs : s.port.silent = false) (hl : s.port.queue.length < 16) :
    s.enterSyncing = { s with
      ctl := syncing s
      port := s.port.queued (.frame (.ask (s.roster.identity.getD 0))) } := by
  have hq : (s.setCtl (syncing s)).canQueue = true :=
    (canQueue_iff _).mpr ⟨(takesOffers_iff _).mpr ⟨hs, by simp [syncing]⟩, hl⟩
  have h := offerCtl_eq (s.setCtl (syncing s)) .ask
  rw [if_pos hq] at h
  exact h

theorem enterSyncing_waiting (s : State) (h : ¬ (s.port.silent = false ∧ s.port.queue.length < 16)) :
    s.enterSyncing = { s with ctl := { syncing s with waiting := s.ctl.waiting ++ [.ask] } } := by
  have hq : ¬ (s.setCtl (syncing s)).canQueue = true := fun hc =>
    h ⟨((takesOffers_iff _).mp ((canQueue_iff _).mp hc).1).1, ((canQueue_iff _).mp hc).2⟩
  have h := offerCtl_eq (s.setCtl (syncing s)) .ask
  rw [if_neg hq] at h
  exact h

/-- R15: what a plan that passed comes to, before the station asks. -/
def loadedState (s : State) (h : PlanHead) : State :=
  { s with
    roster := { s.roster with status := .loaded, edition := h.edition, track := none }
    board := { s.board with lastLaunched := h.edition } }

theorem takePlanEnd_passed {s : State} {h : PlanHead} (hp : s.ctl.state = .planLoad) (hl : s.roster.status = .loading)
    (hh : s.roster.head = some h) (hv : s.roster.validate = none) :
    s.takePlanEnd = (loadedState s h).enterSyncing.setPort
      { (loadedState s h).enterSyncing.port with awaitsStart := true } := by
  have loaded : s.planLoaded = (loadedState s h).enterSyncing := by
    have stored : s.roster.loaded = (loadedState s h).roster := by simp [Roster.loaded, loadedState, hh]
    rw [State.planLoaded, stored]
    rfl
  rw [State.takePlanEnd, if_pos (by simp [State.loading, hp, hl]), State.judgePlan, hv]
  simp only [loaded]

theorem loaded_identity (s : State) (h : PlanHead) (hh : s.roster.head = some h) :
    (loadedState s h).roster.identity = some h.identity := by
  simp [Roster.identity, loadedState, hh]

/-! ## A plan that failed -/

theorem takePlanEnd_failed {s : State} {code index : Nat} (hp : s.ctl.state = .planLoad) (hl : s.roster.status = .loading)
    (hv : s.roster.validate = some (code, index)) :
    s.takePlanEnd = (s.planFailed code index).setPort { (s.planFailed code index).port with awaitsStart := true } := by
  rw [State.takePlanEnd, if_pos (by simp [State.loading, hp, hl]), State.judgePlan, hv]

theorem bandOf_none (s : State) : s.bandOf none = none := by
  unfold State.bandOf
  split <;> rfl

end Sys2Proof.PlanEnd

open Sys2Proof Sys2Proof.Machine Sys2Proof.Laws Sys2Proof.Start Sys2Proof.PlanEnd

/-- Settles O9: a plan that passed takes the station into SYNCING, one that failed into HALTED. -/
theorem planEndSyncsOrHalts : Obligations.PlanEndSyncsOrHalts := by
  refine ⟨fun s h hp hl hh hv => ?_, fun s code index hp hl hv => ?_⟩
  · have ended := takePlanEnd_passed (s := s.goodRecord) hp hl hh hv
    have identity := loaded_identity s.goodRecord h hh
    by_cases hq : s.port.silent = false ∧ s.port.queue.length < 16
    · rw [enterSyncing_queued (loadedState s.goodRecord h) hq.1 hq.2, identity] at ended
      refine ⟨_, (exec_planEnd s).trans (congrArg _ ended), rfl, rfl, identity, rfl, rfl, rfl, rfl, rfl, rfl, rfl,
        fun _ _ => ⟨rfl, rfl⟩, fun hn => absurd hq hn⟩
    · rw [enterSyncing_waiting (loadedState s.goodRecord h) hq] at ended
      refine ⟨_, (exec_planEnd s).trans (congrArg _ ended), rfl, rfl, identity, rfl, rfl, rfl, rfl, rfl, rfl, rfl,
        fun h1 h2 => absurd ⟨h1, h2⟩ hq, fun _ => ⟨rfl, rfl⟩⟩
  · have ended := takePlanEnd_failed (s := s.goodRecord) hp hl hv
    obtain ⟨hst, htimer, hcol, hlane⟩ := raise_halts (s.goodRecord.setRoster Roster.cleared) .planInvalid none none
      (code * 4096 + index) rfl (by simp [State.goodRecord, hp])
    refine ⟨_, (exec_planEnd s).trans (congrArg _ ended), rfl, ?_, hst, htimer, hcol, ?_, hlane, ?_, ?_,
      fun hc => ⟨raise_phase _ _ _ _ _, ?_, ?_⟩, fun hc => ?_⟩
    · simp [State.planFailed, Roster.cleared]
    · simp
    · simp
    · simp
    · exact (raise_clear (s.goodRecord.setRoster Roster.cleared) _ _ _ _ hc).2
    · exact (raise_clear (s.goodRecord.setRoster Roster.cleared) _ _ _ _ hc).1.trans (by rw [bandOf_none]; rfl)
    · exact (raise_again (s.goodRecord.setRoster Roster.cleared) _ _ _ _ hc).symm
end

section
/-! PROOFS. The answers of the head entry of the fetch list (R109, R110, R112, R113). -/

namespace Sys2Proof.Answers

open Sys2Proof Sys2Proof.Machine Sys2Proof.Laws

/-! ## The records, once they reach the Fetch Unit (R108) -/

theorem exec_portraitHead (s : State) (tag : Nat) (pid : Id32) (w h : Nat) :
    exec (.portraitHead tag pid w h) s = .next (s.goodRecord.ifPortraits (fun t => t.portraitHeadRecord tag pid w h)) := rfl

theorem exec_portraitData (s : State) (tag : Nat) (bs : List Byte) :
    exec (.portraitData tag bs) s = .next (s.goodRecord.ifPortraits (fun t => t.portraitDataRecord tag bs)) := rfl

theorem exec_portraitEnd (s : State) (tag : Nat) (crc : BitVec 32) :
    exec (.portraitEnd tag crc) s = .next (s.goodRecord.ifPortraits (fun t => t.portraitEndRecord tag crc)) := rfl

theorem exec_portraitAbsent (s : State) (tag : Nat) (pid : Id32) :
    exec (.portraitAbsent tag pid) s = .next (s.goodRecord.ifPortraits (fun t => t.portraitAbsentRecord tag pid)) := rfl

section
variable {s : State} {e : FetchEntry} {rest : List FetchEntry}

theorem portraitHead_taken (hs : s.ctl.state ≠ .setupWait) (hh : s.fetch.hold = false) (hl : s.fetch.list = e :: rest)
    (ha : s.fetch.answer = none) (w h : Nat) :
    exec (.portraitHead e.tag e.portrait w h) s = .next (s.goodRecord.setAnswer (newAnswer w h)) := by
  rw [exec_portraitHead, ifPortraits_taken s hs e rest hl hh, State.portraitHeadRecord]
  simp [State.goodRecord, hl, ha]

theorem portraitData_taken (hs : s.ctl.state ≠ .setupWait) (hh : s.fetch.hold = false) (hl : s.fetch.list = e :: rest)
    {a : Answer} (ha : s.fetch.answer = some a) (bs : List Byte) :
    exec (.portraitData e.tag bs) s = .next (s.goodRecord.takeData e a bs) := by
  rw [exec_portraitData, ifPortraits_taken s hs e rest hl hh, State.portraitDataRecord]
  simp [State.goodRecord, hl, ha]

theorem portraitEnd_taken (hs : s.ctl.state ≠ .setupWait) (hh : s.fetch.hold = false) (hl : s.fetch.list = e :: rest)
    {a : Answer} (ha : s.fetch.answer = some a) (crc : BitVec 32) :
    exec (.portraitEnd e.tag crc) s = .next (s.goodRecord.endAnswer e a crc) := by
  rw [exec_portraitEnd, ifPortraits_taken s hs e rest hl hh, State.portraitEndRecord]
  simp [State.goodRecord, hl, ha]

theorem portraitAbsent_taken (hs : s.ctl.state ≠ .setupWait) (hh : s.fetch.hold = false) (hl : s.fetch.list = e :: rest)
    (ha : s.fetch.answer = none) :
    exec (.portraitAbsent e.tag e.portrait) s = .next (s.goodRecord.endAbsent e) := by
  rw [exec_portraitAbsent, ifPortraits_taken s hs e rest hl hh, State.portraitAbsentRecord]
  simp [State.goodRecord, hl, ha]

end

/-! ## What the Fetch Unit makes of them -/

theorem newAnswer_eq (width height : Nat) : newAnswer width height =
    { width := width, height := height, count := 0, crc := 0xFFFFFFFF#32,
      bad := decide (width < 64 ∨ height < 64),
      oversize := decide (¬ (width < 64 ∨ height < 64) ∧ (2048 < width ∨ 2560 < height)) } := by
  have small : (decide (width < 64) || decide (height < 64)) = decide (width < 64 ∨ height < 64) := by simp
  have large : (!(decide (width < 64) || decide (height < 64)) && (decide (2048 < width) || decide (2560 < height))) =
      decide (¬ (width < 64 ∨ height < 64) ∧ (2048 < width ∨ 2560 < height)) := by
    rw [Bool.eq_iff_iff]
    simp
  exact Answer.mk.injEq .. ▸ ⟨rfl, rfl, rfl, rfl, small, large⟩

/-- R107: the head's entry leaves. -/
theorem popHead_eq {s : State} {e : FetchEntry} {rest : List FetchEntry} (hl : s.fetch.list = e :: rest) :
    s.popHead = s.setFetch { s.fetch with
      list := rest, answer := none, timer := if rest = [] then none else some s.fetchMs } := by
  cases rest <;> simp [State.popHead, hl]

theorem resume_of_not_waiting {s : State} (h : s.comp.state ≠ .waitingTile) : s.resume = s := by
  simp [State.resume, h]

theorem refsOf_filling {t : Tiles} {n : Nat} {p : Id32} {refs : List Ref} (h : t.slots[n]? = some (.filling p refs)) :
    t.refsOf n = refs := by
  simp [Tiles.refsOf, h, Slot.refs]

theorem writes_iff (a : Answer) (n : Nat) :
    a.writes n = true ↔ a.bad = false ∧ a.oversize = false ∧ a.count + n ≤ 3 * a.width * a.height := by
  simp [Answer.writes, and_assoc]

/-- R112: with no page held nobody is told. -/
theorem tell_all_idle (a : FetchAnswer) (refs : List Ref) (s : State) (h : s.comp.held = none) :
    refs.foldl (fun st r => State.tell st a r) s = s := by
  induction refs with
  | nil => rfl
  | cons r refs ih =>
    have : s.tell a r = s := by cases r <;> simp [State.tell, State.modifyCell, h]
    rw [List.foldl_cons, this, ih]

/-- The cells that the references name have been told. -/
def toldCells (a : FetchAnswer) (refs : List Ref) (cells : List Cell) : List Cell :=
  cells.mapIdx (fun i c => if Ref.composing i ∈ refs then c.told a else c)

theorem toldCells_cons (a : FetchAnswer) (r : Ref) (refs : List Ref) (cells : List Cell) :
    toldCells a refs (match r with
      | .composing i => cells.modify i (Cell.told a)
      | .prefetch _ _ => cells) = toldCells a (r :: refs) cells := by
  cases r with
  | prefetch p c => simp [toldCells]
  | composing i =>
    refine List.ext_getElem? fun n => ?_
    simp only [toldCells, List.getElem?_mapIdx, List.getElem?_modify, List.mem_cons, Ref.composing.injEq]
    by_cases hn : i = n
    · subst hn
      cases cells[i]? <;> simp [Cell.told]
    · cases cells[n]? <;> simp [hn, Ne.symm hn]

theorem toldCells_nil (a : FetchAnswer) (cells : List Cell) : toldCells a [] cells = cells :=
  List.ext_getElem? fun n => by cases h : cells[n]? <;> simp [toldCells, h]

theorem setHeld_same {s : State} {x : Held} (hx : s.comp.held = some x) : s.setHeld x = s := by
  show { s with comp := { s.comp with held := some x } } = s
  rw [← hx]

/-- R112: the cells of the held page that the references name are told. -/
theorem tell_all_held (a : FetchAnswer) (refs : List Ref) : ∀ (s : State) (x : Held), s.comp.held = some x →
    refs.foldl (fun st r => State.tell st a r) s = s.setHeld { x with cells := toldCells a refs x.cells } := by
  induction refs with
  | nil =>
    intro s x hx
    rw [toldCells_nil]
    exact (setHeld_same hx).symm
  | cons r refs ih =>
    intro s x hx
    rw [List.foldl_cons, ← toldCells_cons]
    cases r with
    | prefetch p c => exact ih s x hx
    | composing i =>
      have told : s.tell a (.composing i) = s.setHeld { x with cells := x.cells.modify i (Cell.told a) } := by
        simp [State.tell, State.modifyCell, hx]
      rw [told]
      exact ih _ { x with cells := x.cells.modify i (Cell.told a) } rfl

/-! ## How an answer ends -/

section
variable {s : State} {e : FetchEntry} {rest : List FetchEntry}

theorem endAnswer_stale (hst : e.stale = true) (a : Answer) (crc : BitVec 32) :
    s.endAnswer e a crc = s.popHead.freeSlot e.slot := by
  simp [State.endAnswer, hst]

theorem endAbsent_stale (hst : e.stale = true) : s.endAbsent e = s.popHead.freeSlot e.slot := by
  simp [State.endAbsent, hst]

theorem endAnswer_oversize (hst : e.stale = false) {a : Answer} (ho : a.oversize = true) (crc : BitVec 32) :
    s.endAnswer e a crc = s.popHead.refusePortrait e.slot .oversize := by
  simp [State.endAnswer, hst, ho]

theorem endAbsent_refused (hst : e.stale = false) :
    s.endAbsent e = s.popHead.refusePortrait e.slot .portraitAbsent := by
  simp [State.endAbsent, hst]

theorem good_iff (a : Answer) (crc : BitVec 32) :
    a.good crc = true ↔ a.bad = false ∧ a.count = 3 * a.width * a.height ∧ a.crc = crc := by
  simp [Answer.good, and_assoc]

theorem endAnswer_good (hst : e.stale = false) {a : Answer} (ho : a.oversize = false) {crc : BitVec 32}
    (hg : a.good crc = true) : s.endAnswer e a crc = s.popHead.acceptPortrait e a := by
  simp [State.endAnswer, hst, ho, hg]

theorem endAnswer_bad (hst : e.stale = false) {a : Answer} (ho : a.oversize = false) {crc : BitVec 32}
    (hg : a.good crc = false) : s.endAnswer e a crc = s.popHead.badAnswer e := by
  simp [State.endAnswer, hst, ho, hg]

/-- R107, R110, R112, R113: the slot is free and the head's entry has left. -/
def freed (s : State) (n : Nat) (rest : List FetchEntry) (marks : List Prefetch) : State :=
  { s with
    tiles := { s.tiles with
      slots := s.tiles.slots.set n .free
      fillOrder := s.tiles.fillOrder.filter (fun k => decide (k ≠ n)) }
    fetch := { s.fetch with
      list := rest, answer := none, timer := if rest = [] then none else some s.fetchMs, prefetch := marks } }

theorem popHead_freeSlot (hl : s.fetch.list = e :: rest) (n : Nat) :
    s.popHead.freeSlot n = freed s n rest s.fetch.prefetch := by
  rw [popHead_eq hl]
  rfl

theorem refusePortrait_idle (hl : s.fetch.list = e :: rest) {n : Nat} {refs : List Ref} (hr : s.tiles.refsOf n = refs)
    (hh : s.comp.held = none) (hw : s.comp.state ≠ .waitingTile) (a : FetchAnswer) :
    s.popHead.refusePortrait n a = freed s n rest (settleMarks s.fetch.prefetch refs) := by
  rw [popHead_eq hl]
  unfold State.refusePortrait
  dsimp only
  rw [tell_all_idle]
  · rw [resume_of_not_waiting]
    · rw [← hr]
      rfl
    · exact hw
  · exact hh

theorem refusePortrait_held (hl : s.fetch.list = e :: rest) {n : Nat} {refs : List Ref} (hr : s.tiles.refsOf n = refs)
    {x : Held} (hh : s.comp.held = some x) (a : FetchAnswer) :
    s.popHead.refusePortrait n a =
      State.resume ((freed s n rest (settleMarks s.fetch.prefetch refs)).setHeld
        { x with cells := toldCells a refs x.cells }) := by
  rw [popHead_eq hl]
  unfold State.refusePortrait
  dsimp only
  rw [tell_all_held _ _ _ x]
  · rw [← hr]
    rfl
  · exact hh

/-- R110: the portrait is in its slot, and the Compositor goes on. -/
theorem acceptPortrait_filling (hl : s.fetch.list = e :: rest) {refs : List Ref}
    (hf : s.tiles.slots[e.slot]? = some (.filling e.portrait refs)) (a : Answer) :
    s.popHead.acceptPortrait e a = State.resume { s with
      tiles := { s.tiles with
        slots := s.tiles.slots.set e.slot (.ready e.portrait a.width a.height refs)
        fillOrder := s.tiles.fillOrder ++ [e.slot] }
      fetch := { s.fetch with
        list := rest, answer := none, timer := if rest = [] then none else some s.fetchMs } } := by
  rw [popHead_eq hl, ← refsOf_filling hf]
  rfl

end

theorem takeData_written (s : State) (e : FetchEntry) (a : Answer) (bs : List Byte) (h : a.writes bs.length = true) :
    s.takeData e a bs = (s.setTiles { s.tiles with
      dram := Mem.write s.tiles.dram (slotAddress e.slot a.count) bs }).setAnswer (a.take bs) := by
  simp [State.takeData, h]

theorem takeData_unwritten (s : State) (e : FetchEntry) (a : Answer) (bs : List Byte) (h : ¬ a.writes bs.length = true) :
    s.takeData e a bs = s.setAnswer (a.take bs) := by
  simp [State.takeData, h]

theorem end_good {s : State} {e : FetchEntry} {rest : List FetchEntry} {a : Answer} {refs : List Ref} {crc : BitVec 32}
    (hs : s.ctl.state ≠ .setupWait) (hh : s.fetch.hold = false) (hl : s.fetch.list = e :: rest)
    (ha : s.fetch.answer = some a) (hf : s.tiles.slots[e.slot]? = some (.filling e.portrait refs))
    (hst : e.stale = false) (ho : a.oversize = false) (hb : a.bad = false) (hc : a.count = 3 * a.width * a.height)
    (hcrc : a.crc = crc) :
    exec (.portraitEnd e.tag crc) s = .next (State.resume { s with
      link := s.link.afterGood
      tiles := { s.tiles with
        slots := s.tiles.slots.set e.slot (.ready e.portrait a.width a.height refs)
        fillOrder := s.tiles.fillOrder ++ [e.slot] }
      fetch := { s.fetch with
        list := rest, answer := none, timer := if rest = [] then none else some s.fetchMs } }) := by
  rw [portraitEnd_taken hs hh hl ha, endAnswer_good hst ho ((good_iff a crc).mpr ⟨hb, hc, hcrc⟩),
    acceptPortrait_filling (s := s.goodRecord) hl hf]
  rfl

end Sys2Proof.Answers

open Sys2Proof Sys2Proof.Machine Sys2Proof.Laws Sys2Proof.Answers

/-- Settles O10: each record of an answer, by what the head entry and the answer stand at. -/
theorem answerIsTakenUntilItsEnd : Obligations.AnswerIsTakenUntilItsEnd := by
  refine ⟨?head, ?data, ?accepted, ?resumed, ?refused, ?told, ?stale⟩
  case head =>
    intro s e rest width height hs hh hl ha
    rw [portraitHead_taken hs hh hl ha, newAnswer_eq]
    rfl
  case data =>
    intro s e rest a bs hs hh hl ha
    refine ⟨_, portraitData_taken hs hh hl ha bs, ?_, fun hb ho hc => ?_, fun hn => ?_⟩
    · by_cases hw : a.writes bs.length = true
      · rw [takeData_written _ _ _ _ hw]
        rfl
      · rw [takeData_unwritten _ _ _ _ hw]
        rfl
    · rw [takeData_written _ _ _ _ ((writes_iff _ _).mpr ⟨hb, ho, hc⟩)]
      exact ⟨fun k b hk => read_write_inside _ _ _ _ _ hk, fun x hx => read_write_outside _ _ _ _ hx⟩
    · rw [takeData_unwritten _ _ _ _ (fun hw => hn ((writes_iff _ _).mp hw))]
      rfl
  case accepted =>
    intro s e rest a refs crc hs hh hl ha hf hw hst ho hb hc hcrc
    rw [end_good hs hh hl ha hf hst ho hb hc hcrc, resume_of_not_waiting (by exact hw)]
  case resumed =>
    intro s e rest a refs crc hs hh hl ha hf hst ho hb hc hcrc
    exact end_good hs hh hl ha hf hst ho hb hc hcrc
  case refused =>
    intro s e rest refs hs hh hl hf hheld t hw
    have stale (hst : e.stale = true) : s.goodRecord.popHead.freeSlot e.slot = t := by
      rw [popHead_freeSlot (s := s.goodRecord) hl]
      simp only [t, hst, if_true]
      rfl
    have refuse (hst : e.stale = false) (w : FetchAnswer) : s.goodRecord.popHead.refusePortrait e.slot w = t := by
      rw [refusePortrait_idle (s := s.goodRecord) hl (refsOf_filling hf) hheld hw]
      simp only [t, hst, Bool.false_eq_true, if_false]
      rfl
    refine ⟨fun ha => ?_, fun a crc ha hor => ?_⟩
    · rw [portraitAbsent_taken hs hh hl ha]
      cases hst : e.stale with
      | true => rw [endAbsent_stale hst, stale hst]
      | false => rw [endAbsent_refused hst, refuse hst]
    · rw [portraitEnd_taken hs hh hl ha]
      cases hst : e.stale with
      | true => rw [endAnswer_stale hst, stale hst]
      | false => rw [endAnswer_oversize hst (by simpa [hst] using hor), refuse hst]
  case told =>
    intro s e rest refs x w c hs hh hl hf hst hheld hc
    have refuse := refusePortrait_held (s := s.goodRecord) hl (refsOf_filling hf) hheld w
    rcases hc with ⟨rfl, ha, rfl⟩ | ⟨a, crc, rfl, ha, ho, rfl⟩
    · rw [portraitAbsent_taken hs hh hl ha, endAbsent_refused hst, refuse]
      rfl
    · rw [portraitEnd_taken hs hh hl ha, endAnswer_oversize hst ho, refuse]
      rfl
  case stale =>
    intro s e rest hs hh hl hst t
    have freed : s.goodRecord.popHead.freeSlot e.slot = t := popHead_freeSlot (s := s.goodRecord) hl e.slot
    refine ⟨fun ha => ?_, fun a crc ha => ?_⟩
    · rw [portraitAbsent_taken hs hh hl ha, endAbsent_stale hst, freed]
    · rw [portraitEnd_taken hs hh hl ha, endAnswer_stale hst, freed]
end

section
/-! PROOFS. Rules about the faults: the cut a recovery requests, the closing frames it asks for, and the slots a flush
frees (R86, R113, R161 to R164). -/

namespace Sys2Proof.FaultRules

open Sys2Proof Sys2Proof.Machine Sys2Proof.Laws Sys2Proof.Keeping

/-! ## The cut (R86, R162) -/

theorem cuttable_congr {s t : State} (hh : t.comp.held.isSome = s.comp.held.isSome) (hl : t.lane.inFlight = s.lane.inFlight) :
    t.cuttable = s.cuttable := by
  simp only [State.cuttable, State.holdsPage, State.closeHanded, hh, hl]

@[simp] theorem requestCut_cut (s : State) : s.requestCut.comp.cut = (s.comp.cut || s.cuttable) := by
  unfold State.requestCut
  cases s.cuttable <;> simp

@[simp] theorem requestCut_cuttable (s : State) : s.requestCut.cuttable = s.cuttable :=
  cuttable_congr (by simp) (by simp)

@[simp] theorem cutForRecovery_cut (s : State) : s.cutForRecovery.comp.cut = (s.comp.cut || s.cuttable) := by
  unfold State.cutForRecovery
  dsimp only
  split_ifs <;> simp

@[simp] theorem cutForRecovery_cuttable (s : State) : s.cutForRecovery.cuttable = s.cuttable :=
  cuttable_congr (by simp) (by simp)

@[simp] theorem cutForRecovery_cutStep (s : State) : s.cutForRecovery.fault.cutStep = (s.fault.cutStep || s.cuttable) := by
  unfold State.cutForRecovery
  dsimp only
  split_ifs with h
  all_goals
    simp only [requestCut_cuttable] at h
    simp [h]

/-! ## Closing frames (R47) -/

/-- A withdrawal that names no closing frame keeps those asked for. -/
theorem withdraw_closing (s : State) (names : TxBody → Bool) (page : Nat)
    (h : ∀ b : TxBody, b.closes page = true → names b = false) : (s.withdraw names).closing page = s.closing page := by
  have same : (s.port.queue.filter (fun e => e.onBus || !names e.body)).any (fun e => e.body.closes page) =
      s.port.queue.any (fun e => e.body.closes page) := by
    rw [List.any_filter]
    refine congrArg s.port.queue.any (funext fun e => ?_)
    cases hc : e.body.closes page
    · simp
    · simp [h _ hc]
  simp only [State.closing, State.withdraw, setPort_port, setPort_claims, same]

theorem isClaim_of_closes {b : TxBody} {page : Nat} (h : b.closes page = true) : b.isClaim = false := by
  cases b with
  | frame f => cases f <;> simp_all [TxBody.closes, Frame.closes, TxBody.isClaim]
  | run => rfl

theorem reviewPending_closing (s : State) (page : Nat) : s.reviewPending.closing page = s.closing page := by
  unfold State.reviewPending
  split
  · split_ifs
    · exact withdraw_closing s _ page (fun b => isClaim_of_closes)
    · rfl
  · rfl

/-- A closing frame that has been asked for outlives the withdrawal of the pending CLAIM. -/
theorem closing_congr {s t : State} (hw : t.claims.waiting = s.claims.waiting) (hq : t.port.queue = s.port.queue)
    (page : Nat) : t.closing page = s.closing page := by
  simp only [State.closing, hw, hq]

theorem asked_congr {s t : State} (hw : t.claims.waiting = s.claims.waiting) (hq : t.port.queue = s.port.queue)
    {f : Frame} (h : s.asked f) : t.asked f := by
  simpa only [State.asked, hw, hq] using h

/-- R163: what is asked for a page that stands in a list, whatever other pages stand there. -/
theorem awaitAll_names (frame : WorkEntry → Frame) (hf : ∀ w, closesOnly (frame w) w.page) (page : Nat) (f : Frame)
    (hp : ∀ w, w.page = page → frame w = f) :
    ∀ (l : List WorkEntry) (s : State),
      let t := l.foldl (fun st e => State.awaitClose st (frame e) e.page) s
      (∀ q ∈ s.fault.awaited, q ∈ t.fault.awaited) ∧ (∀ g, s.asked g → t.asked g) ∧
      ((∃ w ∈ l, w.page = page) → page ∈ t.fault.awaited ∧ t.closing page = true ∧ (s.closing page = false → t.asked f)) ∧
      (s.closing page = true → t.closing page = true) := by
  intro l
  induction l with
  | nil => exact fun s => ⟨fun _ h => h, fun _ h => h, by simp, id⟩
  | cons w l ih =>
    intro s
    obtain ⟨hclosing, hasked, hkept, hothers, hawait⟩ := awaitClose_spec s (frame w) w.page (hf w)
    obtain ⟨kawait, kasked, knew, kclosing⟩ := ih (s.awaitClose (frame w) w.page)
    have stays (q : Nat) (hq : q ∈ s.fault.awaited) : q ∈ (s.awaitClose (frame w) w.page).fault.awaited := by
      rw [hawait]
      split_ifs
      · exact hq
      · exact List.mem_append_left _ hq
    refine ⟨fun q hq => kawait q (stays q hq), fun g hg => kasked g (hkept g hg), fun hex => ?_, fun hc => ?_⟩
    · by_cases hw : w.page = page
      · subst hw
        have member : w.page ∈ (s.awaitClose (frame w) w.page).fault.awaited := by
          rw [hawait]
          split_ifs with hin
          · exact hin
          · simp
        exact ⟨kawait _ member, kclosing hclosing, fun hn => kasked f (hp w rfl ▸ hasked hn)⟩
      · obtain ⟨x, hx, hxp⟩ := hex
        obtain ⟨h1, h2, h3⟩ := knew ⟨x, (List.mem_cons.mp hx).resolve_left (fun h => hw (h ▸ hxp)), hxp⟩
        exact ⟨h1, h2, fun hn => h3 ((hothers page (Ne.symm hw)).trans hn)⟩
    · by_cases hw : w.page = page
      · exact kclosing (hw ▸ hclosing)
      · exact kclosing ((hothers page (Ne.symm hw)).trans hc)

/-! ## The flush (R114) and raising a link-class fault (R163) -/

theorem flushFetch_slots (s : State) :
    s.flushFetch.tiles.slots = s.fetch.list.foldl (fun sl e => sl.set e.slot .free) s.tiles.slots := by
  simp [State.flushFetch]

/-- R114: a flush frees the slots that are asked for, and leaves a FREE slot free. -/
theorem flushed_free {list : List FetchEntry} {slots : List Slot} {n : Nat} (h : slots[n]? = some .free) :
    (list.foldl (fun sl e => sl.set e.slot .free) slots)[n]? = some .free := by
  rw [freeAll_getElem?, h]
  simp

theorem flushed_named {list : List FetchEntry} {slots : List Slot} {e : FetchEntry} (he : e ∈ list) {sl : Slot}
    (h : slots[e.slot]? = some sl) : (list.foldl (fun sl e => sl.set e.slot .free) slots)[e.slot]? = some .free := by
  rw [freeAll_getElem?, if_pos ⟨e, he, rfl⟩, h]
  rfl

theorem tryEnd_of_awaited {s : State} (h : s.fault.awaited ≠ []) : s.tryEnd = s := by
  unfold State.tryEnd
  rw [if_neg]
  rintro ⟨-, hs⟩
  simp [FaultUnit.settled, h] at hs

/-- R161, R163: with the phase CLEAR a link-class fault is recorded and its recovery begun. -/
theorem raise_link_clear (s : State) (c : Cause) (p k : Option Nat) (d : Nat) (hc : c.linkClass = true)
    (h : s.fault.phase = .clear) :
    s.raise c p k d = ((s.recordFault c p k d).reviewPending.recoverLink c p).tryEnd := by
  have hh : c.halting = false := by cases c <;> first | rfl | cases hc
  rw [State.raise, if_pos h]
  simp only [State.recover, hh, hc, if_true, Bool.false_eq_true, if_false]

theorem raise_link_slots (s : State) (c : Cause) (p k : Option Nat) (d : Nat) (hc : c.linkClass = true) :
    (s.raise c p k d).tiles.slots = s.fetch.list.foldl (fun sl e => sl.set e.slot .free) s.tiles.slots := by
  by_cases h : s.fault.phase = .clear
  · rw [raise_link_clear s c p k d hc h]
    simp only [tryEnd_frame, State.recoverLink]
    rw [foldl_keeps (fun t : State => t.tiles.slots) _ (by intros; simp), flushFetch_slots]
    simp
  · have hh : c.halting = false := by cases c <;> first | rfl | cases hc
    have h1 : c ≠ .claimLost := by rintro rfl; cases hc
    have h2 : c ≠ .busSilent := by rintro rfl; cases hc
    rw [State.raise, if_neg h]
    simp only [State.followOnActs, hh, h1, h2, hc, if_true, if_false, Bool.false_eq_true, tryEnd_frame, flushFetch_slots]
    simp

/-- R163: the link-class recovery of a page still to be printed awaits its closing frame, and cuts the page held. -/
theorem raise_link_awaits (s : State) (c : Cause) (p k : Option Nat) (d : Nat) (hc : c.linkClass = true)
    (h : s.fault.phase = .clear) {w : WorkEntry} (hw : w ∈ s.claims.work) (hn : w.phase ≠ .inEngine) :
    let t := s.raise c p k d
    t.fault.phase = .recovering ∧ w.page ∈ t.fault.awaited ∧
    (s.closing w.page = false → t.asked (linkClosing c p w.page)) ∧
    t.comp.cut = (s.comp.cut || s.cuttable) ∧ t.fault.cutStep = s.cuttable := by
  let u := (s.recordFault c p k d).reviewPending
  let v := u.cutForRecovery.flushFetch
  have work : v.claims.work = s.claims.work := by simp [v, u]
  have due : ∃ x ∈ v.claims.work.filter needsPortraits, x.page = w.page := by
    refine ⟨w, List.mem_filter.mpr ⟨work ▸ hw, ?_⟩, rfl⟩
    cases hp : w.phase <;> simp_all [needsPortraits]
  obtain ⟨-, -, hnew, -⟩ := awaitAll_names (fun x => linkClosing c p x.page) (fun x => closesOnly_linkClosing c p x.page)
    w.page (linkClosing c p w.page) (fun x hx => by rw [hx]) (v.claims.work.filter needsPortraits) v
  obtain ⟨hawait, -, hasked⟩ := hnew due
  have eq : s.raise c p k d = (v.claims.work.filter needsPortraits).foldl
      (fun st e => State.awaitClose st (linkClosing c p e.page) e.page) v := by
    rw [raise_link_clear s c p k d hc h]
    exact tryEnd_of_awaited (List.ne_nil_of_mem hawait)
  have closing : v.closing w.page = s.closing w.page :=
    (closing_congr (s := u) (by simp [v]) (by simp [v]) w.page).trans
      ((reviewPending_closing _ w.page).trans (closing_congr (by simp) (by simp) w.page))
  have cuttable : u.cuttable = s.cuttable := cuttable_congr (by simp [u]) (by simp [u])
  have cut : v.comp.cut = (s.comp.cut || s.cuttable) := by
    simp only [v, flushFetch_comp_fields, cutForRecovery_cut, cuttable]
    simp [u]
  intro t
  simp only [t, eq]
  refine ⟨?_, hawait, fun hcl => hasked (closing.trans hcl), ?_, ?_⟩
  · rw [foldl_keeps (fun x : State => x.fault.phase) _ (by intros; simp)]
    simp [v, u, State.recordFault]
  · rw [foldl_keeps (fun x : State => x.comp.cut) _ (by intros; simp)]
    exact cut
  · rw [foldl_keeps (fun x : State => x.fault.cutStep) _ (by intros; simp)]
    simp only [v, flushFetch_frame, cutForRecovery_cutStep, cuttable]
    simp [u, State.recordFault]

end Sys2Proof.FaultRules
end

section
/-! PROOFS. A bad answer: asked for again, then FETCH_CORRUPT (R107, R111, R163). -/

namespace Sys2Proof.BadAnswers

open Sys2Proof Sys2Proof.Machine Sys2Proof.Laws Sys2Proof.Answers Sys2Proof.FaultRules

theorem clearRefs_held_isSome (s : State) (gone : Nat → Bool) :
    (s.clearRefs gone).comp.held.isSome = s.comp.held.isSome := by
  unfold State.clearRefs
  split
  · rfl
  next hh => simp [hh]

/-- R161: the band of a record does not ask for the cells. -/
theorem clearRefs_bandOf (s : State) (gone : Nat → Bool) (page : Option Nat) :
    (s.clearRefs gone).bandOf page = s.bandOf page := by
  unfold State.clearRefs
  split
  · rfl
  next hh => simp only [State.bandOf, setComp_comp, hh]

/-- R111: the slot is free, and the cells whose references were counted on it hold none. -/
def corrupted (s : State) (e : FetchEntry) : State :=
  (s.popHead.freeSlot e.slot).clearRefs (fun i => (s.tiles.refsOf e.slot).contains (.composing i))

theorem corrupt_eq (s : State) (e : FetchEntry) : s.popHead.corrupt e =
    (corrupted s e).raise .fetchCorrupt (s.faultPage (s.tiles.firstComposing e.slot))
      (if (s.faultPage (s.tiles.firstComposing e.slot)).isSome then s.tiles.firstComposing e.slot else none)
      (e.portrait.toNat % 65536) :=
  rfl

theorem corrupted_slot {s : State} {e : FetchEntry} {p : Id32} {refs : List Ref}
    (hf : s.tiles.slots[e.slot]? = some (.filling p refs)) : (corrupted s e).tiles.slots[e.slot]? = some .free := by
  have hlt : e.slot < s.tiles.slots.length := (List.getElem?_eq_some_iff.mp hf).1
  simp [corrupted, State.freeSlot, hlt]

theorem corrupted_fault (s : State) (e : FetchEntry) : (corrupted s e).fault = s.fault := by
  simp [corrupted]

theorem corrupted_bandOf (s : State) (e : FetchEntry) (page : Option Nat) :
    (corrupted s e).bandOf page = s.bandOf page :=
  clearRefs_bandOf _ _ _

theorem corrupted_closing (s : State) (e : FetchEntry) (page : Nat) : (corrupted s e).closing page = s.closing page :=
  closing_congr (by simp [corrupted]) (by simp [corrupted]) page

theorem corrupted_cuttable (s : State) (e : FetchEntry) : (corrupted s e).cuttable = s.cuttable :=
  cuttable_congr (clearRefs_held_isSome _ _) (by simp [corrupted])

theorem corrupted_cut (s : State) (e : FetchEntry) : (corrupted s e).comp.cut = s.comp.cut := by
  simp [corrupted]

/-- R107: FETCH_CORRUPT names the held page and the cell whose reference is the first on the slot. -/
theorem faultPage_held {s : State} {x : Held} (hx : s.comp.held = some x) (i : Nat) :
    s.faultPage (some i) = some x.page := by
  simp [State.faultPage, hx]

theorem faultPage_idle {s : State} (hx : s.comp.held = none) (cell : Option Nat) : s.faultPage cell = none := by
  cases cell <;> simp [State.faultPage, hx]

theorem faultPage_none (s : State) : s.faultPage none = none := rfl

theorem bandOf_held {s : State} {x : Held} (hx : s.comp.held = some x) : s.bandOf (some x.page) = some x.band := by
  simp [State.bandOf, hx]

theorem good_false {a : Answer} {crc : BitVec 32}
    (h : a.bad = true ∨ a.count ≠ 3 * a.width * a.height ∨ a.crc ≠ crc) : a.good crc = false := by
  rw [← Bool.not_eq_true, good_iff]
  rintro ⟨h1, h2, h3⟩
  simp_all

/-- R111: the portrait is asked for again, under a new tag, for the same slot. -/
theorem badAnswer_retried {s : State} {e : FetchEntry} {rest : List FetchEntry} {refs : List Ref}
    (hl : s.fetch.list = e :: rest) (hf : s.tiles.slots[e.slot]? = some (.filling e.portrait refs))
    (hr : e.retry = false) (hn : refs ≠ []) :
    s.popHead.badAnswer e = { s with
      link := s.link.handed ⟨s.straps.station, .fetch s.fetch.tag e.portrait⟩
      fetch := { s.fetch with
        list := rest ++ [{ tag := s.fetch.tag, portrait := e.portrait, slot := e.slot, stale := false, retry := true }]
        tag := (s.fetch.tag + 1) % 256
        answer := none
        timer := some s.fetchMs } } := by
  have hslot : s.tiles.slots.set e.slot (.filling e.portrait refs) = s.tiles.slots := by
    obtain ⟨hlt, heq⟩ := List.getElem?_eq_some_iff.mp hf
    rw [← heq, List.set_getElem_self]
  rw [State.badAnswer, hr, if_neg Bool.false_ne_true, State.request, emit_link, popHead_eq hl]
  refine state_eq rfl rfl rfl rfl rfl rfl rfl rfl rfl rfl ?_ ?_ rfl rfl rfl rfl
  · show { s.tiles with slots := s.tiles.slots.set e.slot (.filling e.portrait (s.tiles.refsOf e.slot)) } = s.tiles
    rw [refsOf_filling hf, hslot]
  · show Fetch.mk _ _ _ _ _ _ _ = Fetch.mk _ _ _ _ _ _ _
    simp [refsOf_filling hf, hn, State.fetchMs]

/-- R111: the second bad answer. -/
theorem end_corrupt {s : State} {e : FetchEntry} {rest : List FetchEntry} {a : Answer} {crc : BitVec 32}
    (hs : s.ctl.state ≠ .setupWait) (hh : s.fetch.hold = false) (hl : s.fetch.list = e :: rest)
    (ha : s.fetch.answer = some a) (hst : e.stale = false) (ho : a.oversize = false)
    (hb : a.bad = true ∨ a.count ≠ 3 * a.width * a.height ∨ a.crc ≠ crc) (hr : e.retry = true) :
    exec (.portraitEnd e.tag crc) s = .next (s.goodRecord.popHead.corrupt e) := by
  rw [portraitEnd_taken hs hh hl ha, endAnswer_bad hst ho (good_false hb), State.badAnswer, hr, if_pos rfl]

end Sys2Proof.BadAnswers

open Sys2Proof Sys2Proof.Machine Sys2Proof.Laws Sys2Proof.Answers Sys2Proof.FaultRules Sys2Proof.BadAnswers

/-- Settles O11: the first bad answer is asked for again; the second frees the slot and raises FETCH_CORRUPT. -/
theorem badAnswerIsRetriedOnce : Obligations.BadAnswerIsRetriedOnce := by
  refine ⟨fun s e rest a refs crc hs hh hl ha hf hst ho hb => ⟨fun hr hn => ?_, fun hr hc hheld => ?_⟩,
    fun s e rest a refs crc hs hh hl ha hf hst ho hb hr => ?_⟩
  · rw [portraitEnd_taken hs hh hl ha, endAnswer_bad hst ho (good_false hb),
      badAnswer_retried (s := s.goodRecord) hl hf hr hn]
    rfl
  · have fetch := raise_link_fetch (corrupted s.goodRecord e) .fetchCorrupt none none (e.portrait.toNat % 65536) rfl
    have slots := raise_link_slots (corrupted s.goodRecord e) .fetchCorrupt none none (e.portrait.toNat % 65536) rfl
    have record := (raise_clear (corrupted s.goodRecord e) .fetchCorrupt none none (e.portrait.toNat % 65536)
      (by rw [corrupted_fault]; exact hc)).1
    have idle := faultPage_idle (s := s.goodRecord) hheld (s.goodRecord.tiles.firstComposing e.slot)
    refine ⟨_, end_corrupt hs hh hl ha hst ho hb hr, ?_⟩
    simp only [corrupt_eq, idle, Option.isSome_none, Bool.false_eq_true, if_false]
    refine ⟨?_, fetch.1, fetch.2.1, fetch.2.2.2.2.1, ?_⟩
    · rw [slots]
      exact flushed_free (corrupted_slot hf)
    · rw [record, corrupted_fault, corrupted_bandOf, PlanEnd.bandOf_none]
      rfl
  · have fetch := fun p k d => raise_link_fetch (corrupted s.goodRecord e) .fetchCorrupt p k d rfl
    have slots := fun p k d => raise_link_slots (corrupted s.goodRecord e) .fetchCorrupt p k d rfl
    refine ⟨_, end_corrupt hs hh hl ha hst ho hb hr, ?_⟩
    rw [corrupt_eq]
    refine ⟨?_, (fetch _ _ _).1, (fetch _ _ _).2.2.1, (fetch _ _ _).2.2.2.2.1, ?_, ?_, ?_, fun x i w hc hx hi hw hp hn hcl => ?_,
      fun hc => ?_⟩
    · rw [slots]
      exact flushed_free (corrupted_slot hf)
    · simp [corrupted]
    · simp [corrupted]
    · rw [(fetch _ _ _).2.2.2.2.2.2.1]
      simp [corrupted]
    · have page : s.goodRecord.faultPage (s.goodRecord.tiles.firstComposing e.slot) = some x.page :=
        (congrArg s.goodRecord.faultPage (by exact hi)).trans (faultPage_held (by exact hx) i)
      have cell : s.goodRecord.tiles.firstComposing e.slot = some i := hi
      have phase : (corrupted s.goodRecord e).fault.phase = .clear := by rw [corrupted_fault]; exact hc
      obtain ⟨hrec, hawait, hasked, hcut, hstep⟩ := raise_link_awaits (corrupted s.goodRecord e) .fetchCorrupt (some x.page)
        (some i) (e.portrait.toNat % 65536) rfl phase (w := w) (by simpa [corrupted] using hw) hn
      rw [page, cell, Option.isSome_some, if_pos rfl]
      rw [corrupted_closing, hp] at hasked
      rw [corrupted_cut, corrupted_cuttable] at hcut
      rw [corrupted_cuttable] at hstep
      refine ⟨?_, hrec, hp ▸ hawait, ?_, fun hcut' => ?_⟩
      · rw [(raise_clear _ _ _ _ _ phase).1, corrupted_fault, corrupted_bandOf,
          bandOf_held (s := s.goodRecord) hx]
        rfl
      · have := hasked hcl
        rwa [linkClosing, if_pos ⟨rfl, rfl⟩] at this
      · have hcut2 : s.goodRecord.cuttable = true := hcut'
        rw [hcut2] at hcut hstep
        exact ⟨by simpa using hcut, hstep⟩
    · rw [(raise_again _ _ _ _ _ (by rw [corrupted_fault]; exact hc)).1, corrupted_fault]
      rfl
end

section
/-! PROOFS. FAULT_ACK, the claiming condition that it has evaluated, and STATUS_ASK (R39, R169, R175). -/

namespace Sys2Proof.Requests

open Sys2Proof Sys2Proof.Machine Sys2Proof.Laws

/-! ## The claiming condition (R39) -/

/-- The page is OPEN and no sheet names it. -/
def Free (es : List Entry) (sheets : List Sheet) (p : Nat) : Prop :=
  (∃ e, es[p]? = some e ∧ e.status = .opened) ∧ ∀ sh ∈ sheets, sh.page ≠ p

theorem free_iff (es : List Entry) (sheets : List Sheet) (p : Nat) :
    ((match es[p]? with | some e => e.isOpen | none => false) && !sheets.any (fun sh => decide (sh.page = p))) = true ↔
      Free es sheets p := by
  cases h : es[p]? <;> simp [Free, Entry.isOpen, h]

theorem Free.lt {es : List Entry} {sheets : List Sheet} {p : Nat} (h : Free es sheets p) : p < es.length := by
  obtain ⟨⟨e, he, -⟩, -⟩ := h
  exact (List.getElem?_eq_some_iff.mp he).1

/-- R39: the page chosen is the lowest that is free. -/
theorem candidate_some_iff (es : List Entry) (sheets : List Sheet) (p : Nat) :
    candidate es sheets = some p ↔ Free es sheets p ∧ ∀ q, q < p → ¬ Free es sheets q := by
  simp only [candidate, find_range_iff, ← Bool.not_eq_true]
  have free := free_iff es sheets
  exact ⟨fun ⟨_, h, k⟩ => ⟨(free p).mp h, fun q hq => mt (free q).mpr (k q hq)⟩,
    fun ⟨h, k⟩ => ⟨h.lt, (free p).mpr h, fun q hq => mt (free q).mp (k q hq)⟩⟩

theorem candidate_none_iff (es : List Entry) (sheets : List Sheet) :
    candidate es sheets = none ↔ ∀ p, ¬ Free es sheets p := by
  simp only [candidate, List.find?_eq_none, List.mem_range]
  have free := free_iff es sheets
  exact ⟨fun h p hf => h p hf.lt ((free p).mpr hf), fun h p _ => mt (free p).mp (h p)⟩

/-- R137: no block that precedes the claiming evaluation waits for a place. -/
theorem earlierWaits_false {s : State} (hw : s.claims.waiting = []) (hc : s.ctl.waiting = [])
    (hl : s.ctl.state ≠ .active ∨ firstExpired s.board.leases = none) : s.earlierWaits = false := by
  rcases hl with hl | hl <;> simp [State.earlierWaits, hw, hc, hl]

theorem claimChoice_eq {s : State} {r : Replica} (ha : s.ctl.state = .active) (hf : s.fault.phase = .clear)
    (ho : s.lane.offline = false) (hd : s.claims.work.length < s.claimDepth) (hp : s.claims.pending = none)
    (hr : s.board.replica = some r) : s.claimChoice = candidate r.entries s.lane.sheets := by
  simp [State.claimChoice, ha, hf, ho, hd, hp, hr]

theorem claimChoice_inactive {s : State} (h : s.ctl.state ≠ .active) : s.claimChoice = none :=
  if_neg (fun hn => h hn.1)

theorem evalClaim_unchosen {s : State} (h : s.claimChoice = none) : s.evalClaim = s := by
  simp [State.evalClaim, h]

theorem evalClaim_chosen {s : State} {p : Nat} (h : s.claimChoice = some p) (hq : s.canQueue = true)
    (he : s.earlierWaits = false) : s.evalClaim =
      { s with claims := { s.claims with pending := some p },
               port := s.port.queued (.frame (.claim p s.straps.station)) } := by
  simp only [State.evalClaim, h, hq, he]
  rfl

/-- R39: the claiming evaluation touches the pending claim and the queue alone. -/
theorem evalClaim_touches (s : State) :
    s.evalClaim = { s with claims := { s.claims with pending := s.evalClaim.claims.pending }, port := s.evalClaim.port } := by
  unfold State.evalClaim
  split
  · split <;> rfl
  · rfl

/-! ## FAULT_ACK (R169) -/

theorem exec_faultAck (serial : Nat) (s : State) : exec (.faultAck serial) s = .next (s.goodRecord.takeAck serial) := rfl

theorem ackTaken_iff (s : State) (serial : Nat) :
    s.ackTaken serial = true ↔ s.fault.phase = .held ∧ ∃ r, s.fault.record = some r ∧ r.serial = serial := by
  cases h : s.fault.record <;> simp [State.ackTaken, h]

/-- R169: the station with its fault acknowledged, before the claiming condition is evaluated. -/
def acknowledged (s : State) : State :=
  { s with
    fault := { s.fault with phase := .clear, record := none, reportTimer := none, closed := 0, lost := 0, repeats := 0 }
    fetch := { s.fetch with hold := false } }

theorem takeAck_taken {s : State} {serial : Nat} (h : s.ackTaken serial = true) :
    s.takeAck serial = (acknowledged s).evalClaim := by
  rw [State.takeAck, if_pos h]
  rfl

theorem takeAck_ignored {s : State} {serial : Nat} (h : ¬ s.ackTaken serial = true) : s.takeAck serial = s := if_neg h

/-! ## STATUS_ASK (R175) -/

/-- R180: the pages in a state are counted by the state's code. -/
theorem countOf_eq {b : Board} {r : Replica} (h : b.replica = some r) (code : Nat) :
    b.countOf code = r.entries.countP (fun e => decide (e.status.code = code)) := by
  simp [Board.countOf, h, List.countP_eq_length_filter]

/-- R175: every page is in one of the four states. -/
theorem countP_codes (es : List Entry) :
    es.countP (fun e => decide (e.status.code = 0)) + es.countP (fun e => decide (e.status.code = 1)) +
      es.countP (fun e => decide (e.status.code = 2)) + es.countP (fun e => decide (e.status.code = 3)) = es.length := by
  induction es with
  | nil => rfl
  | cons e es ih =>
    have code : e.status.code = 0 ∨ e.status.code = 1 ∨ e.status.code = 2 ∨ e.status.code = 3 := by
      cases e.status <;> simp [PageStatus.code]
    simp only [List.countP_cons, List.length_cons, ← ih]
    rcases code with h | h | h | h <;> simp [h] <;> omega

theorem exec_statusAsk (request : Nat) (s : State) :
    exec (.statusAsk request) s = .next (s.goodRecord.answerStatus request) := rfl

end Sys2Proof.Requests

open Sys2Proof Sys2Proof.Machine Sys2Proof.Laws Sys2Proof.Requests

/-- Settles O14: the acknowledged fault goes, and the claiming condition is evaluated in the station without it. -/
theorem faultAckClearsTheHeldFault : Obligations.FaultAckClearsTheHeldFault := by
  refine ⟨fun s serial => ?_, fun es sheets => ⟨candidate_some_iff es sheets, candidate_none_iff es sheets⟩⟩
  intro taken
  have taken_iff : s.goodRecord.ackTaken serial = true ↔ taken := ackTaken_iff s serial
  refine ⟨fun hn => ?_, fun h => ?_⟩
  · rw [exec_faultAck, takeAck_ignored (mt taken_iff.mp hn), goodRecord_eq]
  · refine ⟨_, (exec_faultAck serial s).trans (congrArg _ (takeAck_taken (taken_iff.mpr h))), ?_⟩
    have touches := evalClaim_touches (acknowledged s.goodRecord)
    refine ⟨?_, ?_, ?_, ?_, ?_, ?_, ?_⟩
    · rw [touches]
      rfl
    iterate 4
      rw [touches]
      rfl
    · intro hw hc hl r p ha ho hd hp hr hcand hs hq
      have chosen := claimChoice_eq (s := acknowledged s.goodRecord) ha rfl ho hd hp hr
      have room : (acknowledged s.goodRecord).canQueue = true :=
        (canQueue_iff _).mpr ⟨(takesOffers_iff _).mpr ⟨hs, by simp [acknowledged, State.goodRecord, ha]⟩, hq⟩
      rw [evalClaim_chosen (chosen.trans hcand) room (earlierWaits_false hw hc (.inr hl))]
      exact ⟨rfl, rfl⟩
    · intro ha
      rw [evalClaim_unchosen (claimChoice_inactive (s := acknowledged s.goodRecord) ha)]
      exact ⟨rfl, rfl⟩

/-- Settles O15: the answer is the status of the station, whose page counts come from the codes of the four states. -/
theorem statusDescribesTheStation : Obligations.StatusDescribesTheStation := by
  intro s request
  refine ⟨s.goodRecord.status request, ?_, rfl, rfl, rfl, rfl, rfl, rfl, rfl, fun h => ?_, fun h => ?_, rfl, rfl, rfl, rfl,
    fun h => ?_, fun r hr => ?_, rfl, rfl, rfl, rfl, rfl, rfl, rfl, rfl, rfl, rfl, rfl, rfl, rfl, rfl, rfl, rfl, rfl, rfl,
    rfl, rfl⟩
  · exact congrArg _ (emit_link s.goodRecord _)
  · simp [State.status, State.goodRecord, Roster.editionRead, Roster.identity, h]
  · simp [State.status, State.goodRecord, Roster.editionRead, Roster.identity, h]
  · simp [State.status, State.goodRecord, Board.countOf, h]
  · have counted (code : Nat) := countOf_eq (b := s.goodRecord.board) hr code
    have state (f : Entry → Bool) (code : Nat) (h : ∀ e, decide (e.status.code = code) = f e) :
        s.goodRecord.board.countOf code = r.entries.countP f := by
      rw [counted, funext h]
    refine ⟨?_, ?_, ?_, state _ 0 ?_, state _ 1 ?_, state _ 2 ?_, state _ 3 ?_⟩
    · simp [State.status, State.goodRecord, hr]
    · simp [State.status, State.goodRecord, hr]
    · simp only [State.status, counted]
      exact countP_codes r.entries
    all_goals
      intro e
      cases e.status <;> rfl
end

section
/-! PROOFS. The byte stream of the library link: what the bytes of a record come to (R171, R172, R173, R181). -/

namespace Sys2Proof.Stream

open Sys2Proof Sys2Proof.Machine Sys2Proof.Laws

/-! ## Numbers in bytes -/

theorem be2_bytes (n : Nat) (h : n < 65536) : be2 (byte (n / 256)) (byte n) = n := by
  simp only [be2, byte, BitVec.toNat_ofNat]
  omega

theorem crc32On_append (crc : BitVec 32) (xs ys : List Byte) : crc32On crc (xs ++ ys) = crc32On (crc32On crc xs) ys :=
  List.foldl_append

/-! ## The parser, byte by byte -/

/-- R172: the station with the silence timer restarted, where it runs, and the parser in a state. -/
def atParser (s : State) (p : Parser) : State := { s with link := { s.link.heard with parser := p } }

theorem atParser_again (s : State) (p q : Parser) : atParser (atParser s p) q = atParser s q := by
  simp only [atParser, Link.heard]
  split_ifs <;> rfl

theorem atParser_goodRecord (s : State) (p : Parser) : (atParser s p).goodRecord = s.goodRecord := by
  simp only [atParser, Link.heard]
  split_ifs <;> rfl

/-- A byte that completes nothing. -/
theorem feedByte_quiet {s : State} {b : Byte} {p : Parser} (h : s.link.parser.feed b = (p, .none)) :
    s.feedByte b = atParser s p := by
  simp only [State.feedByte, h]
  rfl

theorem feedByte_on {s : State} {b : Byte} {p q : Parser} (h : p.feed b = (q, .none)) :
    (atParser s p).feedByte b = atParser s q := by
  rw [feedByte_quiet (s := atParser s p) h, atParser_again]

/-- The byte that completes a bad record. -/
theorem feedByte_bad {s : State} {b : Byte} {p q : Parser} (h : p.feed b = (q, .bad)) :
    (atParser s p).feedByte b = (atParser s q).badRecord := by
  have h : (atParser s p).link.parser.feed b = (q, .bad) := h
  simp only [State.feedByte, h]
  exact congrArg State.badRecord (atParser_again s p q)

/-- The byte that completes a record with a right check. -/
theorem feedByte_whole {s : State} {b : Byte} {p q : Parser} {kind : Nat} {payload : List Byte}
    (h : p.feed b = (q, .whole kind payload)) : (atParser s p).feedByte b = (atParser s q).wholeRecord kind payload := by
  have h : (atParser s p).link.parser.feed b = (q, .whole kind payload) := h
  simp only [State.feedByte, h]
  exact congrArg (fun u => State.wholeRecord u kind payload) (atParser_again s p q)

/-- The bytes of a payload, up to its last. -/
theorem feed_payload (s : State) (kind len : Nat) (b : Byte) (bs : List Byte) :
    ∀ (got : List Byte) (crc : BitVec 32), got.length + (b :: bs).length = len →
      (b :: bs).foldl State.feedByte (atParser s (.payload kind len got crc)) =
        atParser s (.check kind (got ++ b :: bs) (crc32On crc (b :: bs)) []) := by
  induction bs generalizing b with
  | nil =>
    intro got crc h
    refine feedByte_on ?_
    have : ¬ (got ++ [b]).length < len := by simp at h ⊢; omega
    simp only [Parser.feed, this, if_false]
  | cons x xs ih =>
    intro got crc h
    have short : (got ++ [b]).length < len := by simp at h ⊢; omega
    rw [List.foldl_cons, feedByte_on (q := .payload kind len (got ++ [b]) (crc32On crc [b]))
      (by simp only [Parser.feed, short, if_true]), ih x (got ++ [b]) _ (by simp at h ⊢; omega), ← crc32On_append]
    simp

/-- R171: the head of a record and its payload. -/
theorem feed_core {s : State} (k : Byte) (payload : List Byte) (hp : s.link.parser = .hunting)
    (hl : payload.length ≤ 4096) :
    (0x7E#8 :: k :: (bytes2 payload.length ++ payload)).foldl State.feedByte s =
      atParser s (.check k.toNat payload (crc32On crc32Init (k :: (bytes2 payload.length ++ payload))) []) := by
  have len : be2 (byte (payload.length / 256)) (byte payload.length) = payload.length := be2_bytes _ (by omega)
  have start : s.feedByte 0x7E#8 = atParser s (.header []) := feedByte_quiet (by rw [hp]; rfl)
  have header (b : Byte) (got : List Byte) (h : got.length < 2) :
      (atParser s (.header got)).feedByte b = atParser s (.header (got ++ [b])) := by
    refine feedByte_on ?_
    match got, h with
    | [], _ => rfl
    | [_], _ => rfl
  simp only [bytes2, List.cons_append, List.nil_append, List.foldl_cons, start]
  rw [header k [] (by simp), List.nil_append, header _ [k] (by simp), List.singleton_append]
  cases payload with
  | nil =>
    rw [List.foldl_nil]
    refine feedByte_on ?_
    simp [Parser.feed, headerDone, be2, byte, Config.recordMax]
  | cons b bs =>
    have third : Parser.feed (.header [k, byte ((b :: bs).length / 256)]) (byte (b :: bs).length) =
        (.payload k.toNat (b :: bs).length [] (crc32On crc32Init [k, byte ((b :: bs).length / 256), byte (b :: bs).length]),
          .none) := by
      have h1 : ¬ Config.recordMax < (b :: bs).length := by simpa [Config.recordMax] using hl
      have h2 : ¬ (b :: bs).length = 0 := by simp
      simp only [Parser.feed, List.cons_append, List.nil_append, headerDone, len, h1, h2, if_false]
    rw [feedByte_on third, feed_payload s _ _ b bs [] _ (by simp), List.nil_append, ← crc32On_append]
    rfl

theorem be4_bytes4 (x : BitVec 32) : ∃ a b c d, bytes4 x = [a, b, c, d] ∧ be4 a b c d = x := by
  refine ⟨_, _, _, _, rfl, ?_⟩
  refine BitVec.eq_of_toNat_eq ?_
  have := x.isLt
  simp only [be4, byte, BitVec.toNat_ofNat]
  omega

/-- R171: the four bytes of a record's check. -/
theorem feed_check (s : State) (kind : Nat) (payload : List Byte) (sum : BitVec 32) {a b c d : Byte} {crc : BitVec 32}
    (hcrc : be4 a b c d = crc) :
    [a, b, c, d].foldl State.feedByte (atParser s (.check kind payload sum [])) =
      if crc = sum then (atParser s .hunting).wholeRecord kind payload else (atParser s .hunting).badRecord := by
  have h1 : (atParser s (.check kind payload sum [])).feedByte a = atParser s (.check kind payload sum [a]) := feedByte_on rfl
  have h2 : (atParser s (.check kind payload sum [a])).feedByte b = atParser s (.check kind payload sum [a, b]) :=
    feedByte_on rfl
  have h3 : (atParser s (.check kind payload sum [a, b])).feedByte c = atParser s (.check kind payload sum [a, b, c]) :=
    feedByte_on rfl
  rw [List.foldl_cons, List.foldl_cons, List.foldl_cons, List.foldl_cons, List.foldl_nil, h1, h2, h3]
  split_ifs with h
  · exact feedByte_whole (by simp [Parser.feed, hcrc, h])
  · exact feedByte_bad (by simp [Parser.feed, hcrc, h])

/-- R171: the bytes of a whole record. -/
theorem feed_record {s : State} (k : Byte) (payload : List Byte) (crc : BitVec 32) (hp : s.link.parser = .hunting)
    (hl : payload.length ≤ 4096) :
    (0x7E#8 :: k :: (bytes2 payload.length ++ payload ++ bytes4 crc)).foldl State.feedByte s =
      if crc = crc32On crc32Init (k :: (bytes2 payload.length ++ payload)) then
        (atParser s .hunting).wholeRecord k.toNat payload
      else (atParser s .hunting).badRecord := by
  obtain ⟨a, b, c, d, hbytes, hcrc⟩ := be4_bytes4 crc
  have split : 0x7E#8 :: k :: (bytes2 payload.length ++ payload ++ bytes4 crc) =
      (0x7E#8 :: k :: (bytes2 payload.length ++ payload)) ++ bytes4 crc := by
    simp only [List.cons_append]
  rw [split, List.foldl_append, feed_core k payload hp hl, hbytes]
  exact feed_check s _ _ _ hcrc

/-! ## What the bytes come to -/

theorem exec_badInboundRecord (bs : List Byte) (s : State) :
    exec (.badInboundRecord bs) s = .next (bs.foldl State.feedByte s) := rfl

/-- R171, R172: the link after the bytes of a record that was not good. -/
def lineAfter (s : State) : Link := { s.link with silence := if s.link.up then some 100 else s.link.silence }

theorem atParser_hunting {s : State} (h : s.link.parser = .hunting) : atParser s .hunting = { s with link := lineAfter s } := by
  simp only [atParser, lineAfter, Link.heard, ← h]
  split_ifs <;> rfl

/-- R171: a bad record: it spoils the answer in progress, or is dropped and counted. -/
theorem badRecord_hunting {s : State} (h : s.link.parser = .hunting) :
    (atParser s .hunting).badRecord =
      match s.fetch.answer with
      | some a => { s with link := lineAfter s, fetch := { s.fetch with answer := some { a with bad := true } } }
      | none => { s with link := { lineAfter s with inDropped := (s.link.inDropped + 1) % 2 ^ 32 } } := by
  rw [atParser_hunting h, State.badRecord]
  dsimp only
  cases s.fetch.answer <;> rfl

theorem readInbound_outbound {kind : Nat} (payload : List Byte) (h1 : 0x81 ≤ kind) (h2 : kind ≤ 0x87) :
    readInbound kind payload = none := by
  interval_cases kind <;> rfl

theorem recordBytes_eq (kind : Nat) (payload : List Byte) :
    recordBytes kind payload = 0x7E#8 :: byte kind :: (bytes2 payload.length ++ payload ++
      bytes4 (crc32On crc32Init (byte kind :: (bytes2 payload.length ++ payload)))) := rfl

/-- R173: a record of an outbound kind with a right check. -/
theorem feed_outbound {s : State} {kind : Nat} (payload : List Byte) (hp : s.link.parser = .hunting)
    (hl : payload.length ≤ 4096) (h1 : 0x81 ≤ kind) (h2 : kind ≤ 0x87) :
    exec (.badInboundRecord (recordBytes kind payload)) s = .next
      (if outboundFits kind payload then { s with link := s.link.afterDropped } else (atParser s .hunting).badRecord) := by
  have kindOf : (byte kind).toNat = kind := by
    simp only [byte, BitVec.toNat_ofNat]
    omega
  rw [exec_badInboundRecord, recordBytes_eq, feed_record _ payload _ hp hl, if_pos rfl, kindOf, State.wholeRecord,
    readInbound_outbound payload h1 h2]
  dsimp only
  rw [atParser_goodRecord, goodRecord_dropped]

end Sys2Proof.Stream

open Sys2Proof Sys2Proof.Machine Sys2Proof.Stream

/-- Settles O16: the parser comes to the end of the record with the check of the bytes it took. -/
theorem recordWithABadCrcIsDropped : Obligations.RecordWithABadCrcIsDropped := by
  refine ⟨fun s k payload crc hp hl hc => ?_, fun s kind payload hp hl h1 h2 => ⟨fun hf => ?_, fun hf => ?_⟩, ?_⟩
  · intro line
    rw [exec_badInboundRecord, feed_record k payload crc hp hl, if_neg hc, badRecord_hunting hp]
    rfl
  · rw [feed_outbound payload hp hl h1 h2, if_pos hf]
  · rw [feed_outbound payload hp hl h1 h2, if_neg (by simp [hf]), badRecord_hunting hp]
    rfl
  · decide +kernel
end

section
/-! PROOFS. Protocol losses, the fetch timer, and follow-ons of the link class (R107, R108, R114, R161). -/

namespace Sys2Proof.Losses

open Sys2Proof Sys2Proof.Machine Sys2Proof.Laws Sys2Proof.Answers Sys2Proof.FaultRules Sys2Proof.BadAnswers

/-! ## A portrait record out of place (R108) -/

/-- The record carries that tag and does not fit the list and the answer state. -/
def Misplaced (s : State) (tag : Nat) (c : Instr) : Prop :=
  (∃ pid w h, c = .portraitHead tag pid w h ∧
    ¬ ∃ e rest, s.fetch.list = e :: rest ∧ s.fetch.answer = none ∧ e.tag = tag ∧ e.portrait = pid) ∨
  (∃ pid, c = .portraitAbsent tag pid ∧
    ¬ ∃ e rest, s.fetch.list = e :: rest ∧ s.fetch.answer = none ∧ e.tag = tag ∧ e.portrait = pid) ∨
  (∃ bs, c = .portraitData tag bs ∧
    ¬ ∃ e rest a, s.fetch.list = e :: rest ∧ s.fetch.answer = some a ∧ e.tag = tag) ∨
  (∃ crc, c = .portraitEnd tag crc ∧
    ¬ ∃ e rest a, s.fetch.list = e :: rest ∧ s.fetch.answer = some a ∧ e.tag = tag)

theorem portraitHeadRecord_misplaced {s : State} {tag : Nat} {pid : Id32}
    (h : ¬ ∃ e rest, s.fetch.list = e :: rest ∧ s.fetch.answer = none ∧ e.tag = tag ∧ e.portrait = pid) (w k : Nat) :
    s.portraitHeadRecord tag pid w k = s.protocolLoss tag := by
  unfold State.portraitHeadRecord
  split
  next e rest hl ha =>
    rw [if_neg]
    rintro ⟨rfl, rfl⟩
    exact h ⟨e, rest, hl, ha, rfl, rfl⟩
  · rfl

theorem portraitAbsentRecord_misplaced {s : State} {tag : Nat} {pid : Id32}
    (h : ¬ ∃ e rest, s.fetch.list = e :: rest ∧ s.fetch.answer = none ∧ e.tag = tag ∧ e.portrait = pid) :
    s.portraitAbsentRecord tag pid = s.protocolLoss tag := by
  unfold State.portraitAbsentRecord
  split
  next e rest hl ha =>
    rw [if_neg]
    rintro ⟨rfl, rfl⟩
    exact h ⟨e, rest, hl, ha, rfl, rfl⟩
  · rfl

theorem portraitDataRecord_misplaced {s : State} {tag : Nat}
    (h : ¬ ∃ e rest a, s.fetch.list = e :: rest ∧ s.fetch.answer = some a ∧ e.tag = tag) (bs : List Byte) :
    s.portraitDataRecord tag bs = s.protocolLoss tag := by
  unfold State.portraitDataRecord
  split
  next e rest a hl ha =>
    rw [if_neg]
    rintro rfl
    exact h ⟨e, rest, a, hl, ha, rfl⟩
  · rfl

theorem portraitEndRecord_misplaced {s : State} {tag : Nat}
    (h : ¬ ∃ e rest a, s.fetch.list = e :: rest ∧ s.fetch.answer = some a ∧ e.tag = tag) (crc : BitVec 32) :
    s.portraitEndRecord tag crc = s.protocolLoss tag := by
  unfold State.portraitEndRecord
  split
  next e rest a hl ha =>
    rw [if_neg]
    rintro rfl
    exact h ⟨e, rest, a, hl, ha, rfl⟩
  · rfl

/-- R108: where portrait records are taken it is a protocol loss; else it is dropped. -/
theorem misplaced_exec {s : State} {tag : Nat} {c : Instr} (h : Misplaced s tag c) :
    exec c s = .next (s.goodRecord.ifPortraits (fun t => t.protocolLoss tag)) := by
  have same {go : State → State} (hgo : go s.goodRecord = s.goodRecord.protocolLoss tag) :
      s.goodRecord.ifPortraits go = s.goodRecord.ifPortraits (fun t => t.protocolLoss tag) := by
    simp only [State.ifPortraits, hgo]
  rcases h with ⟨pid, w, k, rfl, h⟩ | ⟨pid, rfl, h⟩ | ⟨bs, rfl, h⟩ | ⟨crc, rfl, h⟩
  · exact congrArg _ (same (portraitHeadRecord_misplaced (s := s.goodRecord) h w k))
  · exact congrArg _ (same (portraitAbsentRecord_misplaced (s := s.goodRecord) h))
  · exact congrArg _ (same (portraitDataRecord_misplaced (s := s.goodRecord) h bs))
  · exact congrArg _ (same (portraitEndRecord_misplaced (s := s.goodRecord) h crc))

theorem ifPortraits_dropped {s : State} (go : State → State)
    (h : s.fetch.hold = true ∨ s.ctl.state = .setupWait ∨ (s.ctl.state = .planLoad ∧ s.fetch.list = [])) :
    s.goodRecord.ifPortraits go = { s with link := s.link.afterDropped } := by
  have : (s.goodRecord.takesPortraits && !s.goodRecord.fetch.hold) = false := by
    rcases h with h | h | ⟨h, hl⟩
    · simp [State.goodRecord, h]
    · simp [State.goodRecord, State.takesPortraits, h]
    · simp [State.goodRecord, State.takesPortraits, h, hl]
  rw [State.ifPortraits, this, if_neg Bool.false_ne_true, goodRecord_dropped]

theorem ifPortraits_entered {s : State} (go : State → State) (hh : s.fetch.hold = false)
    (h : s.ctl.state = .syncing ∨ s.ctl.state = .active ∨ s.ctl.state = .silent ∨ s.ctl.state = .halted ∨
      (s.ctl.state = .planLoad ∧ s.fetch.list ≠ [])) : s.goodRecord.ifPortraits go = go s.goodRecord := by
  have : (s.goodRecord.takesPortraits && !s.goodRecord.fetch.hold) = true := by
    rcases h with h | h | h | h | ⟨h, hl⟩ <;> simp [State.goodRecord, State.takesPortraits, hh, h]
    exact hl
  rw [State.ifPortraits, this, if_pos rfl]

/-! ## The fetch timer (R107) -/

theorem exec_fetchTimer (s : State) : exec .fetchTimerExpiry s = .next s.fetchTimeout := rfl

theorem fetchTimeout_stopped {s : State} (h : s.fetch.timer = none) : s.fetchTimeout = s := by
  simp [State.fetchTimeout, h]

theorem fetchTimeout_running {s : State} {e : FetchEntry} {rest : List FetchEntry} (ht : s.fetch.timer.isSome = true)
    (hl : s.fetch.list = e :: rest) :
    s.fetchTimeout = (s.setFetch { s.fetch with timer := none }).raise .fetchTimeout
      (s.faultPage (s.tiles.firstComposing e.slot))
      (if (s.faultPage (s.tiles.firstComposing e.slot)).isSome then s.tiles.firstComposing e.slot else none)
      (e.portrait.toNat % 65536) := by
  obtain ⟨n, hn⟩ := Option.isSome_iff_exists.mp ht
  simp only [State.fetchTimeout, hn, hl, low16]

/-! ## Follow-ons of the link class (R161) -/

/-- The state that a link-class follow-on finds differs from the one before the command in nothing the follow-on leaves. -/
structure Unmoved (s u : State) : Prop where
  fault : u.fault = s.fault
  claims : u.claims = s.claims
  port : u.port = s.port
  lane : u.lane = s.lane
  board : u.board = s.board
  roster : u.roster = s.roster
  ctl : u.ctl = s.ctl
  cut : u.comp.cut = s.comp.cut
  cuttable : u.cuttable = s.cuttable
  slots : ∀ e ∈ s.fetch.list, ∀ sl, s.tiles.slots[e.slot]? = some sl →
    u.tiles.slots[e.slot]? = some .free ∨ (e ∈ u.fetch.list ∧ u.tiles.slots[e.slot]? = some sl)

/-- R161: what the follow-on comes to. -/
def FollowedOn (s t : State) : Prop :=
  t.fault = { s.fault with record := s.fault.counted } ∧
  t.fetch.list = [] ∧ t.fetch.wants = [] ∧ t.fetch.answer = none ∧ t.fetch.timer = none ∧ t.fetch.hold = true ∧
  (∀ e ∈ s.fetch.list, ∀ sl, s.tiles.slots[e.slot]? = some sl → t.tiles.slots[e.slot]? = some .free) ∧
  t.comp.cut = (s.comp.cut || s.cuttable) ∧ t.claims = s.claims ∧ t.port = s.port ∧ t.lane = s.lane ∧
  t.board = s.board ∧ t.roster = s.roster ∧ t.ctl = s.ctl

theorem Unmoved.followedOn {s u : State} (m : Unmoved s u)
    (hp : s.fault.phase = .held ∨ (s.fault.phase = .recovering ∧ s.fault.settled = false)) (c : Cause)
    (hc : c.linkClass = true) (p k : Option Nat) (d : Nat) : FollowedOn s (u.raise c p k d) := by
  have fetch := raise_link_fetch u c p k d hc
  have slots := raise_link_slots u c p k d hc
  have eq := raise_linkFollowOn u c p k d hc (by rw [m.fault]; exact hp)
  have cuttable : (u.setFault { u.fault with record := u.fault.counted }).cuttable = s.cuttable :=
    (cuttable_congr (s := u) rfl rfl).trans m.cuttable
  refine ⟨?_, fetch.1, fetch.2.2.1, fetch.2.1, fetch.2.2.2.1, fetch.2.2.2.2.1, fun e he sl hsl => ?_, ?_, ?_, ?_, ?_, ?_, ?_, ?_⟩
  · simp [eq, m.fault]
  · rw [slots]
    rcases m.slots e he sl hsl with hfree | ⟨he', hsl'⟩
    · exact flushed_free hfree
    · exact flushed_named he' hsl'
  · rw [eq]
    simp only [flushFetch_comp_fields, requestCut_cut, cuttable]
    simp [m.cut]
  · simp [eq, m.claims]
  · simp [eq, m.port]
  · simp [eq, m.lane]
  · simp [m.board]
  · simp [m.roster]
  · simp [eq, m.ctl]

theorem lineSilent_unmoved {s : State} (hu : s.link.up = true) (hs : s.link.silence.isSome = true) :
    ∃ u, s.lineSilent = u.raise .linkDown none none 256 ∧ Unmoved s u := by
  rw [State.lineSilent, if_pos ⟨hu, hs⟩]
  refine ⟨_, rfl, ?_⟩
  have same (u : State) (h : u.fault = s.fault ∧ u.claims = s.claims ∧ u.port = s.port ∧ u.lane = s.lane ∧
      u.board = s.board ∧ u.roster = s.roster ∧ u.ctl = s.ctl ∧ u.comp = s.comp ∧ u.fetch.list = s.fetch.list ∧
      u.tiles = s.tiles) : Unmoved s u := by
    obtain ⟨h1, h2, h3, h4, h5, h6, h7, h8, h9, h10⟩ := h
    exact ⟨h1, h2, h3, h4, h5, h6, h7, by rw [h8], cuttable_congr (by rw [h8]) (by rw [h4]),
      fun e he sl hsl => .inr ⟨h9 ▸ he, h10 ▸ hsl⟩⟩
  split_ifs
  · exact same _ ⟨rfl, rfl, rfl, rfl, rfl, rfl, rfl, rfl, rfl, rfl⟩
  · refine same _ ?_
    unfold State.badRecord
    split <;> exact ⟨rfl, rfl, rfl, rfl, rfl, rfl, rfl, rfl, rfl, rfl⟩

theorem corrupted_unmoved {s : State} {e : FetchEntry} {rest : List FetchEntry} {refs : List Ref}
    (hl : s.fetch.list = e :: rest) (hf : s.tiles.slots[e.slot]? = some (.filling e.portrait refs)) :
    Unmoved s (corrupted s e) := by
  have free := corrupted_slot hf
  refine ⟨corrupted_fault s e, ?_, ?_, ?_, ?_, ?_, ?_, corrupted_cut s e, corrupted_cuttable s e, fun x hx sl hsl => ?_⟩
  iterate 6 simp [corrupted]
  by_cases hne : x.slot = e.slot
  · exact .inl (hne ▸ free)
  · refine .inr ⟨?_, ?_⟩
    · have : x ∈ rest := (List.mem_cons.mp (hl ▸ hx)).resolve_left (fun h => hne (h ▸ rfl))
      simpa [corrupted, popHead_eq hl] using this
    · simpa [corrupted, State.freeSlot, List.getElem?_set_ne (Ne.symm hne)] using hsl

end Sys2Proof.Losses
end

section
/-! PROOFS. Raising a fault of the link class, and the smaller events of the link (R86, R162, R163, R171 to R173, R177). -/

namespace Sys2Proof.LinkFaults

open Sys2Proof Sys2Proof.Machine Sys2Proof.Laws Sys2Proof.FaultRules Sys2Proof.Stream

/-! ## The line under a fault -/

/-- What of the link is the line's: all but the outbound list. -/
def lineOf (l : Link) : Link := { l with outbound := [], outDropped := 0 }

theorem emit_line (s : State) (b : OutBody) : lineOf (s.emit b).link = lineOf s.link := by
  unfold State.emit
  split <;> rfl

theorem claimOutcome_line (s : State) (sh : Sheet) (o : EngineOutcome) : lineOf (s.claimOutcome sh o).link = lineOf s.link := by
  unfold State.claimOutcome
  split
  · rfl
  · split
    · split
      · simp
      · split_ifs <;> simp
      · split_ifs <;> simp
    · exact emit_line _ _

theorem sendFaultReport_line (s : State) (n : Nat) : lineOf (s.sendFaultReport n).link = lineOf s.link := by
  unfold State.sendFaultReport
  split
  · rfl
  · exact emit_line _ _

theorem tryEnd_line (s : State) : lineOf s.tryEnd.link = lineOf s.link := by
  unfold State.tryEnd
  split
  · dsimp only
    rw [sendFaultReport_line, foldl_keeps (fun t : State => lineOf t.link) _ (fun u (d : Sheet × EngineOutcome) => claimOutcome_line u d.1 d.2)]
    rfl
  · rfl

theorem linkClass_others {c : Cause} (h : c.linkClass = true) : c.halting = false ∧ c ≠ .claimLost ∧ c ≠ .busSilent := by
  cases c <;> simp_all [Cause.linkClass, Cause.halting, Cause.code]

/-- R161: after the first a link-class fault is counted, a cut requested and the fetches flushed. -/
theorem raise_link_again (s : State) (c : Cause) (p k : Option Nat) (d : Nat) (hc : c.linkClass = true)
    (h : s.fault.phase ≠ .clear) :
    s.raise c p k d = (s.setFault { s.fault with record := s.fault.counted }).requestCut.flushFetch.tryEnd := by
  obtain ⟨h0, h1, h2⟩ := linkClass_others hc
  rw [State.raise, if_neg h]
  simp only [State.followOnActs, h0, h1, h2, hc, if_true, if_false, Bool.false_eq_true]
  rfl

theorem raise_link_line (s : State) (c : Cause) (p k : Option Nat) (d : Nat) (hc : c.linkClass = true) :
    lineOf (s.raise c p k d).link = lineOf s.link := by
  by_cases h : s.fault.phase = .clear
  · rw [raise_link_clear s c p k d hc h, tryEnd_line]
    simp
  · rw [raise_link_again s c p k d hc h, tryEnd_line]
    simp

/-! ## The recovery of a first fault of the link class (R162, R163) -/

theorem tryEnd_phase (s : State) : s.tryEnd.fault.phase =
    if s.fault.phase = .recovering ∧ s.fault.settled = true then .held else s.fault.phase := by
  unfold State.tryEnd
  split
  · dsimp only
    simp only [sendFaultReport_fault_fields]
    rw [foldl_keeps (fun t : State => t.fault.phase) _ (by intros; simp)]
    rfl
  · rfl

/-- R162: with no outcome deferred the end of a recovery leaves what has been asked for. -/
theorem tryEnd_asks {s : State} (h : s.fault.deferred = []) : s.tryEnd.claims = s.claims ∧ s.tryEnd.port = s.port := by
  unfold State.tryEnd
  split
  · dsimp only
    rw [h]
    simp
  · exact ⟨rfl, rfl⟩

theorem tryEnd_fetch {s : State} (h : s.fault.deferred = []) : s.tryEnd.fetch = s.fetch := by
  unfold State.tryEnd
  split
  · dsimp only
    rw [h]
    simp
  · rfl

theorem needsPortraits_eq : needsPortraits = fun w => decide (w.phase ≠ .inEngine) := by
  funext w
  cases h : w.phase <;> simp [needsPortraits, h]

/-- R86, R162, R163: a first fault of the link class with each page listed once. -/
theorem raise_link_recovery (s : State) (c : Cause) (p k : Option Nat) (d : Nat) (hc : c.linkClass = true)
    (h : s.fault.phase = .clear) (hn : (s.claims.work.map (fun w => w.page)).Nodup) :
    let t := s.raise c p k d
    t.claims.work = s.claims.work ∧
    t.fault.awaited = (s.claims.work.filter (fun w => decide (w.phase ≠ .inEngine))).map (fun w => w.page) ∧
    (∀ w ∈ s.claims.work, w.phase ≠ .inEngine → t.closing w.page = true ∧
      (s.closing w.page = false → t.asked (linkClosing c p w.page))) ∧
    t.comp.cut = (s.comp.cut || s.cuttable) ∧ t.fault.cutStep = s.cuttable ∧ t.fault.flushStep = false ∧
    t.fault.haltStep = false ∧
    t.fault.phase = (if t.fault.awaited = [] ∧ s.cuttable = false then .held else .recovering) := by
  let u := (s.recordFault c p k d).reviewPending
  let v := u.cutForRecovery.flushFetch
  let ask (st : State) (e : WorkEntry) : State := State.awaitClose st (linkClosing c p e.page) e.page
  let w := (v.claims.work.filter needsPortraits).foldl ask v
  have eq : s.raise c p k d = w.tryEnd := raise_link_clear s c p k d hc h
  have work : v.claims.work = s.claims.work := by simp [v, u]
  have cuttable : u.cuttable = s.cuttable := cuttable_congr (by simp [u]) (by simp [u])
  have closing (q : Nat) : v.closing q = s.closing q :=
    (closing_congr (s := u) (by simp [v]) (by simp [v]) q).trans
      ((reviewPending_closing _ q).trans (closing_congr (by simp) (by simp) q))
  have vAwaited : v.fault.awaited = [] := by simp [v, u, State.recordFault]
  obtain ⟨wAwaited, -, -, hasked⟩ := awaitAll_spec (fun e => linkClosing c p e.page)
    (fun e => closesOnly_linkClosing c p e.page) (v.claims.work.filter needsPortraits) v
    (by rw [work]; exact hn.sublist (List.filter_sublist.map _)) (by simp [vAwaited])
  have hawaited : w.fault.awaited =
      (s.claims.work.filter (fun w => decide (w.phase ≠ .inEngine))).map (fun w => w.page) := by
    rw [← needsPortraits_eq, ← work, ← List.nil_append (List.map _ _), ← vAwaited]
    exact wAwaited
  have keeps {β : Type} (f : State → β) (hf : ∀ st e, f (ask st e) = f st) : f w = f v :=
    foldl_keeps f ask hf _ _
  have wCut : w.comp.cut = (s.comp.cut || s.cuttable) := by
    rw [keeps (fun t => t.comp.cut) (by intros; simp [ask])]
    simp only [v, flushFetch_comp_fields, cutForRecovery_cut, cuttable]
    simp [u]
  have wCutStep : w.fault.cutStep = s.cuttable := by
    rw [keeps (fun t => t.fault.cutStep) (by intros; simp [ask])]
    simp only [v, flushFetch_frame, cutForRecovery_cutStep, cuttable]
    simp [u, State.recordFault]
  have wFlush : w.fault.flushStep = false := by
    rw [keeps (fun t => t.fault.flushStep) (by intros; simp [ask])]
    simp [v, u, State.recordFault]
  have wHalt : w.fault.haltStep = false := by
    rw [keeps (fun t => t.fault.haltStep) (by intros; simp [ask])]
    simp [v, u, State.recordFault]
  have wPhase : w.fault.phase = .recovering := by
    rw [keeps (fun t => t.fault.phase) (by intros; simp [ask])]
    simp [v, u, State.recordFault]
  have wDeferred : w.fault.deferred = [] := by
    rw [keeps (fun t => t.fault.deferred) (by intros; simp [ask])]
    simp [v, u, State.recordFault]
  obtain ⟨tClaims, tPort⟩ := tryEnd_asks wDeferred
  have settled : w.fault.settled = true ↔ w.fault.awaited = [] ∧ s.cuttable = false := by
    simp [FaultUnit.settled, wCutStep, wFlush, wHalt]
  intro t
  have tEq : t = w.tryEnd := eq
  have tFields := tryEnd_fault_fields w
  have tAwaited : t.fault.awaited = w.fault.awaited := by simp [tEq]
  refine ⟨?_, ?_, fun x hx hp => ?_, ?_, ?_, ?_, ?_, ?_⟩
  · rw [tEq, tClaims, keeps (fun t => t.claims.work) (by intros; simp [ask]), work]
  · rw [tAwaited]
    exact hawaited
  · have listed : x ∈ v.claims.work.filter needsPortraits := by
      rw [work, needsPortraits_eq]
      exact List.mem_filter.mpr ⟨hx, by simpa using hp⟩
    obtain ⟨hclosing, hask⟩ := hasked x listed
    refine ⟨?_, fun hcl => ?_⟩
    · rw [tEq]
      exact (closing_congr (by rw [tClaims]) (by rw [tPort]) x.page).trans hclosing
    · rw [tEq]
      exact asked_congr (by rw [tClaims]) (by rw [tPort]) (hask ((closing _).trans hcl))
  · rw [tEq, ← wCut]
    simp
  · rw [tEq, ← wCutStep]
    simp
  · rw [tEq, ← wFlush]
    simp
  · rw [tEq, ← wHalt]
    simp
  · rw [tAwaited, tEq, tryEnd_phase, wPhase]
    simp only [settled, true_and]

/-! ## The events of the link -/

theorem atParser_eq (s : State) (p : Parser) : atParser s p = { s with link := { s.link with
    silence := if s.link.up then some 100 else s.link.silence, parser := p } } := by
  simp only [atParser, Link.heard]
  split_ifs <;> rfl

theorem exec_inboundIdleFill (s : State) : exec .inboundIdleFill s = .next (s.feedByte 0#8) := rfl

theorem exec_outboundRecordSent (s : State) :
    exec .outboundRecordSent s = .next { s with link := { s.link with outbound := s.link.outbound.drop 1 } } := by
  rw [List.drop_one]
  rfl

theorem exec_silenceTimer (s : State) : exec .silenceTimerExpiry s = .next s.lineSilent := rfl

/-- R172: the station as its line has gone silent, before the fault. -/
def downed (s : State) : State :=
  let s1 := s.setLink { s.link with up := false, silence := none, parser := .hunting }
  if s.link.parser = .hunting then s1 else s1.badRecord

theorem lineSilent_down {s : State} (hu : s.link.up = true) (hs : s.link.silence.isSome = true) :
    s.lineSilent = (downed s).raise .linkDown none none 256 := if_pos ⟨hu, hs⟩

/-- R171, R172: a record in progress is bad. -/
theorem downed_eq (s : State) : ∃ n answer, downed s = { s with
    link := { s.link with up := false, silence := none, parser := .hunting, inDropped := n }
    fetch := { s.fetch with answer := answer } } ∧
    n = if s.link.parser ≠ .hunting ∧ s.fetch.answer = none then (s.link.inDropped + 1) % 2 ^ 32 else s.link.inDropped := by
  by_cases hp : s.link.parser = .hunting
  · exact ⟨_, _, if_pos hp, by simp [hp]⟩
  · cases ha : s.fetch.answer with
    | some a => exact ⟨_, _, (if_neg hp).trans (by simp only [State.badRecord, setLink_fetch, ha]; rfl), by simp⟩
    | none => exact ⟨_, _, (if_neg hp).trans (by simp only [State.badRecord, setLink_fetch, ha]; rfl), by simp [hp, Config.counterMod]⟩

end Sys2Proof.LinkFaults

open Sys2Proof Sys2Proof.Machine Sys2Proof.Laws Sys2Proof.FaultRules Sys2Proof.Stream Sys2Proof.LinkFaults

/-- Settles O17: a byte at a time, and the line gone silent as a fault of the link class. -/
theorem linkEventsAndTheSilentLine : Obligations.LinkEventsAndTheSilentLine := by
  refine ⟨fun s => ?_, fun s => ⟨fun h => ?_, fun hu hs => ?_⟩, fun s hu hs hc hn => ?_⟩
  · intro timer
    refine ⟨fun h => ?_, fun kind len got crc h hl => ?_, fun kind => rfl, exec_outboundRecordSent s⟩
    · rw [exec_inboundIdleFill, feedByte_quiet (p := .hunting) (by rw [h]; rfl), atParser_hunting h]
      rfl
    · have short : (got ++ [0#8]).length < len := by simpa using hl
      rw [exec_inboundIdleFill, feedByte_quiet (p := .payload kind len (got ++ [0#8]) (crc32On crc [0#8]))
        (by simp only [h, Parser.feed, short, if_true]), atParser_eq]
  · exact congrArg _ (if_neg (by simp [h]))
  · obtain ⟨n, answer, eq, hn⟩ := downed_eq s
    have line := raise_link_line (downed s) .linkDown none none 256 rfl
    obtain ⟨list, noAnswer, -, -, hold, -, lane, ctl⟩ := raise_link_fetch (downed s) .linkDown none none 256 rfl
    refine ⟨_, (exec_silenceTimer s).trans (congrArg _ (lineSilent_down hu hs)), ?_, ?_, ?_, ?_, list, hold, noAnswer,
      ?_, ?_, lane.trans ?_, ctl.trans ?_, fun h => ?_, fun h => ?_⟩
    · exact (congrArg Link.up line).trans (by rw [eq]; rfl)
    · exact (congrArg Link.silence line).trans (by rw [eq]; rfl)
    · exact (congrArg Link.parser line).trans (by rw [eq]; rfl)
    · exact (congrArg Link.inDropped line).trans (by rw [eq]; exact hn)
    · simp [eq]
    · simp [eq]
    · rw [eq]
    · rw [eq]
    · rw [(raise_clear (downed s) .linkDown none none 256 (by rw [eq]; exact h)).1, Sys2Proof.PlanEnd.bandOf_none, eq]
    · rw [(raise_again (downed s) .linkDown none none 256 (by rw [eq]; exact h)).1, eq]
  · obtain ⟨n, answer, eq, -⟩ := downed_eq s
    refine ⟨_, (exec_silenceTimer s).trans (congrArg _ (lineSilent_down hu hs)), ?_⟩
    have recovery := raise_link_recovery (downed s) .linkDown none none 256 rfl (by rw [eq]; exact hc) (by rw [eq]; exact hn)
    have work : (downed s).claims.work = s.claims.work := by rw [eq]
    have cut : (downed s).comp.cut = s.comp.cut := by rw [eq]
    have cuttable : (downed s).cuttable = s.cuttable := cuttable_congr (by rw [eq]) (by rw [eq])
    have closing (q : Nat) : (downed s).closing q = s.closing q := closing_congr (by rw [eq]) (by rw [eq]) q
    have frame (q : Nat) : linkClosing .linkDown none q = .release q := by simp [linkClosing]
    simpa only [work, cut, cuttable, closing, frame] using recovery
end

section
/-! PROOFS. The bus: starting a frame, runs, and what the port takes of a passed frame (R131 to R146). -/

namespace Sys2Proof.Bus

open Sys2Proof Sys2Proof.Machine Sys2Proof.Laws Sys2Proof.Keeping

/-! ## A frame that passed -/

/-- What the blocks do with a passed frame leaves the port's counts and the run state. -/
def CountsStay (t u : State) : Prop :=
  u.port.tx = t.port.tx ∧ u.port.rx = t.port.rx ∧ u.port.framesSent = t.port.framesSent ∧
  u.port.framesVetoed = t.port.framesVetoed ∧ u.port.run = t.port.run

/-- R134: a command that brings a frame applies it with what the blocks do with it. -/
theorem exec_frame {c : Instr} {h : FrameHdr} {f : Frame} (hc : frameOf c = some (h, f)) :
    ∃ act : State → State → State, (∀ s, exec c s = .next (s.applyFrame h f (act s))) ∧ (∀ s, act s.begun = act s) ∧
      ∀ s t, CountsStay t (act s t) := by
  cases c
  case snapHead h' rq rs pid pages last present states n =>
    obtain ⟨rfl, rfl⟩ : h' = h ∧ _ = f := by simpa [frameOf] using hc
    refine ⟨_, fun _ => rfl, fun _ => rfl, fun s t => ?_⟩
    split <;> simp [CountsStay]
  case claim | renew | lapse | done | release | fail | join | leave | amend | launch | drop | ask | snapPages | snapAmend =>
    obtain ⟨rfl, rfl⟩ : _ = h ∧ _ = f := by simpa [frameOf] using hc
    exact ⟨fun _ => _, fun _ => rfl, fun _ => rfl, fun s t => by simp [CountsStay]⟩
  all_goals cases hc

theorem applyFrame_full {s : State} (hp : s.participation = .full) (h : FrameHdr) (f : Frame) (act : State → State) :
    s.applyFrame h f act = (act (s.passFrame h f)).afterFrame := by
  simp only [State.applyFrame, hp]
  rfl

/-- R134: the port after a passed frame, before a collection meets it. -/
def passedPort (s : State) (h : FrameHdr) (f : Frame) : Port :=
  if s.isSending h.sender h.hold f then s.port.ownPassed (runAfter s.port.run h.sender h.hold)
  else s.port.otherPassed (runAfter s.port.run h.sender h.hold)

theorem passFrame_counts (s : State) (h : FrameHdr) (f : Frame) : CountsStay (s.setPort (passedPort s h f)) (s.passFrame h f) := by
  have eq : s.passFrame h f = (s.setPort (passedPort s h f)).meetCollection h.sender f := rfl
  simp [CountsStay, eq]

theorem ownPassed_counts (p : Port) (run : Option RunHeld) :
    (p.ownPassed run).tx = p.tx - 1 ∧ (p.ownPassed run).rx = p.rx ∧
    (p.ownPassed run).framesSent = (p.framesSent + 1) % 2 ^ 32 ∧ (p.ownPassed run).framesVetoed = p.framesVetoed ∧
    (p.ownPassed run).run = run := by
  unfold Port.ownPassed
  dsimp only
  split_ifs <;> exact ⟨rfl, rfl, rfl, rfl, rfl⟩

theorem isSending_iff (s : State) (sender : Nat) (hold : Bool) (f : Frame) :
    s.isSending sender hold f = true ↔ sender = s.straps.station ∧ s.port.sending = some (hold, f) := by
  simp [State.isSending]

/-! ## Starting a frame (R131, R132, R136) -/

theorem cls_lt (b : TxBody) : b.cls < 4 := by
  cases b with
  | run => simp [TxBody.cls]
  | frame f => cases f <;> simp [TxBody.cls, Frame.cls]

/-- The first of the numbers to answer answers. -/
theorem findSome_range {α : Type} {n k : Nat} {g : Nat → Option α} {x : α} (hk : k < n) (hx : g k = some x)
    (hn : ∀ j, j < k → g j = none) : (List.range n).findSome? g = some x := by
  have parts : List.range n = List.range k ++ k :: (List.range (n - k - 1)).map (fun j => k + 1 + j) := by
    have := List.range_add (n := k + 1) (m := n - k - 1)
    rw [List.range_succ, show k + 1 + (n - k - 1) = n by omega] at this
    simpa using this
  exact List.findSome?_eq_some_iff.mpr ⟨_, k, _, parts, hx, fun j hj => hn j (List.mem_range.mp hj)⟩

/-- R136: the head of the queue. -/
theorem head_eq {p : Port} {e : TxEntry} {before after : List TxEntry} (hq : p.queue = before ++ e :: after)
    (hw : ∀ x ∈ p.queue, x.onBus = false) (hb : ∀ x ∈ before, e.body.cls < x.body.cls)
    (ha : ∀ x ∈ after, e.body.cls ≤ x.body.cls) : p.head = some e := by
  have waiting : p.queue.filter (fun x => !x.onBus) = before ++ e :: after := by
    rw [List.filter_eq_self.mpr (fun x hx => by simp [hw x hx]), hq]
  simp only [Port.head, waiting]
  refine findSome_range (cls_lt e.body) ?_ (fun j hj => ?_)
  · rw [List.find?_append, List.find?_eq_none.mpr (fun x hx => by simpa using (hb x hx).ne')]
    simp
  · refine List.find?_eq_none.mpr (fun x hx => ?_)
    have least : e.body.cls ≤ x.body.cls := by
      rcases List.mem_append.mp hx with h | h
      · exact (hb x h).le
      · rcases List.mem_cons.mp h with rfl | h
        · exact le_rfl
        · exact ha x h
    simp
    omega

theorem markOnBus_eq {e : TxEntry} {before : List TxEntry} (after : List TxEntry) (h : e ∉ before) :
    markOnBus e (before ++ e :: after) = before ++ { e with onBus := true } :: after := by
  induction before with
  | nil => simp [markOnBus]
  | cons x xs ih =>
    obtain ⟨hx, hxs⟩ := not_or.mp (mt List.mem_cons.mpr h)
    rw [List.cons_append, markOnBus, if_neg (Ne.symm hx), ih hxs, List.cons_append]

theorem exec_frameStart (others : List Nat) (s : State) :
    exec (.frameStart others) s = .next (if s.startBit.mayStart then s.startBit.startHead others else s) := rfl

theorem mayStart_iff (s : State) : s.mayStart = true ↔
    s.participation = .full ∧ s.port.sending = none ∧ s.port.run = none ∧ ∀ x ∈ s.port.queue, x.onBus = false := by
  simp [State.mayStart, and_assoc]

theorem winsOver_iff (value : Nat) (others : List Nat) : winsOver value others = true ↔ ∀ v ∈ others, value ≤ v := by
  simp [winsOver]

/-! ## Runs (R139, R140) -/

theorem exec_runNextFrame (others : List Nat) (s : State) :
    exec (.runNextFrame others) s = .next (if s.holdsRun then s.startNext others else s) := rfl

theorem exec_runIdleEnd (s : State) : exec .runIdleEnd s = .next s.endRun := rfl

theorem runBroken_idle {s : State} (h : s.ctl.collection = none) : s.runBroken = s := if_neg (by simp [h])

/-! ## A port that takes no full part (R143 to R146) -/

theorem participation_listener {s : State} (hs : s.port.silent = false)
    (h : s.ctl.state = .setupWait ∨ s.ctl.state = .planLoad) : s.participation = .listener := by
  rcases h with h | h <;> simp [State.participation, hs, h]

theorem participation_full_iff (s : State) : s.participation = .full ↔
    s.port.silent = false ∧ s.port.awaitsStart = false ∧ s.ctl.state ≠ .setupWait ∧ s.ctl.state ≠ .planLoad := by
  unfold State.participation
  cases s.port.silent <;> cases s.ctl.state <;> cases s.port.awaitsStart <;> simp

theorem participation_joining {s : State} (hs : s.port.silent = false) (ha : s.port.awaitsStart = true)
    (h1 : s.ctl.state ≠ .setupWait) (h2 : s.ctl.state ≠ .planLoad) : s.participation = .joining := by
  unfold State.participation
  cases hst : s.ctl.state <;> simp_all

/-- R145: a passed frame is let by where the port only follows. -/
theorem applyFrame_letBy {s : State} {h : FrameHdr} (f : Frame) (act : State → State)
    (hp : s.participation = .listener ∨ (s.participation = .joining ∧ h.began ≠ .sinceMove)) :
    s.applyFrame h f act = s.letBy h.began (runAfter s.port.run h.sender h.hold) := by
  rcases hp with hp | ⟨hp, hb⟩
  · simp [State.applyFrame, hp]
  · simp [State.applyFrame, hp, hb]

theorem applyFrame_silent {s : State} (hs : s.port.silent = true) (h : FrameHdr) (f : Frame) (act : State → State) :
    s.applyFrame h f act = s.silentPassed (runAfter s.port.run h.sender h.hold) := by
  simp [State.applyFrame, participation_of_silent hs]

/-- R143: short of the 128th good frame a SILENT port counts it. -/
theorem silentPassed_counts {s : State} (run : Option RunHeld) (h : s.port.good < 127) :
    s.silentPassed run = { s with port := { s.port with run := run, good := s.port.good + 1, quiet := some (2 * s.leaseMs) } } :=
  if_neg (by show ¬ 128 ≤ s.port.good + 1; omega)

theorem exec_frameVetoed (x : Heard) (s : State) : exec (.frameVetoed x) s = .next (s.vetoFrame x) := rfl

theorem vetoFrame_letBy {s : State} {x : Heard}
    (hp : s.participation = .listener ∨ (s.participation = .joining ∧ x.began ≠ .sinceMove)) :
    s.vetoFrame x = s.letBy x.began none := by
  rcases hp with hp | ⟨hp, hb⟩
  · simp [State.vetoFrame, hp]
  · simp [State.vetoFrame, hp, hb]

theorem vetoFrame_full {s : State} (hp : s.participation = .full) (x : Heard) : s.vetoFrame x = s.takeVeto x.bits := by
  simp [State.vetoFrame, hp]

theorem vetoFrame_sinceMove {s : State} {x : Heard} (hp : s.participation = .joining) (hb : x.began = .sinceMove) :
    s.vetoFrame x = s.begun.vetoFrame x := by
  rw [vetoFrame_full (begun_full_of_joining hp)]
  simp [State.vetoFrame, hp, hb]

/-! ## A vetoed frame (R134, R135, R140, R141) -/

theorem vetoed_spec (p : Port) (own bad : Bool) :
    (p.vetoed own bad).queue = p.queue.map TxEntry.wait ∧ (p.vetoed own bad).run = none ∧
    (p.vetoed own bad).sending = none ∧ (p.vetoed own bad).runRest = [] ∧ (p.vetoed own bad).silent = p.silent ∧
    (p.vetoed own bad).seq = p.seq ∧ (p.vetoed own bad).framesSent = p.framesSent ∧
    (p.vetoed own bad).tx = (if own = true then p.tx + 1 else p.tx) ∧
    (p.vetoed own bad).rx = (if own = false ∧ bad = true then p.rx + 1 else p.rx) ∧
    (p.vetoed own bad).framesVetoed = (if own = true then (p.framesVetoed + 1) % 2 ^ 32 else p.framesVetoed) := by
  cases own <;> cases bad <;> exact ⟨rfl, rfl, rfl, rfl, rfl, rfl, rfl, rfl, rfl, rfl⟩

/-- R141: below the limit the counts confine nothing. -/
theorem confine_below {s : State} (ht : s.port.tx < 32) (hr : s.port.rx < 32) : s.confine = s := by
  simp only [State.confine, Config.countLimit, if_neg (not_le.mpr ht), if_neg (not_le.mpr hr)]

end Sys2Proof.Bus

open Sys2Proof Sys2Proof.Machine Sys2Proof.Laws Sys2Proof.Keeping Sys2Proof.Bus

/-- Settles O18: the head of the queue is begun, where no contender has a lower value. -/
theorem headOfQueueIsSent : Obligations.HeadOfQueueIsSent := by
  intro s e f before after others hp hs hr hq hw hb ha
  have head : s.port.head = some e := head_eq hq hw hb ha
  have start : exec (.frameStart others) s = .next (s.startHead others) := by
    rw [exec_frameStart, startBit_of_full hp, if_pos ((mayStart_iff s).mpr ⟨hp, hs, hr, hw⟩)]
  have absent : e ∉ before := fun h => (hb e h).false
  have marked : markOnBus e s.port.queue = before ++ { e with onBus := true } :: after := by
    rw [hq, markOnBus_eq after absent]
  have won (hv : ∀ v ∈ others, e.body.cls * 16 + s.straps.station ≤ v) : s.startHead others = s.sendEntry e := by
    simp only [State.startHead, head]
    exact if_pos ((winsOver_iff _ _).mpr hv)
  refine ⟨fun hf hv => ?_, fun rq full first rest hbody hrun hv => ?_, fun ⟨v, hv, hlt⟩ => ?_⟩
  · have frames : s.framesOf e = [(e.hold, f)] := by simp [State.framesOf, hf]
    rw [start, won (by rw [hf]; exact hv)]
    simp only [State.sendEntry, frames, marked]
    rfl
  · have frames : s.framesOf e = first :: rest := by simpa [State.framesOf, hbody] using hrun
    rw [start, won (by rw [hbody]; simpa [TxBody.cls] using hv)]
    simp only [State.sendEntry, frames, marked]
    rfl
  · have lost : ¬ winsOver (arbitration e.body.cls s.straps.station) others = true :=
      fun hw => absurd ((winsOver_iff _ _).mp hw v hv) (not_le.mpr hlt)
    rw [start]
    simp only [State.startHead, head, lost]
    rfl

/-- Settles O19: the run's next frame, its end, and the run state after each frame. -/
theorem runsGoOnAndEnd : Obligations.RunsGoOnAndEnd := by
  refine ⟨⟨fun s k hold f rest others hp hs hr hrest hv => ?_, fun s hc hr => ?_⟩, fun sender hold r => ?_⟩
  · have holds : s.holdsRun = true := by simp [State.holdsRun, hp, hs, hr]
    have wins : winsOver (arbitration f.cls s.straps.station) others = true := (winsOver_iff _ _).mpr hv
    rw [exec_runNextFrame, if_pos holds]
    simp only [State.startNext, hrest, wins, if_true]
    rfl
  · have under : ¬ s.port.run.isNone = true := by cases h : s.port.run <;> simp_all
    rw [exec_runIdleEnd, State.endRun, if_neg under]
    exact congrArg _ (runBroken_idle (by exact hc))
  · refine ⟨rfl, rfl, fun h1 h2 h3 => ?_, fun h => ?_⟩
    · exact if_pos ⟨h1, h2, Nat.succ_lt_succ h3⟩
    · refine if_neg (fun ⟨h1, h2, h3⟩ => ?_)
      have h3 : r.count < 255 := Nat.lt_of_succ_lt_succ h3
      rcases h with h | h | h
      · exact h h1
      · simp [h] at h2
      · omega

/-- Settles O21: the port counts the frame before the blocks take it, and they leave its counts. -/
theorem passedFrameLowersACount : Obligations.PassedFrameLowersACount := by
  intro s t c h f hc hp ht
  obtain ⟨act, hexec, -, hact⟩ := exec_frame hc
  obtain rfl : (act s (s.passFrame h f)).afterFrame = t := by
    rw [hexec, applyFrame_full hp] at ht
    exact Host.Outcome.next.inj ht
  have hafter : CountsStay (act s (s.passFrame h f)) (act s (s.passFrame h f)).afterFrame := by simp [CountsStay]
  obtain ⟨a1, a2, a3, a4, a5⟩ := hafter
  obtain ⟨b1, b2, b3, b4, b5⟩ := hact s (s.passFrame h f)
  obtain ⟨c1, c2, c3, c4, c5⟩ := passFrame_counts s h f
  simp only [a1, a2, a3, a4, a5, b1, b2, b3, b4, b5, c1, c2, c3, c4, c5, setPort_port]
  obtain ⟨o1, o2, o3, o4, o5⟩ := ownPassed_counts s.port (runAfter s.port.run h.sender h.hold)
  refine ⟨fun hown => ?_, fun hother => ?_, ?_⟩
  · rw [passedPort, if_pos ((isSending_iff _ _ _ _).mpr hown)]
    exact ⟨o1, o2, o3, o4⟩
  · rw [passedPort, if_neg (fun hn => hother ((isSending_iff _ _ _ _).mp hn).1)]
    exact ⟨rfl, rfl, rfl, rfl⟩
  · rw [passedPort]
    split_ifs
    · exact o5
    · rfl

/-- Settles O22: by how far the port takes part. -/
theorem framesPassAListenerBy : Obligations.FramesPassAListenerBy := by
  refine ⟨fun s c h f hc => ⟨fun hs hst => ?_, fun hs hg => ?_⟩,
    fun s => ⟨participation_full_iff s, fun x hp => ?_, fun hs ha h1 h2 => ?_⟩⟩
  · obtain ⟨act, hexec, -, -⟩ := exec_frame hc
    rw [hexec, applyFrame_letBy _ _ (.inl (participation_listener hs hst))]
    rfl
  · obtain ⟨act, hexec, -, -⟩ := exec_frame hc
    rw [hexec, applyFrame_silent hs, silentPassed_counts _ hg]
  · rw [exec_frameVetoed, vetoFrame_letBy (.inl hp)]
    rfl
  · intro u
    have joining := participation_joining hs ha h1 h2
    have full : u.participation = .full := begun_full_of_joining joining
    refine ⟨fun c h f hc => ?_, fun x => ?_, fun others hsend hrun hq => ?_⟩
    · obtain ⟨act, hexec, hbegun, -⟩ := exec_frame hc
      have same : act u = act s := hbegun s
      rw [hexec, hexec]
      by_cases hb : h.began = .sinceMove
      · rw [if_pos hb, applyFrame_sinceMove f _ joining hb, same]
        rfl
      · rw [if_neg hb, applyFrame_letBy _ _ (.inr ⟨joining, hb⟩)]
        rfl
    · rw [exec_frameVetoed, exec_frameVetoed]
      by_cases hb : x.began = .sinceMove
      · rw [if_pos hb, vetoFrame_sinceMove joining hb]
        rfl
      · rw [if_neg hb, vetoFrame_letBy (.inr ⟨joining, hb⟩)]
        rfl
    · have starts : s.startBit = u := by simp only [State.startBit, joining]; rfl
      have may : u.mayStart = true := (mayStart_iff u).mpr ⟨full, hsend, hrun, hq⟩
      rw [exec_frameStart, exec_frameStart, startBit_of_full full, starts, if_pos may, if_pos may]

/-- Settles O20: with the counts below the limit a veto changes the port alone. -/
theorem vetoedFrameStaysQueued : Obligations.VetoedFrameStaysQueued := by
  intro s x ⟨hp, hc⟩ ht hr
  obtain ⟨queue, run, sending, rest, silent, seq, sent, tx, rx, vetoed⟩ :=
    vetoed_spec s.port s.port.sending.isSome (readFrame x.bits).isNone
  have txBelow : (s.port.vetoed s.port.sending.isSome (readFrame x.bits).isNone).tx < 32 := by
    rw [tx]
    split_ifs <;> omega
  have rxBelow : (s.port.vetoed s.port.sending.isSome (readFrame x.bits).isNone).rx < 32 := by
    rw [rx]
    split_ifs <;> omega
  refine ⟨s.port.vetoed s.port.sending.isSome (readFrame x.bits).isNone, ?_, queue, run, sending, rest, silent, seq, sent,
    fun h => ?_, fun h => ?_⟩
  · rw [exec_frameVetoed, vetoFrame_full hp, State.takeVeto, runBroken_idle (by exact hc), confine_below (by exact txBelow) (by exact rxBelow)]
    rfl
  · rw [tx, rx, vetoed]
    simp [h]
  · rw [tx, rx, vetoed]
    simp [h]
end

section
/-! PROOFS. A SILENT port and its return (R143, R144, R158), and the granting of a free place (R34, R137). -/

namespace Sys2Proof.Places

open Sys2Proof Sys2Proof.Machine Sys2Proof.Laws Sys2Proof.Keeping Sys2Proof.PlanEnd Sys2Proof.Requests Sys2Proof.Bus

/-! ## A SILENT port -/

theorem exec_silentFrameRead {s : State} (h : s.port.silent = true) (bits : List Bool) (vetoed : Bool) :
    exec (.silentFrameRead bits vetoed) s = .next (s.readSilently bits vetoed) := congrArg _ (if_pos h)

theorem exec_portLeavesSilent {s : State} (h : s.port.silent = true) :
    exec .portLeavesSilent s = .next s.leaveSilent := congrArg _ (if_pos h)

theorem runUnread_eq (run : Option RunHeld) :
    runUnread run = run.bind (fun r => if r.count < 255 then some { r with count := r.count + 1 } else none) := by
  cases run with
  | none => rfl
  | some r =>
    by_cases h : r.count < 255
    · exact (if_pos ⟨rfl, rfl, Nat.succ_lt_succ h⟩).trans (if_pos h).symm
    · exact (if_neg (fun hn => h (Nat.lt_of_succ_lt_succ hn.2.2))).trans (if_neg h).symm

/-- R144: the station with its port ENABLED again. -/
def enabled (s : State) : State :=
  { s with port := { s.port with silent := false, tx := 0, rx := 0, good := 0, quiet := none } }

theorem leaveSilent_elsewhere {s : State} (h : s.ctl.state ≠ .silent) : s.leaveSilent = enabled s := if_neg h

theorem leaveSilent_asks {s : State} (h : s.ctl.state = .silent) :
    s.leaveSilent = ((enabled s).setCtl { s.ctl with volumeSeen := true }).enterSyncing := if_pos h

/-- R149: entering SYNCING touches the controller and the queue. -/
theorem enterSyncing_touches (s : State) : s.enterSyncing = { s with port := s.enterSyncing.port, ctl := s.enterSyncing.ctl } := by
  by_cases h : s.port.silent = false ∧ s.port.queue.length < 16
  · rw [enterSyncing_queued s h.1 h.2]
  · rw [enterSyncing_waiting s h]

/-- R149: the controller, but for what waits in it. -/
theorem enterSyncing_ctl (s : State) :
    s.enterSyncing.ctl.state = .syncing ∧ s.enterSyncing.ctl.abandoned = 0 ∧ s.enterSyncing.ctl.collection = none ∧
    s.enterSyncing.ctl.syncTimer = some (2 * s.leaseMs) ∧ s.enterSyncing.ctl.volumeSeen = s.ctl.volumeSeen := by
  by_cases h : s.port.silent = false ∧ s.port.queue.length < 16
  · rw [enterSyncing_queued s h.1 h.2]
    exact ⟨rfl, rfl, rfl, rfl, rfl⟩
  · rw [enterSyncing_waiting s h]
    exact ⟨rfl, rfl, rfl, rfl, rfl⟩

/-- R136: entering SYNCING enters at most one frame into the queue. -/
theorem enterSyncing_port (s : State) : s.enterSyncing.port = s.port ∨ ∃ b, s.enterSyncing.port = s.port.queued b := by
  by_cases h : s.port.silent = false ∧ s.port.queue.length < 16
  · rw [enterSyncing_queued s h.1 h.2]
    exact .inr ⟨_, rfl⟩
  · rw [enterSyncing_waiting s h]
    exact .inl rfl

/-- R144, R149, R158: what comes of leaving SILENT. -/
structure CameBack (s t : State) : Prop where
  touches : t = { s with port := t.port, ctl := t.ctl }
  port : t.port.silent = false ∧ t.port.tx = 0 ∧ t.port.rx = 0 ∧ t.port.good = 0 ∧ t.port.quiet = none
  syncing : s.ctl.state = .silent → t.ctl.state = .syncing ∧ t.ctl.abandoned = 0 ∧ t.ctl.collection = none ∧
    t.ctl.syncTimer = some (2 * s.leaseMs) ∧ t.ctl.volumeSeen = true ∧
    (s.port.queue = [] → t.port.queue = [s.port.entry (.frame (.ask (s.roster.identity.getD 0)))])
  elsewhere : s.ctl.state ≠ .silent → t.ctl = s.ctl ∧ t.port.queue = s.port.queue

theorem leaveSilent_cameBack (s : State) : CameBack s s.leaveSilent := by
  by_cases h : s.ctl.state = .silent
  · rw [leaveSilent_asks h]
    generalize hu : (enabled s).setCtl { s.ctl with volumeSeen := true } = u
    have touches := enterSyncing_touches u
    obtain ⟨c1, c2, c3, c4, c5⟩ := enterSyncing_ctl u
    refine ⟨?_, ?_, fun _ => ⟨c1, c2, c3, ?_, ?_, fun hq => ?_⟩, fun hn => absurd h hn⟩
    · rw [touches, ← hu]
      rfl
    · rcases enterSyncing_port u with hp | ⟨b, hp⟩ <;> rw [hp, ← hu] <;> exact ⟨rfl, rfl, rfl, rfl, rfl⟩
    · rw [c4, ← hu]
      rfl
    · rw [c5, ← hu]
      rfl
    · have queue : u.port.queue = [] := by rw [← hu]; exact hq
      rw [enterSyncing_queued u (by rw [← hu]; rfl) (by simp [queue])]
      simp only [Port.queued, queue, List.nil_append]
      rw [← hu]
      rfl
  · rw [leaveSilent_elsewhere h]
    exact ⟨rfl, ⟨rfl, rfl, rfl, rfl, rfl⟩, fun hn => absurd hn h, fun _ => ⟨rfl, rfl⟩⟩

/-- R144: the 128th good frame. -/
theorem silentPassed_leaves {s : State} (run : Option RunHeld) (h : 127 ≤ s.port.good) : CameBack s (s.silentPassed run) := by
  have eq : s.silentPassed run = (s.setPort { s.port with
      run := run, good := s.port.good + 1, quiet := some (2 * s.leaseMs) }).leaveSilent :=
    if_pos (Nat.succ_le_succ h)
  have back := leaveSilent_cameBack (s.setPort { s.port with
      run := run, good := s.port.good + 1, quiet := some (2 * s.leaseMs) })
  rw [← eq] at back
  exact ⟨back.touches, back.port, back.syncing, back.elsewhere⟩

/-! ## Granting a place (R34, R137) -/

theorem exec_queuePlaceGranted {s : State} (h : s.canQueue = true) : exec .queuePlaceGranted s = .next s.grantPlace :=
  congrArg _ (if_pos h)

theorem grantPlace_ctl {s : State} {i : CtlItem} {rest : List CtlItem} (h : s.ctl.waiting = i :: rest) :
    s.grantPlace = { s with port := s.port.queued (s.ctlBody i), ctl := { s.ctl with waiting := rest } } := by
  simp only [State.grantPlace, h]
  rfl

theorem grantPlace_closing {s : State} {f : Frame} {rest : List Frame} (hc : s.ctl.waiting = [])
    (h : s.claims.waiting = f :: rest) :
    s.grantPlace = { s with port := s.port.queued (.frame f), claims := { s.claims with waiting := rest } } := by
  simp only [State.grantPlace, hc, h]
  rfl

theorem grantPlace_lease {s : State} {p : Nat} (hc : s.ctl.waiting = []) (hw : s.claims.waiting = [])
    (ha : s.ctl.state = .active) (hl : firstExpired s.board.leases = some p) : s.grantPlace = s.offerFirst := by
  simp only [State.grantPlace, hc, hw, ha, hl]
  rfl

theorem grantPlace_claim {s : State} (hc : s.ctl.waiting = []) (hw : s.claims.waiting = [])
    (hl : s.ctl.state ≠ .active ∨ firstExpired s.board.leases = none) : s.grantPlace = s.evalClaim := by
  simp only [State.grantPlace, hc, hw]
  refine if_neg ?_
  rintro ⟨ha, hs⟩
  rcases hl with hl | hl
  · exact hl ha
  · simp [hl] at hs

theorem mayOffer_iff (s : State) : s.mayOffer = true ↔ s.ctl.state = .active ∧ s.canQueue = true := by
  simp [State.mayOffer]

/-- R34: the LAPSE offered for a claimed page. -/
theorem offerLapse_claimed {s : State} {p holder : Nat} {r : Replica} {e : Entry} (hr : s.board.replica = some r)
    (he : r.entries[p]? = some e) (hs : e.status = .claimed holder) :
    s.offerLapse p = { s with
      port := s.port.queued (.frame (.lapse p holder e.mark))
      board := { s.board with leases := s.board.leases.set p (some .offered) } } := by
  have offered : s.offerLapse p = (s.enqueue (.frame (.lapse p holder e.mark))).setBoard
      { s.board with leases := s.board.leases.set p (some .offered) } := by
    simp only [State.offerLapse, hr, he, hs]
    simp only [← hr]
    rfl
  exact offered

theorem offerFirst_expired {s : State} {p : Nat} (hm : s.mayOffer = true) (hl : firstExpired s.board.leases = some p) :
    s.offerFirst = s.offerLapse p := by
  simp only [State.offerFirst, hm, hl, if_true]

theorem offerFirst_none {s : State} (h : s.mayOffer = false ∨ firstExpired s.board.leases = none) : s.offerFirst = s := by
  unfold State.offerFirst
  rcases h with h | h
  · rw [if_neg (by simp [h])]
  · rw [h]
    exact ite_self s

end Sys2Proof.Places

open Sys2Proof Sys2Proof.Machine Sys2Proof.Laws Sys2Proof.Keeping Sys2Proof.Requests Sys2Proof.Bus Sys2Proof.Places

/-- Settles O24: the frames that a SILENT port counts, and the two ways out. -/
theorem silentPortCountsAndComesBack : Obligations.SilentPortCountsAndComesBack := by
  refine ⟨fun s bits vetoed hs => ⟨fun r hr hv hg => ?_, fun hv => ?_, fun hr hv => ?_⟩, fun s c hs hc => ?_⟩
  · subst hv
    rw [exec_silentFrameRead hs, ← silentPassed_counts _ hg]
    simp only [State.readSilently, hr]
    rfl
  · subst hv
    rw [exec_silentFrameRead hs]
    simp only [State.readSilently]
    split <;> rfl
  · subst hv
    rw [exec_silentFrameRead hs, ← runUnread_eq]
    simp only [State.readSilently, hr]
    rfl
  · have back : ∃ t, exec c s = .next t ∧ CameBack s t := by
      rcases hc with rfl | ⟨hg, ⟨h, f, hf⟩ | ⟨bits, r, hr, rfl⟩⟩
      · exact ⟨_, exec_portLeavesSilent hs, leaveSilent_cameBack s⟩
      · obtain ⟨act, hexec, -, -⟩ := exec_frame hf
        exact ⟨_, (hexec s).trans (congrArg _ (applyFrame_silent hs h f _)), silentPassed_leaves _ hg⟩
      · refine ⟨_, exec_silentFrameRead hs bits false, ?_⟩
        simp only [State.readSilently, hr]
        exact silentPassed_leaves _ hg
    obtain ⟨t, ht, touches, ⟨p1, p2, p3, p4, p5⟩, syncing, elsewhere⟩ := back
    exact ⟨t, ht, touches, p1, p2, p3, p4, p5, syncing, elsewhere⟩

/-- Settles O25: the first block that waits has the place. -/
theorem freePlaceIsGrantedInOrder : Obligations.FreePlaceIsGrantedInOrder := by
  intro s hp hq
  have room : s.canQueue = true := (canQueue_iff s).mpr ⟨takesOffers_of_full hp, hq⟩
  rw [exec_queuePlaceGranted room]
  refine ⟨fun i rest h => ?_, fun f rest hc h => ?_, fun p r e holder hc hw ha hl hr he hs => ?_, fun hc hw hl => ?_⟩
  · rw [grantPlace_ctl h]
  · rw [grantPlace_closing hc h]
  · rw [grantPlace_lease hc hw ha hl, offerFirst_expired ((mayOffer_iff s).mpr ⟨ha, room⟩) hl, offerLapse_claimed hr he hs]
  · intro holds
    rw [grantPlace_claim hc hw hl]
    refine ⟨fun r p ⟨ha, hf, ho, hd, hpend⟩ hr hcand => ?_, fun hn => ?_⟩
    · rw [evalClaim_chosen ((claimChoice_eq ha hf ho hd hpend hr).trans hcand) room (earlierWaits_false hw hc hl)]
    · have none : s.claimChoice = none := by
        rcases hn with hn | hn
        · exact if_neg hn
        · unfold State.claimChoice
          split
          · split
            next r hr => exact hn r hr
            · rfl
          · rfl
      rw [evalClaim_unchosen none]
end

section
/-! PROOFS. A count of 32 silences the port (R21, R49, R64, R141, R142, R158, R165). -/

namespace Sys2Proof.Silencing

open Sys2Proof Sys2Proof.Machine Sys2Proof.Laws Sys2Proof.Keeping Sys2Proof.FaultRules Sys2Proof.PlanEnd
  Sys2Proof.LinkFaults Sys2Proof.Bus

/-! ## The port under a fault -/

/-- What of the port is not its queue's. -/
def wireOf (p : Port) : Port := { p with queue := [], seq := 0 }

theorem askClosing_wire (s : State) (f : Frame) (page : Nat) : wireOf (s.askClosing f page).port = wireOf s.port := by
  unfold State.askClosing
  split_ifs <;> rfl

theorem claimOutcome_wire (s : State) (sh : Sheet) (o : EngineOutcome) :
    wireOf (s.claimOutcome sh o).port = wireOf s.port := by
  unfold State.claimOutcome
  split
  · rfl
  · split
    · split
      · exact askClosing_wire _ _ _
      · split_ifs
        · simp [State.requeueSpoiled]
        · exact askClosing_wire _ _ _
      · split_ifs
        · simp [State.requeueSpoiled]
        · exact askClosing_wire _ _ _
    · simp

theorem tryEnd_wire (s : State) : wireOf s.tryEnd.port = wireOf s.port := by
  unfold State.tryEnd
  split
  · dsimp only
    rw [show ∀ (u : State) n, (u.sendFaultReport n).port = u.port by intros; simp,
      foldl_keeps (fun t : State => wireOf t.port) _ (fun u (d : Sheet × EngineOutcome) => claimOutcome_wire u d.1 d.2)]
    rfl
  · rfl

theorem withdraw_wire (s : State) (names : TxBody → Bool) : wireOf (s.withdraw names).port = wireOf s.port := rfl

theorem dropWork_wire (s : State) : wireOf s.dropWork.port = wireOf s.port := by
  unfold State.dropWork
  simp [wireOf, State.withdraw]

theorem reviewPending_wire (s : State) : wireOf s.reviewPending.port = wireOf s.port := by
  unfold State.reviewPending
  split
  · split_ifs
    · exact withdraw_wire s _
    · rfl
  · rfl

theorem recoverSilent_wire (s : State) : wireOf s.recoverSilent.port = wireOf s.port := by
  unfold State.recoverSilent
  dsimp only
  split_ifs <;> simp [dropWork_wire]

theorem raise_silent_clear {s : State} (d : Nat) (h : s.fault.phase = .clear) :
    s.raise .busSilent none none d = (s.recordFault .busSilent none none d).reviewPending.recoverSilent.tryEnd := if_pos h

theorem raise_silent_again {s : State} (d : Nat) (h : s.fault.phase ≠ .clear) :
    s.raise .busSilent none none d = (s.setFault { s.fault with record := s.fault.counted }).recoverSilent.tryEnd := if_neg h

theorem raise_silent_wire (s : State) (d : Nat) : wireOf (s.raise .busSilent none none d).port = wireOf s.port := by
  by_cases h : s.fault.phase = .clear
  · rw [raise_silent_clear d h, tryEnd_wire, recoverSilent_wire, reviewPending_wire]
    simp
  · rw [raise_silent_again d h, tryEnd_wire, recoverSilent_wire]
    simp

/-! ## The outbound list under a fault -/

/-- The outbound list has grown at its tail, or not at all. -/
def Grows (s t : State) : Prop := ∃ more, t.link.outbound = s.link.outbound ++ more

theorem Grows.refl (s : State) : Grows s s := ⟨[], (List.append_nil _).symm⟩

theorem Grows.trans {s t u : State} : Grows s t → Grows t u → Grows s u := fun ⟨x, hx⟩ ⟨y, hy⟩ =>
  ⟨x ++ y, by rw [hy, hx, List.append_assoc]⟩

theorem Grows.of_link {s t : State} (h : t.link = s.link) : Grows s t := ⟨[], by rw [h, List.append_nil]⟩

theorem emit_grows (s : State) (b : OutBody) : Grows s (s.emit b) := by
  unfold State.emit
  split_ifs
  · exact ⟨_, rfl⟩
  · exact .refl s

theorem claimOutcome_grows (s : State) (sh : Sheet) (o : EngineOutcome) : Grows s (s.claimOutcome sh o) := by
  unfold State.claimOutcome
  split
  · exact .refl s
  · split
    · split
      · exact .of_link (by simp)
      · split_ifs <;> exact .of_link (by simp)
      · split_ifs <;> exact .of_link (by simp)
    · exact emit_grows s _

theorem claimOutcomes_grow (l : List (Sheet × EngineOutcome)) :
    ∀ s : State, Grows s (l.foldl (fun st d => State.claimOutcome st d.1 d.2) s) := by
  induction l with
  | nil => exact Grows.refl
  | cons d l ih => exact fun s => (claimOutcome_grows s d.1 d.2).trans (ih _)

theorem sendFaultReport_grows (s : State) (n : Nat) : Grows s (s.sendFaultReport n) := by
  unfold State.sendFaultReport
  split
  · exact .refl s
  · exact (emit_grows s _).trans (.of_link rfl)

theorem tryEnd_grows (s : State) : Grows s s.tryEnd := by
  unfold State.tryEnd
  split
  · refine Grows.trans (Grows.trans ?_ (claimOutcomes_grow s.fault.deferred _)) (sendFaultReport_grows _ 0)
    exact .of_link rfl
  · exact .refl s

theorem raise_silent_grows (s : State) (d : Nat) : Grows s (s.raise .busSilent none none d) := by
  by_cases h : s.fault.phase = .clear
  · rw [raise_silent_clear d h]
    exact (Grows.of_link (by simp)).trans (tryEnd_grows _)
  · rw [raise_silent_again d h]
    exact (Grows.of_link (by simp)).trans (tryEnd_grows _)

/-! ## Entering SILENT -/

/-- R142, R158: the station with its port SILENT, its replica ABSENT and its controller told, before BUS_SILENT. -/
def silenced (s : State) : State :=
  let s1 := s.setPort { s.port with
    silent := true, ignores := false, tx := 0, rx := 0, queue := [], sending := none, runRest := [], good := 0,
    quiet := some (2 * s.leaseMs) }
  let s2 := s1.dropReplica.controllerSilent
  s2.setFault { s2.fault with haltStep := false }

theorem enterSilent_eq (s : State) (detail : Nat) :
    s.enterSilent detail = (silenced s).raise .busSilent none none detail := rfl

theorem relayUnsent_eq (s : State) (f : Frame) (h : s.link.relay = some f) (hq : s.port.queue = []) :
    s.relayUnsent = (s.setLink { s.link with relay := none }).emit (.relayResult (relayBare f .unsent none)) := by
  have same : s.withdraw TxBody.isRelayed = s := by
    simp only [State.withdraw, hq, List.filter_nil]
    rw [← hq]
    rfl
  simp only [State.relayUnsent, h, same]

/-- R158: what of the controller BUS_SILENT changes. -/
theorem controllerSilent_ctl (s : State) :
    s.controllerSilent.ctl.state =
      (if s.ctl.state = .syncing ∨ s.ctl.state = .active then .silent else s.ctl.state) ∧
    ((s.ctl.state = .syncing ∨ s.ctl.state = .active ∨ s.ctl.state = .halted) → s.controllerSilent.ctl.waiting = []) := by
  unfold State.controllerSilent
  cases h : s.ctl.state <;> simp [h]

theorem dropReplica_board (s : State) : s.dropReplica.board = { s.board with replica := none, leases := [], completions := 0 } := by
  simp [State.dropReplica]

theorem relayUnsent_wire (s : State) : wireOf s.relayUnsent.port = wireOf s.port := by
  unfold State.relayUnsent
  split
  · simp [wireOf, State.withdraw]
  · rfl

theorem relayUnsent_relay (s : State) : s.relayUnsent.link.relay = none := by
  unfold State.relayUnsent
  split
  · simp
  next h => exact h

/-- What entering SILENT comes to, whatever the phase. -/
structure Silenced (s t : State) : Prop where
  port : t.port.silent = true ∧ t.port.queue = [] ∧ t.port.tx = 0 ∧ t.port.rx = 0 ∧ t.port.good = 0 ∧
    t.port.quiet = some (2 * s.leaseMs) ∧ t.port.sending = none ∧ t.port.run = s.port.run
  board : t.board.replica = none ∧ t.board.leases = [] ∧ t.board.lastLaunched = s.board.lastLaunched ∧ t.pool = []
  relay : t.link.relay = none
  ctl : t.ctl.state = (if s.ctl.state = .syncing ∨ s.ctl.state = .active then .silent else s.ctl.state) ∧
    ((s.ctl.state = .syncing ∨ s.ctl.state = .active ∨ s.ctl.state = .halted) → t.ctl.waiting = [])
  others : t.roster = s.roster ∧ t.launch = s.launch ∧ t.lane = s.lane
  unsent : ∀ f, s.link.relay = some f → s.link.outbound.length < 64 → ∃ more, t.link.outbound =
    s.link.outbound ++ ⟨s.straps.station, .relayResult (relayBare f .unsent none)⟩ :: more

theorem silenced_wire (s : State) : wireOf (silenced s).port = wireOf { s.port with
    silent := true, ignores := false, tx := 0, rx := 0, sending := none, runRest := [], good := 0,
    quiet := some (2 * s.leaseMs) } := by
  simp only [silenced, setFault_port, controllerSilent_frame, State.dropReplica, relayUnsent_wire]
  simp [wireOf]

/-- R64: a relayed frame is answered UNSENT. -/
theorem silenced_unsent {s : State} {f : Frame} (hf : s.link.relay = some f) (hl : s.link.outbound.length < 64) :
    (silenced s).link.outbound = s.link.outbound ++ [⟨s.straps.station, .relayResult (relayBare f .unsent none)⟩] := by
  simp only [silenced, setFault_link, controllerSilent_frame, State.dropReplica]
  rw [relayUnsent_eq _ f (by exact hf) (by rfl), emit_link]
  exact congrArg Link.outbound (if_pos hl)

theorem silenced_quiet (s : State) : Quiet (silenced s).port := by
  have k := (relayUnsent_kept (((s.setPort { s.port with
    silent := true, ignores := false, tx := 0, rx := 0, queue := [], sending := none, runRest := [], good := 0,
    quiet := some (2 * s.leaseMs) }).setBoard { s.board with replica := none, leases := [], completions := 0 }).setPool []))
  have same : (silenced s).port = State.port (State.relayUnsent (((s.setPort { s.port with
    silent := true, ignores := false, tx := 0, rx := 0, queue := [], sending := none, runRest := [], good := 0,
    quiet := some (2 * s.leaseMs) }).setBoard { s.board with replica := none, leases := [], completions := 0 }).setPool [])) := by
    simp [silenced, State.dropReplica]
  rw [same]
  exact k.port.quiet (fun _ => ⟨rfl, rfl, rfl, rfl⟩)

theorem raise_silent_ctl (s : State) (d : Nat) : (s.raise .busSilent none none d).ctl = s.ctl := by
  by_cases h : s.fault.phase = .clear
  · rw [raise_silent_clear d h]
    simp
  · rw [raise_silent_again d h]
    simp

theorem raise_silent_lane (s : State) (d : Nat) : (s.raise .busSilent none none d).lane = s.lane := by
  by_cases h : s.fault.phase = .clear
  · rw [raise_silent_clear d h]
    simp
  · rw [raise_silent_again d h]
    simp

theorem enterSilent_silenced (s : State) (detail : Nat) : Silenced s (s.enterSilent detail) := by
  rw [enterSilent_eq]
  have wire : wireOf ((silenced s).raise .busSilent none none detail).port = _ :=
    (raise_silent_wire _ _).trans (silenced_wire s)
  have silent := congrArg Port.silent wire
  have quiet := (raise_kept (silenced s) .busSilent none none detail).port.quiet (silenced_quiet s) silent
  have board : (silenced s).board = { s.board with replica := none, leases := [], completions := 0 } := by
    simp [silenced, dropReplica_board]
  have ctl := controllerSilent_ctl (State.dropReplica (s.setPort { s.port with
    silent := true, ignores := false, tx := 0, rx := 0, queue := [], sending := none, runRest := [], good := 0,
    quiet := some (2 * s.leaseMs) }))
  refine ⟨⟨silent, quiet.1, quiet.2.2.1, quiet.2.2.2, congrArg Port.good wire, congrArg Port.quiet wire, quiet.2.1,
    by simpa [wireOf] using congrArg Port.run wire⟩, ?_, ?_, ?_, ?_, fun f hf hl => ?_⟩
  · simp only [raise_frame, board]
    simp [silenced, State.dropReplica]
  · simp [silenced, State.dropReplica, relayUnsent_relay]
  · rw [raise_silent_ctl]
    simpa [silenced] using ctl
  · rw [raise_silent_lane]
    simp [silenced]
  · obtain ⟨more, hmore⟩ := raise_silent_grows (silenced s) detail
    exact ⟨more, by rw [hmore, silenced_unsent hf hl, List.append_assoc]; rfl⟩

/-! ## BUS_SILENT with the phase CLEAR (R165) -/

/-- R165: the station with its work list dropped. -/
def workless (s : State) : State :=
  s.requestCut.dropWork.setClaims { s.requestCut.dropWork.claims with pending := none }

theorem workless_spec (s : State) :
    (workless s).claims = { work := [], pending := none, waiting := [] } ∧ (workless s).fetch.prefetch = [] ∧
    (workless s).comp.cut = (s.comp.cut || s.cuttable) ∧ (workless s).fault = { s.fault with awaited := [] } ∧
    (workless s).cuttable = s.cuttable := by
  refine ⟨?_, ?_, ?_, ?_, ?_⟩
  · simp [workless, State.dropWork, State.withdraw]
  · simp [workless, State.dropWork]
  · simp [workless]
  · simp [workless, State.dropWork]
  · exact (cuttable_congr (s := s.requestCut) (by simp [workless]) (by simp [workless])).trans (requestCut_cuttable s)

theorem recoverSilent_eq (s : State) : s.recoverSilent =
    if s.fault.phase = .recovering ∧ s.cuttable = true then
      (workless s).setFault { (workless s).fault with cutStep := true }
    else workless s := by
  obtain ⟨-, -, -, fault, cuttable⟩ := workless_spec s
  have phase : (workless s).fault.phase = s.fault.phase := by rw [fault]
  rw [← cuttable, ← phase]
  rfl

/-- R165: with the phase CLEAR the work list goes and the cut alone is waited for. -/
theorem raise_silent_drops {s : State} (d : Nat) (h : s.fault.phase = .clear) :
    let t := s.raise .busSilent none none d
    t.claims = { work := [], pending := none, waiting := [] } ∧ t.fetch.prefetch = [] ∧
    t.comp.cut = (s.comp.cut || s.cuttable) ∧ t.fault.cutStep = s.cuttable ∧
    t.fault.phase = (if s.cuttable = true then .recovering else .held) := by
  generalize hu : (s.recordFault .busSilent none none d).reviewPending = u
  have cuttable : u.cuttable = s.cuttable := by
    rw [← hu]
    exact cuttable_congr (by simp) (by simp)
  have comp : u.comp = s.comp := by simp [← hu]
  have fault : u.fault = (s.recordFault .busSilent none none d).fault := by simp [← hu]
  have fresh : u.fault.phase = .recovering ∧ u.fault.deferred = [] ∧ u.fault.cutStep = false ∧ u.fault.flushStep = false ∧
      u.fault.haltStep = false := by
    rw [fault]
    exact ⟨rfl, rfl, rfl, rfl, rfl⟩
  obtain ⟨phase, deferred, cutStep, flushStep, haltStep⟩ := fresh
  obtain ⟨claims, prefetch, cut, wFault, -⟩ := workless_spec u
  rw [raise_silent_clear d h, hu]
  generalize hv : u.recoverSilent = v
  have vEq : v = (workless u).setFault { u.fault with awaited := [], cutStep := s.cuttable } := by
    rw [← hv, recoverSilent_eq, cuttable, wFault]
    cases hc : s.cuttable
    · rw [if_neg (by simp), ← cutStep, ← wFault]
      rfl
    · rw [if_pos ⟨phase, rfl⟩]
  have vDeferred : v.fault.deferred = [] := by rw [vEq]; exact deferred
  have settled : v.fault.settled = !s.cuttable := by
    rw [vEq]
    simp [FaultUnit.settled, flushStep, haltStep]
  have vPhase : v.fault.phase = .recovering := by rw [vEq]; exact phase
  obtain ⟨tClaims, -⟩ := tryEnd_asks vDeferred
  refine ⟨?_, ?_, ?_, ?_, ?_⟩
  · rw [tClaims, vEq]
    exact claims
  · rw [tryEnd_fetch vDeferred, vEq]
    exact prefetch
  · simp [vEq, cut, comp, cuttable]
  · simp [vEq]
  · rw [tryEnd_phase, vPhase, settled]
    cases s.cuttable <;> rfl

/-! ## The veto that brings a count to 32 (R141) -/

theorem confine_tx {s : State} (h : 32 ≤ s.port.tx) : s.confine = s.enterSilent 1 := if_pos h

theorem confine_rx {s : State} (ht : s.port.tx < 32) (hr : 32 ≤ s.port.rx) : s.confine = s.enterSilent 2 :=
  (if_neg (not_le.mpr ht)).trans (if_pos hr)

/-- The states differ in the queue and in what the controller collects and waits for. -/
structure Asked (s u : State) : Prop where
  touches : u = { s with port := u.port, ctl := u.ctl }
  state : u.ctl.state = s.ctl.state
  counts : u.port.tx = s.port.tx ∧ u.port.rx = s.port.rx ∧ u.port.run = s.port.run

theorem offerAsk_asked (s : State) : Asked s s.offerAsk := by
  unfold State.offerAsk
  split_ifs
  · exact ⟨rfl, rfl, rfl, rfl, rfl⟩
  · rw [offerCtl_eq]
    split_ifs <;> exact ⟨rfl, rfl, rfl, rfl, rfl⟩

/-- R153: short of its third abandonment a station asks again. -/
theorem runBroken_asked {s : State} (h : s.ctl.collection = none ∨ s.ctl.abandoned < 2) : Asked s s.runBroken := by
  by_cases hc : s.ctl.collection = none
  · rw [runBroken_idle hc]
    exact ⟨rfl, rfl, rfl, rfl, rfl⟩
  · have ha : s.ctl.abandoned < 2 := h.resolve_left hc
    have collects : s.ctl.collection.isSome = true := by simpa [Option.isSome_iff_ne_none] using hc
    have least : min (s.ctl.abandoned + 1) Config.abandonLimit ≠ Config.abandonLimit := by
      show min (s.ctl.abandoned + 1) 3 ≠ 3
      omega
    have eq : s.runBroken = (State.startSync (s.setCtl { s.ctl with
        collection := none, abandoned := min (s.ctl.abandoned + 1) Config.abandonLimit })).offerAsk :=
      (if_pos collects).trans (if_neg least)
    obtain ⟨touches, state, counts⟩ := offerAsk_asked (State.startSync (s.setCtl { s.ctl with
        collection := none, abandoned := min (s.ctl.abandoned + 1) Config.abandonLimit }))
    rw [← eq] at touches state counts
    exact ⟨touches, state, counts⟩

theorem takeVeto_eq (s : State) (bits : List Bool) : s.takeVeto bits =
    (State.runBroken (s.setPort (s.port.vetoed s.port.sending.isSome (readFrame bits).isNone))).confine := rfl

/-- R141: the counts that the veto leaves, by which of them stood at 31. -/
theorem vetoed_limit {s : State} {bits : List Bool} {detail : Nat} (hl : s.portLaw)
    (h : detail = 1 ∧ s.port.sending.isSome = true ∧ s.port.tx = 31 ∨
      detail = 2 ∧ s.port.sending = none ∧ readFrame bits = none ∧ s.port.rx = 31) (u : State)
    (ht : u.port.tx = (s.port.vetoed s.port.sending.isSome (readFrame bits).isNone).tx)
    (hr : u.port.rx = (s.port.vetoed s.port.sending.isSome (readFrame bits).isNone).rx) :
    u.confine = u.enterSilent detail := by
  obtain ⟨-, -, -, -, -, -, -, tx, rx, -⟩ := vetoed_spec s.port s.port.sending.isSome (readFrame bits).isNone
  obtain ⟨-, below, -⟩ := hl
  rw [tx] at ht
  rw [rx] at hr
  rcases h with ⟨rfl, hs, h31⟩ | ⟨rfl, hs, hb, h31⟩
  · exact confine_tx (by rw [ht, if_pos hs, h31])
  · exact confine_rx (by rw [ht, if_neg (by simp [hs])]; exact below) (by rw [hr, if_pos (by simp [hs, hb]), h31])

/-- R153: the third abandonment raises SYNC_FAILED. -/
theorem abandon_third {s : State} (case : Nat) (h : s.ctl.abandoned = 2) : s.abandon case =
    (s.setCtl { s.ctl with collection := none, abandoned := 3 }).raise .syncFailed none none case := by
  simp [State.abandon, h, Config.abandonLimit]

theorem abandon_third_phase {s : State} (case : Nat) (h : s.ctl.abandoned = 2) :
    (s.abandon case).fault.phase ≠ .clear := by
  rw [abandon_third case h]
  exact Sys2Proof.PlanEnd.raise_phase _ _ _ _ _

theorem full_states {s : State} (h : s.participation = .full) :
    s.ctl.state = .silent ∨ s.ctl.state = .syncing ∨ s.ctl.state = .active ∨ s.ctl.state = .halted := by
  obtain ⟨-, -, h1, h2⟩ := (participation_full_iff s).mp h
  cases hs : s.ctl.state <;> simp_all

theorem exec_portEntersSilent (s : State) :
    exec .portEntersSilent s = .next (if s.participation = .full then s.confine else s) := rfl

end Sys2Proof.Silencing

open Sys2Proof Sys2Proof.Machine Sys2Proof.Laws Sys2Proof.Keeping Sys2Proof.FaultRules Sys2Proof.Bus Sys2Proof.Silencing

/-- Settles O23: a count at 32 has the port enter SILENT, at once after the veto that brings it there. -/
theorem countOf32SilencesThePort : Obligations.CountOf32SilencesThePort := by
  refine ⟨⟨fun s c detail hp hc => ?_, fun s ht hr => ?_⟩, fun s x hp hl hcol hab hst hf hcount => ?_⟩
  · have entered : ∃ u : State, exec c s = .next (u.enterSilent detail) ∧ u = { s with port := u.port, ctl := u.ctl } ∧
        u.ctl.state = s.ctl.state ∧ u.port.run = (if c = .portEntersSilent then s.port.run else none) := by
      rcases hc with ⟨x, rfl, hl, hcol, hcount⟩ | ⟨rfl, hcount⟩
      · obtain ⟨touches, state, tx, rx, run⟩ := runBroken_asked
          (s := s.setPort (s.port.vetoed s.port.sending.isSome (readFrame x.bits).isNone)) hcol
        refine ⟨_, ?_, touches, state, ?_⟩
        · rw [exec_frameVetoed, vetoFrame_full hp, takeVeto_eq, vetoed_limit hl hcount _ tx rx]
        · rw [run, if_neg (by simp)]
          exact (vetoed_spec _ _ _).2.1
      · refine ⟨s, ?_, rfl, rfl, (if_pos rfl).symm⟩
        rw [exec_portEntersSilent, if_pos hp]
        rcases hcount with ⟨rfl, ht⟩ | ⟨rfl, ht, hr⟩
        · rw [confine_tx ht]
        · rw [confine_rx ht hr]
    obtain ⟨u, hexec, touches, state, run⟩ := entered
    obtain ⟨⟨p1, p2, p3, p4, p5, p6, p7, p8⟩, ⟨b1, b2, b3, b4⟩, relay, ⟨c1, c2⟩, ⟨o1, o2, o3⟩, unsent⟩ :=
      enterSilent_silenced u detail
    have states : s.ctl.state ≠ .silent → s.ctl.state = .syncing ∨ s.ctl.state = .active ∨ s.ctl.state = .halted := by
      rcases full_states hp with h | h
      · exact fun hn => absurd h hn
      · exact fun _ => h
    have uFault : u.fault = s.fault := by rw [touches]
    have uComp : u.comp = s.comp := by rw [touches]
    have uLane : u.lane = s.lane := by rw [touches]
    refine ⟨_, hexec, p1, p2, p3, p4, p5, p6.trans ?_, p7, p8.trans run, b1, b2, b3.trans ?_, b4, relay,
      fun h => c2 (state ▸ states h), ?_, o1.trans ?_, o2.trans ?_, o3.trans uLane, fun f hrelay hlen => ?_, fun hclear => ?_⟩
    · rw [touches]
      rfl
    · rw [touches]
    · rw [c1, state]
      rcases full_states hp with h | h | h | h <;> simp [h]
    · rw [touches]
    · rw [touches]
    · have := unsent f (by rw [touches]; exact hrelay) (by rw [touches]; exact hlen)
      rw [touches] at this
      rwa [touches]
    · have vPhase : (silenced u).fault.phase = .clear := by simpa [silenced, uFault] using hclear
      have vCuttable : (silenced u).cuttable = s.cuttable :=
        cuttable_congr (by simp [silenced, uComp]) (by simp [silenced, uLane])
      have vCut : (silenced u).comp.cut = s.comp.cut := by simp [silenced, uComp]
      obtain ⟨claims, prefetch, cut, cutStep, phase⟩ := raise_silent_drops detail vPhase
      rw [← enterSilent_eq, vCuttable] at cut cutStep phase
      rw [← enterSilent_eq] at claims prefetch
      rw [vCut] at cut
      refine ⟨by rw [claims], by rw [claims], by rw [claims], prefetch, cut, cutStep, phase, ?_⟩
      rw [enterSilent_eq, (raise_clear _ _ _ _ _ vPhase).1, Sys2Proof.PlanEnd.bandOf_none]
      simp [silenced, uFault, FaultUnit.first]
  · rw [exec_portEntersSilent]
    split_ifs
    · rw [confine_below ht hr]
    · rfl
  · generalize hu : s.setPort (s.port.vetoed s.port.sending.isSome (readFrame x.bits).isNone) = u
    have uCtl : u.ctl = s.ctl := by simp [← hu]
    have uFault : u.fault = s.fault := by simp [← hu]
    have broken : u.runBroken = u.abandon 1 := if_pos (by rw [uCtl]; exact hcol)
    obtain ⟨-, -, -, -, third⟩ := abandon_spec u 1 (by rw [uCtl]; exact hst)
    obtain ⟨halted, -, record⟩ := third (by rw [uCtl]; exact hab.ge)
    have record := record (by rw [uFault]; exact hf)
    have tx : (u.abandon 1).port.tx = u.port.tx := by simp
    have rx : (u.abandon 1).port.rx = u.port.rx := by simp
    obtain ⟨detail, hcount⟩ : ∃ detail, detail = 1 ∧ s.port.sending.isSome = true ∧ s.port.tx = 31 ∨
        detail = 2 ∧ s.port.sending = none ∧ readFrame x.bits = none ∧ s.port.rx = 31 := by
      rcases hcount with h | h
      · exact ⟨1, .inl ⟨rfl, h⟩⟩
      · exact ⟨2, .inr ⟨rfl, h⟩⟩
    have confined : (u.abandon 1).confine = (u.abandon 1).enterSilent detail :=
      vetoed_limit hl hcount _ (by rw [tx, ← hu]; rfl) (by rw [rx, ← hu]; rfl)
    obtain ⟨⟨silent, -⟩, -, -, ⟨state, -⟩, -, -⟩ := enterSilent_silenced (u.abandon 1) detail
    refine ⟨_, ?_, silent, ?_, ?_⟩
    · rw [exec_frameVetoed, vetoFrame_full hp, takeVeto_eq, hu, broken, confined]
    · rw [state, halted]
      rfl
    · have phase : (silenced (u.abandon 1)).fault.phase ≠ .clear := by
        simpa [silenced] using abandon_third_phase (s := u) 1 (by rw [uCtl]; exact hab)
      rw [enterSilent_eq, (raise_again _ _ _ _ _ phase).1]
      simp [silenced, FaultUnit.counted, record, uFault, FaultUnit.first]
end

section
/-! PROOFS. The halt (R86, R159, R166): the releases it asks for, the LEAVE it offers, and its report. -/

namespace Sys2Proof.Halting

open Sys2Proof Sys2Proof.Machine Sys2Proof.Laws Sys2Proof.FaultRules Sys2Proof.LinkFaults

/-! ## The releases -/

theorem releaseAll_held {s : State} (h : s.fault.phase = .held) :
    s.releaseAll = s.claims.work.foldl (fun st e => State.askClosing st (.release e.page) e.page) s := by
  unfold State.releaseAll
  generalize s.claims.work = l
  induction l generalizing s with
  | nil => rfl
  | cons e l ih =>
    rw [List.foldl_cons, List.foldl_cons, if_pos h]
    exact ih (by simpa using h)

theorem releaseAll_awaited {s : State} (h : s.fault.phase ≠ .held) :
    s.releaseAll = s.claims.work.foldl (fun st e => State.awaitClose st (.release e.page) e.page) s := by
  unfold State.releaseAll
  generalize s.claims.work = l
  induction l generalizing s with
  | nil => rfl
  | cons e l ih =>
    rw [List.foldl_cons, List.foldl_cons, if_neg h]
    exact ih (by simpa using h)

/-- R166: what comes of asking for the closing frame of each page of a list that names each once. -/
theorem askAll_spec (frame : WorkEntry → Frame) (hf : ∀ w, closesOnly (frame w) w.page) :
    ∀ (l : List WorkEntry) (s : State), (l.map (fun w => w.page)).Nodup →
      let t := l.foldl (fun st e => State.askClosing st (frame e) e.page) s
      (∀ g, s.asked g → t.asked g) ∧ (∀ q, (∀ w ∈ l, w.page ≠ q) → t.closing q = s.closing q) ∧
      ∀ w ∈ l, t.closing w.page = true ∧ (s.closing w.page = false → t.asked (frame w)) := by
  intro l
  induction l with
  | nil => exact fun s _ => ⟨fun _ h => h, fun _ _ => rfl, by simp⟩
  | cons e l ih =>
    intro s hn
    obtain ⟨he, hl⟩ := List.nodup_cons.mp hn
    have other {w : WorkEntry} (hw : w ∈ l) : w.page ≠ e.page := fun h =>
      he (List.mem_map.mpr ⟨w, hw, h⟩)
    obtain ⟨hclosing, hasked, hkept, hothers⟩ := askClosing_spec s (frame e) e.page (hf e)
    obtain ⟨kasked, kothers, knew⟩ := ih (s.askClosing (frame e) e.page) hl
    refine ⟨fun g hg => kasked g (hkept g hg), fun q hq => ?_, fun w hw => ?_⟩
    · exact (kothers q (fun w hw => hq w (List.mem_cons_of_mem _ hw))).trans
        (hothers q (Ne.symm (hq e List.mem_cons_self)))
    · rcases List.mem_cons.mp hw with rfl | hw
      · exact ⟨(kothers w.page (fun x hx => other hx)).trans hclosing, fun hn => kasked _ (hasked hn)⟩
      · obtain ⟨h1, h2⟩ := knew w hw
        exact ⟨h1, fun hn => h2 ((hothers w.page (other hw)).trans hn)⟩

/-! ## HALTED -/

theorem dropsAtHalt_closes {b : TxBody} {page : Nat} (h : b.closes page = true) : b.dropsAtHalt = false := by
  cases b with
  | frame f => cases f <;> simp_all [TxBody.closes, Frame.closes, TxBody.dropsAtHalt]
  | run => cases h

/-- R159: the station as it enters HALTED, before its LEAVE. -/
def halted (s : State) : State :=
  (s.setCtl { s.ctl with state := .halted, syncTimer := none, collection := none, waiting := [] }).withdraw TxBody.dropsAtHalt

theorem enterHalted_silent {s : State} (h : s.port.silent = true) : s.enterHalted = halted s := if_pos h

theorem enterHalted_enabled {s : State} (h : s.port.silent = false) : s.enterHalted = (halted s).offerCtl .leave :=
  if_neg (by simp [h])

/-- R47: a frame that is offered leaves the closing frames asked for. -/
theorem offerLeave_closing (s : State) (page : Nat) : (s.offerCtl .leave).closing page = s.closing page := by
  rw [offerCtl_eq]
  split_ifs
  · simp [State.closing, State.enqueue, State.ctlBody, TxBody.closes, Frame.closes]
  · rfl

theorem offerLeave_asked {s : State} {f : Frame} (h : s.asked f) : (s.offerCtl .leave).asked f := by
  rw [offerCtl_eq]
  split_ifs
  · rcases h with h | ⟨x, hx, hb⟩
    · exact .inl h
    · exact .inr ⟨x, List.mem_append_left _ hx, hb⟩
  · exact h

theorem offerLeave_offered (s : State) : .leave ∈ (s.offerCtl .leave).ctl.waiting ∨
    ∃ x ∈ (s.offerCtl .leave).port.queue, x.body = .frame (.leave s.straps.station) := by
  rw [offerCtl_eq]
  split_ifs
  · exact .inr ⟨_, List.mem_append_right _ (List.mem_singleton.mpr rfl), rfl⟩
  · exact .inl (List.mem_append_right _ (List.mem_singleton.mpr rfl))

theorem enterHalted_closing (s : State) (page : Nat) : s.enterHalted.closing page = s.closing page := by
  have base : (halted s).closing page = s.closing page :=
    (withdraw_closing _ _ page (fun b => dropsAtHalt_closes)).trans (closing_congr rfl rfl page)
  cases h : s.port.silent
  · rw [enterHalted_enabled h, offerLeave_closing, base]
  · rw [enterHalted_silent h, base]

theorem enterHalted_asked {s : State} {page : Nat} (h : s.asked (.release page)) : s.enterHalted.asked (.release page) := by
  have base : (halted s).asked (.release page) := by
    rcases h with h | ⟨x, hx, hb⟩
    · exact .inl h
    · exact .inr ⟨x, List.mem_filter.mpr ⟨hx, by simp [hb, TxBody.dropsAtHalt]⟩, hb⟩
  cases hs : s.port.silent
  · rw [enterHalted_enabled hs]
    exact offerLeave_asked base
  · rwa [enterHalted_silent hs]

theorem enterHalted_offered {s : State} (h : s.port.silent = false) : .leave ∈ s.enterHalted.ctl.waiting ∨
    ∃ x ∈ s.enterHalted.port.queue, x.body = .frame (.leave s.straps.station) := by
  rw [enterHalted_enabled h]
  exact offerLeave_offered (halted s)

theorem enterHalted_state (s : State) : s.enterHalted.ctl.state = .halted := by
  cases h : s.port.silent
  · rw [enterHalted_enabled h]
    simp [halted]
  · rw [enterHalted_silent h]
    rfl

/-! ## The report (R168) -/

theorem sendFaultReport_eq {s : State} {r : FaultRecord} (n : Nat) (h : s.fault.record = some r) :
    s.sendFaultReport n = { s with
      link := s.link.handed ⟨s.straps.station, .faultReport
        { record := r, state := s.ctl.state, closed := s.fault.closed, lost := s.fault.lost, repeats := n }⟩
      fault := { s.fault with reportTimer := some 1000, repeats := n } } := by
  have sent : s.sendFaultReport n = (s.setLink (s.link.handed ⟨s.straps.station, .faultReport
      { record := r, state := s.ctl.state, closed := s.fault.closed, lost := s.fault.lost, repeats := n }⟩)).setFault
      { s.fault with reportTimer := some 1000, repeats := n } := by
    simp only [State.sendFaultReport, h, emit_link]
    simp only [← h]
    rfl
  exact sent

/-! ## The halt by the phase -/

theorem releaseAll_phase (s : State) : s.releaseAll.fault.phase = s.fault.phase ∧ s.releaseAll.port.silent = s.port.silent := by
  simp

theorem halt_held {s : State} (hst : s.ctl.state ≠ .halted) (hp : s.fault.phase = .held) (hs : s.port.silent = false) :
    s.halt = s.requestCut.releaseAll.enterHalted.repeatFaultReport := by
  unfold State.halt
  dsimp only
  rw [if_neg hst, if_neg (by simp [hp] : ¬ s.fault.phase = .recovering),
    if_neg (by simp [hs] : ¬ s.requestCut.port.silent = true),
    if_neg (by simp [hp] : ¬ (s.requestCut.releaseAll.fault.phase = .recovering ∧
      s.requestCut.releaseAll.port.silent = false)), if_pos (by simp [hp])]

theorem halt_recovering {s : State} (hst : s.ctl.state ≠ .halted) (hp : s.fault.phase = .recovering)
    (hs : s.port.silent = false) : s.halt = State.enterHalted (s.cutForRecovery.releaseAll.setFault
      { s.cutForRecovery.releaseAll.fault with haltStep := true }) := by
  unfold State.halt
  dsimp only
  rw [if_neg hst, if_pos hp, if_neg (by simp [hs] : ¬ s.cutForRecovery.port.silent = true),
    if_pos (by simp [hp, hs] : s.cutForRecovery.releaseAll.fault.phase = .recovering ∧
      s.cutForRecovery.releaseAll.port.silent = false), if_neg (by simp [hp])]

theorem halt_recovering_silent {s : State} (hst : s.ctl.state ≠ .halted) (hp : s.fault.phase = .recovering)
    (hs : s.port.silent = true) : s.halt = s.cutForRecovery.dropWork.enterHalted := by
  unfold State.halt
  dsimp only
  rw [if_neg hst, if_pos hp, if_pos (by simp [hs] : s.cutForRecovery.port.silent = true),
    if_neg (by simp [hs] : ¬ (s.cutForRecovery.dropWork.fault.phase = .recovering ∧
      s.cutForRecovery.dropWork.port.silent = false)), if_neg (by simp [hp])]

/-! ## A halt while a fault is held, and a first fault that halts -/

/-- R161, R166: a halting fault in HELD is counted, and what it comes to with each page listed once. -/
theorem raise_halting_held {s : State} {c : Cause} (p k : Option Nat) (d : Nat) (hc : c.halting = true)
    (hp : s.fault.phase = .held) (hr : s.fault.record.isSome = true) (hst : s.ctl.state ≠ .halted)
    (hs : s.port.silent = false) (hn : (s.claims.work.map (fun w => w.page)).Nodup) (hl : s.link.outbound.length < 64) :
    ∃ t q, s.raise c p k d = t ∧ t.ctl.state = .halted ∧ t.fault.phase = .held ∧
      t.fault.record = s.fault.counted ∧ t.fault.awaited = s.fault.awaited ∧ t.fault.reportTimer = some 1000 ∧
      t.link.outbound = s.link.outbound ++ [⟨s.straps.station, .faultReport q⟩] ∧
      some q.record = s.fault.counted ∧ q.state = .halted ∧ q.closed = s.fault.closed ∧ q.lost = s.fault.lost ∧
      q.repeats = min (s.fault.repeats + 1) 255 ∧ t.fault.repeats = q.repeats ∧
      t.comp.cut = (s.comp.cut || s.cuttable) ∧ t.lane = s.lane ∧ t.claims.work = s.claims.work ∧
      (∀ w ∈ s.claims.work, t.closing w.page = true ∧ (s.closing w.page = false → t.asked (.release w.page))) ∧
      (.leave ∈ t.ctl.waiting ∨ ∃ x ∈ t.port.queue, x.body = .frame (.leave s.straps.station)) := by
  obtain ⟨r, hrec⟩ : ∃ r, s.fault.counted = some r := by
    obtain ⟨r, hr⟩ := Option.isSome_iff_exists.mp hr
    exact ⟨_, congrArg (Option.map _) hr⟩
  let u := s.setFault { s.fault with record := s.fault.counted }
  let v := u.requestCut
  let ask (st : State) (e : WorkEntry) : State := State.askClosing st (.release e.page) e.page
  let w := v.claims.work.foldl ask v
  have work : v.claims.work = s.claims.work := by simp [v, u]
  have vFault : v.fault = { s.fault with record := s.fault.counted } := by simp [v, u]
  have vPort : v.port = s.port := by simp [v, u]
  have keeps {β : Type} (f : State → β) (hf : ∀ st e, f (ask st e) = f st) : f w = f v := foldl_keeps f ask hf _ _
  have wFault : w.fault = { s.fault with record := s.fault.counted } :=
    (keeps (fun t => t.fault) (by intros; simp [ask])).trans vFault
  have wSilent : w.port.silent = false := by
    rw [keeps (fun t => t.port.silent) (by intros; simp [ask]), vPort, hs]
  have wLink : w.link = s.link := by
    rw [keeps (fun t => t.link) (by intros; simp [ask])]
    simp [v, u]
  have wStraps : w.straps = s.straps := by
    rw [keeps (fun t => t.straps) (by intros; simp [ask])]
    simp [v, u]
  have wCut : w.comp.cut = (s.comp.cut || s.cuttable) := by
    rw [keeps (fun t => t.comp.cut) (by intros; simp [ask]), requestCut_cut]
    exact congrArg₂ _ (by simp [u]) (cuttable_congr (by simp [u]) (by simp [u]))
  have wLane : w.lane = s.lane := by
    rw [keeps (fun t => t.lane) (by intros; simp [ask])]
    simp [v, u]
  have wWork : w.claims.work = s.claims.work := (keeps (fun t => t.claims.work) (by intros; simp [ask])).trans work
  have halts : u.halt = w.enterHalted.repeatFaultReport := by
    have vHeld : v.fault.phase = .held := by rw [vFault]; exact hp
    have vReleased : v.releaseAll = w := releaseAll_held vHeld
    rw [halt_held (s := u) (by simpa [u] using hst) (by simpa [u] using hp) (by simpa [u] using hs)]
    exact congrArg (fun x : State => x.enterHalted.repeatFaultReport) vReleased
  have hFault : w.enterHalted.fault = { s.fault with record := s.fault.counted } := by simpa using wFault
  have hLink : w.enterHalted.link = s.link := by simpa using wLink
  have hStraps : w.enterHalted.straps = s.straps := by simpa using wStraps
  have reported := sendFaultReport_eq (s := w.enterHalted) (r := r) (min (s.fault.repeats + 1) 255) (by rw [hFault]; exact hrec)
  have whole : s.raise c p k d = w.enterHalted.sendFaultReport (min (s.fault.repeats + 1) 255) := by
    have raised : s.raise c p k d = u.halt.tryEnd := by
      rw [State.raise, if_neg (by simp [hp]), State.followOnActs, if_pos hc]
      rfl
    have again : w.enterHalted.repeatFaultReport = w.enterHalted.sendFaultReport (min (s.fault.repeats + 1) 255) := by
      rw [State.repeatFaultReport, hFault]
    rw [raised, halts, again]
    refine tryEnd_stands _ (.inl ?_)
    rw [reported]
    exact (congrArg FaultUnit.phase hFault).trans hp
  obtain ⟨-, -, hasked⟩ := askAll_spec (fun e => .release e.page) (fun e => closesOnly_release e.page) v.claims.work v
    (by rw [work]; exact hn)
  have closing (q : Nat) : v.closing q = s.closing q := closing_congr (by simp [v, u]) (by rw [vPort]) q
  refine ⟨_, ⟨r, w.enterHalted.ctl.state, w.enterHalted.fault.closed, w.enterHalted.fault.lost,
      min (s.fault.repeats + 1) 255⟩, whole.trans reported, enterHalted_state w, ?_, ?_, ?_, rfl, ?_, hrec.symm, enterHalted_state w, ?_, ?_, rfl,
    rfl, ?_, ?_, ?_, fun x hx => ?_, ?_⟩
  · exact (congrArg FaultUnit.phase hFault).trans hp
  · exact (congrArg FaultUnit.record hFault :)
  · exact (congrArg FaultUnit.awaited hFault :)
  · rw [hLink, hStraps]
    exact congrArg Link.outbound (if_pos hl)
  · exact (congrArg FaultUnit.closed hFault :)
  · exact (congrArg FaultUnit.lost hFault :)
  · simpa using wCut
  · simpa using wLane
  · simpa using wWork
  · obtain ⟨h1, h2⟩ := hasked x (work ▸ hx)
    refine ⟨(closing_congr rfl rfl x.page).trans ((enterHalted_closing w x.page).trans h1), fun hcl => ?_⟩
    exact asked_congr rfl rfl (enterHalted_asked (h2 ((closing _).trans hcl)))
  · rw [← wStraps]
    exact enterHalted_offered wSilent

/-- R162: the station as its first fault begins a recovery. -/
structure Begun (s u : State) : Prop where
  phase : u.fault.phase = .recovering
  fresh : u.fault.deferred = [] ∧ u.fault.awaited = [] ∧ u.fault.cutStep = false ∧ u.fault.flushStep = false ∧
    u.fault.haltStep = false
  same : u.ctl = s.ctl ∧ u.lane = s.lane ∧ u.comp = s.comp ∧ u.straps = s.straps ∧ u.claims.work = s.claims.work ∧
    u.port.silent = s.port.silent
  closing : ∀ q, u.closing q = s.closing q

theorem recorded_begun (s : State) (c : Cause) (p k : Option Nat) (d : Nat) :
    Begun s (s.recordFault c p k d).reviewPending := by
  refine ⟨by simp [State.recordFault], by simp [State.recordFault], by simp, fun q => ?_⟩
  exact (reviewPending_closing _ q).trans (closing_congr (by simp) (by simp) q)

theorem raise_halting_clear {s : State} {c : Cause} (p k : Option Nat) (d : Nat) (hc : c.halting = true)
    (hp : s.fault.phase = .clear) : s.raise c p k d = (s.recordFault c p k d).reviewPending.halt.tryEnd := by
  rw [State.raise, if_pos hp, State.recover, if_pos hc]

/-- R166: a first fault that halts a station whose port is ENABLED waits for its closing frames and its LEAVE. -/
theorem raise_halting_enabled {s : State} {c : Cause} (p k : Option Nat) (d : Nat) (hc : c.halting = true)
    (hp : s.fault.phase = .clear) (hst : s.ctl.state ≠ .halted) (hs : s.port.silent = false)
    (hn : (s.claims.work.map (fun w => w.page)).Nodup) :
    let t := s.raise c p k d
    t.comp.cut = (s.comp.cut || s.cuttable) ∧ t.fault.cutStep = s.cuttable ∧ t.claims.work = s.claims.work ∧
    t.fault.awaited = s.claims.work.map (fun w => w.page) ∧ t.fault.haltStep = true ∧ t.fault.phase = .recovering ∧
    (∀ w ∈ s.claims.work, t.closing w.page = true ∧ (s.closing w.page = false → t.asked (.release w.page))) ∧
    (.leave ∈ t.ctl.waiting ∨ ∃ x ∈ t.port.queue, x.body = .frame (.leave s.straps.station)) := by
  rw [raise_halting_clear p k d hc hp]
  obtain ⟨uPhase, ⟨-, uAwaited, uCut, -, -⟩, ⟨uCtl, uLane, uComp, uStraps, uWork, uSilent⟩, uClosing⟩ :=
    recorded_begun s c p k d
  generalize (s.recordFault c p k d).reviewPending = u at *
  have cuttable : u.cuttable = s.cuttable := cuttable_congr (by rw [uComp]) (by rw [uLane])
  let ask (st : State) (e : WorkEntry) : State := State.awaitClose st (.release e.page) e.page
  let v := u.cutForRecovery
  let w := v.claims.work.foldl ask v
  have work : v.claims.work = s.claims.work := by simp [v, uWork]
  have vAwaited : v.fault.awaited = [] := by simp [v, uAwaited]
  have vPhase : v.fault.phase = .recovering := by simp [v, uPhase]
  have vReleased : v.releaseAll = w := releaseAll_awaited (by simp [vPhase])
  have keeps {β : Type} (f : State → β) (hf : ∀ st e, f (ask st e) = f st) : f w = f v := foldl_keeps f ask hf _ _
  have halts : u.halt = (w.setFault { w.fault with haltStep := true }).enterHalted := by
    rw [halt_recovering (by rw [uCtl]; exact hst) uPhase (uSilent.trans hs)]
    exact congrArg (fun x : State => (x.setFault { x.fault with haltStep := true }).enterHalted) vReleased
  have wPhase : w.fault.phase = .recovering := (keeps (fun t => t.fault.phase) (by intros; simp [ask])).trans vPhase
  obtain ⟨wAwaited, -, -, hasked⟩ := awaitAll_spec (fun e => .release e.page) (fun e => closesOnly_release e.page)
    v.claims.work v (by rw [work]; exact hn) (by simp [vAwaited])
  have wAwaited : w.fault.awaited = s.claims.work.map (fun w => w.page) := by
    rw [← work, ← List.nil_append (List.map _ _), ← vAwaited]
    exact wAwaited
  have stays : u.halt.tryEnd = u.halt := by
    refine tryEnd_stands _ (.inr ?_)
    rw [halts]
    simp [FaultUnit.settled, wPhase]
  have vClosing (q : Nat) : v.closing q = s.closing q := (closing_congr (s := u) (by simp [v]) (by simp [v]) q).trans (uClosing q)
  have wSilent : w.port.silent = false := by
    rw [keeps (fun t => t.port.silent) (by intros; simp [ask])]
    simpa [v] using uSilent.trans hs
  have wStraps : w.straps = s.straps := by
    rw [keeps (fun t => t.straps) (by intros; simp [ask])]
    simpa [v] using uStraps
  intro t
  have tEq : t = (w.setFault { w.fault with haltStep := true }).enterHalted := stays.trans halts
  rw [tEq]
  refine ⟨?_, ?_, ?_, ?_, ?_, ?_, fun x hx => ?_, ?_⟩
  · simp only [enterHalted_frame, setFault_comp]
    rw [keeps (fun t => t.comp.cut) (by intros; simp [ask]), cutForRecovery_cut, cuttable, uComp]
  · simp only [enterHalted_frame, setFault_fault]
    rw [keeps (fun t => t.fault.cutStep) (by intros; simp [ask]), cutForRecovery_cutStep, cuttable, uCut, Bool.false_or]
  · simp only [enterHalted_frame, setFault_claims]
    rw [keeps (fun t => t.claims.work) (by intros; simp [ask]), work]
  · simpa using wAwaited
  · simp
  · simpa using wPhase
  · obtain ⟨h1, h2⟩ := hasked x (work ▸ hx)
    refine ⟨(enterHalted_closing _ x.page).trans h1, fun hcl => ?_⟩
    exact enterHalted_asked (asked_congr rfl rfl (h2 ((vClosing _).trans hcl)))
  · rw [← wStraps]
    exact enterHalted_offered (s := w.setFault { w.fault with haltStep := true }) wSilent

/-- R166: a first fault that halts a station whose port is SILENT drops its work list and offers no LEAVE. -/
theorem raise_halting_silent {s : State} {c : Cause} (p k : Option Nat) (d : Nat) (hc : c.halting = true)
    (hp : s.fault.phase = .clear) (hst : s.ctl.state ≠ .halted) (hs : s.port.silent = true) :
    let t := s.raise c p k d
    t.comp.cut = (s.comp.cut || s.cuttable) ∧ t.fault.cutStep = s.cuttable ∧ t.claims.work = [] ∧ t.claims.waiting = [] ∧
    t.fault.awaited = [] ∧ t.fault.haltStep = false ∧ t.ctl.waiting = [] ∧
    t.fault.phase = (if s.cuttable = true then .recovering else .held) := by
  rw [raise_halting_clear p k d hc hp]
  obtain ⟨uPhase, ⟨uDeferred, -, uCut, uFlush, uHalt⟩, ⟨uCtl, uLane, uComp, -, -, uSilent⟩, -⟩ := recorded_begun s c p k d
  generalize (s.recordFault c p k d).reviewPending = u at *
  have cuttable : u.cuttable = s.cuttable := cuttable_congr (by rw [uComp]) (by rw [uLane])
  generalize hv : u.cutForRecovery.dropWork = v
  have halts : u.halt = halted v := by
    rw [halt_recovering_silent (by rw [uCtl]; exact hst) uPhase (uSilent.trans hs), hv]
    exact enterHalted_silent (by rw [← hv]; simpa using uSilent.trans hs)
  have vFault : v.fault.phase = .recovering ∧ v.fault.deferred = [] ∧ v.fault.awaited = [] ∧ v.fault.cutStep = s.cuttable ∧
      v.fault.flushStep = false ∧ v.fault.haltStep = false := by
    rw [← hv]
    refine ⟨by simpa using uPhase, by simpa using uDeferred, by simp [State.dropWork], ?_, by simpa using uFlush,
      by simpa using uHalt⟩
    simp [uCut, cuttable]
  obtain ⟨vPhase, vDeferred, vAwaited, vCut, vFlush, vHalt⟩ := vFault
  have settled : (halted v).fault.settled = !s.cuttable := by
    simp [halted, FaultUnit.settled, vAwaited, vCut, vFlush, vHalt]
  obtain ⟨tClaims, -⟩ := tryEnd_asks (s := halted v) (by simpa [halted] using vDeferred)
  have claims : v.claims.work = [] ∧ v.claims.waiting = [] := by
    rw [← hv]
    simp [State.dropWork, State.withdraw]
  rw [halts]
  intro t
  refine ⟨?_, ?_, ?_, ?_, ?_, ?_, ?_, ?_⟩
  · simp [t, halted, ← hv, uComp, cuttable]
  · simpa [t, halted] using vCut
  · exact (congrArg Claims.work tClaims).trans claims.1
  · exact (congrArg Claims.waiting tClaims).trans claims.2
  · simpa [t, halted] using vAwaited
  · simpa [t, halted] using vHalt
  · simp [t, halted]
  · simp only [t, tryEnd_phase, settled]
    rw [show (halted v).fault.phase = .recovering from vPhase]
    cases s.cuttable <;> rfl

end Sys2Proof.Halting
end

section
/-! PROOFS. A board frame at a station that hears it: the replica, the lease timers and the complete flag (R22 to R33, R37,
R134, R138). -/

namespace Sys2Proof.Hearing

open Sys2Proof Sys2Proof.Machine Sys2Proof.Laws Sys2Proof.Bus

/-! ## What the blocks meet, and what follows -/

/-- R140, R141: the station as a frame that passed reaches its blocks. -/
def heard (s : State) (h : FrameHdr) (f : Frame) : State := s.setPort (passedPort s h f)

theorem applyFrame_hears {s : State} (hs : s.hears) (h : FrameHdr) (f : Frame) (act : State → State) :
    s.applyFrame h f act = (act (heard s h f)).afterFrame := by
  have idle : s.passFrame h f = heard s h f := by
    show (heard s h f).meetCollection h.sender f = heard s h f
    simp [State.meetCollection, heard, hs.2]
  rw [applyFrame_full hs.1, idle]

/-- Nothing but the board, the queue, the outbound list and the pending claim has changed. -/
def Quietly (s t : State) : Prop :=
  t = { s with board := t.board, port := t.port, link := t.link,
               claims := { s.claims with pending := t.claims.pending } }

theorem Quietly.trans {s t u : State} (a : Quietly s t) (b : Quietly t u) : Quietly s u := by
  unfold Quietly at *
  rw [b, a]

theorem heard_quietly (s : State) (h : FrameHdr) (f : Frame) : Quietly s (heard s h f) := rfl

theorem setBoard_quietly (s : State) (b : Board) : Quietly s (s.setBoard b) := rfl

theorem boardFrame_quietly (s : State) (sender : Nat) (f : Frame) : Quietly s (s.boardFrame sender f) := by
  unfold State.boardFrame
  split
  · rfl
  · split <;> rfl

theorem emit_quietly (s : State) (b : OutBody) : Quietly s (s.emit b) := by
  rw [emit_link]
  rfl

theorem reviewComplete_quietly (s : State) : Quietly s s.reviewComplete := by
  unfold State.reviewComplete
  split
  · rfl
  · dsimp only
    split_ifs
    · exact (setBoard_quietly s _).trans ((setBoard_quietly _ _).trans (emit_quietly _ _))
    · rfl

theorem reviewPending_quietly (s : State) : Quietly s s.reviewPending := by
  unfold State.reviewPending
  split
  · split_ifs <;> rfl
  · rfl

theorem evalClaim_quietly (s : State) : Quietly s s.evalClaim := by
  unfold State.evalClaim
  split
  · split_ifs <;> rfl
  · rfl

theorem afterFrame_quietly (s : State) : Quietly s s.afterFrame := by
  unfold State.afterFrame
  refine Quietly.trans ?_ ((reviewPending_quietly _).trans (evalClaim_quietly _))
  split <;> rfl

/-! ## The complete flag (R37) -/

/-- R37: the replica with its complete flag evaluated. -/
def reviewed (r : Replica) : Replica := { r with complete := completeBoard r.entries }

theorem reviewComplete_replica {s : State} {r : Replica} (h : s.board.replica = some r) :
    s.reviewComplete.board.replica = some (reviewed r) ∧ s.reviewComplete.board.leases = s.board.leases ∧
    s.reviewComplete.board.lastLaunched = s.board.lastLaunched := by
  unfold State.reviewComplete
  rw [h]
  dsimp only
  split_ifs
  · simp [reviewed]
  · exact ⟨rfl, rfl, rfl⟩

theorem reviewComplete_absent {s : State} (h : s.board.replica = none) : s.reviewComplete = s := by
  simp only [State.reviewComplete, h]

/-- R37: where the flag does not pass from clear to set, nothing goes upstream. -/
theorem reviewComplete_quiet {s : State} {r : Replica} (h : s.board.replica = some r)
    (hc : ¬ (r.complete = false ∧ completeBoard r.entries = true)) :
    s.reviewComplete = s.setBoard { s.board with replica := some (reviewed r) } := by
  have no : ¬ (completeBoard r.entries && !r.complete) = true := by
    intro hn
    simp only [Bool.and_eq_true, Bool.not_eq_true'] at hn
    exact hc ⟨hn.2, hn.1⟩
  unfold State.reviewComplete
  rw [h]
  exact if_neg no

theorem reviewComplete_reports {s : State} {r : Replica} (h : s.board.replica = some r)
    (hr : r.complete = false) (hc : completeBoard r.entries = true) :
    s.reviewComplete = (s.setBoard { s.board with
      replica := some (reviewed r), completions := min (s.board.completions + 1) 255 }).emit
      (.volumeReport (r.report s.roster.identity s.board.lastLaunched (min (s.board.completions + 1) 255))) := by
  unfold State.reviewComplete
  rw [h]
  exact if_pos (by rw [hr, hc]; rfl)

/-! ## The replica and the lease timers (R25 to R33) -/

theorem boardFate_taken {s : State} {sender : Nat} {f : Frame} {r r' : Replica} (hr : s.board.replica = some r)
    (ha : r.apply s.roster.identity sender f = some r') : s.boardFate sender f = .taken := by
  simp [State.boardFate, hr, ha]

theorem boardFate_void {s : State} {sender : Nat} {f : Frame} {r : Replica} (hr : s.board.replica = some r)
    (ha : r.apply s.roster.identity sender f = none) : s.boardFate sender f = .void := by
  simp [State.boardFate, hr, ha]

theorem boardFate_ignored {s : State} (sender : Nat) (f : Frame) (hr : s.board.replica = none) :
    s.boardFate sender f = .ignored := by
  simp [State.boardFate, hr]

theorem boardFrame_taken {s : State} {sender : Nat} {f : Frame} {r r' : Replica} (hr : s.board.replica = some r)
    (ha : r.apply s.roster.identity sender f = some r') : s.boardFrame sender f = s.setBoard { s.board with
      replica := some r', leases := leasesAfter s.straps.station r.entries r'.entries s.board.leases } := by
  simp only [State.boardFrame, hr, ha]

theorem boardFrame_void {s : State} {sender : Nat} {f : Frame} {r : Replica} (hr : s.board.replica = some r)
    (ha : r.apply s.roster.identity sender f = none) : s.boardFrame sender f = s := by
  simp only [State.boardFrame, hr, ha]

theorem boardFrame_ignored {s : State} (sender : Nat) (f : Frame) (hr : s.board.replica = none) :
    s.boardFrame sender f = s := by
  simp only [State.boardFrame, hr]

/-- R33: the timer of a page whose claim and mark stand goes on; another's is as its new entry has it. -/
theorem leasesAfter_at {station : Nat} {before after : List Entry} {leases : List (Option Lease)} {p : Nat} {a b : Entry}
    (ha : before[p]? = some a) (hb : after[p]? = some b) :
    (leasesAfter station before after leases)[p]? =
      (leases[p]?).map (fun l => if a.status = b.status ∧ a.mark = b.mark then l else leaseFor station b) := by
  simp only [leasesAfter, List.getElem?_mapIdx, ha, hb]

theorem leasesAfter_same {station : Nat} {before after : List Entry} {leases : List (Option Lease)} {p : Nat}
    (h : after[p]? = before[p]?) : (leasesAfter station before after leases)[p]? = leases[p]? := by
  simp only [leasesAfter, List.getElem?_mapIdx, h]
  cases leases[p]? with
  | none => rfl
  | some l => cases before[p]? <;> simp

theorem leasesAfter_self (station : Nat) (es : List Entry) (leases : List (Option Lease)) :
    leasesAfter station es es leases = leases :=
  List.ext_getElem? (fun _ => leasesAfter_same rfl)

theorem put_at {r : Replica} {page : Nat} {e : Entry} (h : r.entries[page]? = some e) (e' : Entry) :
    (r.put page e').entries[page]? = some e' := by
  rw [Replica.put]
  exact List.getElem?_set_self (List.getElem?_eq_some_iff.mp h).1

theorem put_other (r : Replica) {page q : Nat} (h : q ≠ page) (e' : Entry) :
    (r.put page e').entries[q]? = r.entries[q]? := by
  rw [Replica.put]
  exact List.getElem?_set_ne (Ne.symm h)

/-- R33: the timer of the page that a frame has changed. -/
theorem leasesAfter_put {station : Nat} {r : Replica} {page : Nat} {e e' : Entry} {leases : List (Option Lease)}
    (he : r.entries[page]? = some e) (hne : ¬ (e.status = e'.status ∧ e.mark = e'.mark)) (hl : page < leases.length) :
    (leasesAfter station r.entries (r.put page e').entries leases)[page]? = some (leaseFor station e') := by
  rw [leasesAfter_at he (put_at he e'), List.getElem?_eq_getElem hl, Option.map_some, if_neg hne]

/-! ## The board after a frame for one page -/

/-- R22 to R30: the replica with the entry of one page put and the timers after it, the complete flag aside. -/
structure BoardPut (s : State) (b : Board) (r : Replica) (page : Nat) (e' : Entry) (r' : Replica) : Prop where
  replica : b.replica = some r'
  present : r'.present = r.present
  entries : r'.entries = r.entries.set page e'
  leases : b.leases = leasesAfter s.straps.station r.entries (r.put page e').entries s.board.leases
  launched : b.lastLaunched = s.board.lastLaunched

section
variable {s : State} {b : Board} {r r' : Replica} {page : Nat} {e e' : Entry}

theorem BoardPut.other (p : BoardPut s b r page e' r') {q : Nat} (h : q ≠ page) :
    r'.entries[q]? = r.entries[q]? ∧ b.leases[q]? = s.board.leases[q]? := by
  refine ⟨?_, ?_⟩
  · rw [p.entries]
    exact List.getElem?_set_ne (Ne.symm h)
  · rw [p.leases]
    exact leasesAfter_same (put_other r h e')

theorem BoardPut.entry (p : BoardPut s b r page e' r') (he : r.entries[page]? = some e) : r'.entries[page]? = some e' := by
  rw [p.entries]
  exact put_at he e'

theorem BoardPut.lease (p : BoardPut s b r page e' r') (he : r.entries[page]? = some e)
    (hne : ¬ (e.status = e'.status ∧ e.mark = e'.mark)) (hl : page < s.board.leases.length) :
    b.leases[page]? = some (leaseFor s.straps.station e') := by
  rw [p.leases]
  exact leasesAfter_put he hne hl

theorem put_same (he : r.entries[page]? = some e) : (r.put page e).entries = r.entries := by
  obtain ⟨hl, h⟩ := List.getElem?_eq_some_iff.mp he
  rw [Replica.put, ← h]
  exact List.set_getElem_self _

theorem BoardPut.same (p : BoardPut s b r page e r') (he : r.entries[page]? = some e) :
    r'.entries = r.entries ∧ b.leases = s.board.leases := by
  refine ⟨p.entries.trans (put_same he), ?_⟩
  rw [p.leases, put_same he, leasesAfter_self]

theorem reviewComplete_board_congr {t : State} (h : s.board = t.board) : s.reviewComplete.board = t.reviewComplete.board := by
  cases hr : s.board.replica with
  | none => rw [reviewComplete_absent hr, reviewComplete_absent (h ▸ hr), h]
  | some r =>
    have ht : t.board.replica = some r := h ▸ hr
    by_cases hc : r.complete = false ∧ completeBoard r.entries = true
    · rw [reviewComplete_reports hr hc.1 hc.2, reviewComplete_reports ht hc.1 hc.2]
      simp [h]
    · rw [reviewComplete_quiet hr hc, reviewComplete_quiet ht hc]
      simp [h]

/-- R22 to R30, R37: a board frame for one page puts that page's entry, or, when it is void, leaves it. -/
theorem boardFrame_put {sender : Nat} {f : Frame} {taken : Prop} [Decidable taken] (hr : s.board.replica = some r)
    (he : r.entries[page]? = some e)
    (ha : r.apply s.roster.identity sender f = if taken then some (r.put page e') else none) :
    ∃ r', BoardPut s (s.boardFrame sender f).board r page (if taken then e' else e) r' := by
  by_cases ht : taken
  · rw [if_pos ht] at ha ⊢
    rw [boardFrame_taken hr ha]
    exact ⟨_, rfl, rfl, rfl, rfl, rfl⟩
  · rw [if_neg ht] at ha ⊢
    rw [boardFrame_void hr ha]
    exact ⟨r, hr, rfl, (put_same he).symm, by rw [put_same he, leasesAfter_self], rfl⟩

theorem BoardPut.review {t : State} (p : BoardPut s t.board r page e' r') :
    BoardPut s t.reviewComplete.board r page e' (reviewed r') := by
  obtain ⟨h1, h2, h3⟩ := reviewComplete_replica p.replica
  exact ⟨h1, p.present, p.entries, h2.trans p.leases, h3.trans p.launched⟩

end

/-! ## The frames for one page (R25 to R30) -/

theorem apply_claim {r : Replica} {page : Nat} {e : Entry} (he : r.entries[page]? = some e) (identity : Option Id32)
    (sender claimant : Nat) : r.apply identity sender (.claim page claimant) =
      if e.status = .opened ∧ claimant = sender ∧ r.isPresent sender = true then some (r.put page (e.claim sender))
      else none := by
  simp only [Replica.apply, he]

theorem apply_renew {r : Replica} {page : Nat} {e : Entry} (he : r.entries[page]? = some e) (identity : Option Id32)
    (sender : Nat) : r.apply identity sender (.renew page) =
      if e.status = .claimed sender then some (r.put page e.renew) else none := by
  simp only [Replica.apply, he]

theorem apply_lapse {r : Replica} {page : Nat} {e : Entry} (he : r.entries[page]? = some e) (identity : Option Id32)
    (sender holder mark : Nat) : r.apply identity sender (.lapse page holder mark) =
      if e.status = .claimed holder ∧ e.mark = mark then some (r.put page (e.lapse holder)) else none := by
  simp only [Replica.apply, he]

theorem apply_done {r : Replica} {page : Nat} {e : Entry} (he : r.entries[page]? = some e) (identity : Option Id32)
    (sender edition : Nat) : r.apply identity sender (.done page edition) =
      if e.status = .claimed sender then some (r.put page (e.done sender edition)) else none := by
  simp only [Replica.apply, he]

theorem apply_release {r : Replica} {page : Nat} {e : Entry} (he : r.entries[page]? = some e) (identity : Option Id32)
    (sender : Nat) : r.apply identity sender (.release page) =
      if e.status = .claimed sender then some (r.put page e.open) else none := by
  simp only [Replica.apply, he]

theorem apply_fail {r : Replica} {page : Nat} {e : Entry} (he : r.entries[page]? = some e) (identity : Option Id32)
    (sender : Nat) {code : Nat} {c : FailCause} (hc : failCauseOf code = some c) :
    r.apply identity sender (.fail page code) =
      if e.status = .claimed sender then some (r.put page { e with status := .failed sender c }) else none := by
  simp only [Replica.apply, he, hc]

theorem apply_fail_bad {r : Replica} (page : Nat) (identity : Option Id32) (sender : Nat) {code : Nat}
    (hc : failCauseOf code = none) : r.apply identity sender (.fail page code) = none := by
  simp only [Replica.apply, hc]
  cases r.entries[page]? <;> rfl

/-- A frame for a page that the plan does not have is void. -/
theorem apply_beyond {r : Replica} {page : Nat} (h : r.entries[page]? = none) (identity : Option Id32) (sender : Nat)
    (f : Frame) (hf : (∃ n, f = .claim page n) ∨ f = .renew page ∨ (∃ n, f = .done page n) ∨ f = .release page ∨
      ∃ n, f = .fail page n) : r.apply identity sender f = none := by
  rcases hf with ⟨n, rfl⟩ | rfl | ⟨n, rfl⟩ | rfl | ⟨n, rfl⟩ <;> simp only [Replica.apply, h]

/-! ## The board under those frames' blocks -/

theorem leaveReport_board (s : State) (page : Nat) (edition : Option Nat) (o : PageOutcome) (n : Option Notices) :
    (((s.leaveWork page).reportPage page edition o n).closeApplied page).board = s.reviewComplete.board := by
  simp only [State.closeApplied, tryEnd_frame]
  exact reviewComplete_board_congr (by simp)

theorem report_board (s : State) (page : Nat) (edition : Option Nat) (o : PageOutcome) (n : Option Notices) :
    ((s.reportPage page edition o n).closeApplied page).board = s.reviewComplete.board := by
  simp only [State.closeApplied, tryEnd_frame]
  exact reviewComplete_board_congr (by simp)

theorem leave_board (s : State) (page : Nat) :
    ((s.leaveWork page).closeApplied page).board = s.reviewComplete.board := by
  simp only [State.closeApplied, tryEnd_frame]
  exact reviewComplete_board_congr (by simp)

theorem close_board (s : State) (page : Nat) : (s.closeApplied page).board = s.reviewComplete.board := by
  simp only [State.closeApplied, tryEnd_frame]
  exact reviewComplete_board_congr (by simp)

/-- An ignored frame finds no replica to review. -/
theorem ignored_board {s : State} {sender : Nat} {f : Frame} (h : s.boardFate sender f = .ignored) :
    (s.boardFrame sender f).board = (s.boardFrame sender f).reviewComplete.board := by
  cases hr : s.board.replica with
  | none => rw [boardFrame_ignored sender f hr, reviewComplete_absent hr]
  | some r =>
    cases ha : r.apply s.roster.identity sender f with
    | none => simp [boardFate_void hr ha] at h
    | some r' => simp [boardFate_taken hr ha] at h

theorem claimFrame_board (s : State) (h : FrameHdr) (page claimant : Nat) : (s.claimFrame h page claimant).board =
    (s.boardFrame h.sender (.claim page claimant)).reviewComplete.board := by
  unfold State.claimFrame
  dsimp only
  refine reviewComplete_board_congr ?_
  split_ifs
  · split
    · unfold State.releaseIfBarred
      split_ifs <;> simp
    · simp
    · rfl
  · rfl

theorem doneFrame_board (s : State) (h : FrameHdr) (page edition : Nat) : (s.doneFrame h page edition).board =
    (s.boardFrame h.sender (.done page edition)).reviewComplete.board := by
  unfold State.doneFrame
  dsimp only
  split_ifs
  · split
    · exact leaveReport_board _ _ _ _ _
    · exact report_board _ _ _ _ _
    next hf => exact ignored_board hf
  · rfl

theorem releaseFrame_board (s : State) (h : FrameHdr) (page : Nat) : (s.releaseFrame h page).board =
    (s.boardFrame h.sender (.release page)).reviewComplete.board := by
  unfold State.releaseFrame
  dsimp only
  split_ifs
  · split
    · exact leave_board _ _
    · exact close_board _ _
    next hf => exact ignored_board hf
  · rfl

theorem failFrame_board (s : State) (h : FrameHdr) (page cause : Nat) : (s.failFrame h page cause).board =
    (s.boardFrame h.sender (.fail page cause)).reviewComplete.board := by
  unfold State.failFrame
  dsimp only
  split_ifs
  · split
    · exact leaveReport_board _ _ _ _ _
    · exact close_board _ _
    next hf => exact ignored_board hf
  · rfl

end Sys2Proof.Hearing
end

section
/-! PROOFS. The follow-ons of a fault, and the sync timer (R86, R107, R108, R153, R156, R159, R161, R166). -/

namespace Sys2Proof.FollowOns

open Sys2Proof Sys2Proof.Machine Sys2Proof.Laws Sys2Proof.FaultRules Sys2Proof.Bus Sys2Proof.Hearing
  Sys2Proof.Halting Sys2Proof.Silencing

/-! ## A claim lost while a fault is held (R27, R165) -/

/-- R165: a cut is requested when the lost page is the held one. -/
theorem cutIfHeld_comp (s : State) (page : Nat) :
    (∀ x, s.comp.held = some x → x.page = page → (s.cutIfHeld (some page)).comp.cut = (s.comp.cut || s.cuttable)) ∧
    ((∀ x, s.comp.held = some x → x.page ≠ page) → (s.cutIfHeld (some page)).comp = s.comp) := by
  unfold State.cutIfHeld
  refine ⟨fun x hx hp => ?_, fun hn => ?_⟩
  · rw [hx]
    simp [hp]
  · split
    next x hx =>
      rw [if_neg (fun h => hn x hx (Option.some.inj h).symm)]
    · rfl

theorem raise_lost_held {s : State} (page d : Nat) (h : s.fault.phase = .held) :
    s.raise .claimLost (some page) none d = (s.setFault { s.fault with record := s.fault.counted }).cutIfHeld (some page) := by
  rw [State.raise, if_neg (by simp [h])]
  exact tryEnd_stands _ (.inl (by simpa [State.followOnActs, Cause.halting, Cause.code] using h))

/-- R27: the claim is lost under one CLAIM_LOST; no other block that a cut looks at has changed. -/
theorem loseClaim_raises (s : State) (page : Nat) : ∃ (v : State) (d : Nat), s.loseClaim page = v.raise .claimLost (some page) none d ∧
    v.fault.phase = s.fault.phase ∧ v.fault.record = s.fault.record ∧ v.comp = s.comp ∧ v.lane = s.lane := by
  unfold State.loseClaim
  dsimp only
  split
  · exact ⟨_, _, rfl, by simp, by simp, by simp, by simp⟩
  · exact ⟨_, _, rfl, by simp, by simp, by simp, by simp⟩

theorem exec_lapse (h : FrameHdr) (page holder mark : Nat) (s : State) : exec (.lapse h page holder mark) s =
    .next (s.applyFrame h (.lapse page holder mark) (fun t => t.lapseFrame h page holder mark)) := rfl

/-- R27: the LAPSE of a claim of this station's own. -/
theorem lapseFrame_own {s : State} {r : Replica} {e : Entry} (h : FrameHdr) {page mark : Nat}
    (hr : s.board.replica = some r) (he : r.entries[page]? = some e) (hs : e.status = .claimed s.straps.station)
    (hm : e.mark = mark) : ∃ b, s.lapseFrame h page s.straps.station mark = (s.setBoard b).loseClaim page := by
  have applied : r.apply s.roster.identity h.sender (.lapse page s.straps.station mark) =
      some (r.put page (e.lapse s.straps.station)) := by
    rw [apply_lapse he, if_pos ⟨hs, hm⟩]
  refine ⟨{ s.board with
    replica := some (r.put page (e.lapse s.straps.station))
    leases := leasesAfter s.straps.station r.entries (r.put page (e.lapse s.straps.station)).entries s.board.leases }, ?_⟩
  rw [State.lapseFrame, boardFate_taken hr applied, boardFrame_taken hr applied]
  exact if_pos rfl

/-! ## The sync timer (R153, R156) -/

theorem exec_syncTimer {s : State} (hst : s.ctl.state = .syncing) (ht : s.ctl.syncTimer.isSome = true)
    (hc : s.ctl.collection = none) :
    exec .syncTimerExpiry s = .next (if s.ctl.volumeSeen then s.abandon 3 else s.freshStart) :=
  congrArg _ (if_pos ⟨hst, ht, by simp [hc]⟩)

theorem offerCtl_queued {s : State} (i : CtlItem) (hs : s.port.silent = false) (h1 : s.ctl.state ≠ .setupWait)
    (h2 : s.ctl.state ≠ .planLoad) (hq : s.port.queue.length < 16) :
    s.offerCtl i = { s with port := s.port.queued (s.ctlBody i) } := by
  rw [offerCtl_eq, if_pos ((canQueue_iff s).mpr ⟨(takesOffers_iff s).mpr ⟨hs, h1, h2⟩, hq⟩)]
  rfl

/-- R149, R153: short of the third abandonment the station asks again. -/
theorem abandon_asks {s : State} (case : Nat) (hst : s.ctl.state = .syncing) (ha : s.ctl.abandoned < 2)
    (hs : s.port.silent = false) (hq : s.port.queue.length < 16) (hask : s.hasAsk = false) :
    s.abandon case = { s with
      ctl := { s.ctl with
        collection := none, abandoned := s.ctl.abandoned + 1, syncTimer := some (2 * s.leaseMs) }
      port := s.port.queued (.frame (.ask (s.roster.identity.getD 0))) } := by
  have least : min (s.ctl.abandoned + 1) Config.abandonLimit = s.ctl.abandoned + 1 := by
    show min (s.ctl.abandoned + 1) 3 = s.ctl.abandoned + 1
    omega
  have more : s.ctl.abandoned + 1 ≠ Config.abandonLimit := by
    show s.ctl.abandoned + 1 ≠ 3
    omega
  let u : State := State.startSync (s.setCtl { s.ctl with collection := none, abandoned := s.ctl.abandoned + 1 })
  have room : u.canQueue = true := (canQueue_iff u).mpr ⟨(takesOffers_iff u).mpr ⟨hs, by simp [u, hst], by simp [u, hst]⟩, hq⟩
  have asks : s.abandon case = u.offerAsk := by
    rw [State.abandon, least]
    exact if_neg more
  rw [asks, State.offerAsk, if_neg (by simpa [u, State.hasAsk] using hask), offerCtl_eq, if_pos room]
  rfl

/-- R156: a fresh start's entries are not settled, since there is one. -/
theorem fresh_incomplete {n edition : Nat} (h : 1 ≤ n) : completeBoard (List.replicate n (Entry.fresh edition)) = false := by
  obtain ⟨m, rfl⟩ : ∃ m, n = m + 1 := ⟨n - 1, by omega⟩
  simp [completeBoard, List.replicate_succ, Entry.fresh, Entry.settled]

theorem fresh_leases (station n edition : Nat) :
    leasesOf station (List.replicate n (Entry.fresh edition)) = List.replicate n none := by
  simp [leasesOf, Entry.fresh, leaseFor]

theorem freshStart_eq {s : State} (hp : 1 ≤ s.roster.pageCount) (hst : s.ctl.state = .syncing)
    (hs : s.port.silent = false) (hq : s.port.queue.length < 16) : s.freshStart = { s with
      board := { replica := some { entries := List.replicate s.roster.pageCount (Entry.fresh s.roster.planEdition),
                                   present := 0, complete := false },
                 leases := List.replicate s.roster.pageCount none, lastLaunched := s.roster.planEdition, completions := 0 }
      pool := [], ctl := { s.ctl with syncTimer := none }
      port := s.port.queued (.frame (.join s.straps.station (s.roster.identity.getD 0))) } := by
  have incomplete := fresh_incomplete (edition := s.roster.planEdition) hp
  have held : s.holdReplica (List.replicate s.roster.pageCount (Entry.fresh s.roster.planEdition)) 0 s.roster.planEdition [] =
      { s with
        board := { replica := some { entries := List.replicate s.roster.pageCount (Entry.fresh s.roster.planEdition),
                                     present := 0, complete := false },
                   leases := List.replicate s.roster.pageCount none, lastLaunched := s.roster.planEdition,
                   completions := 0 }
        pool := [] } := by
    rw [State.holdReplica, reviewComplete_quiet (by rfl) (by simp [incomplete]), fresh_leases]
    simp only [reviewed, incomplete]
    rfl
  rw [State.freshStart, held]
  exact offerCtl_queued .join hs (by simp [hst]) (by simp [hst]) hq

end Sys2Proof.FollowOns

open Sys2Proof Sys2Proof.Machine Sys2Proof.Laws Sys2Proof.FaultRules Sys2Proof.LinkFaults Sys2Proof.Losses Sys2Proof.BadAnswers
  Sys2Proof.Hearing Sys2Proof.Halting Sys2Proof.FollowOns Sys2Proof.Silencing

/-- Settles O27: a fresh start, a further ASK, and the halt at the third abandonment. -/
theorem syncTimerStartsAfreshOrAsksAgain : Obligations.SyncTimerStartsAfreshOrAsksAgain := by
  refine ⟨fun s h hst ht hc hh hl hp hs hq => ⟨fun hv => ?_, fun hv ha hask hw => ?_, fun hv ha hf => ?_⟩,
    fun s hst ht hc hv ha hf hn => ?_⟩
  · refine ⟨_, (exec_syncTimer hst ht hc).trans (congrArg _ (if_neg (by simp [hv]))), ?_⟩
    have pages : s.roster.pageCount = h.pages := by simp [Roster.pageCount, hh]
    have edition : s.roster.planEdition = h.edition := by simp [Roster.planEdition, hh]
    rw [freshStart_eq (by rw [pages]; exact hp) hst hs hq, pages, edition]
    refine ⟨?_, rfl, rfl, rfl, rfl⟩
    simp [Roster.identity, hl, hh]
  · have asked : s.hasAsk = false := by
      simp only [State.hasAsk, hw]
      simpa using hask
    rw [exec_syncTimer hst ht hc, if_pos hv, abandon_asks 3 hst ha hs hq asked, ← hc]
    simp [Roster.identity, hl, hh]
  · obtain ⟨-, -, -, -, third⟩ := abandon_spec s 3 hst
    obtain ⟨halted, -, record⟩ := third ha.ge
    refine ⟨_, (exec_syncTimer hst ht hc).trans (congrArg _ (if_pos hv)), halted, ?_, record hf⟩
    obtain ⟨-, count, -⟩ := abandon_spec s 3 hst
    rw [count, ha]
    rfl
  · obtain ⟨-, -, lane, -, third⟩ := abandon_spec s 3 hst
    obtain ⟨halted, timer, -⟩ := third ha.ge
    have third := abandon_third (s := s) 3 ha
    generalize hu : s.setCtl { s.ctl with collection := none, abandoned := 3 } = u at third
    have uEq : u = { s with ctl := u.ctl } := by rw [← hu]; rfl
    have uClear : u.fault.phase = .clear := by rw [uEq]; exact hf
    have uCtl : u.ctl.state ≠ .halted := by rw [← hu]; simp [hst]
    have uCuttable : u.cuttable = s.cuttable := cuttable_congr (by rw [uEq]) (by rw [uEq])
    have uCut : u.comp.cut = s.comp.cut := by rw [uEq]
    have uWork : u.claims.work = s.claims.work := by rw [uEq]
    have uStation : u.straps = s.straps := by rw [uEq]
    have uSilent : u.port.silent = s.port.silent := by rw [uEq]
    have uClosing (q : Nat) : u.closing q = s.closing q := closing_congr (by rw [uEq]) (by rw [uEq]) q
    refine ⟨_, (exec_syncTimer hst ht hc).trans (congrArg _ (if_pos hv)), halted, timer, ?_⟩
    cases hs : s.port.silent with
    | false =>
      obtain ⟨cut, cutStep, work, awaited, haltStep, phase, closing, leave⟩ := raise_halting_enabled (s := u) (c := .syncFailed)
        none none 3 rfl uClear uCtl (uSilent.trans hs) (by rw [uWork]; exact hn)
      rw [← third] at cut cutStep work awaited haltStep phase closing leave
      simp only [uCut, uCuttable, uWork, uStation, uClosing] at cut cutStep work awaited closing leave
      exact ⟨cut, cutStep, lane, fun _ => ⟨work, awaited, haltStep, phase, closing, leave⟩, fun h => absurd h (by simp)⟩
    | true =>
      obtain ⟨cut, cutStep, work, waiting, awaited, haltStep, ctlWaiting, phase⟩ := raise_halting_silent (s := u)
        (c := .syncFailed) none none 3 rfl uClear uCtl (uSilent.trans hs)
      rw [← third] at cut cutStep work waiting awaited haltStep ctlWaiting phase
      simp only [uCut, uCuttable] at cut cutStep phase
      exact ⟨cut, cutStep, lane, fun h => absurd h (by simp), fun _ => ⟨work, waiting, awaited, haltStep, ctlWaiting, phase⟩⟩

/-- Settles O12: records out of place, the fetch timer, and the follow-ons of the link class, of a lost claim and of a halt. -/
theorem protocolLossAndTimeoutFlushTheFetches : Obligations.ProtocolLossAndTimeoutFlushTheFetches := by
  refine ⟨fun s tag c hc => ⟨fun h => ?_, fun hh h hp => ?_⟩, fun s => ⟨fun h => ?_, fun e rest ht hl => ?_⟩,
    fun s c hp hc => ?_, fun s h page mark r e hears hp hr he hs hm => ?_, fun s hst ht hc hv ha hp hr hs hn hl => ?_⟩
  · rw [misplaced_exec hc, ifPortraits_dropped _ h]
  · obtain ⟨list, answer, wants, timer, hold, tag', lane, -⟩ :=
      raise_link_fetch s.goodRecord .linkDown none none tag rfl
    refine ⟨_, (misplaced_exec hc).trans (congrArg _ (ifPortraits_entered _ hh h)), list, answer, wants, timer, hold, tag', ?_,
      lane, ?_, ?_, ?_⟩
    · simp [State.protocolLoss, State.goodRecord]
    · simp [State.protocolLoss, State.goodRecord]
    · simp [State.protocolLoss, State.goodRecord]
    · rw [State.protocolLoss, (raise_clear _ _ _ _ _ (by exact hp)).1, Sys2Proof.PlanEnd.bandOf_none]
      rfl
  · rw [exec_fetchTimer, fetchTimeout_stopped h]
  · obtain ⟨list, answer, wants, timer, hold, tag, lane, -⟩ :=
      raise_link_fetch (s.setFetch { s.fetch with timer := none }) .fetchTimeout
        (s.faultPage (s.tiles.firstComposing e.slot))
        (if (s.faultPage (s.tiles.firstComposing e.slot)).isSome then s.tiles.firstComposing e.slot else none)
        (e.portrait.toNat % 65536) rfl
    refine ⟨_, (exec_fetchTimer s).trans (congrArg _ (fetchTimeout_running ht hl)), list, wants, answer, timer, hold, tag,
      lane, ?_, ?_, fun hp hx => ?_, fun x i hp hx hi => ?_⟩
    · simp
    · simp
    · have none : s.faultPage (s.tiles.firstComposing e.slot) = none := by
        rcases hx with hx | hx
        · exact faultPage_idle hx _
        · rw [hx]
          exact faultPage_none s
      rw [(raise_clear _ _ _ _ _ (by exact hp)).1, none, Sys2Proof.PlanEnd.bandOf_none]
      rfl
    · have page : s.faultPage (s.tiles.firstComposing e.slot) = some x.page := by
        rw [hi, faultPage_held hx]
      rw [(raise_clear _ _ _ _ _ (by exact hp)).1, page, hi, bandOf_held (by exact hx)]
      rfl
  · rcases hc with ⟨rfl, hu, hs⟩ | ⟨rfl, ht, hl⟩ | ⟨e, rest, a, refs, crc, rfl, hs, hh, hl, ha, hf, hst, ho, hb, hr⟩
    · obtain ⟨u, hu, m⟩ := lineSilent_unmoved hu hs
      exact ⟨_, (LinkFaults.exec_silenceTimer s).trans (congrArg _ hu), m.followedOn hp .linkDown rfl _ _ _⟩
    · obtain ⟨e, rest, hl⟩ := List.exists_cons_of_ne_nil hl
      have m : Unmoved s (s.setFetch { s.fetch with timer := none }) :=
        ⟨rfl, rfl, rfl, rfl, rfl, rfl, rfl, rfl, rfl, fun x hx sl hsl => .inr ⟨hx, hsl⟩⟩
      exact ⟨_, (exec_fetchTimer s).trans (congrArg _ (fetchTimeout_running ht hl)), m.followedOn hp .fetchTimeout rfl _ _ _⟩
    · obtain ⟨h1, h2, h3, h4, h5, h6, h7, h8, h9, h10⟩ := corrupted_unmoved (s := s.goodRecord) hl hf
      have m : Unmoved s (corrupted s.goodRecord e) := ⟨h1, h2, h3, h4, h5, h6, h7, h8, h9, h10⟩
      exact ⟨_, (end_corrupt hs hh hl ha hst ho hb hr).trans (congrArg _ (corrupt_eq _ e)),
        m.followedOn hp .fetchCorrupt rfl _ _ _⟩
  · obtain ⟨b, hb⟩ := lapseFrame_own (s := heard s h (.lapse page s.straps.station mark)) h hr he hs hm
    obtain ⟨v, d, hv, vPhase, vRecord, vComp, vLane⟩ := loseClaim_raises
      ((heard s h (.lapse page s.straps.station mark)).setBoard b) page
    have held : v.fault.phase = .held := vPhase.trans hp
    have lost : exec (.lapse h page s.straps.station mark) s = .next
        (((v.setFault { v.fault with record := v.fault.counted }).cutIfHeld (some page)).afterFrame) := by
      rw [exec_lapse, applyFrame_hears hears, ← raise_lost_held page d held, ← hv, ← hb]
      rfl
    obtain ⟨cut, still⟩ := cutIfHeld_comp (v.setFault { v.fault with record := v.fault.counted }) page
    have cuttable : (v.setFault { v.fault with record := v.fault.counted }).cuttable = s.cuttable :=
      cuttable_congr (by simp [vComp, heard]) (by simp [vLane, heard])
    have comp : (v.setFault { v.fault with record := v.fault.counted }).comp = s.comp := vComp
    rw [comp, cuttable] at cut
    rw [comp] at still
    refine ⟨_, lost, ?_, ?_, fun x hx hxp => ?_, fun hx => ?_⟩
    · simp [FaultUnit.counted, vRecord, heard]
    · simpa using held
    · simpa using cut x hx hxp
    · simpa using still hx
  · have third := abandon_third (s := s) 3 ha
    obtain ⟨t, q, raised, spec⟩ := raise_halting_held (s := s.setCtl { s.ctl with collection := none, abandoned := 3 })
      (c := .syncFailed) none none 3 rfl hp hr (by simp [hst]) hs hn hl
    have expiry : exec .syncTimerExpiry s = .next t :=
      (exec_syncTimer hst ht hc).trans (congrArg _ ((if_pos hv).trans (third.trans raised)))
    exact ⟨t, q, expiry, spec⟩
end

section
/-! PROOFS. The queue under a passed frame: what the port leaves of it, what the withdrawals take from it, and the claiming
evaluation that ends the step (R35, R36, R39, R40, R134, R138). -/

namespace Sys2Proof.Afterwards

open Sys2Proof Sys2Proof.Machine Sys2Proof.Laws Sys2Proof.FaultRules Sys2Proof.Requests Sys2Proof.Bus Sys2Proof.Hearing

/-! ## The queue as a frame passes (R134, R140) -/

/-- Each entry of a queue stood in another, its place on the bus aside. -/
def StoodIn (q p : List TxEntry) : Prop := ∀ x ∈ q, ∃ y ∈ p, y.body = x.body ∧ (x = y ∨ x = y.wait)

theorem stoodIn_filter (p : List TxEntry) (k : TxEntry → Bool) : StoodIn (p.filter k) p := fun x hx =>
  ⟨x, (List.mem_filter.mp hx).1, rfl, .inl rfl⟩

theorem stoodIn_wait (p : List TxEntry) : StoodIn (p.map TxEntry.wait) p := fun x hx => by
  obtain ⟨y, hy, rfl⟩ := List.mem_map.mp hx
  exact ⟨y, hy, rfl, .inr rfl⟩

theorem passedPort_queue (s : State) (h : FrameHdr) (f : Frame) :
    StoodIn (passedPort s h f).queue s.port.queue ∧ (passedPort s h f).queue.length ≤ s.port.queue.length := by
  unfold passedPort
  split_ifs
  · unfold Port.ownPassed
    dsimp only
    split_ifs
    · exact ⟨stoodIn_filter _ _, List.length_filter_le _ _⟩
    · exact ⟨stoodIn_wait _, by simp [Port.standBack]⟩
    · exact ⟨fun x hx => ⟨x, hx, rfl, .inl rfl⟩, le_rfl⟩
  · exact ⟨stoodIn_wait _, by simp [Port.otherPassed, Port.standBack]⟩

/-- R134: an entry that waits waits on. -/
theorem passedPort_waits {s : State} {h : FrameHdr} {f : Frame} {x : TxEntry} (hx : x ∈ s.port.queue)
    (hb : x.onBus = false) : x ∈ (passedPort s h f).queue := by
  have waits : x.wait = x := by
    cases x
    simp_all [TxEntry.wait]
  have mapped : x ∈ s.port.queue.map TxEntry.wait := List.mem_map.mpr ⟨x, hx, waits⟩
  unfold passedPort
  split_ifs
  · unfold Port.ownPassed
    dsimp only
    split_ifs
    · exact List.mem_filter.mpr ⟨hx, by simp [hb]⟩
    · exact mapped
    · exact hx
  · exact mapped

theorem passedPort_silent (s : State) (h : FrameHdr) (f : Frame) : (passedPort s h f).silent = s.port.silent := by
  unfold passedPort
  split_ifs
  · unfold Port.ownPassed
    dsimp only
    split_ifs <;> rfl
  · rfl

theorem heard_closing {s : State} {page : Nat} (h : FrameHdr) (f : Frame) (hc : s.closing page = false) :
    (heard s h f).closing page = false := by
  simp only [State.closing, Bool.or_eq_false_iff, List.any_eq_false] at hc ⊢
  refine ⟨hc.1, fun x hx => ?_⟩
  obtain ⟨y, hy, hb, -⟩ := (passedPort_queue s h f).1 x hx
  rw [← hb]
  exact hc.2 y hy

/-! ## The withdrawals (R35, R36, R138) -/

/-- R138: the station with the frames withdrawn that are out of date. -/
def tidied (s : State) : State :=
  let s1 := s.withdraw (staleRenew s.claims.work)
  match s1.board.replica with
  | some r => s1.withdraw r.staleLapse
  | none => s1

theorem afterFrame_eq (s : State) : s.afterFrame = (tidied s).reviewPending.evalClaim := rfl

/-- R35, R36: the entry is of a RENEW or a LAPSE that is out of date. -/
def Stale (s : State) (b : TxBody) : Prop :=
  staleRenew s.claims.work b = true ∨ ∃ r, s.board.replica = some r ∧ r.staleLapse b = true

theorem tidied_eq (s : State) : ∃ q, tidied s = { s with port := { s.port with queue := q } } ∧
    (∀ x, x ∈ q ↔ x ∈ s.port.queue ∧ (x.onBus = true ∨ ¬ Stale s x.body)) ∧ q.length ≤ s.port.queue.length := by
  unfold tidied
  cases hr : s.board.replica with
  | none =>
    refine ⟨s.port.queue.filter (fun e => e.onBus || !staleRenew s.claims.work e.body), ?_, fun x => ?_,
      List.length_filter_le _ _⟩
    · simp only [State.withdraw, setPort_board, hr]
      rfl
    · simp [Stale, hr]
  | some r =>
    refine ⟨(s.port.queue.filter (fun e => e.onBus || !staleRenew s.claims.work e.body)).filter
      (fun e => e.onBus || !r.staleLapse e.body), ?_, fun x => ?_,
      (List.length_filter_le _ _).trans (List.length_filter_le _ _)⟩
    · simp only [State.withdraw, setPort_board, hr]
      rfl
    · simp only [List.mem_filter, Stale, hr, Bool.or_eq_true, Bool.not_eq_true', Option.some.injEq, exists_eq_left', not_or,
        Bool.not_eq_true]
      tauto

theorem stale_body {s : State} {b : TxBody} (h : Stale s b) :
    (∃ p, b = .frame (.renew p)) ∨ ∃ p holder mark, b = .frame (.lapse p holder mark) := by
  rcases h with h | ⟨r, -, h⟩
  · cases b with
    | frame f => cases f <;> simp_all [staleRenew]
    | run => simp [staleRenew] at h
  · cases b with
    | frame f => cases f <;> simp_all [Replica.staleLapse]
    | run => simp [Replica.staleLapse] at h

/-! ## What the end of the step keeps in the queue -/

theorem reviewPending_keeps {s : State} {x : TxEntry} (hx : x ∈ s.port.queue) (hb : x.onBus = true ∨ x.body.isClaim = false) :
    x ∈ s.reviewPending.port.queue := by
  unfold State.reviewPending
  split
  · split_ifs
    · exact List.mem_filter.mpr ⟨hx, by rcases hb with hb | hb <;> simp [hb]⟩
    · exact hx
  · exact hx

theorem evalClaim_adds (s : State) : ∃ new, s.evalClaim.port.queue = s.port.queue ++ new ∧
    ∀ x ∈ new, ∃ p, x.body = .frame (.claim p s.straps.station) ∧ s.evalClaim.claims.pending = some p ∧ s.claims.pending = none := by
  unfold State.evalClaim
  split
  next p hp =>
    split_ifs
    · refine ⟨_, rfl, fun x hx => ⟨p, ?_, rfl, ?_⟩⟩
      · rw [List.mem_singleton.mp hx]
      · unfold State.claimChoice at hp
        split_ifs at hp with hc
        exact hc.2.2.2.2
    · exact ⟨[], (List.append_nil _).symm, by simp⟩
  · exact ⟨[], (List.append_nil _).symm, by simp⟩

theorem afterFrame_keeps {s : State} {x : TxEntry} (hx : x ∈ s.port.queue) (hs : x.onBus = true ∨ ¬ Stale s x.body)
    (hc : x.onBus = true ∨ x.body.isClaim = false) : x ∈ s.afterFrame.port.queue := by
  obtain ⟨q, eq, mem, -⟩ := tidied_eq s
  obtain ⟨new, added, -⟩ := evalClaim_adds (tidied s).reviewPending
  rw [afterFrame_eq, added]
  refine List.mem_append_left _ (reviewPending_keeps ?_ hc)
  rw [eq]
  exact (mem x).mpr ⟨hx, hs⟩

theorem afterFrame_waiting (s : State) : s.afterFrame.claims.waiting = s.claims.waiting ∧
    s.afterFrame.claims.work = s.claims.work := by
  have h := afterFrame_quietly s
  rw [h]
  exact ⟨rfl, rfl⟩

theorem not_stale_of_closes {s : State} {b : TxBody} {page : Nat} (h : b.closes page = true) : ¬ Stale s b := by
  intro hs
  rcases stale_body hs with ⟨p, rfl⟩ | ⟨p, holder, mark, rfl⟩ <;> cases h

/-- R47: a closing frame asked for is still asked for as the step ends. -/
theorem afterFrame_asked {s : State} {f : Frame} {page : Nat} (hf : f.closes page = true) (h : s.asked f) :
    s.afterFrame.asked f := by
  rcases h with h | ⟨x, hx, hb⟩
  · exact .inl (by rw [(afterFrame_waiting s).1]; exact h)
  · have closes : x.body.closes page = true := by rw [hb]; exact hf
    exact .inr ⟨x, afterFrame_keeps hx (.inr (not_stale_of_closes closes)) (.inr (isClaim_of_closes closes)), hb⟩

theorem afterFrame_closing {s : State} {page : Nat} (h : s.closing page = true) : s.afterFrame.closing page = true := by
  simp only [State.closing, Bool.or_eq_true, List.any_eq_true] at h ⊢
  rcases h with h | ⟨x, hx, closes⟩
  · exact .inl (by rw [(afterFrame_waiting s).1]; exact h)
  · exact .inr ⟨x, afterFrame_keeps hx (.inr (not_stale_of_closes closes)) (.inr (isClaim_of_closes closes)), closes⟩

/-! ## The claiming evaluation (R39) -/

theorem reviewPending_none {s : State} (h : s.claims.pending = none) : s.reviewPending = s := by
  simp only [State.reviewPending, h]

theorem afterFrame_unpending {s : State} (h : s.claims.pending = none) : s.afterFrame = (tidied s).evalClaim := by
  obtain ⟨q, eq, -⟩ := tidied_eq s
  rw [afterFrame_eq, reviewPending_none (by rw [eq]; exact h)]

theorem tidied_choice (s : State) : (tidied s).claimChoice = s.claimChoice := by
  obtain ⟨q, eq, -⟩ := tidied_eq s
  rw [eq]
  rfl

theorem afterFrame_unclaimed {s : State} (h : s.claims.pending = none) (hc : s.claimChoice = none) :
    s.afterFrame.claims.pending = none := by
  obtain ⟨q, eq, -⟩ := tidied_eq s
  rw [afterFrame_unpending h, evalClaim_unchosen ((tidied_choice s).trans hc), eq]
  exact h

/-- R39: with no claim pending the candidate is claimed as the step ends. -/
theorem afterFrame_claims {s : State} {p : Nat} (h : s.claims.pending = none) (hc : s.claimChoice = some p)
    (hq : s.canQueue = true) (he : s.earlierWaits = false) : s.afterFrame.claims.pending = some p ∧
      ∃ x ∈ s.afterFrame.port.queue, x.onBus = false ∧ x.body = .frame (.claim p s.straps.station) := by
  obtain ⟨q, eq, -, len⟩ := tidied_eq s
  have room : (tidied s).canQueue = true := by
    obtain ⟨takes, free⟩ := (canQueue_iff s).mp hq
    rw [eq]
    exact (canQueue_iff _).mpr ⟨takes, lt_of_le_of_lt len free⟩
  have earlier : (tidied s).earlierWaits = false := by
    rw [eq]
    exact he
  rw [afterFrame_unpending h, evalClaim_chosen ((tidied_choice s).trans hc) room earlier, eq]
  exact ⟨rfl, _, List.mem_append_right _ (List.mem_singleton.mpr rfl), rfl, rfl⟩

theorem claimChoice_unclear {s : State} (h : s.fault.phase ≠ .clear) : s.claimChoice = none :=
  if_neg (fun hn => h hn.2.1)

end Sys2Proof.Afterwards
end

section
/-! PROOFS. CLAIM, RENEW and what a void frame leaves (R22 to R26, R39, R41, R162). -/

namespace Sys2Proof.Claiming

open Sys2Proof Sys2Proof.Machine Sys2Proof.Laws Sys2Proof.FaultRules Sys2Proof.Requests Sys2Proof.Bus
  Sys2Proof.Hearing Sys2Proof.Afterwards

theorem exec_claim (h : FrameHdr) (page claimant : Nat) (s : State) : exec (.claim h page claimant) s =
    .next (s.applyFrame h (.claim page claimant) (fun t => t.claimFrame h page claimant)) := rfl

theorem exec_renew (h : FrameHdr) (page : Nat) (s : State) : exec (.renew h page) s =
    .next (s.applyFrame h (.renew page) (fun t => t.renewFrame h page)) := rfl

theorem exec_done (h : FrameHdr) (page edition : Nat) (s : State) : exec (.done h page edition) s =
    .next (s.applyFrame h (.done page edition) (fun t => t.doneFrame h page edition)) := rfl

theorem exec_release (h : FrameHdr) (page : Nat) (s : State) : exec (.release h page) s =
    .next (s.applyFrame h (.release page) (fun t => t.releaseFrame h page)) := rfl

theorem exec_fail (h : FrameHdr) (page cause : Nat) (s : State) : exec (.fail h page cause) s =
    .next (s.applyFrame h (.fail page cause) (fun t => t.failFrame h page cause)) := rfl

/-- A mark that has been raised is another mark. -/
theorem renew_mark (e : Entry) : e.renew.mark ≠ e.mark := by
  show (e.mark + 1) % 256 ≠ e.mark
  omega

/-! ## The station's own CLAIM (R25, R39, R41) -/

theorem isOwn_iff (s : State) (h : FrameHdr) : s.isOwn h = true ↔ h.sender = s.straps.station := by
  simp [State.isOwn]

theorem claimFrame_other {s : State} {h : FrameHdr} (hn : h.sender ≠ s.straps.station) (page claimant : Nat) :
    s.claimFrame h page claimant = (s.boardFrame h.sender (.claim page claimant)).reviewComplete := by
  rw [State.claimFrame, if_neg (fun ho => hn ((isOwn_iff s h).mp ho))]

theorem claimFrame_won {s : State} {h : FrameHdr} {page claimant : Nat} (ho : h.sender = s.straps.station)
    (hf : s.boardFate h.sender (.claim page claimant) = .taken) : s.claimFrame h page claimant =
      (((s.boardFrame h.sender (.claim page claimant)).takeWork page).releaseIfBarred page).reviewComplete := by
  rw [State.claimFrame, if_pos ((isOwn_iff s h).mpr ho), hf]

theorem claimFrame_void {s : State} {h : FrameHdr} {page claimant : Nat} (ho : h.sender = s.straps.station)
    (hf : s.boardFate h.sender (.claim page claimant) = .void) : s.claimFrame h page claimant =
      State.reviewComplete ((s.boardFrame h.sender (.claim page claimant)).setClaims
        { (s.boardFrame h.sender (.claim page claimant)).claims with pending := none }) := by
  rw [State.claimFrame, if_pos ((isOwn_iff s h).mpr ho), hf]

theorem clearPending_quietly (s : State) : Quietly s (s.setClaims { s.claims with pending := none }) := rfl

/-- R25: a CLAIM that the station does not win leaves all but the board and the pending claim. -/
theorem claimFrame_quietly {s : State} {h : FrameHdr} {page claimant : Nat}
    (hn : h.sender = s.straps.station → s.boardFate h.sender (.claim page claimant) ≠ .taken) :
    Quietly s (s.claimFrame h page claimant) := by
  by_cases ho : h.sender = s.straps.station
  · cases hf : s.boardFate h.sender (.claim page claimant) with
    | taken => exact absurd hf (hn ho)
    | void =>
      rw [claimFrame_void ho hf]
      exact ((boardFrame_quietly s _ _).trans (clearPending_quietly _)).trans (reviewComplete_quietly _)
    | ignored =>
      rw [State.claimFrame, if_pos ((isOwn_iff s h).mpr ho), hf]
      exact (boardFrame_quietly s _ _).trans (reviewComplete_quietly _)
  · rw [claimFrame_other ho]
    exact (boardFrame_quietly s _ _).trans (reviewComplete_quietly _)

/-- R162: a page joins the awaited set once. -/
theorem awaitClose_fault (s : State) (f : Frame) (page : Nat) : (s.awaitClose f page).fault = { s.fault with
    awaited := if page ∈ s.fault.awaited then s.fault.awaited else s.fault.awaited ++ [page] } := by
  have ask : (s.askClosing f page).fault = s.fault := by simp
  unfold State.awaitClose
  dsimp only
  rw [ask]
  by_cases hm : page ∈ s.fault.awaited
  · rw [if_pos (by simpa using hm), if_pos hm, ask]
  · rw [if_neg (by simpa using hm), if_neg hm]
    rfl

theorem releaseIfBarred_recovering {s : State} (page : Nat) (h : s.fault.phase = .recovering) :
    s.releaseIfBarred page = s.awaitClose (.release page) page := if_pos h

theorem releaseIfBarred_asks {s : State} (page : Nat)
    (h : s.fault.phase = .held ∨ (s.fault.phase = .clear ∧ s.lane.offline = true)) :
    s.releaseIfBarred page = s.askClosing (.release page) page := by
  rcases h with h | ⟨h, ho⟩
  · rw [State.releaseIfBarred, if_neg (by simp [h]), if_pos (.inl h)]
  · rw [State.releaseIfBarred, if_neg (by simp [h]), if_pos (.inr ho)]

/-- R47, R137: with a free place and no closing frame asked for the frame is queued at once. -/
theorem askClosing_queued {s : State} {f : Frame} {page : Nat} (hc : s.closing page = false) (hw : s.claims.waiting = [])
    (hq : s.canQueue = true) : s.askClosing f page = { s with port := s.port.queued (.frame f) } := by
  unfold State.askClosing
  rw [if_neg (by simp [hc]), if_pos (by simp [hw, hq])]
  rfl

theorem heard_canQueue {s : State} (hs : s.hears) (h : FrameHdr) (f : Frame) (hq : s.port.queue.length < 16) :
    (heard s h f).canQueue = true := by
  have takes := (takesOffers_iff s).mp (takesOffers_of_full hs.1)
  refine (canQueue_iff _).mpr ⟨(takesOffers_iff _).mpr ⟨(passedPort_silent s h f).trans takes.1, takes.2⟩, ?_⟩
  exact lt_of_le_of_lt (passedPort_queue s h f).2 hq

/-- R22 to R26: the board under a CLAIM. -/
theorem claim_board {s : State} {h : FrameHdr} {page claimant : Nat} {r : Replica} {e : Entry}
    (hr : s.board.replica = some r) (he : r.entries[page]? = some e) :
    ∃ r', BoardPut s (((heard s h (.claim page claimant)).claimFrame h page claimant).afterFrame).board r page
      (if e.status = .opened ∧ claimant = h.sender ∧ r.isPresent h.sender = true then e.claim h.sender else e) r' := by
  obtain ⟨r', p⟩ := boardFrame_put (s := heard s h (.claim page claimant)) hr he (apply_claim he _ h.sender claimant)
  have p := BoardPut.review (t := (heard s h (.claim page claimant)).boardFrame h.sender (.claim page claimant)) p
  rw [← claimFrame_board (heard s h (.claim page claimant)) h page claimant, ← (afterFrame_frame _).2.2.2.2.2.1] at p
  exact ⟨_, p.replica, p.present, p.entries, p.leases, p.launched⟩

theorem claim_fate {s : State} {h : FrameHdr} {page claimant : Nat} {r : Replica} {e : Entry}
    (hr : s.board.replica = some r) (he : r.entries[page]? = some e) :
    s.boardFate h.sender (.claim page claimant) = .taken ↔
      e.status = .opened ∧ claimant = h.sender ∧ r.isPresent h.sender = true := by
  have ha := apply_claim he s.roster.identity h.sender claimant
  by_cases ht : e.status = .opened ∧ claimant = h.sender ∧ r.isPresent h.sender = true
  · rw [if_pos ht] at ha
    exact ⟨fun _ => ht, fun _ => boardFate_taken hr ha⟩
  · rw [if_neg ht] at ha
    refine ⟨fun hf => ?_, fun h => absurd h ht⟩
    simp [boardFate_void hr ha] at hf

/-- R25: the work of a CLAIM that the station wins. -/
theorem claimFrame_work {s : State} {h : FrameHdr} {page claimant : Nat} (ho : h.sender = s.straps.station)
    (hf : s.boardFate h.sender (.claim page claimant) = .taken) : (s.claimFrame h page claimant).claims.work =
      s.claims.work ++ [{ page := page, phase := .queued, spoils := 0, edition := none, notices := none }] := by
  have barred (u : State) : (u.releaseIfBarred page).claims.work = u.claims.work := by
    unfold State.releaseIfBarred
    split_ifs <;> simp
  rw [claimFrame_won ho hf]
  simp only [reviewComplete_frame, barred]
  simp [State.takeWork]

/-- R25: the station with the page it has won in its work list. -/
structure Won (s v : State) (page : Nat) : Prop where
  port : v.port = s.port
  work : v.claims.work = s.claims.work ++ [{ page := page, phase := .queued, spoils := 0, edition := none, notices := none }]
  pending : v.claims.pending = none
  waiting : v.claims.waiting = s.claims.waiting
  others : v.fault = s.fault ∧ v.lane = s.lane ∧ v.ctl = s.ctl

theorem takeWork_won (s : State) (h : FrameHdr) (f : Frame) (page : Nat) :
    Won s ((s.boardFrame h.sender f).takeWork page) page := by
  refine ⟨?_, ?_, ?_, ?_, ?_, ?_, ?_⟩ <;> simp [State.takeWork]

theorem Won.closing {s v : State} {page : Nat} (w : Won s v page) (q : Nat) : v.closing q = s.closing q :=
  closing_congr w.waiting (by rw [w.port]) q

/-- R25: the outcome of the station's own CLAIM. -/
theorem exec_claim_won {s : State} {h : FrameHdr} {page : Nat} {r : Replica} {e : Entry} (hs : s.hears)
    (hr : s.board.replica = some r) (he : r.entries[page]? = some e) (hst : e.status = .opened)
    (hp : r.present.getLsbD h.sender = true) (ho : h.sender = s.straps.station) :
    ∃ v, Won (heard s h (.claim page h.sender)) v page ∧
      exec (.claim h page h.sender) s = .next (v.releaseIfBarred page).reviewComplete.afterFrame := by
  have fate := (claim_fate (s := heard s h (.claim page h.sender)) (h := h) (claimant := h.sender) hr he).mpr ⟨hst, rfl, hp⟩
  refine ⟨_, takeWork_won _ h (.claim page h.sender) page, ?_⟩
  rw [exec_claim, applyFrame_hears hs, claimFrame_won (s := heard s h (.claim page h.sender)) ho fate]

end Sys2Proof.Claiming

open Sys2Proof Sys2Proof.Machine Sys2Proof.Laws Sys2Proof.FaultRules Sys2Proof.Requests Sys2Proof.Bus
  Sys2Proof.Hearing Sys2Proof.Afterwards Sys2Proof.Claiming

/-- Settles O31: a CLAIM puts one entry; what the claimant makes of it goes by the phase. -/
theorem claimFrameTakesAnOpenPage : Obligations.ClaimFrameTakesAnOpenPage := by
  refine ⟨fun s h page claimant r e hs hr he => ?_, fun s h page r e hs hr he hst hp ho hbar hw hq hcl => ?_,
    fun s h page r e hs hr he hst hp ho hrec => ?_, fun s h page claimant r hs hr ho hvoid => ?_⟩
  · intro taken
    obtain ⟨r', p⟩ := claim_board (h := h) (claimant := claimant) hr he
    have fate := claim_fate (s := heard s h (.claim page claimant)) (h := h) (claimant := claimant) hr he
    refine ⟨_, r', (exec_claim h page claimant s).trans (congrArg _ (applyFrame_hears hs h _ _)), p.replica, p.present,
      p.launched, fun q hq => p.other hq, fun ht => ⟨?_, fun hl => ?_⟩, fun hn => ?_, fun ⟨ht, ho⟩ => ?_, fun hn => ?_, ?_⟩
    · rw [if_pos (show _ ∧ _ ∧ r.isPresent h.sender = true from ht)] at p
      exact p.entry he
    · rw [if_pos (show _ ∧ _ ∧ r.isPresent h.sender = true from ht)] at p
      exact p.lease he (by simp [Entry.claim, ht.1]) hl
    · rw [if_neg (show ¬ (_ ∧ _ ∧ r.isPresent h.sender = true) from hn)] at p
      obtain ⟨same, leases⟩ := p.same he
      exact ⟨by rw [same, he], by rw [leases]⟩
    · rw [(afterFrame_waiting _).2]
      exact claimFrame_work (s := heard s h (.claim page claimant)) ho (fate.mpr ht)
    · have q := ((heard_quietly s h (.claim page claimant)).trans (claimFrame_quietly (h := h) (page := page)
        (claimant := claimant) fun ho hf => hn ⟨fate.mp hf, ho⟩)).trans (afterFrame_quietly _)
      rw [q]
      exact ⟨rfl, rfl, rfl⟩
    · simp [heard]
  · obtain ⟨v, won, hexec⟩ := exec_claim_won hs hr he hst hp ho
    obtain ⟨vFault, vLane, vCtl⟩ := won.others
    have clear : s.closing page = false := by
      simpa [State.closing, hw] using hcl
    have room : v.canQueue = true := by
      have base := heard_canQueue hs h (.claim page h.sender) hq
      simp only [State.canQueue, State.takesOffers, State.participation, won.port, vCtl] at base ⊢
      exact base
    have asked : v.releaseIfBarred page = { v with port := v.port.queued (.frame (.release page)) } := by
      rw [releaseIfBarred_asks page (by rw [vFault, vLane]; exact hbar)]
      exact askClosing_queued ((won.closing page).trans (heard_closing h _ clear)) (won.waiting.trans hw) room
    have queued : v.port.entry (.frame (.release page)) ∈ (v.releaseIfBarred page).reviewComplete.port.queue := by
      rw [asked]
      simp [Port.queued]
    have closes : (v.port.entry (.frame (.release page))).body.closes page = true := by
      simp [Port.entry, TxBody.closes, Frame.closes]
    refine ⟨_, hexec, ⟨_, afterFrame_keeps queued (.inr (not_stale_of_closes closes)) (.inr (isClaim_of_closes closes)),
      rfl, rfl⟩, ⟨{ page := page, phase := .queued, spoils := 0, edition := none, notices := none }, ?_, rfl⟩, ?_⟩
    · rw [(afterFrame_waiting _).2, asked]
      simp [won.work]
    · rw [asked]
      simp [vFault, heard]
  · obtain ⟨v, won, hexec⟩ := exec_claim_won hs hr he hst hp ho
    obtain ⟨vFault, vLane, vCtl⟩ := won.others
    have sFault : v.fault = s.fault := vFault
    have awaits : v.releaseIfBarred page = v.awaitClose (.release page) page :=
      releaseIfBarred_recovering page (by rw [sFault]; exact hrec)
    obtain ⟨hclosing, hasked, -, -, -⟩ := awaitClose_spec v (.release page) page (closesOnly_release page)
    rw [awaits] at hexec
    have fault : (v.awaitClose (.release page) page).reviewComplete.afterFrame.fault = { s.fault with
        awaited := if page ∈ s.fault.awaited then s.fault.awaited else s.fault.awaited ++ [page] } := by
      simp only [afterFrame_frame, reviewComplete_frame]
      rw [awaitClose_fault, sFault]
    refine ⟨_, hexec, afterFrame_closing ?_, fun hn => afterFrame_asked (page := page) (by simp [Frame.closes]) ?_, fault,
      ?_, ?_⟩
    · exact (closing_congr (by simp) (by simp) page).trans hclosing
    · exact asked_congr (by simp) (by simp) (hasked ((won.closing page).trans (heard_closing h _ hn)))
    · rw [(afterFrame_waiting _).2]
      simp [won.work, heard]
    · refine afterFrame_unclaimed (by simp [won.pending]) (claimChoice_unclear ?_)
      simp [sFault, hrec]
  · intro holds
    have void : r.apply s.roster.identity h.sender (.claim page claimant) = none := by
      cases he : r.entries[page]? with
      | none => exact apply_beyond he _ _ _ (.inl ⟨claimant, rfl⟩)
      | some e => exact (apply_claim he _ _ _).trans (if_neg (hvoid e he))
    let u := heard s h (.claim page claimant)
    let v := u.setClaims { u.claims with pending := none }
    have framed : u.claimFrame h page claimant = v.reviewComplete := by
      rw [claimFrame_void (s := u) ho (boardFate_void (s := u) hr void), boardFrame_void (s := u) hr void]
    obtain ⟨replica, leases, -⟩ := reviewComplete_replica (s := v) (r := r) hr
    have pending : v.reviewComplete.claims.pending = none := by simp [v]
    have same : v.reviewComplete.ctl = s.ctl ∧ v.reviewComplete.fault = s.fault ∧ v.reviewComplete.lane = s.lane ∧
        v.reviewComplete.claims.work = s.claims.work ∧ v.reviewComplete.claimDepth = s.claimDepth := by
      simp [v, u, heard, State.claimDepth]
    obtain ⟨ctl, fault, lane, work, depth⟩ := same
    have chosen (hh : holds) : v.reviewComplete.claimChoice = candidate r.entries s.lane.sheets := by
      obtain ⟨ha, hf, ho, hd⟩ := hh
      rw [claimChoice_eq (by rw [ctl]; exact ha) (by rw [fault]; exact hf) (by rw [lane]; exact ho)
        (by rw [work, depth]; exact hd) pending replica, lane]
      rfl
    have unchosen (hn : ¬ holds) : v.reviewComplete.claimChoice = none := by
      refine if_neg ?_
      rw [ctl, fault, lane, work, depth]
      exact fun ⟨ha, hf, ho, hd, _⟩ => hn ⟨ha, hf, ho, hd⟩
    refine ⟨_, (exec_claim h page claimant s).trans (congrArg _ ((applyFrame_hears hs h _ _).trans
      (congrArg State.afterFrame framed))), ?_, fun hn => ?_, fun q hh hcand hc hw hl hq => ?_⟩
    · rw [(afterFrame_waiting _).2]
      simp [v, u, heard]
    · refine afterFrame_unclaimed pending ?_
      by_cases hh : holds
      · rw [chosen hh]
        exact hn.resolve_left (not_not.mpr hh)
      · exact unchosen hh
    · have room : v.reviewComplete.canQueue = true := by
        have base := heard_canQueue hs h (.claim page claimant) hq
        simp only [State.canQueue, State.takesOffers, State.participation, reviewComplete_frame]
        exact base
      have earlier : v.reviewComplete.earlierWaits = false :=
        earlierWaits_false (by simpa [v, u, heard] using hw) (by simpa [v, u, heard] using hc)
          (.inr (by rw [leases]; exact hl))
      have claimed := afterFrame_claims pending ((chosen hh).trans hcand) room earlier
      have station : v.reviewComplete.straps = s.straps := by simp [v, u, heard]
      rwa [station] at claimed
end

section
/-! PROOFS. RENEW, and what a void board frame leaves (R22, R23, R25 to R30, R33). -/

namespace Sys2Proof.Renewing

open Sys2Proof Sys2Proof.Machine Sys2Proof.Laws Sys2Proof.Bus Sys2Proof.Hearing Sys2Proof.Afterwards Sys2Proof.Claiming

theorem renew_board {s : State} {h : FrameHdr} {page : Nat} {r : Replica} {e : Entry}
    (hr : s.board.replica = some r) (he : r.entries[page]? = some e) :
    ∃ r', BoardPut s (((heard s h (.renew page)).renewFrame h page).afterFrame).board r page
      (if e.status = .claimed h.sender then e.renew else e) r' := by
  obtain ⟨r', p⟩ := boardFrame_put (s := heard s h (.renew page)) hr he (apply_renew he _ h.sender)
  have p := BoardPut.review (t := (heard s h (.renew page)).boardFrame h.sender (.renew page)) p
  have q : BoardPut (heard s h (.renew page)) ((heard s h (.renew page)).renewFrame h page).board r page _ _ := p
  rw [← (afterFrame_frame _).2.2.2.2.2.1] at q
  exact ⟨_, q.replica, q.present, q.entries, q.leases, q.launched⟩

theorem renewFrame_quietly (s : State) (h : FrameHdr) (page : Nat) : Quietly s (s.renewFrame h page) :=
  (boardFrame_quietly s _ _).trans (reviewComplete_quietly _)

/-- The five frames for one page that the sender's claim, or an OPEN page, is to cover. -/
def OnePage (page : Nat) (f : Frame) : Prop :=
  (∃ n, f = .claim page n) ∨ f = .renew page ∨ (∃ n, f = .done page n) ∨ f = .release page ∨ ∃ n, f = .fail page n

/-- R23: the board after such a frame is the one that the frame makes, reviewed. -/
theorem exec_onePage {s : State} {c : Instr} {h : FrameHdr} {page : Nat} {f : Frame} (hs : s.hears)
    (hc : frameOf c = some (h, f)) (hf : OnePage page f) : ∃ u : State, exec c s = .next u ∧
      u.board = ((heard s h f).boardFrame h.sender f).reviewComplete.board := by
  have after (act : State → State) (he : exec c s = .next (s.applyFrame h f act))
      (ha : (act (heard s h f)).board = ((heard s h f).boardFrame h.sender f).reviewComplete.board) :
      ∃ u : State, exec c s = .next u ∧ u.board = ((heard s h f).boardFrame h.sender f).reviewComplete.board :=
    ⟨_, he.trans (congrArg _ (applyFrame_hears hs h f act)), (afterFrame_frame _).2.2.2.2.2.1.trans ha⟩
  cases c
  case claim => 
    cases hc
    exact after _ rfl (claimFrame_board _ _ _ _)
  case renew =>
    cases hc
    exact after _ rfl rfl
  case done =>
    cases hc
    exact after _ rfl (doneFrame_board _ _ _ _)
  case release =>
    cases hc
    exact after _ rfl (releaseFrame_board _ _ _)
  case fail =>
    cases hc
    exact after _ rfl (failFrame_board _ _ _ _)
  all_goals
    rcases hf with ⟨n, rfl⟩ | rfl | ⟨n, rfl⟩ | rfl | ⟨n, rfl⟩ <;> cases hc

/-- A frame for a page that the sender does not hold is void, a CLAIM aside. -/
theorem apply_uncovered {r : Replica} {page sender : Nat} (identity : Option Id32) {f : Frame} (hf : OnePage page f)
    (hn : ∀ n, f ≠ .claim page n) (hp : ∀ e, r.entries[page]? = some e → e.status ≠ .claimed sender) :
    r.apply identity sender f = none := by
  cases he : r.entries[page]? with
  | none => exact apply_beyond he _ _ _ hf
  | some e =>
    have free := hp e he
    rcases hf with ⟨n, rfl⟩ | rfl | ⟨n, rfl⟩ | rfl | ⟨n, rfl⟩
    · exact absurd rfl (hn n)
    · rw [apply_renew he, if_neg free]
    · rw [apply_done he, if_neg free]
    · rw [apply_release he, if_neg free]
    · cases hc : failCauseOf n with
      | none => exact apply_fail_bad page _ _ hc
      | some k => rw [apply_fail he _ _ hc, if_neg free]

end Sys2Proof.Renewing

open Sys2Proof Sys2Proof.Machine Sys2Proof.Laws Sys2Proof.Bus Sys2Proof.Hearing Sys2Proof.Afterwards Sys2Proof.Claiming
  Sys2Proof.Renewing

/-- Settles O32: the holder's RENEW puts one entry; a frame that its sender's claim does not cover puts none. -/
theorem renewRaisesTheMark : Obligations.RenewRaisesTheMark := by
  refine ⟨fun s h page r e hs hr he => ?_, fun s t c h page hs ht hc => ?_⟩
  · obtain ⟨r', p⟩ := renew_board (h := h) hr he
    refine ⟨_, r', (exec_renew h page s).trans (congrArg _ (applyFrame_hears hs h _ _)), ?_, p.replica, p.present, p.launched,
      fun q hq => p.other hq, fun ht => ?_, fun hn => ?_⟩
    · exact ((heard_quietly s h (.renew page)).trans (renewFrame_quietly _ h page)).trans (afterFrame_quietly _)
    · rw [if_pos ht] at p
      refine ⟨p.entry he, fun hl => ?_⟩
      have lease : leaseFor s.straps.station e.renew = if h.sender = s.straps.station then none else some .running := by
        simp [leaseFor, Entry.renew, ht]
      rw [← lease]
      exact p.lease he (fun hsame => renew_mark e hsame.2.symm) hl
    · rw [if_neg hn] at p
      obtain ⟨same, leases⟩ := p.same he
      exact ⟨by rw [same, he], by rw [leases]⟩
  · have frame : ∃ f, frameOf c = some (h, f) ∧ OnePage page f ∧ ((∃ n, f = .claim page n) ↔ ∃ n, c = .claim h page n) := by
      rcases hc with rfl | rfl | ⟨n, rfl⟩ | ⟨n, rfl⟩ | ⟨n, rfl⟩ <;> exact ⟨_, rfl, by simp [OnePage], by simp⟩
    obtain ⟨f, hframe, hone, hclaim⟩ := frame
    obtain ⟨u, hu, board⟩ := exec_onePage hs hframe hone
    obtain rfl : u = t := Host.Outcome.next.inj (hu.symm.trans ht)
    refine ⟨fun hr => ?_, fun r hr huncovered hbeyond => ?_⟩
    · rw [board, boardFrame_ignored (s := heard s h f) h.sender f hr, reviewComplete_absent (s := heard s h f) hr]
      rfl
    · have void : r.apply s.roster.identity h.sender f = none := by
        by_cases hn : ∃ n, c = .claim h page n
        · exact apply_beyond (hbeyond hn) _ _ _ hone
        · exact apply_uncovered _ hone (fun n hf => hn (hclaim.mp ⟨n, hf⟩)) (huncovered (fun n hc => hn ⟨n, hc⟩))
      obtain ⟨replica, leases, -⟩ := reviewComplete_replica (s := heard s h f) (r := r) hr
      rw [board, boardFrame_void (s := heard s h f) hr void]
      exact ⟨leases, _, replica, rfl, rfl⟩
end

section
/-! PROOFS. LAPSE (R27, R33, R161, R165). -/

namespace Sys2Proof.Lapsing

open Sys2Proof Sys2Proof.Machine Sys2Proof.Laws Sys2Proof.FaultRules Sys2Proof.LinkFaults Sys2Proof.Bus Sys2Proof.Hearing
  Sys2Proof.Afterwards Sys2Proof.Claiming Sys2Proof.FollowOns

/-! ## A lost claim as a fault (R161, R165) -/

theorem raise_lost_clear {s : State} (page d : Nat) (h : s.fault.phase = .clear) : s.raise .claimLost (some page) none d =
    ((s.recordFault .claimLost (some page) none d).reviewPending.recoverClaimLost (some page)).tryEnd := by
  rw [State.raise, if_pos h]
  rfl

theorem raise_lost_again {s : State} (page d : Nat) (h : s.fault.phase ≠ .clear) : s.raise .claimLost (some page) none d =
    ((s.setFault { s.fault with record := s.fault.counted }).cutIfHeld (some page)).tryEnd := by
  rw [State.raise, if_neg h]
  rfl

/-- R161, R165: a lost claim keeps the work list outside RECOVERING, and has the lost page cut where that is the held one. -/
theorem raise_lost_spec (s : State) (page d : Nat) :
    let t := s.raise .claimLost (some page) none d
    (s.fault.phase ≠ .recovering → t.claims.work = s.claims.work) ∧
    (∀ x, s.comp.held = some x → x.page = page → s.cuttable = true → t.comp.cut = true) := by
  by_cases h : s.fault.phase = .clear
  · rw [raise_lost_clear page d h]
    generalize hu : (s.recordFault .claimLost (some page) none d).reviewPending = u
    have comp : u.comp = s.comp := by simp [← hu]
    have cuttable : u.cuttable = s.cuttable := cuttable_congr (by rw [comp]) (by simp [← hu])
    have deferred : (u.recoverClaimLost (some page)).fault.deferred = [] := by simp [← hu, State.recordFault]
    obtain ⟨claims, -⟩ := tryEnd_asks deferred
    refine ⟨fun _ => ?_, fun x hx hp hc => ?_⟩
    · rw [claims]
      simp [← hu]
    · simp only [tryEnd_frame, State.recoverClaimLost]
      rw [comp, hx]
      simp [hp, cuttable, hc]
  · rw [raise_lost_again page d h]
    refine ⟨fun hr => ?_, fun x hx hp hc => ?_⟩
    · have held : s.fault.phase = .held := by
        cases hp : s.fault.phase <;> simp_all
      rw [tryEnd_stands _ (.inl (by simpa using held))]
      simp
    · have cut := (cutIfHeld_comp (s.setFault { s.fault with record := s.fault.counted }) page).1 x hx hp
      have cuttable : (s.setFault { s.fault with record := s.fault.counted }).cuttable = true := hc
      simp only [tryEnd_frame, cut, cuttable, Bool.or_true]

/-! ## LAPSE at a station -/

theorem lapse_fate {s : State} {h : FrameHdr} {page holder mark : Nat} {r : Replica} {e : Entry}
    (hr : s.board.replica = some r) (he : r.entries[page]? = some e) :
    (e.status = .claimed holder ∧ e.mark = mark → s.boardFate h.sender (.lapse page holder mark) = .taken) ∧
    (¬ (e.status = .claimed holder ∧ e.mark = mark) → s.boardFate h.sender (.lapse page holder mark) = .void ∧
      s.boardFrame h.sender (.lapse page holder mark) = s) := by
  have ha := apply_lapse he s.roster.identity h.sender holder mark
  refine ⟨fun ht => boardFate_taken hr (ha.trans (if_pos ht)), fun hn => ?_⟩
  exact ⟨boardFate_void hr (ha.trans (if_neg hn)), boardFrame_void hr (ha.trans (if_neg hn))⟩

theorem loseClaim_board (s : State) (page : Nat) : (s.loseClaim page).board = s.reviewComplete.board := by
  unfold State.loseClaim
  dsimp only
  split
  · rw [(raise_frame _ _ _ _ _).2.2.2.2.1]
    exact reviewComplete_board_congr (by simp)
  · rw [State.loseUnlisted, (raise_frame _ _ _ _ _).2.2.2.2.1]
    exact reviewComplete_board_congr (by simp)

theorem lapseFrame_taken {s : State} {h : FrameHdr} {page holder mark : Nat}
    (hf : s.boardFate h.sender (.lapse page holder mark) = .taken) : s.lapseFrame h page holder mark =
      if holder = s.straps.station then (s.boardFrame h.sender (.lapse page holder mark)).loseClaim page
      else (s.boardFrame h.sender (.lapse page holder mark)).reviewComplete := by
  rw [State.lapseFrame, hf]

theorem lapseFrame_void {s : State} {h : FrameHdr} {page holder mark : Nat}
    (hf : s.boardFate h.sender (.lapse page holder mark) = .void)
    (hb : s.boardFrame h.sender (.lapse page holder mark) = s) : s.lapseFrame h page holder mark =
      if h.sender = s.straps.station then s.restartLease page else s := by
  rw [State.lapseFrame, hf, hb]
  simp [isOwn_iff]

theorem lapseFrame_board {s : State} {h : FrameHdr} {page holder mark : Nat}
    (hf : s.boardFate h.sender (.lapse page holder mark) = .taken) : (s.lapseFrame h page holder mark).board =
      (s.boardFrame h.sender (.lapse page holder mark)).reviewComplete.board := by
  rw [lapseFrame_taken hf]
  split_ifs
  · exact loseClaim_board _ _
  · rfl

theorem restartLease_eq (s : State) (page : Nat) : ∃ ls, s.restartLease page = s.setBoard { s.board with leases := ls } ∧
    ∀ q, q ≠ page → ls[q]? = s.board.leases[q]? := by
  unfold State.restartLease
  split_ifs
  · exact ⟨_, rfl, fun q hq => List.getElem?_set_ne (Ne.symm hq)⟩
  · exact ⟨_, rfl, fun _ _ => rfl⟩

/-- R27: the entry of a claim that lapses. -/
theorem lapse_entry (e : Entry) (holder : Nat) : e.lapse holder = { e with
    lapses := e.lapses + 1, status := if e.lapses + 1 < 3 then .opened else .failed holder .lapsed } := rfl

theorem lapse_lease {e : Entry} (holder station : Nat) (hs : e.status = .claimed holder) :
    ¬ (e.status = (e.lapse holder).status ∧ e.mark = (e.lapse holder).mark) ∧ leaseFor station (e.lapse holder) = none := by
  rw [lapse_entry, hs]
  by_cases h : e.lapses + 1 < 3
  · simp [h, leaseFor]
  · simp [h, leaseFor]

/-- R27: the work list without a page that stands in it once. -/
theorem filter_page {before after : List WorkEntry} {w : WorkEntry} (h : ∀ x ∈ before ++ after, x.page ≠ w.page) :
    (before ++ w :: after).filter (fun e => decide (e.page ≠ w.page)) = before ++ after := by
  have keep (l : List WorkEntry) (hl : ∀ x ∈ l, x.page ≠ w.page) : l.filter (fun e => decide (e.page ≠ w.page)) = l :=
    List.filter_eq_self.mpr (fun x hx => by simpa using hl x hx)
  rw [List.filter_append, List.filter_cons, keep before (fun x hx => h x (List.mem_append_left _ hx)),
    keep after (fun x hx => h x (List.mem_append_right _ hx))]
  simp

theorem find_page {before after : List WorkEntry} {w : WorkEntry} (h : ∀ x ∈ before ++ after, x.page ≠ w.page) :
    (before ++ w :: after).find? (fun e => decide (e.page = w.page)) = some w := by
  rw [List.find?_append, List.find?_eq_none.mpr (fun x hx => by simpa using h x (List.mem_append_left _ hx))]
  simp

theorem not_listed {work : List WorkEntry} {page : Nat} (h : ∀ w ∈ work, w.page ≠ page) :
    work.filter (fun e => decide (e.page ≠ page)) = work ∧ work.find? (fun e => decide (e.page = page)) = none :=
  ⟨List.filter_eq_self.mpr (fun x hx => by simpa using h x hx), List.find?_eq_none.mpr (fun x hx => by simpa using h x hx)⟩

theorem leaveWork_work (s : State) (page : Nat) :
    (s.leaveWork page).claims.work = s.claims.work.filter (fun e => decide (e.page ≠ page)) := by
  simp [State.leaveWork]

/-- R27, R161: the loss of this station's own claim as one fault, with the state it is raised in. -/
structure Lost (s v : State) (page : Nat) : Prop where
  work : v.claims.work = s.claims.work.filter (fun e => decide (e.page ≠ page))
  fault : v.fault.phase = s.fault.phase ∧ v.fault.record = s.fault.record ∧ v.fault.serial = s.fault.serial
  comp : v.comp = s.comp
  lane : v.lane = s.lane

theorem loseClaim_listed {s : State} {page : Nat} {w : WorkEntry}
    (h : s.claims.work.find? (fun e => decide (e.page = page)) = some w) :
    ∃ v, Lost s v page ∧ s.loseClaim page = v.raise .claimLost (some page) none w.phase.lostDetail := by
  refine ⟨((s.leaveWork page).settlePage page false).reviewComplete, ⟨?_, ?_, ?_, ?_⟩, ?_⟩
  · simpa using leaveWork_work s page
  · simp
  · simp
  · simp
  · simp only [State.loseClaim, State.workEntry, h]

theorem loseClaim_unlisted {s : State} {page : Nat}
    (h : s.claims.work.find? (fun e => decide (e.page = page)) = none) :
    ∃ (v : State) (d : Nat), Lost s v page ∧ s.loseClaim page = v.raise .claimLost (some page) none d ∧ d < 65536 := by
  let u := ((s.leaveWork page).settlePage page false).reviewComplete
  refine ⟨u.setFault { u.fault with unlisted := u.fault.unlisted + 1 }, _, ⟨?_, ?_, ?_, ?_⟩, ?_,
    (Config.lostDetail u.fault.unlisted).isLt⟩
  · simpa [u] using leaveWork_work s page
  · simp [u]
  · simp [u]
  · simp [u]
  · simp only [State.loseClaim, State.workEntry, h]
    rfl

/-- What the fault of a lost claim comes to in the state before the LAPSE. -/
theorem Lost.raised {s v : State} {page : Nat} (l : Lost s v page) (d : Nat) :
    let t := (v.raise .claimLost (some page) none d).afterFrame
    (s.fault.phase ≠ .recovering → t.claims.work = s.claims.work.filter (fun e => decide (e.page ≠ page))) ∧
    (s.fault.phase = .clear → ∃ x, t.fault.record = some x ∧ x.serial = s.fault.serial ∧ x.cause = .claimLost ∧
      x.page = some page ∧ x.cell = none ∧ x.followOn = 0 ∧ x.detail = d) ∧
    (s.fault.phase ≠ .clear → t.fault.record = s.fault.counted) ∧
    (∀ x, s.comp.held = some x → x.page = page → s.lane.inFlight = none → t.comp.cut = true) := by
  obtain ⟨work, ⟨phase, record, serial⟩, comp, lane⟩ := l
  obtain ⟨keeps, cut⟩ := raise_lost_spec v page d
  refine ⟨fun h => ?_, fun h => ?_, fun h => ?_, fun x hx hp hf => ?_⟩
  · rw [(afterFrame_waiting _).2, keeps (by rw [phase]; exact h), work]
  · have recorded := (raise_clear v .claimLost (some page) none d (phase.trans h)).1
    exact ⟨_, by simpa only [afterFrame_frame] using recorded, serial, rfl, rfl, rfl, rfl, rfl⟩
  · simp only [afterFrame_frame]
    rw [(raise_again v _ _ _ _ (by rw [phase]; exact h)).1, FaultUnit.counted, record]
    rfl
  · simp only [afterFrame_frame]
    refine cut x (by rw [comp]; exact hx) hp ?_
    simp [State.cuttable, State.holdsPage, State.closeHanded, comp, lane, hx, hf]

end Sys2Proof.Lapsing

open Sys2Proof Sys2Proof.Machine Sys2Proof.Laws Sys2Proof.Bus Sys2Proof.Hearing Sys2Proof.Afterwards Sys2Proof.FollowOns
  Sys2Proof.Lapsing

/-- Settles O33: a LAPSE puts one entry; the holder's station loses the page under one fault. -/
theorem lapseOpensOrFailsThePage : Obligations.LapseOpensOrFailsThePage := by
  refine ⟨fun s h page holder mark r e hs hr he => ?_, fun s h page mark r e before after w hs hr he hst hm hw hp hn => ?_,
    fun s h page mark r e hs hr he hst hm hn => ?_⟩
  · intro taken
    let u := heard s h (.lapse page holder mark)
    have hexec : exec (.lapse h page holder mark) s = .next (u.lapseFrame h page holder mark).afterFrame :=
      (exec_lapse h page holder mark s).trans (congrArg _ (applyFrame_hears hs h _ _))
    have quiet := heard_quietly s h (.lapse page holder mark)
    obtain ⟨yes, no⟩ := lapse_fate (s := u) (h := h) (holder := holder) (mark := mark) hr he
    by_cases ht : taken
    · obtain ⟨r', p⟩ := boardFrame_put (s := u) hr he (apply_lapse he _ h.sender holder mark)
      have p := BoardPut.review (t := u.boardFrame h.sender (.lapse page holder mark)) p
      rw [← lapseFrame_board (yes ht), ← (afterFrame_frame _).2.2.2.2.2.1, if_pos ht] at p
      obtain ⟨differs, none⟩ := lapse_lease holder s.straps.station ht.1
      refine ⟨_, _, hexec, p.replica, p.present, fun q hq => p.other hq, fun _ => ⟨fun hl => ?_, p.entry he⟩,
        fun hnt => absurd ht hnt, fun ho => ?_⟩
      · rw [← none]
        exact p.lease he differs hl
      · refine (quiet.trans ?_).trans (afterFrame_quietly _)
        rw [lapseFrame_taken (yes ht), if_neg (show ¬ holder = u.straps.station from ho.resolve_left (not_not.mpr ht))]
        exact (boardFrame_quietly _ _ _).trans (reviewComplete_quietly _)
    · obtain ⟨fate, same⟩ := no ht
      obtain ⟨ls, restarted, others⟩ := restartLease_eq u page
      have void := lapseFrame_void fate same
      have still : ∃ ls, u.lapseFrame h page holder mark = u.setBoard { u.board with leases := ls } ∧
          ∀ q, q ≠ page → ls[q]? = u.board.leases[q]? := by
        rw [void]
        split_ifs
        · exact ⟨ls, restarted, others⟩
        · exact ⟨_, rfl, fun _ _ => rfl⟩
      obtain ⟨ls, framed, others⟩ := still
      refine ⟨_, r, hexec, ?_, rfl, fun q hq => ⟨rfl, ?_⟩, fun h => absurd h ht, fun _ => he, fun _ => ?_⟩
      · rw [(afterFrame_frame _).2.2.2.2.2.1, framed]
        exact hr
      · rw [(afterFrame_frame _).2.2.2.2.2.1, framed]
        exact others q hq
      · rw [framed]
        exact (quiet.trans (setBoard_quietly _ _)).trans (afterFrame_quietly _)
  · subst hp
    obtain ⟨b, hb⟩ := lapseFrame_own (s := heard s h (.lapse w.page s.straps.station mark)) h hr he hst hm
    obtain ⟨v, lost, raised⟩ := loseClaim_listed (s := (heard s h (.lapse w.page s.straps.station mark)).setBoard b)
      (page := w.page) (w := w) (by
        show s.claims.work.find? _ = _
        rw [hw]
        exact find_page hn)
    obtain ⟨work, record, counted, cut⟩ := lost.raised w.phase.lostDetail
    refine ⟨_, (exec_lapse h w.page _ mark s).trans (congrArg _ (applyFrame_hears hs h _ _)), ?_⟩
    have framed := hb.trans raised
    rw [← framed] at work record counted cut
    refine ⟨fun hr => (work hr).trans ?_, fun hc => ?_, counted, cut⟩
    · show s.claims.work.filter _ = _
      rw [hw]
      exact filter_page hn
    · obtain ⟨x, recorded, serial, cause, page, cell, follows, detail⟩ := record hc
      exact ⟨x, recorded, serial, cause, page, cell, follows, detail.trans (by cases w.phase <;> rfl)⟩
  · obtain ⟨b, hb⟩ := lapseFrame_own (s := heard s h (.lapse page s.straps.station mark)) h hr he hst hm
    obtain ⟨listed, found⟩ := not_listed hn
    obtain ⟨v, d, lost, raised, bound⟩ := loseClaim_unlisted
      (s := (heard s h (.lapse page s.straps.station mark)).setBoard b) (page := page) found
    obtain ⟨work, record, counted, -⟩ := lost.raised d
    refine ⟨_, (exec_lapse h page _ mark s).trans (congrArg _ (applyFrame_hears hs h _ _)), ?_⟩
    have framed := hb.trans raised
    rw [← framed] at work record counted
    refine ⟨fun hr => (work hr).trans listed, fun hc => ?_, counted⟩
    obtain ⟨x, recorded, serial, cause, page, cell, follows, detail⟩ := record hc
    exact ⟨x, recorded, serial, cause, page, cell, follows, detail.trans_lt bound⟩
end

section
/-! PROOFS. DONE, RELEASE and FAIL (R28 to R30, R37, R48). -/

namespace Sys2Proof.Closing

open Sys2Proof Sys2Proof.Machine Sys2Proof.Laws Sys2Proof.Bus Sys2Proof.Silencing Sys2Proof.Hearing Sys2Proof.Afterwards
  Sys2Proof.Claiming Sys2Proof.Lapsing

/-- R22 to R30, R37: the board after a frame for one page whose block leaves the reviewed board. -/
theorem framed_board {s v : State} {h : FrameHdr} {f : Frame} {page : Nat} {r : Replica} {e e' : Entry} {taken : Prop}
    [Decidable taken] (hr : s.board.replica = some r) (he : r.entries[page]? = some e)
    (ha : r.apply s.roster.identity h.sender f = if taken then some (r.put page e') else none)
    (hv : v.board = ((heard s h f).boardFrame h.sender f).reviewComplete.board) :
    ∃ r', BoardPut s v.afterFrame.board r page (if taken then e' else e) r' ∧ r'.complete = completeBoard r'.entries := by
  obtain ⟨r', p⟩ := boardFrame_put (s := heard s h f) hr he ha
  have p := BoardPut.review (t := (heard s h f).boardFrame h.sender f) p
  rw [← hv, ← (afterFrame_frame v).2.2.2.2.2.1] at p
  exact ⟨_, ⟨p.replica, p.present, p.entries, p.leases, p.launched⟩, rfl⟩

/-! ## A closing frame of this station outside RECOVERING (R28 to R30, R48) -/

theorem tryEnd_idle {s : State} (h : s.fault.phase ≠ .recovering) : s.tryEnd = s := by
  unfold State.tryEnd
  exact if_neg (fun hr => h hr.1)

theorem closeApplied_idle {s : State} (page : Nat) (h : s.fault.phase ≠ .recovering) :
    s.closeApplied page = (s.settlePage page true).reviewComplete :=
  tryEnd_idle (by simpa using h)

theorem reviewComplete_grows (s : State) : Grows s s.reviewComplete := by
  cases hr : s.board.replica with
  | none => exact .of_link (by rw [reviewComplete_absent hr])
  | some r =>
    by_cases hc : r.complete = false ∧ completeBoard r.entries = true
    · rw [reviewComplete_reports hr hc.1 hc.2]
      exact (Grows.of_link rfl).trans (emit_grows _ _)
    · exact .of_link (by rw [reviewComplete_quiet hr hc]; rfl)

/-- R37: a board with a page still to do is not complete, and nothing is reported. -/
theorem reviewComplete_link {s : State} {r : Replica} (hr : s.board.replica = some r) (hc : completeBoard r.entries = false) :
    s.reviewComplete.link = s.link := by
  rw [reviewComplete_quiet hr (by simp [hc])]
  rfl

theorem not_complete {es : List Entry} {page : Nat} {e : Entry} (h : es[page]? = some e) (he : e.settled = false) :
    completeBoard es = false := by
  refine Bool.eq_false_iff.mpr (fun hc => ?_)
  have := List.all_eq_true.mp hc e (List.mem_of_getElem? h)
  simp [he] at this

theorem emit_outbound {s : State} (b : OutBody) (h : s.link.outbound.length < 64) :
    (s.emit b).link.outbound = s.link.outbound ++ [⟨s.straps.station, b⟩] := by
  rw [emit_link, Link.handed, if_pos h]
  rfl

/-- R28 to R30: what the sender's own closing frame leaves of its work list and of the records upstream. -/
structure Closed (s t : State) (work : List WorkEntry) : Prop where
  work : t.claims.work = work
  grows : Grows s t

theorem closeApplied_closed {s : State} (page : Nat) (h : s.fault.phase ≠ .recovering) :
    Closed s (s.closeApplied page) s.claims.work := by
  rw [closeApplied_idle page h]
  exact ⟨by simp, (Grows.of_link (by simp)).trans (reviewComplete_grows _)⟩

/-- R48: a PAGE_REPORT goes first. -/
theorem reported_closed {s : State} (page : Nat) (edition : Option Nat) (o : PageOutcome) (n : Option Notices)
    (h : s.fault.phase ≠ .recovering) (hl : s.link.outbound.length < 64) :
    let t := (s.reportPage page edition o n).closeApplied page
    t.claims.work = s.claims.work ∧
    ∃ more, t.link.outbound = s.link.outbound ++ ⟨s.straps.station, .pageReport page edition o n⟩ :: more := by
  have emitted := emit_outbound (.pageReport page edition o n) hl
  have closed := closeApplied_closed (s := s.emit (.pageReport page edition o n)) page (by simpa using h)
  obtain ⟨more, grown⟩ := closed.grows
  exact ⟨closed.work.trans (by simp), more, grown.trans (by rw [emitted, List.append_assoc]; rfl)⟩

/-! ## DONE (R28) -/

theorem doneFrame_other {s : State} {h : FrameHdr} (hn : h.sender ≠ s.straps.station) (page edition : Nat) :
    s.doneFrame h page edition = (s.boardFrame h.sender (.done page edition)).reviewComplete := by
  rw [State.doneFrame, if_neg (fun ho => hn ((isOwn_iff s h).mp ho))]

theorem doneFrame_taken {s : State} {h : FrameHdr} {page edition : Nat} (ho : h.sender = s.straps.station)
    (hf : s.boardFate h.sender (.done page edition) = .taken) : s.doneFrame h page edition =
      (((s.boardFrame h.sender (.done page edition)).leaveWork page).reportPage page (some edition)
        ((s.boardFrame h.sender (.done page edition)).doneOutcome page) (s.noticesOf page)).closeApplied page := by
  rw [State.doneFrame, if_pos ((isOwn_iff s h).mpr ho), hf]

theorem doneFrame_void {s : State} {h : FrameHdr} {page edition : Nat} (ho : h.sender = s.straps.station)
    (hf : s.boardFate h.sender (.done page edition) = .void) : s.doneFrame h page edition =
      ((s.boardFrame h.sender (.done page edition)).reportPage page (some edition) .lost none).closeApplied page := by
  rw [State.doneFrame, if_pos ((isOwn_iff s h).mpr ho), hf]

theorem doneOutcome_of {s : State} {r : Replica} {page sender edition : Nat} {e : Entry} (hr : s.board.replica = some r)
    (he : r.entries[page]? = some (e.done sender edition)) :
    s.doneOutcome page = if e.need ≤ edition then .printed else .reopenedStale := by
  simp only [State.doneOutcome, hr, he, Entry.done]
  split_ifs <;> simp_all [PageStatus.code]

/-- R28, R48: the sender's own DONE. -/
theorem done_own {s : State} {h : FrameHdr} {page edition : Nat} {r : Replica} {e : Entry}
    (hr : s.board.replica = some r) (he : r.entries[page]? = some e) (ho : h.sender = s.straps.station)
    (hp : s.fault.phase ≠ .recovering) (hl : s.link.outbound.length < 64) :
    let t := s.doneFrame h page edition
    (e.status = .claimed h.sender → t.claims.work = s.claims.work.filter (fun x => decide (x.page ≠ page))) ∧
    (e.status ≠ .claimed h.sender → t.claims.work = s.claims.work) ∧
    ∃ more, t.link.outbound = s.link.outbound ++ ⟨s.straps.station, .pageReport page (some edition)
      (if e.status ≠ .claimed h.sender then .lost else if e.need ≤ edition then .printed else .reopenedStale)
      (if e.status ≠ .claimed h.sender then none else s.noticesOf page)⟩ :: more := by
  have ha := apply_done he s.roster.identity h.sender edition
  by_cases ht : e.status = .claimed h.sender
  · rw [if_pos ht] at ha
    have framed := boardFrame_taken hr ha
    have outcome := doneOutcome_of (s := s.boardFrame h.sender (.done page edition)) (r := r.put page (e.done h.sender edition))
      (by rw [framed]; rfl) (put_at he _)
    rw [doneFrame_taken ho (boardFate_taken hr ha), outcome]
    obtain ⟨work, more, out⟩ := reported_closed (s := (s.boardFrame h.sender (.done page edition)).leaveWork page) page
      (some edition) (if e.need ≤ edition then .printed else .reopenedStale) (s.noticesOf page) (by simpa using hp)
      (by simpa using hl)
    refine ⟨fun _ => ?_, fun hn => absurd ht hn, more, ?_⟩
    · rw [work, leaveWork_work]
      simp
    · rw [out]
      simp [ht]
  · rw [if_neg ht] at ha
    rw [doneFrame_void ho (boardFate_void hr ha), boardFrame_void hr ha]
    obtain ⟨work, more, out⟩ := reported_closed (s := s) page (some edition) .lost none hp hl
    exact ⟨fun h => absurd h ht, fun _ => work, more, by rw [out, if_pos ht, if_pos ht]⟩

/-- R37: the flag of a board whose pages are all PRINTED or FAILED. -/
theorem completeBoard_iff (es : List Entry) : completeBoard es = true ↔
    ∀ x ∈ es, (∃ st n, x.status = .printed st n) ∨ ∃ st k, x.status = .failed st k := by
  rw [completeBoard, List.all_eq_true]
  refine forall₂_congr (fun x _ => ?_)
  unfold Entry.settled
  cases x.status <;> simp

theorem printed_iff (x : Entry) : x.status.code = 2 ↔ x.status.printedEdition.isSome = true := by
  cases x.status <;> simp [PageStatus.code, PageStatus.printedEdition]

/-! ## RELEASE and FAIL (R29, R30) -/

theorem releaseFrame_other {s : State} {h : FrameHdr} (hn : h.sender ≠ s.straps.station) (page : Nat) :
    s.releaseFrame h page = (s.boardFrame h.sender (.release page)).reviewComplete := by
  rw [State.releaseFrame, if_neg (fun ho => hn ((isOwn_iff s h).mp ho))]

theorem releaseFrame_taken {s : State} {h : FrameHdr} {page : Nat} (ho : h.sender = s.straps.station)
    (hf : s.boardFate h.sender (.release page) = .taken) : s.releaseFrame h page =
      ((s.boardFrame h.sender (.release page)).leaveWork page).closeApplied page := by
  rw [State.releaseFrame, if_pos ((isOwn_iff s h).mpr ho), hf]

theorem releaseFrame_void {s : State} {h : FrameHdr} {page : Nat} (ho : h.sender = s.straps.station)
    (hf : s.boardFate h.sender (.release page) = .void) : s.releaseFrame h page =
      (s.boardFrame h.sender (.release page)).closeApplied page := by
  rw [State.releaseFrame, if_pos ((isOwn_iff s h).mpr ho), hf]

theorem failFrame_other {s : State} {h : FrameHdr} (hn : h.sender ≠ s.straps.station) (page cause : Nat) :
    s.failFrame h page cause = (s.boardFrame h.sender (.fail page cause)).reviewComplete := by
  rw [State.failFrame, if_neg (fun ho => hn ((isOwn_iff s h).mp ho))]

theorem failFrame_taken {s : State} {h : FrameHdr} {page cause : Nat} (ho : h.sender = s.straps.station)
    (hf : s.boardFate h.sender (.fail page cause) = .taken) : s.failFrame h page cause =
      (((s.boardFrame h.sender (.fail page cause)).leaveWork page).reportPage page (s.editionUsed page) .failed
        (s.noticesOf page)).closeApplied page := by
  rw [State.failFrame, if_pos ((isOwn_iff s h).mpr ho), hf]

theorem failFrame_void {s : State} {h : FrameHdr} {page cause : Nat} (ho : h.sender = s.straps.station)
    (hf : s.boardFate h.sender (.fail page cause) = .void) : s.failFrame h page cause =
      (s.boardFrame h.sender (.fail page cause)).closeApplied page := by
  rw [State.failFrame, if_pos ((isOwn_iff s h).mpr ho), hf]

/-- R30: an applied FAIL names SPOILED or UNFETCHABLE. -/
theorem failCauseOf_iff (cause : Nat) : (cause = 2 ∨ cause = 3) ↔ ∃ k, failCauseOf cause = some k := by
  unfold failCauseOf
  split <;> simp_all

/-- R30: the FAIL of the holder with a cause that stands puts the FAILED entry; every other FAIL is void. -/
theorem apply_fail_iff {r : Replica} {page : Nat} {e : Entry} (he : r.entries[page]? = some e) (identity : Option Id32)
    (sender cause : Nat) : r.apply identity sender (.fail page cause) =
      if e.status = .claimed sender ∧ (cause = 2 ∨ cause = 3) then
        some (r.put page { e with status := .failed sender ((failCauseOf cause).getD .spoiled) }) else none := by
  cases hc : failCauseOf cause with
  | none =>
    rw [apply_fail_bad page identity sender hc, if_neg]
    rw [failCauseOf_iff, hc]
    simp
  | some k =>
    rw [apply_fail he identity sender hc]
    exact if_congr (by simp [failCauseOf_iff, hc]) rfl rfl

theorem open_unsettled (e : Entry) : e.open.settled = false := rfl

/-- R29: the sender's own RELEASE leaves the work list or not, and reports nothing. -/
theorem release_own {s : State} {h : FrameHdr} {page : Nat} {r : Replica} {e : Entry}
    (hr : s.board.replica = some r) (he : r.entries[page]? = some e) (ho : h.sender = s.straps.station)
    (hp : s.fault.phase ≠ .recovering) :
    let t := s.releaseFrame h page
    t.claims.work = (if e.status = .claimed h.sender then s.claims.work.filter (fun x => decide (x.page ≠ page))
      else s.claims.work) ∧ (e.status = .claimed h.sender → t.link = s.link) := by
  have ha := apply_release he s.roster.identity h.sender
  by_cases ht : e.status = .claimed h.sender
  · rw [if_pos ht] at ha
    have framed := boardFrame_taken hr ha
    rw [releaseFrame_taken ho (boardFate_taken hr ha), closeApplied_idle page (by simpa using hp)]
    have opened : (((s.boardFrame h.sender (.release page)).leaveWork page).settlePage page true).board.replica =
        some (r.put page e.open) := by
      simp only [settlePage_frame, leaveWork_frame, framed]
      rfl
    refine ⟨?_, fun _ => ?_⟩
    · rw [if_pos ht]
      simp [leaveWork_work]
    · rw [reviewComplete_link opened (not_complete (put_at he e.open) (open_unsettled e))]
      simp
  · rw [if_neg ht] at ha
    rw [releaseFrame_void ho (boardFate_void hr ha), boardFrame_void hr ha]
    exact ⟨by rw [(closeApplied_closed page hp).work, if_neg ht], fun h => absurd h ht⟩

theorem release_other_link {s : State} {h : FrameHdr} {page : Nat} {r : Replica} {e : Entry}
    (hr : s.board.replica = some r) (he : r.entries[page]? = some e) (hn : h.sender ≠ s.straps.station)
    (ht : e.status = .claimed h.sender) : (s.releaseFrame h page).link = s.link := by
  have ha := (apply_release he s.roster.identity h.sender).trans (if_pos ht)
  rw [releaseFrame_other hn, boardFrame_taken hr ha]
  exact reviewComplete_link (s := s.setBoard _) rfl (not_complete (put_at he e.open) (open_unsettled e))

/-- R30, R48: the sender's own FAIL. -/
theorem fail_own {s : State} {h : FrameHdr} {page cause : Nat} {r : Replica} {e : Entry}
    (hr : s.board.replica = some r) (he : r.entries[page]? = some e) (ho : h.sender = s.straps.station)
    (hp : s.fault.phase ≠ .recovering) :
    let t := s.failFrame h page cause
    let taken := e.status = .claimed h.sender ∧ (cause = 2 ∨ cause = 3)
    (¬ taken → t.claims.work = s.claims.work) ∧
    (taken → s.link.outbound.length < 64 → t.claims.work = s.claims.work.filter (fun x => decide (x.page ≠ page)) ∧
      ∃ more, t.link.outbound = s.link.outbound ++
        ⟨s.straps.station, .pageReport page (s.editionUsed page) .failed (s.noticesOf page)⟩ :: more) := by
  have ha := apply_fail_iff he s.roster.identity h.sender cause
  refine ⟨fun ht => ?_, fun ht hl => ?_⟩
  · have void := ha.trans (if_neg ht)
    rw [failFrame_void ho (boardFate_void hr void), boardFrame_void hr void]
    exact (closeApplied_closed page hp).work
  · have put := ha.trans (if_pos ht)
    rw [failFrame_taken ho (boardFate_taken hr put)]
    obtain ⟨work, more, out⟩ := reported_closed (s := (s.boardFrame h.sender (.fail page cause)).leaveWork page) page
      (s.editionUsed page) .failed (s.noticesOf page) (by simpa using hp) (by simpa using hl)
    refine ⟨?_, more, ?_⟩
    · rw [work, leaveWork_work]
      simp
    · rw [out]
      simp

/-- R37: the replica that a DONE leaves for the review, its complete flag as it was. -/
theorem done_unreviewed {s : State} {h : FrameHdr} {page edition : Nat} {r : Replica} {e : Entry}
    (hr : s.board.replica = some r) (he : r.entries[page]? = some e) :
    let t := s.boardFrame h.sender (.done page edition)
    ∃ q, t.board.replica = some q ∧ q.complete = r.complete ∧ t.board.completions = s.board.completions ∧
      t.board.lastLaunched = s.board.lastLaunched := by
  have ha := apply_done he s.roster.identity h.sender edition
  by_cases ht : e.status = .claimed h.sender
  · rw [boardFrame_taken hr (ha.trans (if_pos ht))]
    exact ⟨_, rfl, rfl, rfl, rfl⟩
  · rw [boardFrame_void hr (ha.trans (if_neg ht))]
    exact ⟨r, hr, rfl, rfl, rfl⟩

theorem report_eq (r : Replica) (identity : Option Id32) (lastLaunched completions : Nat) :
    r.report identity lastLaunched completions =
      let failed (k : FailCause) : Nat := (r.entries.filter (fun x => decide (x.status.failCause = some k))).length
      { identity := identity, pages := r.entries.length,
        printed := (r.entries.filter (fun x => x.status.printedEdition.isSome)).length,
        lapsed := failed .lapsed, spoiled := failed .spoiled, unfetchable := failed .unfetchable,
        lastLaunched := lastLaunched, reprints := (r.entries.map (fun x => x.reprints)).sum,
        completions := completions } := by
  have same : (fun x : Entry => decide (x.status.code = 2)) = fun x : Entry => x.status.printedEdition.isSome := by
    funext x
    rw [Bool.eq_iff_iff, decide_eq_true_iff, printed_iff]
  rw [Replica.report, same]

end Sys2Proof.Closing

open Sys2Proof Sys2Proof.Machine Sys2Proof.Laws Sys2Proof.Bus Sys2Proof.Silencing Sys2Proof.Hearing Sys2Proof.Afterwards
  Sys2Proof.Claiming Sys2Proof.Closing

/-- Settles O34: DONE puts one entry, and the complete flag of the board after it reports once. -/
theorem donePrintsOrReopensThePage : Obligations.DonePrintsOrReopensThePage := by
  refine ⟨fun s h page edition r e hs hr he => ?_, fun s h page edition r e hs hr he hn => ?_⟩
  · let u := heard s h (.done page edition)
    obtain ⟨r', p, -⟩ := framed_board (v := u.doneFrame h page edition) hr he
      (apply_done he _ h.sender edition) (doneFrame_board u h page edition)
    refine ⟨_, r', (exec_done h page edition s).trans (congrArg _ (applyFrame_hears hs h _ _)), p.replica, p.present,
      fun q hq => p.other hq, fun ht => ?_, fun hn => ?_, fun hn => ?_, fun ho hp hl => ?_⟩
    · rw [if_pos ht] at p
      refine ⟨fun hl => (p.lease he ?_ hl).trans ?_, p.entry he⟩
      · rw [ht]
        by_cases hd : e.need ≤ edition <;> simp [Entry.done, hd]
      · by_cases hd : e.need ≤ edition <;> simp [Entry.done, hd, leaseFor]
    · rw [if_neg hn] at p
      rw [(p.same he).1, he]
    · refine ((heard_quietly s h (.done page edition)).trans ?_).trans (afterFrame_quietly _)
      rw [doneFrame_other (s := heard s h (.done page edition)) hn]
      exact (boardFrame_quietly _ _ _).trans (reviewComplete_quietly _)
    · obtain ⟨taken, void, more, out⟩ := done_own (s := u) (edition := edition) hr he ho hp hl
      refine ⟨fun ht => ?_, fun ht => ?_, more, ?_⟩
      · rw [(afterFrame_waiting _).2]
        exact taken ht
      · rw [(afterFrame_waiting _).2]
        exact void ht
      · simp only [afterFrame_frame]
        exact out
  · let u := heard s h (.done page edition)
    let v := u.boardFrame h.sender (.done page edition)
    obtain ⟨r', p, flag⟩ := framed_board (v := u.doneFrame h page edition) hr he
      (apply_done he _ h.sender edition) (doneFrame_board u h page edition)
    have framed : u.doneFrame h page edition = v.reviewComplete := doneFrame_other (s := u) hn page edition
    obtain ⟨q, replica, unreviewed, completions, launched⟩ := done_unreviewed (s := u) (h := h) (edition := edition) hr he
    have same : r' = reviewed q := by
      have reviews := (reviewComplete_replica replica).1
      rw [← framed, ← (afterFrame_frame (u.doneFrame h page edition)).2.2.2.2.2.1, p.replica] at reviews
      exact Option.some.inj reviews
    subst same
    refine ⟨_, reviewed q, (exec_done h page edition s).trans (congrArg _ (applyFrame_hears hs h _ _)), p.replica,
      completeBoard_iff _, fun hc hd => ?_, fun hnot => ?_⟩
    · rw [framed, reviewComplete_reports replica (unreviewed.trans hc) hd]
      refine ⟨?_, ?_⟩
      · simp only [afterFrame_frame, emit_frame, setBoard_board, completions]
        rfl
      · simp only [afterFrame_frame, emit_link]
        rw [report_eq, launched, completions]
        simp only [boardFrame_frame, setLink_link, setBoard_link, setBoard_straps]
        rfl
    · rw [framed, reviewComplete_quiet replica (fun hb => hnot ⟨unreviewed ▸ hb.1, hb.2⟩)]
      refine ⟨?_, ?_⟩
      · simp only [afterFrame_frame]
        exact completions
      · simp only [afterFrame_frame]
        simp only [setBoard_link, boardFrame_frame]
        rfl

/-- Settles O35: RELEASE opens and FAIL fails the page of the sender that holds it. -/
theorem releaseOpensAndFailFailsThePage : Obligations.ReleaseOpensAndFailFailsThePage := by
  refine fun s h page r e hs hr he => ⟨?_, fun cause => ?_⟩
  · let u := heard s h (.release page)
    obtain ⟨r', p, -⟩ := framed_board (v := u.releaseFrame h page) hr he
      (apply_release he _ h.sender) (releaseFrame_board u h page)
    refine ⟨_, r', (exec_release h page s).trans (congrArg _ (applyFrame_hears hs h _ _)), p.replica, p.present,
      fun q hq => p.other hq, fun ht => ?_, fun hn => ?_, fun hn => ?_, fun ho hp => ?_⟩
    · rw [if_pos ht] at p
      refine ⟨p.entry he, fun hl => p.lease he (by simp [Entry.open, ht]) hl, fun hp => ?_⟩
      simp only [afterFrame_frame]
      by_cases ho : h.sender = s.straps.station
      · exact (release_own (s := u) hr he ho hp).2 ht
      · exact release_other_link (s := u) hr he ho ht
    · rw [if_neg hn] at p
      rw [(p.same he).1, he]
    · refine ((heard_quietly s h (.release page)).trans ?_).trans (afterFrame_quietly _)
      rw [releaseFrame_other (s := heard s h (.release page)) hn]
      exact (boardFrame_quietly _ _ _).trans (reviewComplete_quietly _)
    · rw [(afterFrame_waiting _).2]
      exact (release_own (s := u) hr he ho hp).1
  · let u := heard s h (.fail page cause)
    obtain ⟨r', p, -⟩ := framed_board (v := u.failFrame h page cause) hr he
      (apply_fail_iff he _ h.sender cause) (failFrame_board u h page cause)
    refine ⟨_, r', (exec_fail h page cause s).trans (congrArg _ (applyFrame_hears hs h _ _)), p.replica, p.present,
      fun q hq => p.other hq, fun ht hc hl => ?_, fun ht hc => ?_, fun ht hc => ?_, fun hn => ?_, fun hn => ?_,
      fun ho hp => ⟨fun hn => ?_, fun ht hc hl => ?_⟩⟩
    · rw [if_pos ⟨ht, hc⟩] at p
      exact p.lease he (by simp [ht]) hl
    · rw [if_pos ⟨ht, .inl hc⟩] at p
      rw [p.entry he, hc]
      rfl
    · rw [if_pos ⟨ht, .inr hc⟩] at p
      rw [p.entry he, hc]
      rfl
    · rw [if_neg (by rintro ⟨ht, hc⟩; rcases hn with hn | hn; exacts [hn ht, hc.elim hn.1 hn.2])] at p
      rw [(p.same he).1, he]
    · refine ((heard_quietly s h (.fail page cause)).trans ?_).trans (afterFrame_quietly _)
      rw [failFrame_other (s := heard s h (.fail page cause)) hn]
      exact (boardFrame_quietly _ _ _).trans (reviewComplete_quietly _)
    · rw [(afterFrame_waiting _).2]
      exact (fail_own (s := u) hr he ho hp).1 (fun ⟨ht, hc⟩ => hn.elim (fun h => h ht) (fun h => hc.elim h.1 h.2))
    · obtain ⟨work, more, out⟩ := (fail_own (s := u) (cause := cause) hr he ho hp).2 ⟨ht, hc⟩ hl
      refine ⟨?_, more, ?_⟩
      · rw [(afterFrame_waiting _).2]
        exact work
      · simp only [afterFrame_frame]
        exact out
end

section
/-! PROOFS. JOIN and LEAVE of another station (R31, R32, R149, R157). -/

namespace Sys2Proof.JoinLeave

open Sys2Proof Sys2Proof.Machine Sys2Proof.Laws Sys2Proof.Bus Sys2Proof.Hearing Sys2Proof.Afterwards
  Sys2Proof.Claiming Sys2Proof.FollowOns

theorem exec_join (h : FrameHdr) (station : Nat) (identity : Id32) (s : State) : exec (.join h station identity) s =
    .next (s.applyFrame h (.join station identity) (fun t => t.joinFrame h station identity)) := rfl

theorem exec_leave (h : FrameHdr) (station : Nat) (s : State) : exec (.leave h station) s =
    .next (s.applyFrame h (.leave station) (fun t => t.leaveFrame h station)) := rfl

/-! ## Present flags (R31, R32) -/

theorem stationBit_bit {station : Nat} (h : station < 16) (q : Nat) :
    (stationBit station).getLsbD q = decide (q = station) := by
  have shift : stationBit station = BitVec.twoPow 16 station := by
    apply BitVec.eq_of_toNat_eq
    rw [stationBit, BitVec.toNat_ofNat, BitVec.toNat_twoPow]
  rw [shift, BitVec.getLsbD_twoPow]
  by_cases hq : q = station
  · simp [hq, h]
  · simp [hq, Ne.symm hq]

theorem present_set (p : StationSet) {station : Nat} (h : station < 16) (q : Nat) :
    (p ||| stationBit station).getLsbD q = (p.getLsbD q || decide (q = station)) := by
  rw [BitVec.getLsbD_or, stationBit_bit h]

theorem present_clear (p : StationSet) {station : Nat} (h : station < 16) (q : Nat) :
    (p &&& ~~~ stationBit station).getLsbD q = (p.getLsbD q && !decide (q = station)) := by
  rw [BitVec.getLsbD_and, BitVec.getLsbD_not, stationBit_bit h]
  by_cases hq : q < 16
  · simp [hq]
  · simp [BitVec.getLsbD_of_ge p q (Nat.le_of_not_lt hq)]

/-! ## A station's claims opened (R31, R32) -/

/-- The entries with a station's claims opened. -/
def opened (es : List Entry) (station : Nat) : List Entry :=
  es.map (fun e => if e.status = .claimed station then { e with status := .opened } else e)

theorem free_entries (r : Replica) (station : Nat) (present : StationSet) :
    (r.free station present).entries = opened r.entries station := rfl

theorem opened_leases {station sender p : Nat} {es : List Entry} {e : Entry} {leases : List (Option Lease)}
    (he : es[p]? = some e) : (leasesAfter station es (opened es sender) leases)[p]? =
      if e.status = .claimed sender then (leases[p]?).map (fun _ => none) else leases[p]? := by
  have after : (opened es sender)[p]? = some (if e.status = .claimed sender then { e with status := .opened } else e) := by
    rw [opened, List.getElem?_map, he]
    rfl
  rw [leasesAfter_at he after]
  by_cases hc : e.status = .claimed sender
  · simp [hc, leaseFor]
  · simp [hc]

theorem apply_join {r : Replica} (identity : Option Id32) (sender station : Nat) (pid : Id32) :
    r.apply identity sender (.join station pid) = if station = sender ∧ identity = some pid then
      some (r.free sender (r.present ||| stationBit sender)) else none := rfl

theorem apply_leave {r : Replica} (identity : Option Id32) (sender station : Nat) :
    r.apply identity sender (.leave station) = if station = sender ∧ r.isPresent sender = true then
      some (r.free sender (r.present &&& ~~~ (stationBit sender))) else none := rfl

/-- R31, R32: the board with a station's claims opened and its present flag as it now is. -/
structure Freed (s : State) (b : Board) (r : Replica) (sender : Nat) (present : StationSet) (r' : Replica) : Prop where
  replica : b.replica = some r'
  present : r'.present = present
  entries : r'.entries = opened r.entries sender
  leases : ∀ p e, r.entries[p]? = some e → p < s.board.leases.length →
    b.leases[p]? = if e.status = .claimed sender then some none else s.board.leases[p]?

theorem boardFrame_freed {s : State} {sender : Nat} {f : Frame} {r : Replica} {present : StationSet}
    (hr : s.board.replica = some r) (ha : r.apply s.roster.identity sender f = some (r.free sender present)) :
    ∃ r', Freed s (s.boardFrame sender f).reviewComplete.board r sender present r' := by
  have framed := boardFrame_taken hr ha
  obtain ⟨replica, leases, -⟩ := reviewComplete_replica (s := s.boardFrame sender f) (r := r.free sender present)
    (by rw [framed]; rfl)
  refine ⟨_, replica, rfl, rfl, fun p e he hl => ?_⟩
  rw [leases, framed]
  refine (opened_leases (leases := s.board.leases) he).trans ?_
  rw [List.getElem?_eq_getElem hl]
  rfl

theorem boardFrame_stands {s : State} {sender : Nat} {f : Frame} {r : Replica} (hr : s.board.replica = some r)
    (ha : r.apply s.roster.identity sender f = none) :
    let b := (s.boardFrame sender f).reviewComplete.board
    b.replica = some (reviewed r) ∧ b.leases = s.board.leases := by
  rw [boardFrame_void hr ha]
  obtain ⟨replica, leases, -⟩ := reviewComplete_replica hr
  exact ⟨replica, leases⟩

/-! ## The two frames at another station -/

theorem leaveFrame_other {s : State} {h : FrameHdr} (hn : h.sender ≠ s.straps.station) (station : Nat) :
    s.leaveFrame h station = (s.boardFrame h.sender (.leave station)).reviewComplete := by
  rw [State.leaveFrame, if_neg (fun ho => hn ((isOwn_iff s h).mp ho))]

theorem joinFrame_other {s : State} {h : FrameHdr} (hn : h.sender ≠ s.straps.station) (station : Nat) (identity : Id32) :
    s.joinFrame h station identity =
      (s.boardFrame h.sender (.join station identity)).reviewComplete.joinHeard identity := by
  rw [State.joinFrame, if_neg (fun ho => hn ((isOwn_iff s h).mp ho))]

theorem joinHeard_elsewhere {s : State} (identity : Id32) (h : s.ctl.state ≠ .syncing) : s.joinHeard identity = s :=
  if_neg (fun hs => h hs.1)

theorem joinFrame_elsewhere {s : State} {h : FrameHdr} (hn : h.sender ≠ s.straps.station) (hst : s.ctl.state ≠ .syncing)
    (station : Nat) (identity : Id32) :
    s.joinFrame h station identity = (s.boardFrame h.sender (.join station identity)).reviewComplete :=
  (joinFrame_other hn station identity).trans (joinHeard_elsewhere identity (by simpa using hst))

/-- R31, R32: a frame whose block only puts it on the board. -/
theorem reviewed_quietly (s : State) (h : FrameHdr) (f : Frame) :
    Quietly s ((heard s h f).boardFrame h.sender f).reviewComplete.afterFrame :=
  (((heard_quietly s h f).trans (boardFrame_quietly _ _ _)).trans (reviewComplete_quietly _)).trans (afterFrame_quietly _)

theorem exec_reviewed {s : State} {h : FrameHdr} {f : Frame} {c : Instr} {act : State → State} (hs : s.hears)
    (hc : exec c s = .next (s.applyFrame h f act))
    (ha : act (heard s h f) = ((heard s h f).boardFrame h.sender f).reviewComplete) :
    exec c s = .next ((heard s h f).boardFrame h.sender f).reviewComplete.afterFrame := by
  rw [hc, applyFrame_hears hs, ha]

theorem afterFrame_board (s : State) : s.afterFrame.board = s.board := (afterFrame_frame s).2.2.2.2.2.1

/-! ## Another station's JOIN in SYNCING (R149) -/

theorem heard_hasAsk {s : State} {h : FrameHdr} (f : Frame) (hn : h.sender ≠ s.straps.station) :
    (heard s h f).hasAsk = s.hasAsk := by
  have port : passedPort s h f = s.port.otherPassed (runAfter s.port.run h.sender h.hold) :=
    if_neg (fun hi => hn ((isSending_iff _ _ _ _).mp hi).1)
  have same : ∀ l : List TxEntry, (l.map TxEntry.wait).any (fun e => e.body.isAsk) = l.any (fun e => e.body.isAsk) := by
    intro l
    rw [List.any_map]
    rfl
  unfold State.hasAsk
  rw [show (heard s h f).port = passedPort s h f from rfl, port]
  exact congrArg (_ || ·) (same s.port.queue)

theorem afterFrame_ask {s : State} {x : TxEntry} (hx : x ∈ s.port.queue) (ha : x.body.isAsk = true) :
    x ∈ s.afterFrame.port.queue := by
  refine afterFrame_keeps hx (.inr (fun hs => ?_)) (.inr ?_)
  · rcases stale_body hs with ⟨p, hb⟩ | ⟨p, holder, mark, hb⟩ <;> simp [hb, TxBody.isAsk] at ha
  · cases hb : x.body with
    | run => rfl
    | frame f => cases f <;> simp_all [TxBody.isAsk, TxBody.isClaim]

/-- R149: the ASK offered where none is queued or waiting. -/
theorem offerAsk_spec (s : State) :
    (∃ port waiting, s.offerAsk = { s with port := port, ctl := { s.ctl with waiting := waiting } }) ∧
    (s.hasAsk = true → s.offerAsk = s) ∧
    (s.hasAsk = false → s.canQueue = true → s.offerAsk = { s with port := s.port.queued (s.ctlBody .ask) }) ∧
    (s.hasAsk = false → s.canQueue = false → s.offerAsk = s.setCtl { s.ctl with waiting := s.ctl.waiting ++ [.ask] }) := by
  unfold State.offerAsk
  rw [offerCtl_eq]
  refine ⟨?_, fun ha => if_pos ha, fun ha hq => ?_, fun ha hq => ?_⟩
  · split_ifs
    · exact ⟨_, _, rfl⟩
    · exact ⟨_, _, rfl⟩
    · exact ⟨_, _, rfl⟩
  · rw [if_neg (by simp [ha]), if_pos hq]
    rfl
  · rw [if_neg (by simp [ha]), if_neg (by simp [hq])]

theorem afterFrame_touches (s : State) : s.afterFrame = { s with
    port := s.afterFrame.port, claims := { s.claims with pending := s.afterFrame.claims.pending } } := by
  have quiet := afterFrame_quietly s
  have link : s.afterFrame.link = s.link := by simp
  rw [Quietly, afterFrame_board, link] at quiet
  exact quiet

theorem afterFrame_hasAsk {s : State} (h : s.hasAsk = true) : s.afterFrame.hasAsk = true := by
  simp only [State.hasAsk, Bool.or_eq_true, List.any_eq_true] at h ⊢
  rcases h with h | ⟨x, hx, ha⟩
  · exact .inl (by simpa using h)
  · exact .inr ⟨x, afterFrame_ask hx ha, ha⟩

theorem afterFrame_ctl (s : State) : s.afterFrame.ctl = s.ctl := (afterFrame_frame s).2.2.1

/-- R149: what a JOIN heard in SYNCING, with no replica, comes to. -/
theorem joinFrame_syncing {s : State} {h : FrameHdr} (hn : h.sender ≠ s.straps.station) (hr : s.board.replica = none)
    (hst : s.ctl.state = .syncing) (hc : s.ctl.collection = none) (station : Nat) (identity : Id32) :
    s.joinFrame h station identity = if s.roster.identity = some identity then s.startSync.offerAsk else s := by
  rw [joinFrame_other hn, boardFrame_ignored _ _ hr, reviewComplete_absent hr, State.joinHeard]
  simp [hr, hst, hc]

end Sys2Proof.JoinLeave

open Sys2Proof Sys2Proof.Machine Sys2Proof.Laws Sys2Proof.Bus Sys2Proof.Hearing Sys2Proof.Afterwards
  Sys2Proof.Claiming Sys2Proof.JoinLeave

/-- Settles O36: another station's JOIN and LEAVE open its claims; a JOIN heard in SYNCING asks again. -/
theorem joinAndLeaveOpenTheSendersClaims : Obligations.JoinAndLeaveOpenTheSendersClaims := by
  refine ⟨fun s h r hs hr hlt hn => ⟨fun identity hst => ?_, ?_, fun st identity hne hst => ⟨?_, ?_⟩⟩,
    fun s h station identity hs hst hr hn => ?_⟩
  · let u := heard s h (.join h.sender identity)
    have hexec := exec_reviewed (h := h) hs (exec_join h h.sender identity s) (joinFrame_elsewhere (s := u) hn hst _ _)
    have ha := apply_join (r := r) s.roster.identity h.sender h.sender identity
    by_cases hi : s.roster.identity = some identity
    · obtain ⟨r', p⟩ := boardFrame_freed (s := u) (sender := h.sender) hr (ha.trans (if_pos ⟨rfl, hi⟩))
      rw [← afterFrame_board] at p
      refine ⟨_, r', hexec, reviewed_quietly s h _, p.replica, fun _ => ⟨?_, fun q hq => ?_, p.entries, p.leases⟩, fun hd => absurd hi hd⟩
      · rw [Replica.isPresent, p.present, present_set _ hlt]
        simp
      · rw [Replica.isPresent, p.present, present_set _ hlt]
        simp [hq, Replica.isPresent]
    · obtain ⟨replica, leases⟩ := boardFrame_stands (s := u) (sender := h.sender) hr (ha.trans (if_neg (fun h => hi h.2)))
      rw [← afterFrame_board] at replica leases
      exact ⟨_, _, hexec, reviewed_quietly s h _, replica, fun h => absurd h hi, fun _ => ⟨rfl, rfl, leases⟩⟩
  · let u := heard s h (.leave h.sender)
    have hexec := exec_reviewed (h := h) hs (exec_leave h h.sender s) (leaveFrame_other (s := u) hn _)
    have ha := apply_leave (r := r) s.roster.identity h.sender h.sender
    by_cases hp : r.isPresent h.sender = true
    · obtain ⟨r', p⟩ := boardFrame_freed (s := u) (sender := h.sender) hr (ha.trans (if_pos ⟨rfl, hp⟩))
      rw [← afterFrame_board] at p
      refine ⟨_, r', hexec, reviewed_quietly s h _, p.replica, fun q hq => ?_, ?_, fun _ => ⟨p.entries, p.leases⟩,
        fun hd => absurd hp (by simp [hd])⟩
      · rw [Replica.isPresent, p.present, present_clear _ hlt]
        simp [hq, Replica.isPresent]
      · rw [Replica.isPresent, p.present, present_clear _ hlt]
        simp
    · obtain ⟨replica, leases⟩ := boardFrame_stands (s := u) (sender := h.sender) hr (ha.trans (if_neg (fun h => hp h.2)))
      rw [← afterFrame_board] at replica leases
      exact ⟨_, _, hexec, reviewed_quietly s h _, replica, fun _ _ => rfl, (show r.isPresent h.sender = false by simpa using hp), fun h => absurd h hp,
        fun _ => ⟨rfl, leases⟩⟩
  · let u := heard s h (.join st identity)
    have hexec := exec_reviewed (h := h) hs (exec_join h st identity s) (joinFrame_elsewhere (s := u) hn hst _ _)
    obtain ⟨replica, -⟩ := boardFrame_stands (s := u) (sender := h.sender) hr
      ((apply_join (r := r) s.roster.identity h.sender st identity).trans (if_neg (fun h => hne h.1)))
    rw [← afterFrame_board] at replica
    exact ⟨_, _, hexec, replica, rfl, rfl⟩
  · let u := heard s h (.leave st)
    have hexec := exec_reviewed (h := h) hs (exec_leave h st s) (leaveFrame_other (s := u) hn _)
    obtain ⟨replica, -⟩ := boardFrame_stands (s := u) (sender := h.sender) hr
      ((apply_leave (r := r) s.roster.identity h.sender st).trans (if_neg (fun h => hne h.1)))
    rw [← afterFrame_board] at replica
    exact ⟨_, _, hexec, replica, rfl, rfl⟩
  · let u := heard s h (.join station identity)
    have framed := joinFrame_syncing (s := u) hn hr hst hs.2 station identity
    have hexec := (exec_join h station identity s).trans (congrArg _ (applyFrame_hears hs h _ _))
    have asks : u.startSync.hasAsk = s.hasAsk := heard_hasAsk _ hn
    by_cases hi : s.roster.identity = some identity
    · rw [if_pos (show u.roster.identity = some identity from hi)] at framed
      obtain ⟨⟨port, waiting, touches⟩, present, queued, waits⟩ := offerAsk_spec u.startSync
      rw [framed] at hexec
      refine ⟨_, hexec, ?_, fun _ => ⟨?_, fun ha hq => ?_, fun ha hq => ?_⟩, fun h => ?_, fun hd => absurd hi hd⟩
      · rw [afterFrame_touches]
        rw [touches]
        rfl
      · rw [afterFrame_ctl, touches]
        rfl
      · have room : u.startSync.canQueue = true := heard_canQueue hs h _ hq
        rw [afterFrame_ctl, queued (asks.trans ha) room]
        refine ⟨rfl, u.startSync.port.entry (u.startSync.ctlBody .ask), afterFrame_ask (by simp [Port.queued]) rfl, rfl, ?_⟩
        show TxBody.frame (.ask (s.roster.identity.getD 0)) = _
        rw [hi]
        rfl
      · refine afterFrame_hasAsk ?_
        by_cases room : u.startSync.canQueue = true
        · rw [queued (asks.trans ha) room]
          simp [State.hasAsk, Port.queued, Port.entry, State.ctlBody, TxBody.isAsk]
        · rw [waits (asks.trans ha) (by simpa using room)]
          simp [State.hasAsk]
      · rw [afterFrame_ctl, present (asks.trans (h.resolve_left (not_not.mpr hi)))]
        rfl
    · rw [if_neg (show ¬ u.roster.identity = some identity from hi)] at framed
      rw [framed] at hexec
      refine ⟨_, hexec, ?_, fun h => absurd h hi, fun _ => ?_, fun _ => ?_⟩
      · rw [afterFrame_touches]
        rfl
      · rw [afterFrame_ctl]
        rfl
      · rw [afterFrame_ctl]
        rfl
end

section
/-! PROOFS. The station's own JOIN and LEAVE, and the end of a recovery (R31, R32, R64, R65, R157, R162, R166 to R168). -/

namespace Sys2Proof.Ending

open Sys2Proof Sys2Proof.Machine Sys2Proof.Laws Sys2Proof.FaultRules Sys2Proof.LinkFaults Sys2Proof.Bus Sys2Proof.Silencing
  Sys2Proof.Halting Sys2Proof.Hearing Sys2Proof.Afterwards Sys2Proof.Claiming Sys2Proof.Closing Sys2Proof.JoinLeave

/-! ## The end of a recovery (R162, R167) -/

/-- R162: the state of a recovery that has ended, its deferred outcomes still to be acted on. -/
def ended (s : State) : State := s.setFault { s.fault with phase := .held, deferred := [] }

/-- R162: those outcomes acted on, oldest first. -/
def replayed (s : State) : State := s.fault.deferred.foldl (fun st d => State.claimOutcome st d.1 d.2) (ended s)

theorem claimOutcomes_fault (l : List (Sheet × EngineOutcome)) (s : State) :
    (l.foldl (fun st d => State.claimOutcome st d.1 d.2) s).fault = s.fault ∧
    (l.foldl (fun st d => State.claimOutcome st d.1 d.2) s).ctl = s.ctl ∧
    (l.foldl (fun st d => State.claimOutcome st d.1 d.2) s).straps = s.straps :=
  ⟨foldl_keeps (fun t : State => t.fault) _ (by intros; simp) _ _, foldl_keeps (fun t : State => t.ctl) _ (by intros; simp) _ _,
    foldl_keeps (fun t : State => t.straps) _ (by intros; simp) _ _⟩

/-- R168: the first report of a recovery that has ended. -/
def endReport (s : State) (x : FaultRecord) : FaultReport :=
  { record := x, state := s.ctl.state, closed := s.fault.closed, lost := s.fault.lost, repeats := 0 }

theorem sendFaultReport_ended {s u : State} {x : FaultRecord} (fault : u.fault = (ended s).fault) (ctl : u.ctl = s.ctl)
    (straps : u.straps = s.straps) (hr : s.fault.record = some x) : u.sendFaultReport 0 =
      (u.setLink (u.link.handed ⟨s.straps.station, .faultReport (endReport s x)⟩)).setFault
      { s.fault with phase := .held, deferred := [], reportTimer := some 1000, repeats := 0 } := by
  have sent : u.sendFaultReport 0 = (u.setLink (u.link.handed ⟨u.straps.station, .faultReport
      { record := x, state := u.ctl.state, closed := u.fault.closed, lost := u.fault.lost, repeats := 0 }⟩)).setFault
      { u.fault with reportTimer := some 1000, repeats := 0 } :=
    sendFaultReport_eq 0 ((congrArg FaultUnit.record fault).trans hr)
  rw [sent, fault, ctl, straps]
  rfl

/-- R162, R167, R168: as a recovery ends the first FAULT_REPORT goes after what the deferred outcomes send. -/
theorem tryEnd_ends {s : State} {x : FaultRecord} (hp : s.fault.phase = .recovering) (hs : s.fault.settled = true)
    (hr : s.fault.record = some x) : s.tryEnd =
      ((replayed s).setLink ((replayed s).link.handed ⟨s.straps.station, .faultReport (endReport s x)⟩)).setFault
      { s.fault with phase := .held, deferred := [], reportTimer := some 1000, repeats := 0 } := by
  obtain ⟨fault, ctl, straps⟩ := claimOutcomes_fault s.fault.deferred (ended s)
  have ends : s.tryEnd = (replayed s).sendFaultReport 0 := if_pos ⟨hp, hs⟩
  rw [ends]
  exact sendFaultReport_ended fault ctl straps hr

theorem handed_outbound {l : Link} (r : OutRecord) (h : l.outbound.length < 64) :
    (l.handed r).outbound = l.outbound ++ [r] := by
  rw [Link.handed, if_pos h]

theorem settled_iff (f : FaultUnit) : f.settled = true ↔
    f.awaited = [] ∧ f.cutStep = false ∧ f.flushStep = false ∧ f.haltStep = false := by
  simp [FaultUnit.settled, and_assoc]

/-- R162: what stays in the list of records of two deferred outcomes at most one has sent. -/
theorem emit_length (s : State) (b : OutBody) : (s.emit b).link.outbound.length ≤ s.link.outbound.length + 1 := by
  unfold State.emit
  split_ifs <;> simp

theorem reviewComplete_length (s : State) : s.reviewComplete.link.outbound.length ≤ s.link.outbound.length + 1 := by
  cases hr : s.board.replica with
  | none =>
    rw [reviewComplete_absent hr]
    omega
  | some r =>
    by_cases hc : r.complete = false ∧ completeBoard r.entries = true
    · rw [reviewComplete_reports hr hc.1 hc.2]
      exact emit_length _ _
    · rw [reviewComplete_quiet hr hc]
      simp

/-! ## The outcomes of an empty work list (R32, R162) -/

theorem workEntry_workless {s : State} (h : s.claims.work = []) (page : Nat) : s.workEntry page = none := by
  simp [State.workEntry, h]

theorem claimOutcome_unlisted {s : State} {sh : Sheet} (o : EngineOutcome) (hc : sh.cut = false)
    (h : (s.workEntry sh.page).filter (fun e => decide (e.phase = .inEngine)) = none) :
    s.claimOutcome sh o = s.emit (.pageReport sh.page (some sh.edition) .lost none) := by
  rw [State.claimOutcome, if_neg (by simp [hc]), h]
  rfl

theorem claimOutcome_delivered {s : State} {sh : Sheet} {e : WorkEntry} (hc : sh.cut = false)
    (he : s.workEntry sh.page = some e) (hp : e.phase = .inEngine) :
    s.claimOutcome sh .delivered = s.askClosing (.done sh.page (e.edition.getD 0)) sh.page := by
  rw [State.claimOutcome, if_neg (by simp [hc]), he]
  simp [Option.filter, hp]

theorem claimOutcome_spoiled {s : State} {sh : Sheet} {e : WorkEntry} {o : EngineOutcome} (hc : sh.cut = false)
    (he : s.workEntry sh.page = some e) (hp : e.phase = .inEngine) (ho : o ≠ .delivered) (hs : e.spoils = 0) :
    s.claimOutcome sh o = s.requeueSpoiled e := by
  rw [State.claimOutcome, if_neg (by simp [hc]), he]
  cases o with
  | delivered => exact absurd rfl ho
  | spoiled => simp [Option.filter, hp, hs]
  | withdrawn => simp [Option.filter, hp, hs]

/-- R162: with no work left the deferred outcomes only report, each one record at most. -/
theorem claimOutcomes_workless (l : List (Sheet × EngineOutcome)) : ∀ s : State, s.claims.work = [] → ∃ link,
    l.foldl (fun st d => State.claimOutcome st d.1 d.2) s = s.setLink link ∧
    link.outbound.length ≤ s.link.outbound.length + l.length := by
  induction l with
  | nil => exact fun s _ => ⟨s.link, rfl, by simp⟩
  | cons d l ih =>
    intro s h
    have first : ∃ link, s.claimOutcome d.1 d.2 = s.setLink link ∧ link.outbound.length ≤ s.link.outbound.length + 1 := by
      by_cases hc : d.1.cut = true
      · exact ⟨s.link, if_pos hc, by omega⟩
      · rw [claimOutcome_unlisted d.2 (by simpa using hc) (by rw [workEntry_workless h]; rfl), emit_link]
        refine ⟨_, rfl, ?_⟩
        simpa [emit_link] using emit_length s (.pageReport d.1.page (some d.1.edition) .lost none)
    obtain ⟨link, eq, len⟩ := first
    obtain ⟨link', eq', len'⟩ := ih (s.setLink link) h
    refine ⟨link', ?_, ?_⟩
    · rw [List.foldl_cons, eq, eq']
      rfl
    · simp only [setLink_link] at len'
      simp only [List.length_cons]
      omega

/-! ## The station's own LEAVE (R32, R49, R64, R166) -/

/-- R32: the station with its replica ABSENT and its work dropped, the halt settled. -/
def left (s : State) : State :=
  let s1 := (s.dropReplica.dropWork).withdraw TxBody.isClosing
  s1.setFault { s1.fault with haltStep := false }

theorem leaveOwn_eq (s : State) : s.leaveOwn = (left s).tryEnd := rfl

/-- What the LEAVE leaves of the station. -/
structure Left (s t : State) : Prop where
  board : t.board = { s.board with replica := none, leases := [], completions := 0 }
  pool : t.pool = []
  work : t.claims.work = [] ∧ t.claims.waiting = []
  fault : t.fault = { s.fault with awaited := [], haltStep := false }
  prefetch : t.fetch.prefetch = []
  relay : t.link.relay = none
  closing : ∀ x ∈ t.port.queue, x.onBus = false → x.body.isClosing = false
  others : t.ctl = s.ctl ∧ t.roster = s.roster ∧ t.lane = s.lane ∧ t.straps = s.straps
  length : t.link.outbound.length ≤ s.link.outbound.length + 1

theorem relayUnsent_length (s : State) : s.relayUnsent.link.outbound.length ≤ s.link.outbound.length + 1 := by
  unfold State.relayUnsent
  split
  · exact emit_length _ _
  · omega

theorem left_spec (s : State) : Left s (left s) := by
  refine ⟨?_, ?_, ⟨?_, ?_⟩, ?_, ?_, ?_, fun x hx hb => ?_, ⟨?_, ?_, ?_, ?_⟩, ?_⟩
  · simp [left, State.withdraw, dropReplica_board]
  · simp [left, State.withdraw, State.dropReplica]
  · simp [left, State.withdraw, State.dropWork]
  · simp [left, State.withdraw, State.dropWork]
  · simp [left, State.withdraw, State.dropWork]
  · simp [left, State.withdraw, State.dropWork]
  · simp [left, State.withdraw, State.dropReplica, relayUnsent_relay]
  · have mem : x ∈ (s.dropReplica.dropWork).port.queue.filter (fun e => e.onBus || !e.body.isClosing) := hx
    simpa [hb] using (List.mem_filter.mp mem).2
  · simp [left, State.withdraw]
  · simp [left, State.withdraw]
  · simp [left, State.withdraw]
  · simp [left, State.withdraw]
  · have len := relayUnsent_length ((s.setBoard { s.board with replica := none, leases := [], completions := 0 }).setPool [])
    simpa [left, State.withdraw, State.dropReplica] using len

/-- R64, R65: a relayed frame is withdrawn and answered UNSENT. -/
theorem left_unsent {s : State} {f : Frame} (hf : s.link.relay = some f) (hl : s.link.outbound.length < 64) :
    (left s).link.outbound = s.link.outbound ++ [⟨s.straps.station, .relayResult (relayBare f .unsent none)⟩] ∧
    ∀ x ∈ (left s).port.queue, x.onBus = false → x.body.isRelayed = false := by
  let u := (s.setBoard { s.board with replica := none, leases := [], completions := 0 }).setPool []
  have unsent : s.dropReplica = ((u.withdraw TxBody.isRelayed).setLink { u.link with relay := none }).emit
      (.relayResult (relayBare f .unsent none)) := by
    show u.relayUnsent = _
    rw [State.relayUnsent, show u.link.relay = some f from hf]
  refine ⟨?_, fun x hx hb => ?_⟩
  · have link : (left s).link = s.dropReplica.link := by simp [left, State.withdraw]
    rw [link, unsent, emit_outbound _ (by exact hl)]
    rfl
  · have mem : x ∈ (s.dropReplica.dropWork).port.queue := (List.mem_filter.mp hx).1
    have kept : x ∈ s.dropReplica.port.queue := by
      simp only [State.dropWork, State.withdraw, setFault_port, setFetch_port, keepRefs_frame, setPort_port, setClaims_port] at mem
      exact (List.mem_filter.mp mem).1
    rw [unsent] at kept
    have named : x ∈ u.port.queue.filter (fun e => e.onBus || !e.body.isRelayed) := by
      simpa [State.withdraw] using kept
    simpa [hb] using (List.mem_filter.mp named).2

theorem sendFaultReport_touches (s : State) (n : Nat) : ∃ link fault, s.sendFaultReport n = (s.setLink link).setFault fault := by
  unfold State.sendFaultReport
  split
  · exact ⟨s.link, s.fault, rfl⟩
  · rw [emit_link]
    exact ⟨_, _, rfl⟩

/-- R162, R166: with no work left the end of the recovery changes the records upstream and the fault alone. -/
theorem tryEnd_workless {s : State} (h : s.claims.work = []) : ∃ link fault, s.tryEnd = (s.setLink link).setFault fault := by
  by_cases hc : s.fault.phase = .recovering ∧ s.fault.settled = true
  · obtain ⟨link, eq, -⟩ := claimOutcomes_workless s.fault.deferred (ended s) h
    obtain ⟨link', fault, sent⟩ := sendFaultReport_touches (replayed s) 0
    have ends : s.tryEnd = (replayed s).sendFaultReport 0 := if_pos hc
    rw [ends, sent, replayed, eq]
    exact ⟨link', fault, rfl⟩
  · exact ⟨s.link, s.fault, if_neg hc⟩

theorem reviewPending_source {s : State} {x : TxEntry} (hx : x ∈ s.reviewPending.port.queue) : x ∈ s.port.queue := by
  unfold State.reviewPending at hx
  split at hx
  · split_ifs at hx
    · exact (List.mem_filter.mp hx).1
    · exact hx
  · exact hx

theorem afterFrame_source {s : State} {x : TxEntry} (hx : x ∈ s.afterFrame.port.queue) :
    x ∈ s.port.queue ∨ ∃ p station, x.body = .frame (.claim p station) := by
  obtain ⟨q, eq, mem, -⟩ := tidied_eq s
  obtain ⟨new, added, claims⟩ := evalClaim_adds (tidied s).reviewPending
  rw [afterFrame_eq, added] at hx
  rcases List.mem_append.mp hx with hx | hx
  · have kept : x ∈ (tidied s).port.queue := reviewPending_source hx
    rw [eq] at kept
    exact .inl ((mem x).mp kept).1
  · obtain ⟨p, body, -⟩ := claims x hx
    exact .inr ⟨p, _, body⟩

theorem leaveFrame_own {s : State} {h : FrameHdr} (ho : h.sender = s.straps.station) (station : Nat) :
    s.leaveFrame h station = (s.boardFrame h.sender (.leave station)).leaveOwn := by
  rw [State.leaveFrame, if_pos ((isOwn_iff s h).mpr ho)]

/-- R32: what the station's own LEAVE comes to, to the end of a recovery. -/
theorem exec_leave_own {s : State} (hold : Bool) (began : FrameBegan) (station : Nat) (hs : s.hears) : ∃ v : State,
    Quietly s v ∧ v.link = s.link ∧ v.board.lastLaunched = s.board.lastLaunched ∧
    exec (.leave ⟨s.straps.station, hold, began⟩ station) s = .next (left v).tryEnd.afterFrame := by
  let h : FrameHdr := ⟨s.straps.station, hold, began⟩
  let u := heard s h (.leave station)
  refine ⟨u.boardFrame h.sender (.leave station), (heard_quietly s h _).trans (boardFrame_quietly _ _ _), ?_, ?_, ?_⟩
  · simp [u, heard]
  · simp [u, heard]
  · rw [exec_leave, applyFrame_hears hs, leaveFrame_own (s := u) rfl, leaveOwn_eq]

theorem quietly_fields {s v : State} (q : Quietly s v) : v.fault = s.fault ∧ v.ctl = s.ctl ∧ v.roster = s.roster ∧
    v.lane = s.lane ∧ v.straps = s.straps := by
  rw [q]
  exact ⟨rfl, rfl, rfl, rfl, rfl⟩

/-! ## The station's own JOIN (R31, R157) -/

theorem joinFrame_own {s : State} {h : FrameHdr} (ho : h.sender = s.straps.station) (station : Nat) (identity : Id32) :
    s.joinFrame h station identity = (s.boardFrame h.sender (.join station identity)).reviewComplete.joinOwn
      (s.boardFate h.sender (.join station identity)) := by
  rw [State.joinFrame, if_pos ((isOwn_iff s h).mpr ho)]

theorem joinOwn_taken {s : State} (h : s.ctl.state = .syncing) : s.joinOwn .taken = s.activate := if_pos ⟨rfl, h⟩

theorem activate_ctl (s : State) : s.activate.ctl = { s.ctl with state := .active, reask := 0, volumeSeen := true } := by
  simp [State.activate]

/-! ## The RELEASE of the last awaited page (R162) -/

/-- R162: the state in which the recovery's last closing frame has been applied. -/
structure Waited (s w : State) (page : Nat) : Prop where
  fault : w.fault = { s.fault with awaited := [], closed := s.fault.closed + 1 }
  others : w.ctl = s.ctl ∧ w.straps = s.straps
  length : w.link.outbound.length ≤ s.link.outbound.length + 1
  work : w.claims.work = s.claims.work ∨ w.claims.work = s.claims.work.filter (fun e => decide (e.page ≠ page))
  closing : ∀ q, w.closing q = s.closing q

theorem settlePage_last {s : State} {page : Nat} (h : s.fault.awaited = [page]) :
    s.settlePage page true = s.setFault { s.fault with awaited := [], closed := s.fault.closed + 1 } := by
  unfold State.settlePage
  rw [if_pos (by simp [h]), h]
  simp

theorem settle_waited {s v : State} {page : Nat} (ha : s.fault.awaited = [page]) (fault : v.fault = s.fault)
    (others : v.ctl = s.ctl ∧ v.straps = s.straps) (link : v.link = s.link)
    (work : v.claims.work = s.claims.work ∨ v.claims.work = s.claims.work.filter (fun e => decide (e.page ≠ page)))
    (closing : ∀ q, v.closing q = s.closing q) : Waited s (v.settlePage page true).reviewComplete page := by
  rw [settlePage_last (by rw [fault, ha])]
  refine ⟨?_, ?_, ?_, ?_, fun q => ?_⟩
  · simp [fault]
  · simpa using others
  · refine (reviewComplete_length _).trans ?_
    simp [link]
  · simpa using work
  · rw [← closing q]
    exact closing_congr (by simp) (by simp) q

theorem leaveWork_closing (s : State) (page q : Nat) : (s.leaveWork page).closing q = s.closing q := by
  refine (closing_congr (by simp [State.leaveWork]) (by simp [State.leaveWork]) q).trans
    (withdraw_closing (s.setClaims { s.claims with work := s.claims.work.filter (fun e => decide (e.page ≠ page)) })
      (TxBody.isRenew page) q (fun b hb => ?_))
  cases b with
  | run => rfl
  | frame f => cases f <;> simp_all [TxBody.closes, Frame.closes, TxBody.isRenew]

theorem release_waited {s : State} {h : FrameHdr} {page : Nat} {r : Replica} (ho : h.sender = s.straps.station)
    (hr : s.board.replica = some r) (ha : s.fault.awaited = [page]) :
    ∃ w, Waited s w page ∧ s.releaseFrame h page = w.tryEnd := by
  let v := s.boardFrame h.sender (.release page)
  have closing (q : Nat) : v.closing q = s.closing q := closing_congr (by simp [v]) (by simp [v]) q
  cases hp : r.apply s.roster.identity h.sender (.release page) with
  | some r' =>
    refine ⟨_, settle_waited (v := v.leaveWork page) ha (by simp [v]) (by simp [v]) (by simp [v]) (.inr ?_)
      (fun q => (leaveWork_closing _ page q).trans (closing q)), releaseFrame_taken ho (boardFate_taken hr hp)⟩
    simpa [v] using Lapsing.leaveWork_work v page
  | none =>
    exact ⟨_, settle_waited (v := v) ha (by simp [v]) (by simp [v]) (by simp [v]) (.inl (by simp [v])) closing,
      releaseFrame_void ho (boardFate_void hr hp)⟩

theorem exec_release_waited {s : State} (hold : Bool) (began : FrameBegan) {page : Nat} {r : Replica} (hs : s.hears)
    (hr : s.board.replica = some r) (ha : s.fault.awaited = [page]) : ∃ w,
    Waited (heard s ⟨s.straps.station, hold, began⟩ (.release page)) w page ∧
    exec (.release ⟨s.straps.station, hold, began⟩ page) s = .next w.tryEnd.afterFrame := by
  let h : FrameHdr := ⟨s.straps.station, hold, began⟩
  obtain ⟨w, waited, framed⟩ := release_waited (s := heard s h (.release page)) (h := h) rfl hr ha
  refine ⟨w, waited, ?_⟩
  rw [exec_release, applyFrame_hears hs, framed]

theorem exec_reportTimer (s : State) : exec .reportTimerExpiry s = .next s.reportExpiry := rfl

/-- R162: the work list of a recovery that has ended holds the entries whose page it kept. -/
theorem find_kept {before after work : List WorkEntry} {w : WorkEntry} {page : Nat}
    (hw : work = before ++ w :: after ∨ work = (before ++ w :: after).filter (fun e => decide (e.page ≠ page)))
    (hn : ∀ x ∈ before ++ after, x.page ≠ w.page) (hp : w.page ≠ page) :
    work.find? (fun e => decide (e.page = w.page)) = some w := by
  rcases hw with rfl | rfl
  · exact Lapsing.find_page hn
  · rw [List.filter_append, List.filter_cons_of_pos (by simpa using hp)]
    refine Lapsing.find_page (fun x hx => hn x ?_)
    rcases List.mem_append.mp hx with hx | hx
    · exact List.mem_append_left _ (List.mem_filter.mp hx).1
    · exact List.mem_append_right _ (List.mem_filter.mp hx).1

end Sys2Proof.Ending

open Sys2Proof Sys2Proof.Machine Sys2Proof.Laws Sys2Proof.FaultRules Sys2Proof.LinkFaults Sys2Proof.Bus Sys2Proof.Silencing
  Sys2Proof.Halting Sys2Proof.Hearing Sys2Proof.Afterwards Sys2Proof.Claiming Sys2Proof.Closing Sys2Proof.JoinLeave
  Sys2Proof.Ending

/-- Settles O37: the station's own JOIN makes it ACTIVE; its own LEAVE drops the replica, the work and the relayed frame. -/
theorem ownJoinActivatesAndOwnLeaveDrops : Obligations.OwnJoinActivatesAndOwnLeaveDrops := by
  refine ⟨fun s hold began hs => ⟨fun r identity hr hi hst => ?_, fun st hp => ?_⟩, fun s hold began st f hs hf hl => ?_⟩
  · let h : FrameHdr := ⟨s.straps.station, hold, began⟩
    let u := heard s h (.join s.straps.station identity)
    have ha := (apply_join (r := r) s.roster.identity h.sender s.straps.station identity).trans (if_pos ⟨rfl, hi⟩)
    obtain ⟨r', p⟩ := boardFrame_freed (s := u) (sender := h.sender) hr ha
    have framed : u.joinFrame h s.straps.station identity =
        (u.boardFrame h.sender (.join s.straps.station identity)).reviewComplete.activate := by
      rw [joinFrame_own (s := u) (h := h) rfl, boardFate_taken (s := u) hr ha]
      exact joinOwn_taken (by simpa [u, heard] using hst)
    have hexec := (exec_join h s.straps.station identity s).trans (congrArg _ (applyFrame_hears hs h _ _))
    rw [framed] at hexec
    refine ⟨_, r', hexec, ?_, ?_, ?_, ?_, p.entries, ?_, ?_, ?_, ?_⟩
    · rw [afterFrame_ctl, activate_ctl]
    · rw [afterFrame_ctl, activate_ctl]
    · rw [afterFrame_ctl, activate_ctl]
    · rw [afterFrame_board]
      simpa using p.replica
    · simp [u, heard]
    · simp [u, heard]
    · simp [u, heard]
    · simp [u, heard]
  · obtain ⟨v, quiet, -, launched, hexec⟩ := exec_leave_own hold began st hs
    obtain ⟨fault, ctl, roster, lane, -⟩ := quietly_fields quiet
    have l := left_spec v
    obtain ⟨lctl, lroster, llane, -⟩ := l.others
    rw [tryEnd_idle (by rw [l.fault, fault]; exact hp)] at hexec
    refine ⟨_, hexec, ?_, ?_, ?_, ?_, ?_, ?_, ?_, ?_, ?_, fun x hx hb => ?_, ?_, ?_, ?_⟩
    · rw [afterFrame_board, l.board]
    · rw [afterFrame_board, l.board]
    · rw [afterFrame_board, l.board]
      exact launched
    · simpa using l.pool
    · simpa using l.work.1
    · simpa using l.work.2
    · simp [l.fault]
    · simpa using l.prefetch
    · simpa using l.relay
    · rcases afterFrame_source hx with hx | ⟨p, q, hc⟩
      · exact l.closing x hx hb
      · rw [hc]
        rfl
    · rw [afterFrame_ctl, lctl, ctl]
    · simp [lroster, roster]
    · simp [llane, lane]
  · obtain ⟨v, quiet, link, -, hexec⟩ := exec_leave_own hold began st hs
    obtain ⟨-, -, -, -, straps⟩ := quietly_fields quiet
    have l := left_spec v
    obtain ⟨unsent, withdrawn⟩ := left_unsent (s := v) (by rw [link]; exact hf) (by rw [link]; exact hl)
    obtain ⟨endLink, endFault, ends⟩ := tryEnd_workless l.work.1
    obtain ⟨more, grown⟩ := tryEnd_grows (left v)
    refine ⟨_, relayBare f .unsent none, more, hexec, ?_, fun y hy hb => ?_, ?_, fun b hfb => ?_, fun b hfb => ?_⟩
    · simpa using l.relay
    · rcases afterFrame_source hy with hy | ⟨p, q, hc⟩
      · rw [ends] at hy
        exact withdrawn y hy hb
      · rw [hc]
        rfl
    · simp only [afterFrame_frame]
      rw [grown, unsent, link, straps, List.append_assoc]
      rfl
    · subst hfb
      rfl
    · rcases hfb with rfl | rfl
      · simp [relayBare, relayRequest, relayBatch, relaySubject, relayKind]
      · simp [relayBare, relayRequest, relayBatch, relaySubject, relayKind]

/-- Settles O38: a recovery ends with its last closing frame or the LEAVE, and its fault is reported again by the timer. -/
theorem recoveryEndsAndItsFaultIsReportedAgain : Obligations.RecoveryEndsAndItsFaultIsReportedAgain := by
  refine ⟨fun s hold began page r x hs hr hp hx ha hc hf hh hd hl => ?_,
    fun s hold began page r x sh o hs hr hp hx ha hc hf hh hd hl => ?_, fun s hold began st x hs hp hx => ?_,
    fun s x => ⟨fun hp ht hx => ?_, fun hp => ?_⟩⟩
  · obtain ⟨w, waited, hexec⟩ := exec_release_waited hold began hs hr ha
    obtain ⟨fault, ⟨ctl, straps⟩, length, -, -⟩ := waited
    have hw : w.fault = { s.fault with awaited := [], closed := s.fault.closed + 1 } := fault
    have ends := tryEnd_ends (s := w) (x := x) (by rw [hw, hp]) ((settled_iff _).mpr (by simp [hw, hc, hf, hh])) (by rw [hw, hx])
    have same : replayed w = ended w := by
      rw [replayed, hw]
      simp [hd]
    rw [ends, same] at hexec
    refine ⟨_, hexec, ?_, ?_, ?_, ?_, ?_, ?_, endReport w x, w.link.outbound, ?_, rfl, ?_, ?_, rfl⟩
    · simp
    · simp [hw]
    · simp
    · simp [hw, hx]
    · simp
    · simp
    · simp only [afterFrame_frame, setFault_link, setLink_link]
      have short : (ended w).link.outbound.length < 64 :=
        lt_of_le_of_lt length (show s.link.outbound.length + 1 < 64 by omega)
      rw [handed_outbound _ short, straps]
      rfl
    · simp [endReport, ctl, heard]
    · simp [endReport, hw]
  · obtain ⟨w, waited, hexec⟩ := exec_release_waited hold began hs hr ha
    obtain ⟨fault, ⟨ctl, straps⟩, length, work, closing⟩ := waited
    have hw : w.fault = { s.fault with awaited := [], closed := s.fault.closed + 1 } := fault
    have sstraps : w.straps = s.straps := straps
    have ends := tryEnd_ends (s := w) (x := x) (by rw [hw, hp]) ((settled_iff _).mpr (by simp [hw, hc, hf, hh])) (by rw [hw, hx])
    have same : replayed w = (ended w).claimOutcome sh o := by
      rw [replayed, hw]
      simp [hd]
    rw [ends, same] at hexec
    have found {e : WorkEntry} {before after : List WorkEntry} (hwork : s.claims.work = before ++ e :: after)
        (hpage : e.page = sh.page) (hne : sh.page ≠ page) (hother : ∀ y ∈ before ++ after, y.page ≠ sh.page) :
        (ended w).workEntry sh.page = some e := by
      rw [← hpage] at hother hne ⊢
      refine find_kept (page := page) ?_ hother hne
      rw [← hwork]
      exact work
    refine ⟨_, hexec, ?_, ?_, ?_, ?_, fun hcut hno => ?_, fun e before after hcut hwork hpage hphase hne hother => ⟨fun ho hclosing => ?_, fun ho hspoils => ?_⟩⟩
    · simp
    · simp [hw]
    · simp
    · simp [hw, hx]
    · have short : w.link.outbound.length < 62 := lt_of_le_of_lt length (show s.link.outbound.length + 1 < 62 by omega)
      have unlisted : ((ended w).workEntry sh.page).filter (fun e => decide (e.phase = .inEngine)) = none := by
        rw [Option.filter_eq_none_iff]
        intro e he
        have listed : e ∈ s.claims.work := by
          have mem := List.mem_of_find?_eq_some he
          rcases work with work | work
          · exact work ▸ mem
          · have mem : e ∈ w.claims.work := mem
            rw [work] at mem
            exact (List.mem_filter.mp mem).1
        simpa using hno e listed (by simpa using List.find?_some he)
      have out := emit_outbound (s := ended w) (.pageReport sh.page (some sh.edition) .lost none) (lt_trans short (by omega))
      rw [claimOutcome_unlisted o hcut unlisted]
      refine ⟨w.link.outbound, endReport w x, ?_⟩
      simp only [afterFrame_frame, setFault_link, setLink_link]
      rw [handed_outbound _ (by rw [out]; simp [ended]; omega), out, straps]
      simp [ended, sstraps]
      rfl
    · rw [ho, claimOutcome_delivered hcut (found hwork hpage hne hother) hphase]
      have free : (ended w).closing sh.page = false := (closing sh.page).trans (heard_closing _ _ hclosing)
      obtain ⟨-, asks, -⟩ := askClosing_spec (ended w) (.done sh.page (e.edition.getD 0)) sh.page (closesOnly_done _ _)
      exact afterFrame_asked (page := sh.page) (by simp [Frame.closes]) (asks free)
    · rw [claimOutcome_spoiled hcut (found hwork hpage hne hother) hphase ho hspoils]
      exact ⟨(ended w).claims.work.filter (fun y => decide (y.page ≠ e.page)), (afterFrame_waiting _).2.trans rfl⟩
  · obtain ⟨v, quiet, link, -, hexec⟩ := exec_leave_own hold began st hs
    obtain ⟨fault, ctl, -, -, straps⟩ := quietly_fields quiet
    have l := left_spec v
    have lfault := l.fault.trans (by rw [fault])
    refine ⟨_, hexec, ?_, ?_, ?_, ?_, ?_, fun hc => ?_, fun hc hf => ?_⟩
    · simp [lfault]
    · simp [lfault]
    · obtain ⟨endLink, endFault, ends⟩ := tryEnd_workless l.work.1
      simp [ends, l.work.1]
    · simp [l.board]
    · simp [lfault, hx]
    · have open_ : (left v).tryEnd = left v := by
        refine tryEnd_stands _ (.inr ⟨by rw [lfault]; exact hp, Bool.eq_false_iff.mpr (fun hs => ?_)⟩)
        have steps := ((settled_iff _).mp hs).2
        rw [lfault] at steps
        rcases hc with hc | hc
        · simp [hc] at steps
        · simp [hc] at steps
      rw [open_]
      simp [lfault, hp]
    · have ends := tryEnd_ends (s := left v) (x := x) (by rw [lfault]; exact hp)
        ((settled_iff _).mpr (by simp [lfault, hc, hf])) (by rw [lfault]; exact hx)
      obtain ⟨last, replay, length⟩ := claimOutcomes_workless (left v).fault.deferred (ended (left v)) l.work.1
      have same : replayed (left v) = (ended (left v)).setLink last := replay
      rw [ends, same]
      refine ⟨?_, ?_, ?_, fun hl => ⟨last.outbound, endReport (left v) x, ?_, rfl, ?_, ?_, rfl⟩⟩
      · simp
      · simp
      · simp
      · simp only [afterFrame_frame, setFault_link, setLink_link]
        have first := l.length
        rw [link] at first
        have deferred : (left v).fault.deferred = s.fault.deferred := by rw [lfault]
        rw [deferred] at length
        have short : last.outbound.length < 64 :=
          lt_of_le_of_lt length (show (left v).link.outbound.length + s.fault.deferred.length < 64 by omega)
        rw [handed_outbound _ short, l.others.2.2.2, straps]
      · simp [endReport, l.others.1, ctl]
      · simp [endReport, lfault]
  · have sent : s.repeatFaultReport = _ := sendFaultReport_eq (min (s.fault.repeats + 1) 255) hx
    rw [exec_reportTimer, State.reportExpiry, if_pos ⟨hp, ht⟩, sent]
  · rw [exec_reportTimer, State.reportExpiry, if_neg (fun h => hp h.1)]
end

section
/-! PROOFS. The lease timer, the renewal, and the withdrawals of what is out of date (R34 to R36, R40, R138). -/

namespace Sys2Proof.Leases

open Sys2Proof Sys2Proof.Machine Sys2Proof.Laws Sys2Proof.FaultRules Sys2Proof.Requests Sys2Proof.LinkFaults Sys2Proof.Bus Sys2Proof.Places
  Sys2Proof.Hearing Sys2Proof.Afterwards Sys2Proof.Claiming Sys2Proof.FollowOns Sys2Proof.Lapsing Sys2Proof.JoinLeave
  Sys2Proof.Ending

/-! ## The lease timer (R34) -/

theorem exec_leaseExpiry (page : Nat) (s : State) : exec (.leaseExpiry page) s = .next (s.expireLease page) := rfl

theorem firstExpired_some {ls : List (Option Lease)} {p : Nat} (hp : ls[p]? = some (some .expired))
    (h : ∀ q, q ≠ p → ls[q]? ≠ some (some .expired)) : firstExpired ls = some p := by
  have lt : p < ls.length := (List.getElem?_eq_some_iff.mp hp).1
  rw [firstExpired, find_range_iff]
  exact ⟨lt, by simpa using hp, fun q hq => by simpa using h q (Nat.ne_of_lt hq)⟩

theorem firstExpired_none {ls : List (Option Lease)} (h : ∀ q : Nat, ls[q]? ≠ some (some .expired)) : firstExpired ls = none :=
  List.find?_eq_none.mpr (fun q _ => by simpa using h q)

theorem offerUpTo_stands {s : State} (h : s.offerFirst = s) : ∀ n, State.offerUpTo n s = s
  | 0 => rfl
  | n + 1 => by rw [State.offerUpTo, h, offerUpTo_stands h n]

/-- R34: the timers with one of them put, in a board where no other has run out. -/
theorem set_unexpired {ls : List (Option Lease)} {page : Nat} {l : Lease} (hl : ls[page]? = some (some .running))
    (hn : ∀ q : Nat, ls[q]? ≠ some (some .expired)) :
    (ls.set page (some l))[page]? = some (some l) ∧ ∀ q, q ≠ page → (ls.set page (some l))[q]? ≠ some (some .expired) := by
  refine ⟨List.getElem?_set_self (List.getElem?_eq_some_iff.mp hl).1, fun q hq => ?_⟩
  rw [List.getElem?_set_ne (Ne.symm hq)]
  exact hn q

theorem expireLease_running {s : State} {page : Nat} (h : s.board.leases[page]? = some (some .running)) :
    s.expireLease page = State.offerUpTo 16
      (s.setBoard { s.board with leases := s.board.leases.set page (some .expired) }) := by
  rw [State.expireLease, if_pos h]

theorem expireLease_offers {s : State} {page holder : Nat} {r : Replica} {e : Entry} (hr : s.board.replica = some r)
    (hl : s.board.leases[page]? = some (some .running)) (he : r.entries[page]? = some e) (hs : e.status = .claimed holder)
    (hn : ∀ q : Nat, s.board.leases[q]? ≠ some (some .expired)) (hm : s.mayOffer = true) :
    s.expireLease page = { s with
      port := s.port.queued (.frame (.lapse page holder e.mark)),
      board := { s.board with leases := s.board.leases.set page (some .offered) } } := by
  let u := s.setBoard { s.board with leases := s.board.leases.set page (some .expired) }
  obtain ⟨ran, others⟩ := set_unexpired (l := .expired) hl hn
  have offers : u.offerFirst = { s with
      port := s.port.queued (.frame (.lapse page holder e.mark)),
      board := { s.board with leases := s.board.leases.set page (some .offered) } } := by
    rw [offerFirst_expired (s := u) hm (firstExpired_some ran others), offerLapse_claimed (s := u) hr he hs]
    simp [u]
  rw [expireLease_running hl]
  show State.offerUpTo 15 u.offerFirst = _
  rw [offers]
  refine offerUpTo_stands (offerFirst_none (.inr (firstExpired_none fun q => ?_))) 15
  obtain ⟨offered, rest⟩ := set_unexpired (l := .offered) hl hn
  by_cases hq : q = page
  · show (s.board.leases.set page (some .offered))[q]? ≠ _
    rw [hq, offered]
    simp
  · exact rest q hq

theorem expireLease_waits {s : State} {page : Nat} (hl : s.board.leases[page]? = some (some .running))
    (hm : s.mayOffer = false) :
    s.expireLease page = { s with board := { s.board with leases := s.board.leases.set page (some .expired) } } := by
  let u := s.setBoard { s.board with leases := s.board.leases.set page (some .expired) }
  have stands : u.offerFirst = u := offerFirst_none (.inl hm)
  rw [expireLease_running hl, offerUpTo_stands stands]
  rfl

/-! ## The renewal (R35) -/

theorem exec_renewalDue (page : Nat) (s : State) : exec (.renewalDue page) s = .next (s.renewDue page) := rfl

theorem isRenew_iff (b : TxBody) (page : Nat) : b.isRenew page = true ↔ b = .frame (.renew page) := by
  cases b with
  | run => simp [TxBody.isRenew]
  | frame f => cases f <;> simp [TxBody.isRenew]

theorem renewDue_iff (s : State) (page : Nat) :
    ((s.workEntry page).isSome && !s.port.queue.any (fun e => e.body.isRenew page) && s.canQueue) = true ↔
      (∃ e ∈ s.claims.work, e.page = page) ∧ (∀ x ∈ s.port.queue, x.body ≠ .frame (.renew page)) ∧
      s.takesOffers = true ∧ s.port.queue.length < 16 := by
  simp [State.workEntry, canQueue_iff, isRenew_iff, and_assoc]

/-! ## A void LAPSE (R34) -/

/-- R34: a void LAPSE of this station starts an offered timer again. -/
theorem lapse_void {s : State} {h : FrameHdr} {page holder mark : Nat} {r : Replica} {e : Entry}
    (hr : s.board.replica = some r) (he : r.entries[page]? = some e) (hn : ¬ (e.status = .claimed holder ∧ e.mark = mark)) :
    s.lapseFrame h page holder mark = s.setBoard
      (if h.sender = s.straps.station ∧ s.board.leases[page]? = some (some .offered)
        then { s.board with leases := s.board.leases.set page (some .running) } else s.board) := by
  obtain ⟨fate, same⟩ := (lapse_fate (h := h) hr he).2 hn
  rw [lapseFrame_void fate same]
  by_cases ho : h.sender = s.straps.station
  · by_cases hl : s.board.leases[page]? = some (some .offered)
    · rw [if_pos ho, if_pos ⟨ho, hl⟩]
      exact if_pos hl
    · rw [if_pos ho, if_neg (fun h => hl h.2)]
      exact if_neg hl
  · rw [if_neg ho, if_neg (fun h => ho h.1)]
    rfl

/-! ## What the end of a step leaves waiting (R35, R36, R138) -/

/-- R138: nothing that waits after a step is out of date. -/
theorem afterFrame_fresh {s : State} {x : TxEntry} (hx : x ∈ s.afterFrame.port.queue) (hb : x.onBus = false) :
    ¬ Stale s x.body := by
  obtain ⟨q, eq, mem, -⟩ := tidied_eq s
  obtain ⟨new, added, claims⟩ := evalClaim_adds (tidied s).reviewPending
  rw [afterFrame_eq, added] at hx
  rcases List.mem_append.mp hx with hx | hx
  · have kept : x ∈ (tidied s).port.queue := reviewPending_source hx
    rw [eq] at kept
    exact ((mem x).mp kept).2.resolve_left (by simp [hb])
  · obtain ⟨p, body, -⟩ := claims x hx
    rintro hs
    rcases stale_body hs with ⟨p, hc⟩ | ⟨p, holder, mark, hc⟩ <;> rw [body] at hc <;> cases hc

/-- R36: a LAPSE that is not out of date names a claim that stands. -/
theorem not_stale_lapse {s : State} {page holder mark : Nat} {r : Replica} (h : ¬ Stale s (.frame (.lapse page holder mark)))
    (hr : s.board.replica = some r) : ∃ e, r.entries[page]? = some e ∧ e.status = .claimed holder ∧ e.mark = mark := by
  have stands : r.staleLapse (.frame (.lapse page holder mark)) = false := by
    simpa using fun hs => h (.inr ⟨r, hr, hs⟩)
  simp only [Replica.staleLapse] at stands
  cases he : r.entries[page]? with
  | none => simp [he] at stands
  | some e => exact ⟨e, rfl, by simpa [he] using stands⟩

/-- R35: a RENEW that is not out of date names a page of the work list. -/
theorem not_stale_renew {s : State} {page : Nat} (h : ¬ Stale s (.frame (.renew page))) :
    ∃ w ∈ s.claims.work, w.page = page := by
  have stands : staleRenew s.claims.work (.frame (.renew page)) = false := by
    simpa using fun hs => h (.inl hs)
  simpa [staleRenew] using stands

/-! ## LAUNCH at another station (R36, R55) -/

theorem exec_launch (h : FrameHdr) (b : Nat) (s : State) : exec (.launch h b) s =
    .next (s.applyFrame h (.launch b) (fun t => t.launchFrame h b)) := rfl

theorem launchFrame_port (s : State) (h : FrameHdr) (b : Nat) : (s.launchFrame h b).port = s.port ∧
    (s.launchFrame h b).claims = s.claims := by
  unfold State.launchFrame
  split_ifs
  · exact ⟨rfl, rfl⟩
  · split
    · simp
    · simp

theorem launch_claimed {e : Entry} {holder : Nat} (h : e.status = .claimed holder) (edition : Nat) :
    (e.launch edition).status = .claimed holder ∧ (e.launch edition).mark = e.mark := by
  simp [Entry.launch, h]

/-- R55: a LAUNCH leaves the claims and their marks. -/
theorem launchFrame_claimed {s : State} {r : Replica} {page holder : Nat} {e : Entry} (h : FrameHdr) (b : Nat)
    (hr : s.board.replica = some r) (he : r.entries[page]? = some e) (hs : e.status = .claimed holder) :
    ∃ r' e', (s.launchFrame h b).board.replica = some r' ∧ r'.entries[page]? = some e' ∧ e'.status = .claimed holder ∧
      e'.mark = e.mark := by
  unfold State.launchFrame
  rw [if_neg (by simp [hr])]
  split
  · exact ⟨r, e, by simpa using hr, he, hs, rfl⟩
  next batch _ =>
    let pool := withoutBatch s.pool b
    let u := (s.launchBoard batch pool).relayApplied h (relayJudged (.launch b) pool .taken none none (some batch.edition))
    have launched : u.board.replica = some (r.launch (s.roster.touchedBy batch.records) batch.edition) := by
      simp [u, State.launchBoard, hr]
    obtain ⟨reviewedBoard, -⟩ := reviewComplete_replica launched
    refine ⟨reviewed (r.launch (s.roster.touchedBy batch.records) batch.edition),
      if s.roster.touchedBy batch.records page then e.launch batch.edition else e, ?_, ?_, ?_, ?_⟩
    · simp only [enqueueBatch_frame]
      exact reviewedBoard
    · show (r.entries.mapIdx _)[page]? = _
      rw [List.getElem?_mapIdx, he]
      rfl
    · split_ifs
      · exact (launch_claimed hs _).1
      · exact hs
    · split_ifs
      · exact (launch_claimed hs _).2
      · rfl

/-! ## The pending claim withdrawn (R40) -/

/-- R40: no claim is pending and none waits in the queue. -/
def Unclaimed (s : State) : Prop :=
  s.claims.pending = none ∧ ∀ x ∈ s.port.queue, x.onBus = false → x.body.isClaim = false

theorem reviewPending_withdraws {s : State} {p : Nat} (hp : s.claims.pending = some p) (hs : s.pendingStale p = true)
    (hq : ∃ x ∈ s.port.queue, x.onBus = false ∧ x.body.isClaim = true) : s.reviewPending =
      (s.withdraw TxBody.isClaim).setClaims { s.claims with pending := none } := by
  unfold State.reviewPending
  rw [hp]
  refine if_pos ?_
  obtain ⟨x, hx, hb, hc⟩ := hq
  simp only [hs, Bool.true_and, List.any_eq_true]
  exact ⟨x, hx, by simp [hb, hc]⟩

theorem reviewPending_unclaimed {s : State} {p : Nat} (hp : s.claims.pending = some p) (hs : s.pendingStale p = true)
    (hq : ∃ x ∈ s.port.queue, x.onBus = false ∧ x.body.isClaim = true) : Unclaimed s.reviewPending := by
  rw [reviewPending_withdraws hp hs hq]
  refine ⟨rfl, fun x hx hb => ?_⟩
  have kept : x ∈ s.port.queue.filter (fun e => e.onBus || !e.body.isClaim) := hx
  simpa [hb] using (List.mem_filter.mp kept).2

theorem Unclaimed.of_same {s t : State} (u : Unclaimed s) (hp : t.claims.pending = s.claims.pending) (hq : t.port = s.port) :
    Unclaimed t := ⟨hp.trans u.1, by rw [hq]; exact u.2⟩

theorem Unclaimed.askClosing {s : State} (u : Unclaimed s) {f : Frame} {page : Nat} (hf : f.closes page = true) :
    Unclaimed (s.askClosing f page) := by
  unfold State.askClosing
  split_ifs
  · exact u
  · refine ⟨u.1, fun x hx hb => ?_⟩
    have mem : x ∈ s.port.queue ++ [s.port.entry (.frame f)] := hx
    rcases List.mem_append.mp mem with hx | hx
    · exact u.2 x hx hb
    · rw [List.mem_singleton.mp hx]
      exact isClaim_of_closes (page := page) (b := .frame f) hf
  · exact u.of_same rfl rfl

theorem Unclaimed.awaitClose {s : State} (u : Unclaimed s) {f : Frame} {page : Nat} (hf : f.closes page = true) :
    Unclaimed (s.awaitClose f page) := by
  have asked := u.askClosing hf
  unfold State.awaitClose
  dsimp only
  split_ifs
  · exact asked
  · exact asked.of_same rfl rfl

theorem Unclaimed.awaitAll {frame : WorkEntry → Frame} (hf : ∀ w, (frame w).closes w.page = true) (l : List WorkEntry) :
    ∀ {s : State}, Unclaimed s → Unclaimed (l.foldl (fun st e => State.awaitClose st (frame e) e.page) s) := by
  induction l with
  | nil => exact fun u => u
  | cons w l ih => exact fun u => ih (u.awaitClose (hf w))

theorem Unclaimed.claimOutcome {s : State} (u : Unclaimed s) (sh : Sheet) (o : EngineOutcome) : Unclaimed (s.claimOutcome sh o) := by
  have spoiled (e : WorkEntry) : Unclaimed (if e.spoils = 0 then s.requeueSpoiled e
      else s.askClosing (.fail sh.page FailCause.spoiled.code) sh.page) := by
    split_ifs
    · exact u.of_same rfl rfl
    · exact u.askClosing (by simp [Frame.closes])
  unfold State.claimOutcome
  split_ifs
  · exact u
  · split
    next e _ =>
      cases o with
      | delivered => exact u.askClosing (by simp [Frame.closes])
      | spoiled => exact spoiled e
      | withdrawn => exact spoiled e
    · exact u.of_same (by simp [State.reportPage]) (by simp [State.reportPage])

theorem Unclaimed.claimOutcomes (l : List (Sheet × EngineOutcome)) : ∀ {s : State}, Unclaimed s →
    Unclaimed (l.foldl (fun st d => State.claimOutcome st d.1 d.2) s) := by
  induction l with
  | nil => exact fun u => u
  | cons d l ih => exact fun u => ih (u.claimOutcome d.1 d.2)

theorem Unclaimed.tryEnd {s : State} (u : Unclaimed s) : Unclaimed s.tryEnd := by
  by_cases h : s.fault.phase = .recovering ∧ s.fault.settled = true
  · have ends : s.tryEnd = (replayed s).sendFaultReport 0 := if_pos h
    obtain ⟨link, fault, sent⟩ := sendFaultReport_touches (replayed s) 0
    rw [ends, sent]
    exact (Unclaimed.claimOutcomes s.fault.deferred (u.of_same (t := ended s) rfl rfl)).of_same rfl rfl
  · have stands : s.tryEnd = s := if_neg h
    rw [stands]
    exact u

theorem Unclaimed.reviewPending {s : State} (u : Unclaimed s) : Unclaimed s.reviewPending := by
  rw [reviewPending_none u.1]
  exact u

/-- R163: the recovery of the link class asks for closing frames alone. -/
theorem Unclaimed.recoverLink {s : State} (u : Unclaimed s) (cause : Cause) (named : Option Nat) :
    Unclaimed (s.recoverLink cause named) := by
  refine Unclaimed.awaitAll (frame := fun e => linkClosing cause named e.page) (fun w => ?_) _
    (u.of_same (t := s.cutForRecovery.flushFetch) (by simp) (by simp))
  unfold linkClosing
  split_ifs <;> simp [Frame.closes]

/-- R164: so does that of the engine class. -/
theorem Unclaimed.recoverEngine {s : State} (u : Unclaimed s) : Unclaimed s.recoverEngine := by
  have asked : Unclaimed (s.cutForRecovery.claims.work.foldl
      (fun st e => State.awaitClose st (.release e.page) e.page) s.cutForRecovery) :=
    Unclaimed.awaitAll (frame := fun e => .release e.page) (fun w => by simp [Frame.closes]) _
      (u.of_same (by simp) (by simp))
  unfold State.recoverEngine
  dsimp only
  split_ifs
  · exact asked.of_same rfl rfl
  · exact asked.of_same (by simp) (by simp)

theorem raise_offline_unclaimed {s : State} (u : Unclaimed s) (page : Option Nat) (d : Nat) :
    Unclaimed (s.raise .engineOffline page none d) := by
  by_cases h : s.fault.phase = .clear
  · rw [State.raise, if_pos h]
    have recorded : Unclaimed (s.recordFault .engineOffline page none d) := u.of_same rfl rfl
    exact recorded.reviewPending.recoverEngine.tryEnd
  · rw [State.raise, if_neg h]
    exact Unclaimed.tryEnd (u.of_same rfl rfl)

theorem exec_offline (s : State) : exec .engineOfflineAsserted s = .next s.goOffline := rfl

/-- R40, R126: ENGINE_OFFLINE withdraws the pending claim. -/
theorem goOffline_unclaimed {s : State} {p : Nat} (ho : s.lane.offline = false) (hp : s.claims.pending = some p)
    (hq : ∃ x ∈ s.port.queue, x.onBus = false ∧ x.body.isClaim = true) : Unclaimed s.goOffline := by
  have first : Unclaimed (s.setLane { s.lane with offline := true }).reviewPending :=
    reviewPending_unclaimed (p := p) hp (by simp [State.pendingStale]) hq
  unfold State.goOffline
  rw [if_neg (by simp [ho])]
  dsimp only
  split_ifs
  · exact first
  · exact raise_offline_unclaimed first _ _

theorem downed_claims (s : State) : (downed s).claims = s.claims ∧ (downed s).port = s.port ∧ (downed s).fault = s.fault := by
  unfold downed
  dsimp only
  split_ifs <;> simp

/-- R40, R173: LINK_DOWN as a first fault withdraws it. -/
theorem lineSilent_unclaimed {s : State} {p : Nat} (hu : s.link.up = true) (ht : s.link.silence.isSome = true)
    (hf : s.fault.phase = .clear) (hp : s.claims.pending = some p)
    (hq : ∃ x ∈ s.port.queue, x.onBus = false ∧ x.body.isClaim = true) : Unclaimed s.lineSilent := by
  obtain ⟨claims, port, fault⟩ := downed_claims s
  rw [lineSilent_down hu ht, State.raise, if_pos (by rw [fault]; exact hf)]
  have first : Unclaimed ((downed s).recordFault .linkDown none none 256).reviewPending := by
    refine reviewPending_unclaimed (p := p) (by simp [claims, hp]) (by simp [State.pendingStale, State.recordFault]) ?_
    simpa [port] using hq
  exact (first.recoverLink .linkDown none).tryEnd

/-! ## Another station's CLAIM of the pending page (R40, R39) -/

/-- R40: the state in which the CLAIM of the pending page has been withdrawn, with the place that it had. -/
theorem tidied_withdraws {s : State} {p : Nat} (hp : s.claims.pending = some p) (hs : s.pendingStale p = true)
    (hq : ∃ x ∈ s.port.queue, x.onBus = false ∧ x.body.isClaim = true) : ∃ q,
    (tidied s).reviewPending = { s with port := { s.port with queue := q }, claims := { s.claims with pending := none } } ∧
    q.length < s.port.queue.length ∧ ∀ x ∈ q, x.onBus = false → x.body.isClaim = false := by
  obtain ⟨q, eq, mem, len⟩ := tidied_eq s
  obtain ⟨x, hx, hb, hc⟩ := hq
  have fresh : ¬ Stale s x.body := fun hst => by
    rcases stale_body hst with ⟨p, hf⟩ | ⟨p, holder, mark, hf⟩ <;> simp [hf, TxBody.isClaim] at hc
  have kept : x ∈ q := (mem x).mpr ⟨hx, .inr fresh⟩
  have stale : (tidied s).pendingStale p = true := by
    rw [eq]
    exact hs
  have withdrawn := reviewPending_withdraws (s := tidied s) (p := p) (by rw [eq]; exact hp) stale
    ⟨x, by rw [eq]; exact kept, hb, hc⟩
  refine ⟨q.filter (fun e => e.onBus || !e.body.isClaim), ?_, lt_of_lt_of_le ?_ len, fun y hy hyb => ?_⟩
  · rw [withdrawn, eq]
    rfl
  · exact List.length_filter_lt_length_iff_exists.mpr ⟨x, kept, by simp [hb, hc]⟩
  · simpa [hyb] using (List.mem_filter.mp hy).2

/-- R39: the page chosen is OPEN. -/
theorem claimChoice_open {s : State} {r : Replica} {p : Nat} (hr : s.board.replica = some r) (h : s.claimChoice = some p) :
    ∃ e, r.entries[p]? = some e ∧ e.status = .opened := by
  unfold State.claimChoice at h
  split_ifs at h
  rw [hr] at h
  exact ((candidate_some_iff r.entries s.lane.sheets p).mp h).1.1

theorem evalClaim_pending {s : State} {p : Nat} (hn : s.claims.pending = none) (h : s.evalClaim.claims.pending = some p) :
    s.claimChoice = some p := by
  unfold State.evalClaim at h
  split at h
  next q hq =>
    split_ifs at h
    · rw [hq]
      exact h
    · simp [hn] at h
  · simp [hn] at h

/-- R40: a frame that closes the pending page to this station withdraws its CLAIM, and the claiming condition is evaluated again. -/
theorem afterFrame_reclaims {s : State} {page : Nat} {r : Replica} {e : Entry} (hp : s.claims.pending = some page)
    (hq : ∃ x ∈ s.port.queue, x.onBus = false ∧ x.body.isClaim = true) (hr : s.board.replica = some r)
    (he : r.entries[page]? = some e) (hn : e.status ≠ .opened) :
    (∀ x ∈ s.afterFrame.port.queue, x.onBus = false → x.body ≠ .frame (.claim page s.straps.station)) ∧
    s.afterFrame.claims.pending ≠ some page ∧
    (∀ q, (s.setClaims { s.claims with pending := none }).claimChoice = some q → s.takesOffers = true →
      s.earlierWaits = false → s.port.queue.length ≤ 16 → s.afterFrame.claims.pending = some q ∧
        ∃ x ∈ s.afterFrame.port.queue, x.onBus = false ∧ x.body = .frame (.claim q s.straps.station)) := by
  have stale : s.pendingStale page = true := by simp [State.pendingStale, hr, he, Entry.isOpen, hn]
  obtain ⟨q, withdrawn, short, unclaimed⟩ := tidied_withdraws hp stale hq
  have notChosen : s.afterFrame.claims.pending ≠ some page := fun hc => by
    rw [afterFrame_eq, withdrawn] at hc
    obtain ⟨e', he', ho⟩ := claimChoice_open (r := r) (by exact hr) (evalClaim_pending (by rfl) hc)
    rw [he] at he'
    exact hn (Option.some.inj he' ▸ ho)
  refine ⟨fun x hx hb hbody => ?_, notChosen, fun p hc ht hw hl => ?_⟩
  · obtain ⟨new, added, claims⟩ := evalClaim_adds (tidied s).reviewPending
    rw [afterFrame_eq, added] at hx
    rcases List.mem_append.mp hx with hx | hx
    · rw [withdrawn] at hx
      have no := unclaimed x hx hb
      simp [hbody, TxBody.isClaim] at no
    · obtain ⟨p, body, pending, -⟩ := claims x hx
      rw [body] at hbody
      injection hbody with hbody
      injection hbody with hpage
      rw [afterFrame_eq, pending, hpage] at notChosen
      exact notChosen rfl
  · have chosen := evalClaim_chosen (s := (tidied s).reviewPending) (p := p) (by rw [withdrawn]; exact hc)
      ((canQueue_iff _).mpr ⟨by rw [withdrawn]; exact ht, by rw [withdrawn]; exact lt_of_lt_of_le short hl⟩)
      (by rw [withdrawn]; exact hw)
    rw [afterFrame_eq, chosen, withdrawn]
    exact ⟨rfl, _, List.mem_append_right _ (List.mem_singleton.mpr rfl), rfl, rfl⟩

end Sys2Proof.Leases

open Sys2Proof Sys2Proof.Machine Sys2Proof.Laws Sys2Proof.FaultRules Sys2Proof.Requests Sys2Proof.LinkFaults Sys2Proof.Bus
  Sys2Proof.Places Sys2Proof.Hearing Sys2Proof.Afterwards Sys2Proof.Claiming Sys2Proof.FollowOns Sys2Proof.Lapsing
  Sys2Proof.JoinLeave Sys2Proof.Leases

/-- Settles O26: the lease timer and the renewal queue their frames; what has gone out of date is withdrawn. -/
theorem leaseTimerAndRenewalQueueTheirFrames : Obligations.LeaseTimerAndRenewalQueueTheirFrames := by
  refine ⟨fun s page r e holder hr hl he hs hn => ⟨fun ha hp hq => ?_, fun hno => ?_⟩, fun s page => ⟨fun hd => ?_, fun hd => ?_⟩,
    fun s h page holder mark r e hs hr he hn => ?_, ⟨fun s c h f hc hp => ?_, ?_⟩, fun s page hp hq => ⟨?_, fun c hc => ?_⟩⟩
  · have may : s.mayOffer = true := (mayOffer_iff s).mpr ⟨ha, (canQueue_iff s).mpr
      ⟨(takesOffers_iff s).mpr ⟨hp, by simp [ha], by simp [ha]⟩, hq⟩⟩
    rw [exec_leaseExpiry, expireLease_offers hr hl he hs hn may]
  · have not : s.mayOffer = false := by
      refine Bool.eq_false_iff.mpr (fun hm => hno ?_)
      obtain ⟨ha, hc⟩ := (mayOffer_iff s).mp hm
      obtain ⟨ht, hq⟩ := (canQueue_iff s).mp hc
      exact ⟨ha, ((takesOffers_iff s).mp ht).1, hq⟩
    rw [exec_leaseExpiry, expireLease_waits hl not]
  · rw [exec_renewalDue, State.renewDue, if_pos ((renewDue_iff s page).mpr hd)]
    rfl
  · rw [exec_renewalDue, State.renewDue, if_neg (fun h => hd ((renewDue_iff s page).mp h))]
  · have hexec := (exec_lapse h page holder mark s).trans (congrArg _ (applyFrame_hears hs h _ _))
    have void := lapse_void (s := heard s h (.lapse page holder mark)) (h := h) hr he hn
    refine ⟨_, hexec, ?_, ?_⟩
    · rw [afterFrame_touches, void]
      rfl
    · rw [afterFrame_board, void]
      rfl
  · obtain ⟨act, hexec, -⟩ := exec_frame hc
    refine ⟨_, hexec s, fun x hx hb => ?_⟩
    rw [applyFrame_full hp] at hx ⊢
    have fresh := afterFrame_fresh hx hb
    refine ⟨fun page holder mark r hbody hr => ?_, fun page hbody => ?_⟩
    · rw [hbody] at fresh
      exact not_stale_lapse fresh (by rw [← afterFrame_board]; exact hr)
    · rw [hbody] at fresh
      rw [(afterFrame_waiting _).2]
      exact not_stale_renew fresh
  · intro s h b page holder mark r e x hs hn hr he hst hm hx hb hbody
    let u := heard s h (.launch b)
    obtain ⟨port, -⟩ := launchFrame_port u h b
    obtain ⟨r', e', replica, entry, status, same⟩ := launchFrame_claimed (s := u) h b hr he hst
    refine ⟨_, (exec_launch h b s).trans (congrArg _ (applyFrame_hears hs h _ _)), afterFrame_keeps ?_ (.inr ?_) (.inr ?_)⟩
    · rw [port]
      exact passedPort_waits hx hb
    · rw [hbody]
      rintro (hs | ⟨q, hq, hs⟩)
      · simp [staleRenew] at hs
      · obtain rfl : r' = q := Option.some.inj (replica.symm.trans hq)
        simp [Replica.staleLapse, entry, status, same, hm] at hs
    · rw [hbody]
      rfl
  · intro h r e hs hr he hst hpres hn
    obtain ⟨x, hx, hxb, hbody⟩ := hq
    let u := heard s h (.claim page h.sender)
    let v := u.claimFrame h page h.sender
    obtain ⟨r', p⟩ := claim_board (h := h) (claimant := h.sender) hr he
    rw [if_pos ⟨hst, rfl, hpres⟩] at p
    have quiet : Quietly u v := claimFrame_quietly (fun ho => absurd ho hn)
    have port : v.port = u.port ∧ v.claims = u.claims := by
      show (u.claimFrame h page h.sender).port = u.port ∧ (u.claimFrame h page h.sender).claims = u.claims
      rw [claimFrame_other (s := u) hn]
      simp
    have boardEq : v.afterFrame.board = v.board := afterFrame_board v
    have replica : v.board.replica = some r' := boardEq ▸ p.replica
    have waits : ∃ y ∈ v.port.queue, y.onBus = false ∧ y.body.isClaim = true := by
      refine ⟨x, ?_, hxb, by rw [hbody]; rfl⟩
      rw [port.1]
      exact passedPort_waits hx hxb
    obtain ⟨gone, pending, reclaims⟩ := afterFrame_reclaims (s := v) (by rw [port.2]; exact hp) waits replica
      (p.entry he) (by simp [Entry.claim])
    have same : v.straps = s.straps ∧ v.ctl = s.ctl ∧ v.fault = s.fault ∧ v.lane = s.lane ∧ v.claims.work = s.claims.work ∧
        v.claims.waiting = s.claims.waiting ∧ v.claimDepth = s.claimDepth := by
      rw [quiet]
      exact ⟨rfl, rfl, rfl, rfl, rfl, rfl, rfl⟩
    obtain ⟨straps, ctl, fault, lane, work, waiting, depth⟩ := same
    refine ⟨_, r', (exec_claim h page h.sender s).trans (congrArg _ (applyFrame_hears hs h _ _)), p.replica, ?_, pending,
      fun q ha hf ho hd hcand hcw hw hexp hlen => ?_⟩
    · rw [← straps]
      exact gone
    · have chosen := claimChoice_eq (s := v.setClaims { v.claims with pending := none }) (r := r')
        (by simp [ctl, ha]) (by simp [fault, hf]) (by simp [lane, ho]) (show v.claims.work.length < v.claimDepth by rw [work, depth]; exact hd)
        rfl replica
      have takes : v.takesOffers = true := by
        have base := (takesOffers_iff s).mp (takesOffers_of_full hs.1)
        exact (takesOffers_iff v).mpr ⟨by rw [port.1]; exact (passedPort_silent s h _).trans base.1, by rw [ctl]; exact base.2⟩
      rw [← straps]
      refine reclaims q (chosen.trans ?_) takes (earlierWaits_false (by rw [waiting, hw]) (by rw [ctl, hcw]) (.inr ?_)) ?_
      · rw [setClaims_lane, lane]
        exact hcand
      · rw [← boardEq]
        exact hexp
      · rw [port.1]
        exact (passedPort_queue s h _).2.trans hlen
  · have waits : ∃ x ∈ s.port.queue, x.onBus = false ∧ x.body.isClaim = true := by
      obtain ⟨x, hx, hb, hbody⟩ := hq
      exact ⟨x, hx, hb, by rw [hbody]; rfl⟩
    have withdrawn : ∃ t, exec c s = .next t ∧ Unclaimed t := by
      rcases hc with ⟨rfl, ho⟩ | ⟨rfl, hu, ht, hf⟩
      · exact ⟨_, exec_offline s, goOffline_unclaimed ho hp waits⟩
      · exact ⟨_, exec_silenceTimer s, lineSilent_unclaimed hu ht hf hp waits⟩
    obtain ⟨t, ht, pending, none⟩ := withdrawn
    refine ⟨t, ht, pending, fun x hx hb p st hbody => ?_⟩
    have no := none x hx hb
    simp [hbody, TxBody.isClaim] at no
end

section
/-! PROOFS. The print lane's first packets of a page: TRAIN, PAGE_OPEN, PAGE_META and TITLE (R70, R81, R115, R116, R118, R119). -/

namespace Sys2Proof.Opening

open Sys2Proof Sys2Proof.Machine Sys2Proof.Laws

/-! ## Blocks of equal length -/

section
variable {α : Type} {m : Nat} {f : Nat → List α}

theorem flatMap_length {n : Nat} (h : ∀ i < n, (f i).length = m) : ((List.range n).flatMap f).length = n * m := by
  induction n with
  | zero => simp
  | succ n ih =>
    rw [List.range_succ, List.flatMap_append, List.length_append, ih (fun i hi => h i (by omega)), List.flatMap_singleton,
      h n (by omega), Nat.succ_mul]

theorem flatMap_get {n i j : Nat} (h : ∀ i < n, (f i).length = m) (hi : i < n) (hj : j < m) :
    ((List.range n).flatMap f)[i * m + j]? = (f i)[j]? := by
  induction n with
  | zero => omega
  | succ n ih =>
    have len := flatMap_length (n := n) (fun i hi => h i (by omega))
    rw [List.range_succ, List.flatMap_append, List.flatMap_singleton]
    by_cases hn : i = n
    · rw [hn, List.getElem?_append_right (by omega), len]
      congr 1
      omega
    · have lt : i * m + j < n * m :=
        calc i * m + j < i * m + m := by omega
          _ = (i + 1) * m := by ring
          _ ≤ n * m := Nat.mul_le_mul_right m (by omega)
      rw [List.getElem?_append_left (by omega)]
      exact ih (fun i hi => h i (by omega)) (by omega)

end

/-! ## The training pattern (R118) -/

/-- R118: the pixel in column x of line y of pattern n. -/
def checker (n x y : Nat) : List Byte := if (x / 8 + y / 8 + n) % 2 = 0 then blankPixel else [0#8, 0#8, 0#8]

theorem checker_length (n x y : Nat) : (checker n x y).length = 3 := by
  unfold checker
  split_ifs <;> rfl

theorem checker_get (n x y : Nat) {k : Nat} (hk : k < 3) :
    (checker n x y)[k]? = some (if (x / 8 + y / 8 + n) % 2 = 0 then 255#8 else 0#8) := by
  unfold checker
  obtain rfl | rfl | rfl : k = 0 ∨ k = 1 ∨ k = 2 := by omega
  all_goals split_ifs <;> rfl

theorem trainingPattern_eq (n width : Nat) : trainingPattern n width =
    (List.range 64).flatMap (fun y => (List.range width).flatMap (fun x => checker n x y)) := rfl

theorem trainingLine_length (n width y : Nat) :
    ((List.range width).flatMap (fun x => checker n x y)).length = width * 3 :=
  flatMap_length (fun x _ => checker_length n x y)

theorem trainingPattern_length (n width : Nat) : (trainingPattern n width).length = 64 * width * 3 := by
  rw [trainingPattern_eq, flatMap_length (fun y _ => trainingLine_length n width y), Nat.mul_assoc]

theorem trainingPattern_get (n width : Nat) {x y k : Nat} (hx : x < width) (hy : y < 64) (hk : k < 3) :
    (trainingPattern n width)[(y * width + x) * 3 + k]? = some (if (x / 8 + y / 8 + n) % 2 = 0 then 255#8 else 0#8) := by
  have place : (y * width + x) * 3 + k = y * (width * 3) + (x * 3 + k) := by ring
  have inLine : x * 3 + k < width * 3 := by omega
  rw [trainingPattern_eq, place, flatMap_get (fun y _ => trainingLine_length n width y) hy inLine,
    flatMap_get (fun x _ => checker_length n x y) hx hk, checker_get n x y hk]

/-! ## Packets sent -/

theorem unlessCut_cut {s : State} (go : State → State) (h : s.comp.cut = true) : s.unlessCut go = s := if_pos h

theorem unlessCut_uncut {s : State} (go : State → State) (h : s.comp.cut = false) : s.unlessCut go = go s :=
  if_neg (by simp [h])

theorem exec_trainPacketSent {s : State} {ix n : Nat} {g : Geometry} {p : List Byte}
    (h : s.lane.inFlight = some (.train ix n g p)) : exec .trainPacketSent s = .next (s.trainSent ix n (.train ix n g p)) := by
  show execTrainPacketSent s = _
  rw [execTrainPacketSent, h]

theorem exec_pageOpenSent {s : State} {p e t : Nat} (h : s.lane.inFlight = some (.pageOpen p e t)) :
    exec .pageOpenSent s = .next (s.openSent (.pageOpen p e t)) := by
  show execPageOpenSent s = _
  rw [execPageOpenSent, h]

theorem exec_pageMetaSent {s : State} {p e st t n : Nat} {ps : List Nat}
    (h : s.lane.inFlight = some (.pageMeta p e st t n ps)) :
    exec .pageMetaSent s = .next (s.metaSent (.pageMeta p e st t n ps)) := by
  show execPageMetaSent s = _
  rw [execPageMetaSent, h]

theorem exec_titleSent {s : State} {w : Text} (h : s.lane.inFlight = some (.title w)) :
    exec .titleSent s = .next (s.titleSent (.title w)) := by
  show execTitleSent s = _
  rw [execTitleSent, h]

theorem trained_cases (l : Lane) (ix n : Nat) :
    l.trained ix n = { l with
      phase := if n = 0 then .training else l.phase
      lastTemplate := if n = 0 then none else if n = 3 then some ix else l.lastTemplate
      hold := if n = 0 then false else l.hold } := by
  unfold Lane.trained
  by_cases h0 : n = 0
  · simp [h0]
  · by_cases h3 : n = 3
    · simp [h3]
    · simp [h0, h3]

/-- R118: the lane with TRAIN packet n sent. -/
def trainedLane (s : State) (ix n : Nat) (p : Packet) : Lane :=
  ({ s.lane with inFlight := none, sent := s.lane.sent ++ [p] } : Lane).trained ix n

theorem sentPacket_trained (s : State) (ix n : Nat) (p : Packet) :
    (s.sentPacket p).setLane ((s.sentPacket p).lane.trained ix n) = s.setLane (trainedLane s ix n p) := rfl

theorem trainSent_cut {s : State} (ix n : Nat) (p : Packet) (h : s.comp.cut = true) :
    s.trainSent ix n p = s.setLane (trainedLane s ix n p) := by
  unfold State.trainSent
  dsimp only
  rw [sentPacket_trained, unlessCut_cut (s := s.setLane (trainedLane s ix n p)) _ h]

theorem trainSent_more {s : State} {ix n : Nat} (p : Packet) {t : Template} (h : s.comp.cut = false) (hn : n < 3)
    (ht : s.roster.templates[ix]? = some t) : s.trainSent ix n p =
      s.setLane { trainedLane s ix n p with inFlight := some (trainPacket ix t (n + 1)) } := by
  unfold State.trainSent
  dsimp only
  rw [sentPacket_trained, unlessCut_uncut (s := s.setLane (trainedLane s ix n p)) _ h]
  rw [if_pos hn, setLane_roster, ht]
  rfl

theorem trainSent_last {s : State} {ix n : Nat} (p : Packet) {x : Held} (h : s.comp.cut = false) (hn : ¬ n < 3)
    (hx : s.comp.held = some x) : s.trainSent ix n p =
      (s.setLane { trainedLane s ix n p with inFlight := some x.openPacket }).setCompState .streaming := by
  unfold State.trainSent
  dsimp only
  rw [sentPacket_trained, unlessCut_uncut (s := s.setLane (trainedLane s ix n p)) _ h]
  rw [if_neg hn, State.handOpen, setLane_comp, hx]
  rfl

/-- R115: the state with PAGE_OPEN sent. -/
def opened (s : State) (x : Held) (p : Packet) : State :=
  (s.setLane { s.lane with phase := .opened, inFlight := none, sent := s.lane.sent ++ [p] }).setHeld { x with opened := true }

theorem openSent_eq {s : State} (p : Packet) {x : Held} (hx : s.comp.held = some x) :
    s.openSent p = (opened s x p).unlessCut (fun t => t.handPacket (t.metaPacket x)) := by
  unfold State.openSent
  dsimp only
  rw [show ((s.sentPacket p).setLane { (s.sentPacket p).lane with phase := .opened }).comp.held = some x from hx]
  rfl

theorem metaSent_title {s : State} (p : Packet) {x : Held} {t : Template} {pg : PageRec} (hx : s.comp.held = some x)
    (ht : s.roster.templates[x.template]? = some t) (hp : s.roster.page? x.page = some pg) (hc : s.comp.cut = false)
    (hb : t.titleH ≠ 0) : s.metaSent p = (s.sentPacket p).handPacket (.title (s.roster.titleOf pg)) := by
  have held : (s.sentPacket p).comp.held = some x := hx
  have template : (s.sentPacket p).templateOf x = some t := ht
  have page : (s.sentPacket p).roster.page? x.page = some pg := hp
  rw [State.metaSent, unlessCut_uncut (s := s.sentPacket p) _ hc]
  simp only [held, template, page, if_neg hb]
  rfl

theorem metaSent_band {s : State} (p : Packet) {x : Held} {t : Template} {pg : PageRec} (hx : s.comp.held = some x)
    (ht : s.roster.templates[x.template]? = some t) (hp : s.roster.page? x.page = some pg) (hc : s.comp.cut = false)
    (hb : t.titleH = 0) : s.metaSent p = (s.sentPacket p).beginBand 0 := by
  have held : (s.sentPacket p).comp.held = some x := hx
  have template : (s.sentPacket p).templateOf x = some t := ht
  have page : (s.sentPacket p).roster.page? x.page = some pg := hp
  rw [State.metaSent, unlessCut_uncut (s := s.sentPacket p) _ hc]
  simp only [held, template, page, if_pos hb]

theorem titleOf_override {ro : Roster} {p : PageRec} {w : Text} (h : p.title = some w) : ro.titleOf p = w := by
  simp only [Roster.titleOf, h]

theorem titleOf_section {ro : Roster} {p : PageRec} {y : Section} (h : p.title = none)
    (hy : ro.sections[p.sectionIx]? = some y) : ro.titleOf p = y.title := by
  simp only [Roster.titleOf, h, hy]

/-! ## The placeholder list (R70, R119) -/

theorem learnedKind_names {x : Learned} {page edition cell : Nat} (hp : x.page = page) (he : x.edition = edition) :
    learnedKind (some x) page edition cell = (x.cells.find? (fun c => decide (c.1 = cell))).map (fun c => c.2) :=
  if_pos ⟨hp, he⟩

/-- R67, R72: a notice of the record is that of an entry for the cell, in a record for the page and edition. -/
theorem learnedKind_some {l : Option Learned} {page edition cell : Nat} {k : Notice}
    (h : learnedKind l page edition cell = some k) :
    ∃ x, l = some x ∧ x.page = page ∧ x.edition = edition ∧ (cell, k) ∈ x.cells := by
  cases l with
  | none => cases h
  | some x =>
    by_cases hx : x.page = page ∧ x.edition = edition
    · rw [learnedKind_names hx.1 hx.2, Option.map_eq_some_iff] at h
      obtain ⟨c, hc, rfl⟩ := h
      have cell : c.1 = cell := by simpa using List.find?_some hc
      exact ⟨x, rfl, hx.1, hx.2, cell ▸ List.mem_of_find?_eq_some hc⟩
    · rw [learnedKind, if_neg hx] at h
      cases h

/-- R67, R72: no notice is known exactly where no record for the page and edition names the cell. -/
theorem learnedKind_none_iff (l : Option Learned) (page edition cell : Nat) : learnedKind l page edition cell = none ↔
    ∀ x, l = some x → x.page = page → x.edition = edition → ∀ k, (cell, k) ∉ x.cells := by
  cases l with
  | none => simp [learnedKind]
  | some x =>
    by_cases hx : x.page = page ∧ x.edition = edition
    · rw [learnedKind_names hx.1 hx.2, Option.map_eq_none_iff, List.find?_eq_none]
      refine ⟨fun h y hy _ _ k hk => ?_, fun h c hc => ?_⟩
      · cases hy
        exact h _ hk (by simp)
      · have none := h x rfl hx.1 hx.2 c.2
        simp only [decide_eq_true_eq]
        rintro rfl
        exact none hc
    · rw [learnedKind, if_neg hx]
      refine ⟨fun _ y hy hp he => ?_, fun _ => rfl⟩
      cases hy
      exact absurd ⟨hp, he⟩ hx

theorem learnedKind_isSome_iff (l : Option Learned) (page edition cell : Nat) :
    (learnedKind l page edition cell).isSome = true ↔
      ∃ x, l = some x ∧ x.page = page ∧ x.edition = edition ∧ ∃ k, (cell, k) ∈ x.cells := by
  rw [← not_iff_not, Bool.not_eq_true, Option.isSome_eq_false_iff, Option.isNone_iff_eq_none, learnedKind_none_iff]
  push Not
  rfl

theorem cellSubject_iff (s : State) (x : Held) (i : Nat) (y : Subject) : s.cellSubject x i = some y ↔
    ∃ c j, x.cells[i]? = some c ∧ c.subject = some j ∧ s.roster.subjects[j]? = some y := by
  unfold State.cellSubject
  cases hc : x.cells[i]? with
  | none => simp
  | some c => cases hj : c.subject with
    | none => simp [hj]
    | some j => simp [hj]

/-- R70, R119: the cells that PAGE_META lists. -/
theorem placeholders_iff (s : State) (x : Held) (i : Nat) : i ∈ s.placeholders x ↔
    ∃ y, s.cellSubject x i = some y ∧ y.withdrawn = false ∧
      (y.portrait = none ∨ (learnedKind s.comp.learned x.page x.edition i).isSome = true) := by
  rw [State.placeholders, List.mem_filter, List.mem_range]
  cases hy : s.cellSubject x i with
  | none => simp
  | some y =>
    have lt : i < x.cells.length := by
      obtain ⟨c, -, hc, -⟩ := (cellSubject_iff s x i y).mp hy
      exact (List.getElem?_eq_some_iff.mp hc).1
    simp [lt]

end Sys2Proof.Opening

open Sys2Proof Sys2Proof.Machine Sys2Proof.Laws Sys2Proof.Opening

/-- Settles O44: what each TRAIN packet leaves as it goes, and the pixels of its pattern. -/
theorem trainingSequence : Obligations.TrainingSequence := by
  refine ⟨fun s x t n g p hx ht hf => ?_, fun n width => ⟨trainingPattern_length n width, fun x y k hx hy hk => trainingPattern_get n width hx hy hk⟩⟩
  have lane := trained_cases { s.lane with inFlight := none, sent := s.lane.sent ++ [.train x.template n g p] } x.template n
  rw [exec_trainPacketSent hf]
  by_cases hc : s.comp.cut = true
  · rw [trainSent_cut _ _ _ hc, trainedLane, lane]
    refine ⟨_, rfl, rfl, rfl, rfl, fun h => by simp [h], fun h => ?_, fun h => by simp [h], fun _ => ⟨rfl, rfl⟩,
      fun h => absurd hc (by simp [h]), fun h => absurd hc (by simp [h])⟩
    rcases h with h | h <;> simp [h]
  · have hc : s.comp.cut = false := by simpa using hc
    by_cases hn : n < 3
    · rw [trainSent_more _ hc hn ht, trainedLane, lane]
      refine ⟨_, rfl, rfl, rfl, rfl, fun h => by simp [h], fun h => ?_, fun h => by omega, fun h => absurd h (by simp [hc]),
        fun _ _ => ⟨rfl, rfl⟩, fun _ h => by omega⟩
      rcases h with h | h <;> simp [h]
    · rw [trainSent_last _ hc hn hx, trainedLane, lane]
      exact ⟨_, rfl, rfl, rfl, rfl, fun h => by omega, fun h => by omega, fun h => by simp [h, State.setCompState], fun h => absurd h (by simp [hc]),
        fun _ h => absurd h hn, fun _ _ => ⟨rfl, rfl⟩⟩

/-- Settles O45: PAGE_OPEN, PAGE_META and TITLE as they go, and the placeholder list. -/
theorem pageOpensWithItsMetaAndTitle : Obligations.PageOpensWithItsMetaAndTitle := by
  refine ⟨fun s x pg ed tpl hf hx => ?_, fun s x t p hx ht hp => ⟨fun pg ed st tp n ps hf => ?_, fun w hf => ?_⟩,
    fun s x i => ⟨?_, ?_⟩⟩
  · rw [exec_pageOpenSent hf, openSent_eq _ hx]
    by_cases hc : s.comp.cut = true
    · rw [unlessCut_cut (s := opened s x (.pageOpen pg ed tpl)) _ hc, if_pos hc]
      rfl
    · have uncut : s.comp.cut = false := by simpa using hc
      rw [unlessCut_uncut (s := opened s x (.pageOpen pg ed tpl)) _ uncut, if_neg hc]
      rfl
  · rw [exec_pageMetaSent hf]
    intro s1
    refine ⟨fun hc => ?_, fun hc hb => ?_, fun hc hb => ?_⟩
    · rw [State.metaSent, unlessCut_cut (s := s.sentPacket (.pageMeta pg ed st tp n ps)) _ hc]
      rfl
    · rw [metaSent_title _ hx ht hp hc hb]
      refine ⟨_, rfl, rfl, fun w hw => ?_, fun y hw hy => ?_⟩
      · exact congrArg (fun x => some (Packet.title x)) (titleOf_override hw)
      · exact congrArg (fun x => some (Packet.title x)) (titleOf_section hw hy)
    · rw [metaSent_band _ hx ht hp hc hb]
      rfl
  · rw [exec_titleSent hf]
    intro s1
    refine ⟨fun hc => ?_, fun hc => ?_⟩
    · rw [State.titleSent, unlessCut_cut (s := s.sentPacket (.title w)) _ hc]
      rfl
    · rw [State.titleSent, unlessCut_uncut (s := s.sentPacket (.title w)) _ hc]
      rfl
  · rw [placeholders_iff]
    constructor
    · rintro ⟨y, hy, hw, hp⟩
      obtain ⟨c, j, hc, hj, hs⟩ := (cellSubject_iff s x i y).mp hy
      exact ⟨c, j, y, hc, hj, hs, hw, hp.imp id (learnedKind_isSome_iff _ _ _ _).mp⟩
    · rintro ⟨c, j, y, hc, hj, hs, hw, hp⟩
      exact ⟨y, (cellSubject_iff s x i y).mpr ⟨c, j, hc, hj, hs⟩, hw, hp.imp id (learnedKind_isSome_iff _ _ _ _).mpr⟩
  · exact List.pairwise_lt_range.sublist List.filter_sublist
end

section
/-! PROOFS. The engine's faults and levels (R86, R124 to R127, R161, R162, R164). -/

namespace Sys2Proof.EngineFaults

open Sys2Proof Sys2Proof.Machine Sys2Proof.Laws Sys2Proof.FaultRules Sys2Proof.Requests Sys2Proof.LinkFaults Sys2Proof.Leases

/-! ## The recovery of a first fault of the engine class (R162, R164) -/

/-- R127, R164: the lane with its sheet list flushed. -/
def flushed (l : Lane) : Lane := { l with
  phase := .idle, hunt := [], headTimer := none, sheets := [], lastTemplate := none, hold := true,
  lost := (l.lost + l.sheets.length) % 2 ^ 32 }

theorem flushSheets_eq (s : State) : s.flushSheets =
    (s.setLane (flushed s.lane)).setFault { s.fault with lost := s.lane.sheets.length } := rfl

/-- R162: the station with the RELEASE of every page asked for and awaited. -/
def releasing (s : State) : State :=
  s.claims.work.foldl (fun st e => State.awaitClose st (.release e.page) e.page) s

theorem releasing_keeps {β : Type} (f : State → β) (hf : ∀ st g q, f (State.awaitClose st g q) = f st) (s : State) :
    f (releasing s) = f s :=
  foldl_keeps f (fun st (e : WorkEntry) => State.awaitClose st (.release e.page) e.page) (fun _ _ => hf _ _ _) _ _

/-- R162: a first fault as its recovery begins, with the cut requested. -/
def begunCut (s : State) (c : Cause) (p k : Option Nat) (d : Nat) : State :=
  (s.recordFault c p k d).reviewPending.cutForRecovery

theorem engineClass_cases {c : Cause} (h : c.engineClass = true) :
    c = .engineTimeout ∨ c = .engineMismatch ∨ c = .engineOffline := by
  cases c <;> simp_all [Cause.engineClass, Cause.code]

theorem recover_engine (s : State) {c : Cause} (h : c.engineClass = true) (page : Option Nat) :
    s.recover c page = s.recoverEngine := by
  rcases engineClass_cases h with rfl | rfl | rfl <;> rfl

theorem begunCut_fields (s : State) (c : Cause) (p k : Option Nat) (d : Nat) :
    let u := begunCut s c p k d
    u.comp.held = s.comp.held ∧ u.comp.cut = (s.comp.cut || s.cuttable) ∧ u.lane = s.lane ∧
    u.claims.work = s.claims.work ∧ u.fault.awaited = [] ∧ u.fault.cutStep = s.cuttable ∧ u.fault.flushStep = false ∧
    u.fault.haltStep = false ∧ u.fault.phase = .recovering ∧ u.fault.deferred = [] ∧ u.fault.lost = 0 := by
  have cuttable : ((s.recordFault c p k d).reviewPending).cuttable = s.cuttable := cuttable_congr (by simp) (by simp)
  refine ⟨?_, ?_, ?_, ?_, ?_, ?_, ?_, ?_, ?_, ?_, ?_⟩
  · simp [begunCut]
  · simp [begunCut, cuttable]
  · simp [begunCut]
  · simp [begunCut]
  · simp [begunCut, State.recordFault]
  · rw [begunCut, cutForRecovery_cutStep, cuttable]
    simp [State.recordFault]
  · simp [begunCut, State.recordFault]
  · simp [begunCut, State.recordFault]
  · simp [begunCut, State.recordFault]
  · simp [begunCut, State.recordFault]
  · simp [begunCut, State.recordFault]

/-- R164: the recovery of the engine class as one state, the flush made or waiting for the cut. -/
def engineHalf (s : State) (c : Cause) (p k : Option Nat) (d : Nat) : State :=
  let w := releasing (begunCut s c p k d)
  if s.cuttable = true then w.setFault { w.fault with flushStep := true } else w.flushSheets

theorem raise_engine {s : State} {c : Cause} (hc : c.engineClass = true) (h : s.fault.phase = .clear) (p k : Option Nat)
    (d : Nat) : s.raise c p k d = (engineHalf s c p k d).tryEnd := by
  have cuttable : (releasing (begunCut s c p k d)).cuttable = s.cuttable := by
    obtain ⟨held, -, lane, -⟩ := begunCut_fields s c p k d
    refine cuttable_congr ?_ ?_
    · rw [releasing_keeps (fun t => t.comp.held) (by intros; simp), held]
    · rw [releasing_keeps (fun t => t.lane) (by intros; simp), lane]
  rw [State.raise, if_pos h, recover_engine _ hc]
  show State.tryEnd (if (releasing (begunCut s c p k d)).cuttable = true
    then (releasing (begunCut s c p k d)).setFault _ else (releasing (begunCut s c p k d)).flushSheets) = _
  rw [cuttable]
  rfl

/-- What the recovery of the engine class asks for, each page listed once or not. -/
theorem engineHalf_fields (s : State) (c : Cause) (p k : Option Nat) (d : Nat) :
    let w := engineHalf s c p k d
    w.claims.work = s.claims.work ∧ w.comp.cut = (s.comp.cut || s.cuttable) ∧ w.fault.cutStep = s.cuttable ∧
    w.fault.flushStep = s.cuttable ∧ w.fault.haltStep = false ∧ w.fault.phase = .recovering ∧ w.fault.deferred = [] ∧
    (s.cuttable = true → w.lane = s.lane) ∧
    (s.cuttable = false → w.lane = flushed s.lane ∧ w.fault.lost = s.lane.sheets.length) := by
  obtain ⟨-, cut, lane, work, -, cutStep, flushStep, haltStep, phase, deferred, -⟩ := begunCut_fields s c p k d
  have keeps {β : Type} (f : State → β) (hf : ∀ st g q, f (State.awaitClose st g q) = f st) :
      f (releasing (begunCut s c p k d)) = f (begunCut s c p k d) := releasing_keeps f hf _
  have wWork := (keeps (fun t => t.claims.work) (by intros; simp)).trans work
  have wCut := (keeps (fun t => t.comp.cut) (by intros; simp)).trans cut
  have wLane := (keeps (fun t => t.lane) (by intros; simp)).trans lane
  have wCutStep := (keeps (fun t => t.fault.cutStep) (by intros; simp)).trans cutStep
  have wFlush := (keeps (fun t => t.fault.flushStep) (by intros; simp)).trans flushStep
  have wHalt := (keeps (fun t => t.fault.haltStep) (by intros; simp)).trans haltStep
  have wPhase := (keeps (fun t => t.fault.phase) (by intros; simp)).trans phase
  have wDeferred := (keeps (fun t => t.fault.deferred) (by intros; simp)).trans deferred
  unfold engineHalf
  dsimp only
  by_cases hc : s.cuttable = true
  · rw [if_pos hc]
    exact ⟨wWork, wCut, wCutStep, hc.symm, wHalt, wPhase, wDeferred, fun _ => wLane, fun h => absurd hc (by simp [h])⟩
  · rw [if_neg hc, flushSheets_eq, wLane]
    exact ⟨wWork, wCut, wCutStep, wFlush.trans (by simpa using hc), wHalt, wPhase, wDeferred, fun h => absurd h hc,
      fun _ => ⟨rfl, rfl⟩⟩

/-- R127, R161, R162, R164: a first fault of the engine class. -/
theorem raise_engine_recovery {s : State} {c : Cause} (hc : c.engineClass = true) (h : s.fault.phase = .clear)
    (p k : Option Nat) (d : Nat) :
    let t := s.raise c p k d
    t.claims.work = s.claims.work ∧ t.comp.cut = (s.comp.cut || s.cuttable) ∧ t.fault.cutStep = s.cuttable ∧
    t.fault.flushStep = s.cuttable ∧ t.fault.haltStep = false ∧
    (s.cuttable = true → t.lane = s.lane) ∧
    (s.cuttable = false → t.lane = flushed s.lane ∧ t.fault.lost = s.lane.sheets.length) ∧
    t.ctl = s.ctl ∧ t.fault.phase = (if t.fault.awaited = [] ∧ s.cuttable = false then .held else .recovering) := by
  obtain ⟨work, cut, cutStep, flushStep, haltStep, phase, deferred, held, idle⟩ := engineHalf_fields s c p k d
  have ctl : (engineHalf s c p k d).ctl = s.ctl := by
    unfold engineHalf
    dsimp only
    have keeps := releasing_keeps (fun t => t.ctl) (by intros; simp) (begunCut s c p k d)
    split_ifs <;> simpa [begunCut] using keeps
  obtain ⟨tClaims, -⟩ := tryEnd_asks deferred
  rw [raise_engine hc h]
  refine ⟨by rw [tClaims, work], ?_, ?_, ?_, ?_, fun hb => ?_, fun hb => ?_, ?_, ?_⟩
  · simp [cut]
  · simp [cutStep]
  · simp [flushStep]
  · simp [haltStep]
  · simp [held hb]
  · simp [idle hb]
  · simp [ctl]
  · rw [tryEnd_phase, phase]
    simp [FaultUnit.settled, cutStep, flushStep, haltStep]

/-- R162: each page listed once, its RELEASE is asked for and awaited. -/
theorem raise_engine_closing {s : State} {c : Cause} (hc : c.engineClass = true) (h : s.fault.phase = .clear)
    (p k : Option Nat) (d : Nat) (hn : (s.claims.work.map (fun w => w.page)).Nodup) :
    let t := s.raise c p k d
    t.fault.awaited = s.claims.work.map (fun w => w.page) ∧
    ∀ w ∈ s.claims.work, t.closing w.page = true ∧ (s.closing w.page = false → t.asked (.release w.page)) := by
  obtain ⟨-, -, -, work, awaited, -⟩ := begunCut_fields s c p k d
  obtain ⟨wAwaited, -, -, wAsked⟩ := awaitAll_spec (fun e => .release e.page) (fun e => closesOnly_release e.page)
    (begunCut s c p k d).claims.work (begunCut s c p k d) (by rw [work]; exact hn) (by simp [awaited])
  have half : (engineHalf s c p k d).claims = (releasing (begunCut s c p k d)).claims ∧
      (engineHalf s c p k d).port = (releasing (begunCut s c p k d)).port ∧
      (engineHalf s c p k d).fault.awaited = (releasing (begunCut s c p k d)).fault.awaited := by
    unfold engineHalf
    dsimp only
    split_ifs <;> simp
  obtain ⟨claims, port, hAwaited⟩ := half
  obtain ⟨tClaims, tPort⟩ := tryEnd_asks (engineHalf_fields s c p k d).2.2.2.2.2.2.1
  have closing (q : Nat) : (begunCut s c p k d).closing q = s.closing q :=
    (closing_congr (s := (s.recordFault c p k d).reviewPending) (by simp [begunCut]) (by simp [begunCut]) q).trans
      ((reviewPending_closing _ q).trans (closing_congr (by simp) (by simp) q))
  rw [raise_engine hc h]
  refine ⟨?_, fun w hw => ?_⟩
  · rw [(tryEnd_fault_fields _).2.2.1, hAwaited]
    refine (wAwaited).trans ?_
    rw [awaited, work]
    rfl
  · obtain ⟨hclosing, hasked⟩ := wAsked w (by rw [work]; exact hw)
    refine ⟨?_, fun hcl => ?_⟩
    · exact (closing_congr (by rw [tClaims, claims]; rfl) (by rw [tPort, port]; rfl) w.page).trans hclosing
    · exact asked_congr (by rw [tClaims, claims]; rfl) (by rw [tPort, port]; rfl) (hasked ((closing _).trans hcl))

/-! ## The head timer and the level ENGINE_OFFLINE (R124, R126) -/

theorem exec_headTimer {s : State} {sh : Sheet} {rest : List Sheet} (ht : s.lane.headTimer.isSome = true)
    (hs : s.lane.sheets = sh :: rest) : exec .headTimerExpiry s =
      .next ((s.setLane { s.lane with headTimer := none }).raise .engineTimeout (some sh.page) none sh.edition) := by
  show Host.Outcome.next s.headTimeout = _
  unfold State.headTimeout
  rw [hs]
  cases hx : s.lane.headTimer with
  | none => simp [hx] at ht
  | some n => rfl

/-- R40, R126: the station as ENGINE_OFFLINE is asserted, before the fault. -/
def wentOffline (s : State) : State := (s.setLane { s.lane with offline := true }).reviewPending

theorem goOffline_raises {s : State} (ho : s.lane.offline = false)
    (hq : ¬ ((s.ctl.state = .setupWait ∨ s.ctl.state = .planLoad) ∧ s.lane.sheets = [])) : s.goOffline =
      (wentOffline s).raise .engineOffline (s.lane.sheets.head?.map (fun sh => sh.page)) none s.lane.sheets.length := by
  have loud : (wentOffline s).offlineQuiet = false := by
    refine Bool.eq_false_iff.mpr (fun h => hq ?_)
    simpa [State.offlineQuiet, wentOffline] using h
  have sheets : (wentOffline s).lane.sheets = s.lane.sheets := by simp [wentOffline]
  unfold State.goOffline
  rw [if_neg (by simp [ho])]
  refine (if_neg (by rw [← wentOffline, loud]; simp)).trans ?_
  rw [← wentOffline, sheets]
  cases s.lane.sheets <;> rfl

theorem goOffline_quiet {s : State} (ho : s.lane.offline = false)
    (hq : s.ctl.state = .setupWait ∨ s.ctl.state = .planLoad) (hs : s.lane.sheets = []) (hp : s.claims.pending = none) :
    s.goOffline = s.setLane { s.lane with offline := true } := by
  have quiet : (s.setLane { s.lane with offline := true }).offlineQuiet = true := by
    rcases hq with hq | hq <;> simp [State.offlineQuiet, hq, hs]
  unfold State.goOffline
  rw [if_neg (by simp [ho]), Afterwards.reviewPending_none (s := s.setLane { s.lane with offline := true }) hp]
  exact if_pos quiet

theorem wentOffline_fields (s : State) : (wentOffline s).fault = s.fault ∧ (wentOffline s).comp = s.comp ∧
    (wentOffline s).lane = { s.lane with offline := true } ∧ (wentOffline s).claims.work = s.claims.work ∧
    (wentOffline s).ctl = s.ctl ∧ (wentOffline s).cuttable = s.cuttable ∧ ∀ q, (wentOffline s).closing q = s.closing q := by
  refine ⟨?_, ?_, ?_, ?_, ?_, ?_, fun q => ?_⟩
  · simp [wentOffline]
  · simp [wentOffline]
  · simp [wentOffline]
  · simp [wentOffline]
  · simp [wentOffline]
  · exact cuttable_congr (by simp [wentOffline]) (by simp [wentOffline])
  · exact (reviewPending_closing _ q).trans (closing_congr rfl rfl q)

theorem bandOf_eq (s : State) (page : Option Nat) :
    s.bandOf page = s.comp.held.bind (fun x => if page = some x.page then some x.band else none) := by
  unfold State.bandOf
  cases s.comp.held <;> rfl

/-- R86: with no page held there is nothing to cut. -/
theorem cuttable_unheld {s : State} (h : s.comp.held = none) : s.cuttable = false := by
  simp [State.cuttable, State.holdsPage, h]

/-- R124, R126: the state that a fault of the engine class is raised in. -/
structure Raises (s v : State) (lane : Lane) : Prop where
  fault : v.fault = s.fault
  comp : v.comp = s.comp
  lane : v.lane = lane
  work : v.claims.work = s.claims.work
  ctl : v.ctl = s.ctl
  cuttable : v.cuttable = s.cuttable
  closing : ∀ q, v.closing q = s.closing q
  others : v.board = s.board ∧ v.roster = s.roster ∧ v.pool = s.pool ∧ v.setup = s.setup

theorem headTimer_raises (s : State) :
    Raises s (s.setLane { s.lane with headTimer := none }) { s.lane with headTimer := none } :=
  ⟨rfl, rfl, rfl, rfl, rfl, cuttable_congr rfl rfl, fun q => closing_congr rfl rfl q, rfl, rfl, rfl, rfl⟩

theorem wentOffline_raises (s : State) : Raises s (wentOffline s) { s.lane with offline := true } := by
  obtain ⟨fault, comp, lane, work, ctl, cuttable, closing⟩ := wentOffline_fields s
  exact ⟨fault, comp, lane, work, ctl, cuttable, closing, by simp [wentOffline], by simp [wentOffline], by simp [wentOffline],
    by simp [wentOffline]⟩

end Sys2Proof.EngineFaults

open Sys2Proof Sys2Proof.Machine Sys2Proof.Laws Sys2Proof.Requests Sys2Proof.Leases Sys2Proof.EngineFaults

/-- Settles O53: the head timer and ENGINE_OFFLINE as faults of the engine class, and the two levels. -/
theorem engineFaultsAndLevels : Obligations.EngineFaultsAndLevels := by
  refine ⟨fun s c x hp hx hc => ?_, fun s c cause page detail lane hp hn hc => ?_, fun s => ⟨rfl, rfl, fun ho => ?_,
    fun hq hs hpend => ?_, ?_⟩⟩
  · have idle := cuttable_unheld hx
    have raised : ∃ (v : State) (cause : Cause) (page : Option Nat) (detail : Nat) (lane : Lane), Raises s v lane ∧ 
        cause.engineClass = true ∧ exec c s = .next (v.raise cause page none detail) ∧
        x = s.fault.first cause page none none detail ∧ flushed lane = { flushed s.lane with offline := lane.offline } ∧
        lane.sheets = s.lane.sheets ∧ lane.offline = (if c = .engineOfflineAsserted then true else s.lane.offline) := by
      rcases hc with ⟨sh, rest, rfl, ht, hs, rfl⟩ | ⟨rfl, ho, hq, rfl⟩
      · exact ⟨_, .engineTimeout, _, _, _, headTimer_raises s, rfl, exec_headTimer ht hs, rfl, rfl, rfl, rfl⟩
      · exact ⟨_, .engineOffline, _, _, _, wentOffline_raises s, rfl,
          (exec_offline s).trans (congrArg _ (goOffline_raises ho hq)), rfl, rfl, rfl, rfl⟩
    obtain ⟨v, cause, page, detail, lane, raises, hclass, hexec, rfl, hflushed, sheets, offline⟩ := raised
    obtain ⟨fault, comp, vlane, work, ctl, cuttable, closing, board, roster, pool, setup⟩ := raises
    have clear : v.fault.phase = .clear := by rw [fault, hp]
    obtain ⟨-, -, -, -, -, -, flushes, tctl, -⟩ := raise_engine_recovery hclass clear page none detail
    obtain ⟨tlane, lost⟩ := flushes (cuttable.trans idle)
    rw [vlane] at tlane lost
    have band : v.bandOf page = none := by rw [bandOf_eq, comp, hx]; rfl
    refine ⟨_, hexec, ?_, ?_, ?_, ?_, ?_, ?_, ?_, ?_, ?_, ?_, ?_, ?_, tctl.trans ctl, ?_, ?_⟩
    · rw [(raise_clear v cause page none detail clear).1, fault, band]
    · rw [tlane]; rfl
    · rw [tlane]; rfl
    · rw [tlane, hflushed]; rfl
    · rw [tlane]; rfl
    · rw [tlane]; rfl
    · rw [tlane]; rfl
    · rw [tlane]; rfl
    · rw [lost, sheets]
    · simp [board]
    · simp [roster]
    · rw [tlane, ← offline]; rfl
    · simp [pool]
    · simp [setup]
  · have raised : ∃ v : State, Raises s v lane ∧ cause.engineClass = true ∧
        exec c s = .next (v.raise cause page none detail) ∧ flushed lane = { lane with
          phase := .idle, hunt := [], headTimer := none, sheets := [], lastTemplate := none, hold := true,
          lost := (s.lane.lost + s.lane.sheets.length) % 2 ^ 32 } := by
      rcases hc with ⟨sh, rest, rfl, ht, hs, rfl, rfl, rfl, rfl⟩ | ⟨rfl, ho, hq, rfl, rfl, rfl, rfl⟩
      · exact ⟨_, headTimer_raises s, rfl, exec_headTimer ht hs, rfl⟩
      · exact ⟨_, wentOffline_raises s, rfl, (exec_offline s).trans (congrArg _ (goOffline_raises ho hq)), rfl⟩
    obtain ⟨v, raises, hclass, hexec, hflushed⟩ := raised
    obtain ⟨fault, comp, vlane, vwork, ctl, cuttable, vclosing, -⟩ := raises
    have clear : v.fault.phase = .clear := by rw [fault, hp]
    obtain ⟨work, cut, cutStep, flushStep, haltStep, waits, flushes, -, phase⟩ :=
      raise_engine_recovery hclass clear page none detail
    obtain ⟨awaited, closes⟩ := raise_engine_closing hclass clear page none detail (by rw [vwork]; exact hn)
    rw [vwork] at awaited closes work
    rw [cuttable] at cut cutStep flushStep waits flushes phase
    refine ⟨_, hexec, work, awaited, fun w hw => ?_, ?_, cutStep, flushStep, haltStep, ?_, fun hb => ?_, fun hb => ?_, ?_⟩
    · obtain ⟨hclosing, hasked⟩ := closes w hw
      exact ⟨hclosing, fun hcl => hasked ((vclosing _).trans hcl)⟩
    · rw [cut, comp]
    · rw [(raise_clear v cause page none detail clear).1, fault, bandOf_eq, comp]
    · exact (waits hb).trans vlane
    · rw [(flushes hb).1, vlane, hflushed]
    · rw [phase, awaited]
      simp only [List.map_eq_nil_iff]
  · exact congrArg _ (if_pos ho)
  · rw [exec_offline]
    by_cases ho : s.lane.offline = true
    · have same : s.goOffline = s := if_pos ho
      rw [same, ← ho]
    · rw [goOffline_quiet (by simpa using ho) hq hs hpend]
      rfl
  · refine ⟨(s.setLane { s.lane with offline := false }).evalClaim, rfl, ?_, fun hst => ?_⟩
    · exact evalClaim_touches (s.setLane { s.lane with offline := false })
    · rw [evalClaim_unchosen (claimChoice_inactive (by exact hst))]
      exact ⟨rfl, rfl⟩
end

section
/-! PROOFS. The outcome of the head sheet (R120, R122, R123). -/

namespace Sys2Proof.Outcomes

open Sys2Proof Sys2Proof.Machine Sys2Proof.Laws Sys2Proof.FaultRules Sys2Proof.Requests Sys2Proof.Afterwards Sys2Proof.Claiming
  Sys2Proof.Lapsing Sys2Proof.Ending

theorem exec_outcomeRecord {s : State} {page : Nat} (o : EngineOutcome) (hh : s.lane.hold = false) (hp : page < 1024) :
    exec (.outcomeRecord page o) s = .next ((s.setHunt []).goodOutcome page o) := by
  show Host.Outcome.next (s.outcomeRecord page o) = _
  rw [State.outcomeRecord, if_neg (by omega), State.returnEvent, if_neg (by simp [State.setHunt, hh])]

/-- R122: the station with the head sheet taken off the list and counted. -/
def popped (s : State) (rest : List Sheet) (o : EngineOutcome) : State :=
  (s.setHunt []).setLane (((s.setHunt []).lane.popSheet rest).count o)

theorem goodOutcome_head {s : State} {sh : Sheet} {rest : List Sheet} (o : EngineOutcome) (hs : s.lane.sheets = sh :: rest) :
    (s.setHunt []).goodOutcome sh.page o = ((popped s rest o).handOutcome sh o).evalClaim := by
  unfold State.goodOutcome
  rw [show (s.setHunt []).lane.sheets = sh :: rest from hs]
  exact if_pos rfl

theorem popped_lane (s : State) (rest : List Sheet) (o : EngineOutcome) :
    let l := (popped s rest o).lane
    l.sheets = rest ∧ l.headTimer = (if rest = [] then none else some 30000) ∧ l.phase = s.lane.phase ∧
    l.delivered = (if o = .delivered then (s.lane.delivered + 1) % 2 ^ 32 else s.lane.delivered) ∧
    l.spoiled = (if o = .spoiled then (s.lane.spoiled + 1) % 2 ^ 32 else s.lane.spoiled) ∧
    l.withdrawn = (if o = .withdrawn then (s.lane.withdrawn + 1) % 2 ^ 32 else s.lane.withdrawn) := by
  have timer : (if rest.isEmpty then none else some 30000 : Timer) = if rest = [] then none else some 30000 :=
    if_congr List.isEmpty_iff rfl rfl
  cases o with
  | delivered => exact ⟨rfl, timer, rfl, rfl, rfl, rfl⟩
  | spoiled => exact ⟨rfl, timer, rfl, rfl, rfl, rfl⟩
  | withdrawn => exact ⟨rfl, timer, rfl, rfl, rfl, rfl⟩

theorem handOutcome_recovering {s : State} (sh : Sheet) (o : EngineOutcome) (h : s.fault.phase = .recovering) :
    s.handOutcome sh o = s.setFault { s.fault with deferred := s.fault.deferred ++ [(sh, o)] } := if_pos h

theorem handOutcome_acts {s : State} (sh : Sheet) (o : EngineOutcome) (h : s.fault.phase ≠ .recovering) :
    s.handOutcome sh o = s.claimOutcome sh o := if_neg h

theorem claimOutcome_cut {s : State} {sh : Sheet} (o : EngineOutcome) (h : sh.cut = true) : s.claimOutcome sh o = s := if_pos h

theorem claimOutcome_failed {s : State} {sh : Sheet} {e : WorkEntry} {o : EngineOutcome} (hc : sh.cut = false)
    (he : s.workEntry sh.page = some e) (hp : e.phase = .inEngine) (ho : o ≠ .delivered) (hs : e.spoils ≠ 0) :
    s.claimOutcome sh o = s.askClosing (.fail sh.page 2) sh.page := by
  rw [State.claimOutcome, if_neg (by simp [hc]), he]
  cases o with
  | delivered => exact absurd rfl ho
  | spoiled => simp [Option.filter, hp, hs, FailCause.code]
  | withdrawn => simp [Option.filter, hp, hs, FailCause.code]

theorem claimOutcome_link {s : State} {sh : Sheet} {e : WorkEntry} {o : EngineOutcome} (hc : sh.cut = false)
    (he : s.workEntry sh.page = some e) (hp : e.phase = .inEngine) : (s.claimOutcome sh o).link = s.link := by
  by_cases ho : o = .delivered
  · subst ho
    rw [claimOutcome_delivered hc he hp]
    simp
  · by_cases hs : e.spoils = 0
    · rw [claimOutcome_spoiled hc he hp ho hs]
      simp
    · rw [claimOutcome_failed hc he hp ho hs]
      simp

theorem evalClaim_fields (s : State) : s.evalClaim.claims.work = s.claims.work ∧ s.evalClaim.link = s.link ∧
    s.evalClaim.fault = s.fault ∧ s.evalClaim.lane = s.lane := by
  rw [evalClaim_touches]
  exact ⟨rfl, rfl, rfl, rfl⟩

theorem evalClaim_recovering {s : State} (h : s.fault.phase = .recovering) : s.evalClaim = s :=
  evalClaim_unchosen (claimChoice_unclear (by rw [h]; decide))

/-- R47: a closing frame asked for with a free place goes into the queue, and the claiming evaluation leaves it there. -/
theorem asks_queued {s : State} {f : Frame} {page : Nat} (hc : s.closing page = false) (hw : s.claims.waiting = [])
    (hp : s.participation = .full) (hq : s.port.queue.length < 16) :
    ∃ y ∈ (s.askClosing f page).evalClaim.port.queue, y.body = .frame f := by
  rw [askClosing_queued hc hw ((canQueue_iff s).mpr ⟨takesOffers_of_full hp, hq⟩)]
  obtain ⟨new, added, -⟩ := evalClaim_adds ({ s with port := s.port.queued (.frame f) } : State)
  rw [added]
  exact ⟨s.port.entry (.frame f), by simp [Port.queued], rfl⟩

theorem unmatched {s : State} {page : Nat} (h : ∀ y ∈ s.claims.work, y.page = page → y.phase ≠ .inEngine) :
    (s.workEntry page).filter (fun e => decide (e.phase = .inEngine)) = none := by
  rw [Option.filter_eq_none_iff]
  intro e he
  simpa using h e (List.mem_of_find?_eq_some he) (by simpa using List.find?_some he)

end Sys2Proof.Outcomes

open Sys2Proof Sys2Proof.Machine Sys2Proof.Laws Sys2Proof.FaultRules Sys2Proof.Requests Sys2Proof.Afterwards Sys2Proof.Claiming
  Sys2Proof.Lapsing Sys2Proof.Ending Sys2Proof.Outcomes

/-- Settles O51: the head sheet's outcome, by the phase and by what the work list says of its page. -/
theorem outcomeOfTheHeadSheet : Obligations.OutcomeOfTheHeadSheet := by
  intro s sh rest o hh hs hp
  obtain ⟨sheets, timer, phase, delivered, spoiled, withdrawn⟩ := popped_lane s rest o
  have hexec := (exec_outcomeRecord o hh hp).trans (congrArg _ (goodOutcome_head o hs))
  have lane : ((popped s rest o).handOutcome sh o).evalClaim.lane = (popped s rest o).lane := by
    rw [(evalClaim_fields _).2.2.2]
    simp
  refine ⟨_, hexec, ?_, ?_, ?_, ?_, ?_, ?_, ?_, ?_, ?_, ?_, fun hr => ?_, fun hr => ?_⟩
  · rw [lane, sheets]
  · rw [lane, timer]
  · rw [lane, phase]
  · rw [lane, delivered]
  · rw [lane, spoiled]
  · rw [lane, withdrawn]
  · simp [popped, State.setHunt]
  · simp [popped, State.setHunt]
  · simp [popped, State.setHunt]
  · simp [popped, State.setHunt]
  · rw [handOutcome_recovering (s := popped s rest o) sh o hr,
      evalClaim_recovering (by exact hr)]
    exact ⟨rfl, rfl, rfl, rfl⟩
  · rw [handOutcome_acts (s := popped s rest o) sh o hr]
    refine ⟨?_, fun hc => ?_, fun e before after hc hw hpage hphase hne => ?_, fun hc hno => ?_⟩
    · rw [(evalClaim_fields _).2.2.1]
      simp [popped, State.setHunt]
    · rw [claimOutcome_cut o hc, (evalClaim_fields _).1, (evalClaim_fields _).2.1]
      exact ⟨rfl, rfl⟩
    · have found : (popped s rest o).workEntry sh.page = some e := by
        show s.claims.work.find? _ = _
        rw [hw, ← hpage]
        exact find_page (by rw [hpage]; exact hne)
      refine ⟨?_, fun ho => ?_, fun ho hspoils => ?_, fun ho hspoils => ?_⟩
      · rw [(evalClaim_fields _).2.1, claimOutcome_link hc found hphase]
        simp [popped, State.setHunt]
      · subst ho
        rw [claimOutcome_delivered hc found hphase]
        refine ⟨?_, fun hcl hwait hfull hlen => asks_queued (s := popped s rest .delivered) hcl hwait hfull hlen⟩
        rw [(evalClaim_fields _).1]
        simp [popped, State.setHunt]
      · rw [claimOutcome_spoiled hc found hphase ho hspoils, (evalClaim_fields _).1]
        show { e with phase := .queued, spoils := 1, edition := none, notices := none } :: s.claims.work.filter _ = _
        rw [hw, filter_page (by rw [hpage]; exact hne)]
      · rw [claimOutcome_failed hc found hphase ho hspoils]
        refine ⟨?_, fun hcl hwait hfull hlen => asks_queued (s := popped s rest o) hcl hwait hfull hlen⟩
        rw [(evalClaim_fields _).1]
        simp [popped, State.setHunt]
    · rw [claimOutcome_unlisted o hc (unmatched (s := popped s rest o) hno), (evalClaim_fields _).1, (evalClaim_fields _).2.1, emit_link]
      exact ⟨rfl, rfl⟩
end

section
/-! PROOFS. Outcome records that do not match, and bad ones (R121, R123, R128, R181). -/

namespace Sys2Proof.Mismatch

open Sys2Proof Sys2Proof.Machine Sys2Proof.Laws Sys2Proof.Outcomes

/-! ## The bytes of a bad record (R181) -/

theorem huntReturn_noise : ∀ (fuel : Nat) (bs : List Byte), (0xA5#8 : Byte) ∉ bs → bs.length < fuel →
    huntReturn fuel bs = ([], [])
  | fuel + 1, [], _, _ => rfl
  | fuel + 1, b :: bs, h, hl => by
    have start : b ≠ byte 0xA5 := fun hb => h (by rw [hb]; exact List.mem_cons_self)
    have rest := huntReturn_noise fuel bs (fun hm => h (List.mem_cons_of_mem _ hm)) (by simpa using hl)
    exact (if_pos start).trans rest

/-- R121, R181: a record with a bad header is bad; no other follows where no start byte does. -/
theorem huntReturn_header {fuel : Nat} {k l2 l1 l0 c : Byte} {rest : List Byte}
    (hc : crc8 [k, l2, l1, l0] ≠ c ∨ k ≠ 0x10#8) (hn : 0xA5#8 ∉ k :: l2 :: l1 :: l0 :: c :: rest)
    (hf : rest.length + 6 ≤ fuel) :
    huntReturn (fuel + 1) (0xA5#8 :: k :: l2 :: l1 :: l0 :: c :: rest) = ([.bad], []) := by
  have bad : ¬ (crc8 [k, l2, l1, l0] = c ∧ k = byte 0x10) := fun h => hc.elim (fun hc => hc h.1) (fun hc => hc h.2)
  have quiet := huntReturn_noise fuel _ hn (by simp only [List.length_cons]; omega)
  rw [huntReturn, if_neg (by decide)]
  simp only [if_neg bad, quiet]

/-- R121, R181: a record with a good header is what its payload says, and no other follows. -/
theorem huntReturn_payload {fuel : Nat} {l2 l1 l0 : Byte} {payload : List Byte}
    (hl : payload.length = l2.toNat * 65536 + l1.toNat * 256 + l0.toNat) :
    huntReturn (fuel + 2) (0xA5#8 :: 0x10#8 :: l2 :: l1 :: l0 :: crc8 [0x10#8, l2, l1, l0] :: payload) =
      ([readOutcome payload], []) := by
  rw [huntReturn, if_neg (by decide)]
  simp only [show (crc8 [0x10#8, l2, l1, l0] = crc8 [0x10#8, l2, l1, l0] ∧ (0x10#8 : Byte) = byte 0x10) from ⟨rfl, rfl⟩,
    and_self, if_true, ← hl]
  simp [huntReturn]

theorem readOutcome_length {bs : List Byte} (h : bs.length ≠ 3) : readOutcome bs = .bad := by
  unfold readOutcome
  split
  · simp at h
  · rfl

theorem readOutcome_bad {p1 p0 o : Byte} (h : 1024 ≤ p1.toNat * 256 + p0.toNat ∨ o.toNat = 0 ∨ 3 < o.toNat) :
    readOutcome [p1, p0, o] = .bad := by
  unfold readOutcome
  dsimp only
  split_ifs with hp
  · rfl
  · have code : o.toNat = 0 ∨ 3 < o.toNat := h.resolve_left (fun hb => hp hb)
    split
    · omega
    · omega
    · omega
    · rfl

/-- R121, R181: the three ways in which the bytes of a return record are bad. -/
def BadBytes (all : List Byte) : Prop :=
  (∃ k l2 l1 l0 check rest, all = 0xA5#8 :: k :: l2 :: l1 :: l0 :: check :: rest ∧
    (crc8 [k, l2, l1, l0] ≠ check ∨ k ≠ 0x10#8) ∧ 0xA5#8 ∉ k :: l2 :: l1 :: l0 :: check :: rest) ∨
  (∃ l2 l1 l0 payload, all = 0xA5#8 :: 0x10#8 :: l2 :: l1 :: l0 :: crc8 [0x10#8, l2, l1, l0] :: payload ∧
    payload.length = l2.toNat * 65536 + l1.toNat * 256 + l0.toNat ∧ payload.length ≠ 3) ∨
  (∃ p1 p0 o : Byte, all = [0xA5#8, 0x10#8, 0#8, 0#8, 3#8, crc8 [0x10#8, 0#8, 0#8, 3#8], p1, p0, o] ∧
    (1024 ≤ p1.toNat * 256 + p0.toNat ∨ o.toNat = 0 ∨ 3 < o.toNat))

theorem huntReturn_bad {all : List Byte} (h : BadBytes all) : huntReturn (all.length + 1) all = ([.bad], []) := by
  rcases h with ⟨k, l2, l1, l0, check, rest, rfl, hc, hn⟩ | ⟨l2, l1, l0, payload, rfl, hl, hne⟩ | ⟨p1, p0, o, rfl, hb⟩
  · exact huntReturn_header hc hn (by simp)
  · refine (huntReturn_payload (fuel := payload.length + 5) hl).trans ?_
    rw [readOutcome_length hne]
  · refine (huntReturn_payload (fuel := 8) (l2 := 0#8) (l1 := 0#8) (l0 := 3#8) (payload := [p1, p0, o]) (by simp)).trans ?_
    rw [readOutcome_bad hb]

/-! ## ENGINE_MISMATCH (R121, R123) -/

/-- R121, R123: a first ENGINE_MISMATCH of a page, or of none. -/
structure Mismatched (s t : State) (page : Option Nat) : Prop where
  record : ∃ x, t.fault.record = some x ∧ x.cause = .engineMismatch ∧ x.page = page ∧ x.cell = none ∧
    x.detail = s.lane.headPage
  counts : t.lane.delivered = s.lane.delivered ∧ t.lane.spoiled = s.lane.spoiled ∧ t.lane.withdrawn = s.lane.withdrawn
  board : t.board = s.board

theorem raise_mismatched {s : State} (h : s.fault.phase = .clear) (page : Option Nat) :
    Mismatched s (s.raise .engineMismatch page none s.lane.headPage) page := by
  refine ⟨⟨_, (raise_clear s .engineMismatch page none s.lane.headPage h).1, rfl, rfl, rfl, rfl⟩, ?_, by simp⟩
  obtain ⟨-, -, -, -, -, waits, flushes, -⟩ :=
    EngineFaults.raise_engine_recovery (c := .engineMismatch) rfl h page none s.lane.headPage
  by_cases hc : s.cuttable = true
  · rw [waits hc]
    exact ⟨rfl, rfl, rfl⟩
  · rw [(flushes (by simpa using hc)).1]
    exact ⟨rfl, rfl, rfl⟩

theorem Mismatched.setHunt {s t : State} {page : Option Nat} (m : Mismatched s t page) (bs : List Byte) :
    Mismatched s (t.setHunt bs) page := ⟨m.record, m.counts, m.board⟩

theorem badOutcome_mismatched {s : State} (h : s.fault.phase = .clear) : Mismatched s (s.setHunt []).badOutcome none := by
  obtain ⟨record, counts, board⟩ := raise_mismatched (s := s.setHunt []) h none
  exact ⟨record, counts, board⟩

theorem headPage_eq (l : Lane) : l.headPage = (match l.sheets with | sh :: _ => sh.page | [] => 65535) := rfl

/-- R121, R181: bad bytes make one bad event. -/
theorem returnBytes_mismatched {s : State} {bs : List Byte} (hh : s.lane.hold = false) (hp : s.fault.phase = .clear)
    (hb : BadBytes (s.lane.hunt ++ bs)) : Mismatched s (s.returnBytes bs) none := by
  have event : (s.setHunt []).returnEvent .bad = (s.setHunt []).badOutcome := if_neg (by simp [State.setHunt, hh])
  unfold State.returnBytes
  rw [if_neg (by simp [hh])]
  simp only [huntReturn_bad hb, List.foldl_cons, List.foldl_nil, event]
  split_ifs
  · exact (badOutcome_mismatched hp).setHunt []
  · exact badOutcome_mismatched hp

theorem goodOutcome_other {s : State} {page : Nat} (o : EngineOutcome)
    (h : ∀ sh rest, s.lane.sheets = sh :: rest → sh.page ≠ page) :
    s.goodOutcome page o = s.raise .engineMismatch (some page) none s.lane.headPage := by
  unfold State.goodOutcome Lane.headPage
  cases hs : s.lane.sheets with
  | nil => rfl
  | cons sh rest => exact if_neg (h sh rest hs)

theorem exec_badOutcome (bs : List Byte) (s : State) : exec (.badOutcomeRecord bs) s = .next (s.returnBytes bs) := rfl

theorem exec_outcome (page : Nat) (o : EngineOutcome) (s : State) :
    exec (.outcomeRecord page o) s = .next (s.outcomeRecord page o) := rfl

end Sys2Proof.Mismatch

open Sys2Proof Sys2Proof.Machine Sys2Proof.Laws Sys2Proof.Outcomes Sys2Proof.Mismatch

/-- Settles O52: an outcome that is not the head sheet's, and a bad record, raise ENGINE_MISMATCH; the hold discards both. -/
theorem wrongOutcomeRaisesEngineMismatch : Obligations.WrongOutcomeRaisesEngineMismatch := by
  refine fun s => ⟨fun hh => ⟨fun page o => ?_, fun bs => ?_⟩, fun page o hh hp hpage hne => ?_, fun c hh hp hc => ?_⟩
  · exact congrArg _ (if_pos (c := (s.setHunt []).lane.hold = true) hh)
  · exact congrArg _ (if_pos hh)
  · obtain ⟨⟨x, record, cause, page', cell, detail⟩, ⟨delivered, spoiled, withdrawn⟩, board⟩ :=
      raise_mismatched (s := s.setHunt []) hp (some page)
    have hexec := (exec_outcomeRecord o hh hpage).trans (congrArg _ (goodOutcome_other (s := s.setHunt []) o hne))
    exact ⟨_, x, hexec, record, cause, page', cell, detail.trans (headPage_eq _), delivered, spoiled, withdrawn, board⟩
  · have bad : ∃ t, exec c s = .next t ∧ Mismatched s t none := by
      rcases hc with ⟨page, o, rfl, hpage⟩ | ⟨bs, rfl, hb⟩
      · refine ⟨_, exec_outcome page o s, ?_⟩
        have event : s.outcomeRecord page o = (s.setHunt []).badOutcome := by
          rw [State.outcomeRecord, if_pos hpage]
          exact if_neg (by simp [State.setHunt, hh])
        rw [event]
        exact badOutcome_mismatched hp
      · exact ⟨_, exec_badOutcome bs s, returnBytes_mismatched hh hp hb⟩
    obtain ⟨t, ht, ⟨x, record, cause, page, cell, detail⟩, ⟨delivered, spoiled, withdrawn⟩, board⟩ := bad
    exact ⟨t, x, ht, record, cause, page, cell, detail.trans (headPage_eq _), delivered, spoiled, withdrawn, board⟩
end

section
/-! PROOFS. Reading an amendment's payload (R50, R179). -/

namespace Sys2Proof.Payloads

open Sys2Proof Sys2Proof.Machine Sys2Proof.Laws Sys2Proof.Stream

/-! ## Fields of one, two and four bytes -/

theorem byte_toNat (b : Byte) : byte b.toNat = b := BitVec.eq_of_toNat_eq (Nat.mod_eq_of_lt b.isLt)

theorem toNat_byte {n : Nat} (h : n < 256) : (byte n).toNat = n := Nat.mod_eq_of_lt h

theorem bytes2_be2 (a b : Byte) : bytes2 (be2 a b) = [a, b] := by
  have ha := a.isLt
  have hb := b.isLt
  have high : (a.toNat * 256 + b.toNat) / 256 = a.toNat := by omega
  have low : byte (a.toNat * 256 + b.toNat) = b := by
    apply BitVec.eq_of_toNat_eq
    rw [byte, BitVec.toNat_ofNat]
    omega
  rw [bytes2, be2, high, byte_toNat, low]

theorem bytes4_be4 (a b c d : Byte) : bytes4 (be4 a b c d) = [a, b, c, d] := by
  have ha := a.isLt
  have hb := b.isLt
  have hc := c.isLt
  have hd := d.isLt
  have whole : (be4 a b c d).toNat = a.toNat * 2 ^ 24 + b.toNat * 2 ^ 16 + c.toNat * 2 ^ 8 + d.toNat := by
    rw [be4, BitVec.toNat_ofNat]
    omega
  have field (n : Nat) (x : Byte) (h : n % 256 = x.toNat) : byte n = x := by
    apply BitVec.eq_of_toNat_eq
    rw [byte, BitVec.toNat_ofNat, h]
  rw [bytes4, whole, field _ a (by omega), field _ b (by omega), field _ c (by omega), field _ d (by omega)]

/-! ## The ranges (R8, R50) -/

/-- R50: the ranges that a payload keeps. -/
def InRange : Payload → Prop
  | .retake _ c q => c.x0 ≤ 4095 ∧ c.y0 ≤ 4095 ∧ c.x1 ≤ 4096 ∧ c.y1 ≤ 4096 ∧ c.x0 < c.x1 ∧ c.y0 < c.y1 ∧ q < 3
  | .caption l1 l2 => (1 ≤ l1.length ∧ l1.length ≤ 24 ∧ ∀ b ∈ l1, 0x20 ≤ b.toNat ∧ b.toNat ≤ 0xFE) ∧
      (∀ l, l2 = some l → 1 ≤ l.length ∧ l.length ≤ 24 ∧ ∀ b ∈ l, 0x20 ≤ b.toNat ∧ b.toNat ≤ 0xFE)
  | .withdraw => True
  | .restore => True

theorem cropOk_iff (c : Crop) : cropOk c = true ↔
    c.x0 ≤ 4095 ∧ c.y0 ≤ 4095 ∧ c.x1 ≤ 4096 ∧ c.y1 ≤ 4096 ∧ c.x0 < c.x1 ∧ c.y0 < c.y1 := by
  simp only [cropOk, Bool.and_eq_true, decide_eq_true_eq]
  omega

theorem textOk_iff (lo hi : Nat) (t : Text) : textOk lo hi t = true ↔
    lo ≤ t.length ∧ t.length ≤ hi ∧ ∀ b ∈ t, 0x20 ≤ b.toNat ∧ b.toNat ≤ 0xFE := by
  simp [textOk, isChar, and_assoc]

/-- R50: the second line of a caption, absent where it has no byte. -/
def secondLine (l : Text) : Option Text := if l.isEmpty then none else some l

theorem secondLine_getD (l : Text) : (secondLine l).getD [] = l := by
  unfold secondLine
  cases l <;> rfl

theorem secondLine_of_getD {l2 : Option Text} (h : ∀ l, l2 = some l → 1 ≤ l.length) : secondLine (l2.getD []) = l2 := by
  cases l2 with
  | none => rfl
  | some l =>
    cases l with
    | nil => simpa using h [] rfl
    | cons b l => rfl

/-! ## Reading and spelling -/

theorem readPayload_retake (p0 p1 p2 p3 a0 a1 b0 b1 c0 c1 d0 d1 q : Byte) :
    readPayload 0 [p0, p1, p2, p3, a0, a1, b0, b1, c0, c1, d0, d1, q] =
      if cropOk ⟨be2 a0 a1, be2 b0 b1, be2 c0 c1, be2 d0 d1⟩ && decide (q.toNat < 3) then
        some (.retake (be4 p0 p1 p2 p3) ⟨be2 a0 a1, be2 b0 b1, be2 c0 c1, be2 d0 d1⟩ q.toNat) else none := rfl

theorem readPayload_caption {n m : Byte} {rest line2 : List Byte} (h : rest.drop n.toNat = m :: line2) :
    readPayload 1 (n :: rest) =
      if decide (line2.length = m.toNat) && textOk 1 24 (rest.take n.toNat) && textOk 0 24 line2 then
        some (.caption (rest.take n.toNat) (secondLine line2)) else none := by
  simp only [readPayload, h]
  rfl

/-- R50, R179: a payload that keeps its ranges is read back from its bytes. -/
theorem readPayload_bytes {p : Payload} (h : InRange p) : readPayload p.kind p.bytes = some p := by
  cases p with
  | withdraw => rfl
  | restore => rfl
  | retake pid c q =>
    obtain ⟨hx0, hy0, hx1, hy1, hx, hy, hq⟩ := h
    obtain ⟨p0, p1, p2, p3, bytes, value⟩ := be4_bytes4 pid
    have code : (byte q).toNat = q := toNat_byte (by omega)
    have spelt : (Payload.retake pid c q).bytes = [p0, p1, p2, p3, byte (c.x0 / 256), byte c.x0, byte (c.y0 / 256), byte c.y0,
        byte (c.x1 / 256), byte c.x1, byte (c.y1 / 256), byte c.y1, byte q] := by
      simp only [Payload.bytes, bytes, bytes2]
      rfl
    show readPayload 0 _ = _
    rw [spelt, readPayload_retake, be2_bytes _ (by omega), be2_bytes _ (by omega), be2_bytes _ (by omega),
      be2_bytes _ (by omega), value, code, if_pos]
    simp only [Bool.and_eq_true, cropOk_iff, decide_eq_true_eq]
    exact ⟨⟨hx0, hy0, hx1, hy1, hx, hy⟩, hq⟩
  | caption l1 l2 =>
    obtain ⟨⟨hlo, hhi, hchars⟩, hsecond⟩ := h
    have code : (byte l1.length).toNat = l1.length := toNat_byte (by omega)
    have second : textOk 0 24 (l2.getD []) = true := by
      cases l2 with
      | none => rfl
      | some l => exact (textOk_iff _ _ _).mpr ⟨Nat.zero_le _, (hsecond l rfl).2⟩
    have code2 : (byte (l2.getD []).length).toNat = (l2.getD []).length :=
      toNat_byte (lt_of_le_of_lt ((textOk_iff _ _ _).mp second).2.1 (by omega))
    have rest : (l1 ++ byte (l2.getD []).length :: l2.getD []).drop (byte l1.length).toNat =
        byte (l2.getD []).length :: l2.getD [] := by
      rw [code, List.drop_left]
    show readPayload 1 (byte l1.length :: (l1 ++ byte (l2.getD []).length :: l2.getD [])) = _
    rw [readPayload_caption rest, code, List.take_left, code2, secondLine_of_getD (fun l hl => (hsecond l hl).1), if_pos]
    simp only [decide_true, Bool.true_and, Bool.and_eq_true]
    exact ⟨(textOk_iff _ _ _).mpr ⟨hlo, hhi, hchars⟩, second⟩

/-- R50, R179: what is read is a payload of the kind, with those bytes, within its ranges. -/
theorem readPayload_sound {kind : Nat} {bs : List Byte} {p : Payload} (h : readPayload kind bs = some p) :
    p.kind = kind ∧ p.bytes = bs ∧ InRange p := by
  unfold readPayload at h
  split at h
  case h_1 =>
    split at h
    next p0 p1 p2 p3 a0 a1 b0 b1 c0 c1 d0 d1 q =>
      dsimp only at h
      split_ifs at h with ok
      cases h
      simp only [Bool.and_eq_true, cropOk_iff, decide_eq_true_eq] at ok
      obtain ⟨⟨hx0, hy0, hx1, hy1, hx, hy⟩, hq⟩ := ok
      refine ⟨rfl, ?_, hx0, hy0, hx1, hy1, hx, hy, hq⟩
      simp only [Payload.bytes, bytes4_be4, bytes2_be2, byte_toNat]
      rfl
    next => cases h
  case h_2 =>
    split at h
    next n rest =>
      split at h
      next m line2 hdrop =>
        obtain ⟨ok, spelt⟩ := Option.ite_none_right_eq_some.mp h
        have spelt : some (Payload.caption (rest.take n.toNat) (secondLine line2)) = some p := spelt
        cases Option.some.inj spelt
        simp only [Bool.and_eq_true, decide_eq_true_eq, textOk_iff] at ok
        obtain ⟨⟨hlen, first⟩, -, second⟩ := ok
        have long : (rest.take n.toNat).length = n.toNat := by
          have some : (rest.drop n.toNat).length ≠ 0 := by rw [hdrop]; simp
          rw [List.length_drop] at some
          rw [List.length_take]
          omega
        refine ⟨rfl, ?_, first, fun l hl => ?_⟩
        · show byte (rest.take n.toNat).length :: (rest.take n.toNat ++ byte ((secondLine line2).getD []).length ::
            (secondLine line2).getD []) = _
          rw [long, byte_toNat, secondLine_getD, hlen, byte_toNat, ← hdrop, List.take_append_drop]
        · obtain ⟨hnil, same⟩ := Option.ite_none_left_eq_some.mp hl
          cases same
          exact ⟨List.length_pos_iff.mpr (by simpa using hnil), second⟩
      next => cases h
    next => cases h
  case h_3 =>
    split_ifs at h with hnil
    cases h
    exact ⟨rfl, (List.isEmpty_iff.mp hnil).symm, trivial⟩
  case h_4 =>
    split_ifs at h with hnil
    cases h
    exact ⟨rfl, (List.isEmpty_iff.mp hnil).symm, trivial⟩
  case h_5 => cases h

end Sys2Proof.Payloads

open Sys2Proof Sys2Proof.Machine Sys2Proof.Payloads

/-- Settles O39: reading a payload and spelling it are inverse within the ranges. -/
theorem payloadBytesAreReadExactly : Obligations.PayloadBytesAreReadExactly := by
  intro kind bs p
  constructor
  · intro h
    obtain ⟨hk, hb, hr⟩ := readPayload_sound h
    refine ⟨hk, hb, ?_⟩
    cases p <;> exact hr
  · rintro ⟨rfl, rfl, hr⟩
    refine readPayload_bytes ?_
    cases p <;> exact hr
end

section
/-! PROOFS. AMEND and DROP (R49, R51 to R53, R65). -/

namespace Sys2Proof.Store

open Sys2Proof Sys2Proof.Machine Sys2Proof.Laws Sys2Proof.Bus Sys2Proof.Hearing Sys2Proof.Afterwards Sys2Proof.Claiming
  Sys2Proof.Closing Sys2Proof.JoinLeave Sys2Proof.Payloads

/-! ## The batches of the pool (R49, R52, R53) -/

theorem batchOf_eq (pool : List Amendment) (k : Nat) : batchOf pool k = pool.filter (fun x => decide (x.batch = k)) := rfl

theorem batchOpen_iff (pool : List Amendment) (k : Nat) : batchOpen pool k = false ↔ batchOf pool k = [] := by
  simp [batchOpen]

/-- R52: the records of one subject and kind are replaced in their places. -/
theorem batchOf_replace (pool : List Amendment) (a : Amendment) (k : Nat) :
    batchOf (replaceRecord pool a) k = (batchOf pool k).map (fun x => if x.sameKey a then a else x) := by
  rw [batchOf_eq, replaceRecord, List.filter_map]
  congr 1
  refine List.filter_congr (fun x _ => ?_)
  by_cases h : x.sameKey a = true
  · have batch : x.batch = a.batch := by
      simp only [Amendment.sameKey, Bool.and_eq_true, decide_eq_true_eq] at h
      exact h.1.1
    simp [h, batch]
  · simp [h]

theorem batchOf_replace_other {pool : List Amendment} {a : Amendment} {k : Nat} (h : k ≠ a.batch) :
    batchOf (replaceRecord pool a) k = batchOf pool k := by
  rw [batchOf_replace]
  refine (List.map_congr_left (fun x hx => ?_)).trans (List.map_id _)
  have batch : x.batch = k := by simpa using (List.mem_filter.mp hx).2
  exact if_neg (by simp [Amendment.sameKey, batch, h])

/-- R49, R52: a record added stands last in its batch; another batch keeps its records. -/
theorem batchOf_insert (pool : List Amendment) (a : Amendment) (k : Nat) :
    batchOf (insertRecord pool a) k = if k = a.batch then batchOf pool k ++ [a] else batchOf pool k := by
  have low : (pool.filter (fun x => decide (x.batch ≤ a.batch))).filter (fun x => decide (x.batch = k)) =
      if k ≤ a.batch then batchOf pool k else [] := by
    rw [List.filter_filter]
    split_ifs with h
    · refine List.filter_congr (fun x _ => ?_)
      by_cases hx : x.batch = k
      · simp [hx, h]
      · simp [hx]
    · refine List.filter_eq_nil_iff.mpr (fun x _ => ?_)
      simp only [Bool.and_eq_true, decide_eq_true_eq]
      omega
  have high : (pool.filter (fun x => decide (a.batch < x.batch))).filter (fun x => decide (x.batch = k)) =
      if a.batch < k then batchOf pool k else [] := by
    rw [List.filter_filter]
    split_ifs with h
    · refine List.filter_congr (fun x _ => ?_)
      by_cases hx : x.batch = k
      · simp [hx, h]
      · simp [hx]
    · refine List.filter_eq_nil_iff.mpr (fun x _ => ?_)
      simp only [Bool.and_eq_true, decide_eq_true_eq]
      omega
  rw [batchOf_eq, insertRecord, List.filter_append, low, List.filter_cons, high]
  by_cases hk : k = a.batch
  · simp [hk]
  · rcases lt_or_gt_of_ne hk with h | h
    · rw [if_pos (by omega), if_neg (by simpa using Ne.symm hk), if_neg (by omega), if_neg hk, List.append_nil]
    · rw [if_neg (by omega), if_neg (by simpa using Ne.symm hk), if_pos h, if_neg hk, List.nil_append]

theorem insertRecord_length (pool : List Amendment) (a : Amendment) : (insertRecord pool a).length = pool.length + 1 := by
  have split := List.length_eq_length_filter_add (l := pool) (fun x => decide (x.batch ≤ a.batch))
  have rest : pool.filter (fun x => !decide (x.batch ≤ a.batch)) = pool.filter (fun x => decide (a.batch < x.batch)) :=
    List.filter_congr (fun x _ => by rw [← decide_not]; exact decide_eq_decide.mpr Nat.not_le)
  rw [rest] at split
  rw [insertRecord, List.length_append, List.length_cons, split]
  omega

theorem replaceRecord_length (pool : List Amendment) (a : Amendment) : (replaceRecord pool a).length = pool.length := by
  simp [replaceRecord]

/-- R53: a batch taken out leaves the others. -/
theorem batchOf_without (pool : List Amendment) (b k : Nat) :
    batchOf (withoutBatch pool b) k = if k = b then [] else batchOf pool k := by
  rw [batchOf_eq, withoutBatch, List.filter_filter]
  split_ifs with h
  · exact List.filter_eq_nil_iff.mpr (fun x _ => by simp [h])
  · refine List.filter_congr (fun x _ => ?_)
    by_cases hx : x.batch = k
    · simp [hx, h]
    · simp [hx]

theorem withoutBatch_length (pool : List Amendment) (b : Nat) :
    (withoutBatch pool b).length = pool.length - (batchOf pool b).length := by
  have split := List.length_eq_length_filter_add (l := pool) (fun x => decide (x.batch = b))
  have rest : pool.filter (fun x => !decide (x.batch = b)) = withoutBatch pool b :=
    List.filter_congr (fun x _ => (decide_not).symm)
  rw [rest] at split
  rw [batchOf_eq]
  omega

/-! ## The relay slot (R65) -/

theorem relayApplied_own {s : State} {h : FrameHdr} (x : RelayResult) (ho : h.sender = s.straps.station)
    (hr : s.link.relay.isSome = true) : s.relayApplied h x =
      (s.setLink { s.link with relay := none }).emit (.relayResult x) :=
  if_pos (by simp [(isOwn_iff s h).mpr ho, hr])

theorem relayApplied_other {s : State} {h : FrameHdr} (x : RelayResult)
    (hn : ¬ (h.sender = s.straps.station ∧ s.link.relay.isSome = true)) : s.relayApplied h x = s :=
  if_neg (fun hc => hn (by simpa [isOwn_iff] using hc))

theorem relayApplied_touches (s : State) (h : FrameHdr) (x : RelayResult) :
    s.relayApplied h x = s.setLink (s.relayApplied h x).link := by
  by_cases ho : h.sender = s.straps.station ∧ s.link.relay.isSome = true
  · rw [relayApplied_own x ho.1 ho.2, emit_link]
    rfl
  · rw [relayApplied_other x ho]
    rfl

theorem relayApplied_answers {s : State} {h : FrameHdr} (x : RelayResult) (ho : h.sender = s.straps.station)
    (hr : s.link.relay.isSome = true) (hl : s.link.outbound.length < 64) :
    (s.relayApplied h x).link.relay = none ∧
    (s.relayApplied h x).link.outbound = s.link.outbound ++ [⟨s.straps.station, .relayResult x⟩] := by
  rw [relayApplied_own x ho hr]
  refine ⟨by simp, ?_⟩
  rw [emit_outbound (s := s.setLink { s.link with relay := none }) (.relayResult x) hl]
  rfl

/-! ## The judgements (R51, R53) -/

/-- R52: the record's key is the body's. -/
def sameKey (b : AmendBody) (x : Amendment) : Bool :=
  decide (x.batch = b.batch ∧ x.subject = b.subject ∧ x.payload.kind = b.kind)

theorem sameKey_record {b : AmendBody} {p : Payload} (hk : p.kind = b.kind) (x : Amendment) :
    x.sameKey { batch := b.batch, subject := b.subject, payload := p } = sameKey b x := by
  simp [Amendment.sameKey, sameKey, hk, Bool.and_assoc]

/-- R51: the reason of the first failing check. -/
def amendFault (pool : List Amendment) (subjects : Nat) (b : AmendBody) : Option Reason :=
  if 4 ≤ b.batch ∨ 4 ≤ b.kind then some .badValue
  else if subjects ≤ b.subject then some .noSubject
  else if readPayload b.kind b.payload = none then some .badValue
  else if pool.any (sameKey b) = false ∧ 64 ≤ pool.length then some .storeFull else none

theorem judgeAmend_void {pool : List Amendment} {subjects : Nat} {b : AmendBody} {reason : Reason}
    (h : amendFault pool subjects b = some reason) : judgeAmend pool subjects b = .void reason := by
  unfold amendFault at h
  unfold judgeAmend
  have outside : (¬ b.batch < Config.batchCount ∨ ¬ b.kind < 4) ↔ (4 ≤ b.batch ∨ 4 ≤ b.kind) := by
    simp only [Config.batchCount]
    omega
  by_cases h1 : 4 ≤ b.batch ∨ 4 ≤ b.kind
  · rw [if_pos h1] at h
    rw [if_pos (outside.mpr h1), Option.some.inj h]
  rw [if_neg h1] at h
  rw [if_neg (fun hn => h1 (outside.mp hn))]
  by_cases h2 : subjects ≤ b.subject
  · rw [if_pos h2] at h
    rw [if_pos (by omega), Option.some.inj h]
  rw [if_neg h2] at h
  rw [if_neg (by omega)]
  cases hp : readPayload b.kind b.payload with
  | none =>
    rw [if_pos hp] at h
    exact congrArg _ (Option.some.inj h)
  | some p =>
    rw [if_neg (by simp [hp])] at h
    obtain ⟨⟨hany, hfull⟩, hreason⟩ := Option.ite_none_right_eq_some.mp h
    have key : pool.any (fun x => x.sameKey { batch := b.batch, subject := b.subject, payload := p }) = false := by
      simpa only [sameKey_record (readPayload_sound hp).1] using hany
    simp only [key, Bool.false_eq_true, if_false]
    rw [if_pos hfull, Option.some.inj hreason]

theorem judgeAmend_taken {pool : List Amendment} {subjects : Nat} {b : AmendBody} (h : amendFault pool subjects b = none) :
    ∃ p, readPayload b.kind b.payload = some p ∧ judgeAmend pool subjects b =
      .taken (if pool.any (sameKey b) = true then
          replaceRecord pool { batch := b.batch, subject := b.subject, payload := p }
        else insertRecord pool { batch := b.batch, subject := b.subject, payload := p }, pool.any (sameKey b)) := by
  unfold amendFault at h
  unfold judgeAmend
  split_ifs at h with h1 h2 h3 h4
  rw [if_neg (by simp only [Config.batchCount]; omega), if_neg (by omega)]
  cases hp : readPayload b.kind b.payload with
  | none => exact absurd hp h3
  | some p =>
    refine ⟨p, rfl, ?_⟩
    simp only [sameKey_record (readPayload_sound hp).1]
    by_cases hany : pool.any (sameKey b) = true
    · rw [if_pos hany, if_pos hany, hany]
    · have hany : pool.any (sameKey b) = false := by simpa using hany
      rw [if_neg (by simp [hany]), if_neg (fun hf => h4 ⟨hany, hf⟩), if_neg (by simp [hany]), hany]

/-- R53: the reason of a void DROP. -/
def dropFault (pool : List Amendment) (b : Nat) : Option Reason :=
  if 4 ≤ b then some .badValue else if batchOf pool b = [] then some .emptyBatch else none

theorem judgeDrop_eq (pool : List Amendment) (b : Nat) : judgeDrop pool b =
    match dropFault pool b with
    | some reason => .void reason
    | none => .taken (withoutBatch pool b) := by
  unfold judgeDrop dropFault
  by_cases h1 : 4 ≤ b
  · rw [if_pos (by simp only [Config.batchCount]; omega), if_pos h1]
  · rw [if_neg (by simp only [Config.batchCount]; omega), if_neg h1]
    by_cases h2 : batchOf pool b = []
    · rw [if_pos ((batchOpen_iff pool b).mpr h2), if_pos h2]
    · rw [if_neg (fun h => h2 ((batchOpen_iff pool b).mp h)), if_neg h2]

theorem dropFault_some {pool : List Amendment} {b : Nat} {reason : Reason} (h : dropFault pool b = some reason) :
    (4 ≤ b ∨ batchOf pool b = []) ∧
    (if 4 ≤ b then some Reason.badValue else if batchOf pool b = [] then some .emptyBatch else none) = some reason := by
  refine ⟨?_, h⟩
  unfold dropFault at h
  split_ifs at h with h1 h2
  · exact .inl h1
  · exact .inr h2

theorem dropFault_none {pool : List Amendment} {b : Nat} (h : dropFault pool b = none) :
    b < 4 ∧ batchOf pool b ≠ [] := by
  unfold dropFault at h
  split_ifs at h with h1 h2
  exact ⟨Nat.not_le.mp h1, h2⟩

/-! ## AMEND and DROP at a station -/

theorem exec_amend (h : FrameHdr) (b : AmendBody) (s : State) : exec (.amend h b) s =
    .next (s.applyFrame h (.amend b) (fun t => t.amendFrame h b)) := rfl

theorem exec_drop (h : FrameHdr) (b : Nat) (s : State) : exec (.drop h b) s =
    .next (s.applyFrame h (.drop b) (fun t => t.dropFrame h b)) := rfl

/-- R51 to R53, R65: the store as judged, with the answer of the station whose relayed frame it is. -/
def judgedBy (s : State) (h : FrameHdr) (pool : List Amendment) (x : RelayResult) : State :=
  (s.setPool pool).relayApplied h x

theorem judgedBy_spec {s : State} {h : FrameHdr} (f : Frame) (pool : List Amendment) (x : RelayResult) :
    let t := (judgedBy (heard s h f) h pool x).afterFrame
    t = { s with pool := t.pool, port := t.port, link := t.link, claims := { s.claims with pending := t.claims.pending } } ∧
    t.pool = pool ∧
    (h.sender = s.straps.station → s.link.relay.isSome = true → s.link.outbound.length < 64 →
      t.link.relay = none ∧ t.link.outbound = s.link.outbound ++ [⟨s.straps.station, .relayResult x⟩]) ∧
    (¬ (h.sender = s.straps.station ∧ s.link.relay.isSome = true) → t.link = s.link) := by
  have touches := relayApplied_touches ((heard s h f).setPool pool) h x
  refine ⟨?_, ?_, fun ho hr hl => ?_, fun hn => ?_⟩
  · rw [afterFrame_touches, judgedBy, touches]
    rfl
  · simp [judgedBy]
  · simp only [afterFrame_frame]
    exact relayApplied_answers (s := (heard s h f).setPool pool) x ho hr hl
  · simp only [afterFrame_frame]
    rw [judgedBy, relayApplied_other (s := (heard s h f).setPool pool) x hn]
    rfl

theorem amendFrame_void {s : State} {h : FrameHdr} {b : AmendBody} {r : Replica} {reason : Reason} (hr : s.board.replica = some r)
    (hf : amendFault s.pool s.roster.subjectCount b = some reason) : s.amendFrame h b =
      judgedBy s h s.pool (relayJudged (.amend b) s.pool .void (some reason) none none) := by
  unfold State.amendFrame
  rw [if_neg (by simp [hr]), judgeAmend_void hf]
  rfl

theorem dropFrame_void {s : State} {h : FrameHdr} {b : Nat} {r : Replica} {reason : Reason} (hr : s.board.replica = some r)
    (hf : dropFault s.pool b = some reason) : s.dropFrame h b =
      judgedBy s h s.pool (relayJudged (.drop b) s.pool .void (some reason) none none) := by
  unfold State.dropFrame
  rw [if_neg (by simp [hr]), judgeDrop_eq, hf]
  rfl

theorem dropFrame_taken {s : State} {h : FrameHdr} {b : Nat} {r : Replica} (hr : s.board.replica = some r)
    (hf : dropFault s.pool b = none) : s.dropFrame h b =
      judgedBy s h (withoutBatch s.pool b) (relayJudged (.drop b) (withoutBatch s.pool b) .taken none none none) := by
  unfold State.dropFrame
  rw [if_neg (by simp [hr]), judgeDrop_eq, hf]
  rfl

theorem amendFrame_taken {s : State} {h : FrameHdr} {b : AmendBody} {r : Replica} (hr : s.board.replica = some r)
    (hf : amendFault s.pool s.roster.subjectCount b = none) : ∃ p pool, readPayload b.kind b.payload = some p ∧
      pool = (if s.pool.any (sameKey b) = true then
          replaceRecord s.pool { batch := b.batch, subject := b.subject, payload := p }
        else insertRecord s.pool { batch := b.batch, subject := b.subject, payload := p }) ∧
      s.amendFrame h b =
        judgedBy s h pool (relayJudged (.amend b) pool .taken none (some (s.pool.any (sameKey b))) none) := by
  obtain ⟨p, hp, hj⟩ := judgeAmend_taken hf
  refine ⟨p, _, hp, rfl, ?_⟩
  unfold State.amendFrame
  rw [if_neg (by simp [hr]), hj]
  rfl

end Sys2Proof.Store

open Sys2Proof Sys2Proof.Machine Sys2Proof.Laws Sys2Proof.Bus Sys2Proof.Hearing Sys2Proof.Store

/-- Settles O40: AMEND and DROP change the store by their judgement alone, and the relaying station answers. -/
theorem amendAndDropAreJudgedInOrder : Obligations.AmendAndDropAreJudgedInOrder := by
  refine ⟨fun s h b r hs hr => ?_, fun s h b r hs hr => ?_⟩
  · intro same why
    have hexec := (exec_amend h b s).trans (congrArg _ (applyFrame_hears hs h _ _))
    cases hw : amendFault s.pool s.roster.subjectCount b with
    | some reason =>
      have hwhy : why = some reason := hw
      have framed : (heard s h (.amend b)).amendFrame h b = judgedBy (heard s h (.amend b)) h s.pool
          (relayJudged (.amend b) s.pool .void (some reason) none none) := amendFrame_void hr hw
      rw [framed] at hexec
      obtain ⟨touches, pool, answers, quiet⟩ := judgedBy_spec (s := s) (h := h) (.amend b) s.pool
        (relayJudged (.amend b) s.pool .void (some reason) none none)
      refine ⟨_, hexec, touches, fun _ => pool, fun k _ => by rw [pool], fun p hn => absurd hn (by simp [hwhy]),
        fun ho hrel hl => ?_, quiet⟩
      obtain ⟨relay, out⟩ := answers ho hrel hl
      refine ⟨relay, ?_⟩
      rw [out, pool, hwhy]
      rfl
    | none =>
      have hwhy : why = none := hw
      obtain ⟨p, pool', hp, hpool, judged⟩ := amendFrame_taken (s := heard s h (.amend b)) (h := h) hr hw
      have framed : (heard s h (.amend b)).amendFrame h b = judgedBy (heard s h (.amend b)) h pool'
          (relayJudged (.amend b) pool' .taken none (some (s.pool.any (sameKey b))) none) := judged
      rw [framed] at hexec
      obtain ⟨touches, pool, answers, quiet⟩ := judgedBy_spec (s := s) (h := h) (.amend b) pool'
        (relayJudged (.amend b) pool' .taken none (some (s.pool.any (sameKey b))) none)
      have kind := (Payloads.readPayload_sound hp).1
      have hpool : pool' = if s.pool.any (sameKey b) = true then
          replaceRecord s.pool { batch := b.batch, subject := b.subject, payload := p }
        else insertRecord s.pool { batch := b.batch, subject := b.subject, payload := p } := hpool
      refine ⟨_, hexec, touches, fun hn => absurd hwhy hn, fun k hk => ?_, fun q _ hq => ⟨fun hany => ?_, fun hany => ?_⟩,
        fun ho hrel hl => ?_, quiet⟩
      · rw [pool, hpool]
        split_ifs
        · exact batchOf_replace_other hk
        · rw [batchOf_insert, if_neg hk]
      · obtain rfl : p = q := Option.some.inj (hp.symm.trans hq)
        rw [pool, hpool, if_pos (show s.pool.any (sameKey b) = true from hany)]
        refine ⟨replaceRecord_length _ _, ?_⟩
        rw [batchOf_replace]
        refine List.map_congr_left (fun x _ => ?_)
        rw [sameKey_record kind]
        by_cases hx : sameKey b x = true
        · obtain ⟨batch, subject, -⟩ := of_decide_eq_true hx
          rw [if_pos hx, if_pos (show same x = true from hx), ← batch, ← subject]
        · rw [if_neg hx, if_neg (show ¬ same x = true from hx)]
      · obtain rfl : p = q := Option.some.inj (hp.symm.trans hq)
        rw [pool, hpool, if_neg (by rw [show s.pool.any (sameKey b) = false from hany]; simp)]
        exact ⟨insertRecord_length _ _, by rw [batchOf_insert, if_pos rfl]⟩
      · obtain ⟨relay, out⟩ := answers ho hrel hl
        refine ⟨relay, ?_⟩
        rw [out, pool, hwhy]
        rfl
  · have hexec := (exec_drop h b s).trans (congrArg _ (applyFrame_hears hs h _ _))
    cases hw : dropFault s.pool b with
    | some reason =>
      have framed : (heard s h (.drop b)).dropFrame h b = judgedBy (heard s h (.drop b)) h s.pool
          (relayJudged (.drop b) s.pool .void (some reason) none none) := dropFrame_void hr hw
      rw [framed] at hexec
      obtain ⟨touches, pool, answers, quiet⟩ := judgedBy_spec (s := s) (h := h) (.drop b) s.pool
        (relayJudged (.drop b) s.pool .void (some reason) none none)
      obtain ⟨void, why⟩ := dropFault_some hw
      refine ⟨_, hexec, touches, fun _ => pool, fun hb hne => absurd void (by simp [hne, Nat.not_le.mpr hb]),
        fun k _ => by rw [pool], fun ho hrel hl => ?_, quiet⟩
      obtain ⟨relay, out⟩ := answers ho hrel hl
      refine ⟨relay, ?_⟩
      rw [out, pool, if_pos void, why]
      rfl
    | none =>
      have framed : (heard s h (.drop b)).dropFrame h b = judgedBy (heard s h (.drop b)) h (withoutBatch s.pool b)
          (relayJudged (.drop b) (withoutBatch s.pool b) .taken none none none) := dropFrame_taken hr hw
      rw [framed] at hexec
      obtain ⟨touches, pool, answers, quiet⟩ := judgedBy_spec (s := s) (h := h) (.drop b) (withoutBatch s.pool b)
        (relayJudged (.drop b) (withoutBatch s.pool b) .taken none none none)
      obtain ⟨inRange, opened⟩ := dropFault_none hw
      have taken : ¬ (4 ≤ b ∨ batchOf s.pool b = []) := by simp [opened, inRange]
      refine ⟨_, hexec, touches, fun hv => absurd hv taken,
        fun _ _ => ⟨by rw [pool, batchOf_without, if_pos rfl], by rw [pool, withoutBatch_length]⟩,
        fun k hk => by rw [pool, batchOf_without, if_neg hk], fun ho hrel hl => ?_, quiet⟩
      obtain ⟨relay, out⟩ := answers ho hrel hl
      refine ⟨relay, ?_⟩
      rw [out, pool, if_neg taken, if_neg (Nat.not_le.mpr inRange), if_neg opened]
      rfl
end

section
/-! PROOFS. LAUNCH (R37, R54, R55, R65). -/

namespace Sys2Proof.Launching

open Sys2Proof Sys2Proof.Machine Sys2Proof.Laws Sys2Proof.Bus Sys2Proof.Silencing Sys2Proof.Hearing Sys2Proof.Afterwards
  Sys2Proof.Claiming Sys2Proof.Closing Sys2Proof.JoinLeave Sys2Proof.Leases Sys2Proof.Store

/-- R54: the reason of a void LAUNCH. -/
def launchFault (s : State) (b : Nat) : Option Reason :=
  if 4 ≤ b then some .badValue else if batchOf s.pool b = [] then some .emptyBatch
  else if s.board.lastLaunched = 65535 then some .editionExhausted else none

/-- R54: the batch a taken LAUNCH hands over. -/
def launched (s : State) (b : Nat) : Batch := ⟨s.board.lastLaunched + 1, batchOf s.pool b⟩

/-- R65: the answer of the station whose relayed frame it is. -/
def launchAnswer (s : State) (b : Nat) : RelayResult :=
  relayJudged (.launch b) (withoutBatch s.pool b) .taken none none (some (s.board.lastLaunched + 1))

/-- R54, R55, R65: the batch is launched on the board and answered; the board is not yet reviewed. -/
def raised (s : State) (h : FrameHdr) (b : Nat) : State :=
  (s.launchBoard (launched s b) (withoutBatch s.pool b)).relayApplied h (launchAnswer s b)

theorem judgeLaunch_eq (s : State) (b : Nat) : judgeLaunch s.pool s.board.lastLaunched b =
    match launchFault s b with
    | some reason => .void reason
    | none => .taken (launched s b) := by
  unfold judgeLaunch launchFault
  by_cases h1 : 4 ≤ b
  · rw [if_pos (by simp only [Config.batchCount]; omega), if_pos h1]
  rw [if_neg (by simp only [Config.batchCount]; omega), if_neg h1]
  by_cases h2 : batchOf s.pool b = []
  · rw [if_pos ((batchOpen_iff _ b).mpr h2), if_pos h2]
  rw [if_neg (fun h => h2 ((batchOpen_iff _ b).mp h)), if_neg h2]
  by_cases h3 : s.board.lastLaunched = 65535
  · rw [if_pos (show s.board.lastLaunched = Config.editionMax from h3), if_pos h3]
  · rw [if_neg (show ¬ s.board.lastLaunched = Config.editionMax from h3), if_neg h3]
    rfl

theorem launchFrame_void {s : State} {h : FrameHdr} {b : Nat} {r : Replica} {reason : Reason}
    (hr : s.board.replica = some r) (hf : launchFault s b = some reason) : s.launchFrame h b =
      judgedBy s h s.pool (relayJudged (.launch b) s.pool .void (some reason) none none) := by
  unfold State.launchFrame
  rw [if_neg (by simp [hr]), judgeLaunch_eq, hf]
  rfl

theorem launchFrame_taken {s : State} {h : FrameHdr} {b : Nat} {r : Replica} (hr : s.board.replica = some r)
    (hf : launchFault s b = none) :
    s.launchFrame h b = (raised s h b).reviewComplete.enqueueBatch (launched s b) := by
  unfold State.launchFrame
  rw [if_neg (by simp [hr]), judgeLaunch_eq, hf]
  rfl

/-- R55: the entries after a taken LAUNCH. -/
def raisedReplica (s : State) (b : Nat) (r : Replica) : Replica :=
  r.launch (s.roster.touchedBy (batchOf s.pool b)) (s.board.lastLaunched + 1)

theorem raised_board {s : State} {r : Replica} (h : FrameHdr) (b : Nat) (hr : s.board.replica = some r) :
    (raised s h b).board =
      { s.board with replica := some (raisedReplica s b r), lastLaunched := s.board.lastLaunched + 1 } := by
  simp [raised, State.launchBoard, hr, raisedReplica, launched]

theorem raised_pool (s : State) (h : FrameHdr) (b : Nat) : (raised s h b).pool = withoutBatch s.pool b := by
  simp [raised, State.launchBoard]

theorem launchBoard_link (s : State) (b : Batch) (pool : List Amendment) : (s.launchBoard b pool).link = s.link := by simp

theorem launchBoard_straps (s : State) (b : Batch) (pool : List Amendment) : (s.launchBoard b pool).straps = s.straps := by
  simp

theorem raised_answers {s : State} {h : FrameHdr} (b : Nat) (ho : h.sender = s.straps.station)
    (hr : s.link.relay.isSome = true) (hl : s.link.outbound.length < 64) : (raised s h b).link.relay = none ∧
    (raised s h b).link.outbound = s.link.outbound ++ [⟨s.straps.station, .relayResult (launchAnswer s b)⟩] := by
  let u := s.launchBoard (launched s b) (withoutBatch s.pool b)
  have link : u.link = s.link := launchBoard_link ..
  have straps : u.straps = s.straps := launchBoard_straps ..
  have answers := relayApplied_answers (s := u) (h := h) (launchAnswer s b) (by rw [straps]; exact ho)
    (by rw [link]; exact hr) (by rw [link]; exact hl)
  rwa [link, straps] at answers

theorem raised_quiet {s : State} {h : FrameHdr} (b : Nat)
    (hn : ¬ (h.sender = s.straps.station ∧ s.link.relay.isSome = true)) : (raised s h b).link = s.link := by
  rw [raised, relayApplied_other _ (by rwa [launchBoard_link, launchBoard_straps]), launchBoard_link]

/-- R55: one entry under a taken LAUNCH. -/
theorem raisedReplica_entry {s : State} {b page : Nat} {r : Replica} {e : Entry} (he : r.entries[page]? = some e) :
    (raisedReplica s b r).entries[page]? = some (if s.roster.touchedBy (batchOf s.pool b) page = true
      then e.launch (s.board.lastLaunched + 1) else e) := by
  show (r.entries.mapIdx _)[page]? = _
  rw [List.getElem?_mapIdx, he]
  rfl

theorem raisedReplica_length (s : State) (b : Nat) (r : Replica) :
    (raisedReplica s b r).entries.length = r.entries.length := List.length_mapIdx

/-- R37: a board that was complete makes no report. -/
theorem raised_review {s : State} {h : FrameHdr} {b : Nat} {r : Replica} (hr : s.board.replica = some r) :
    let v := (raised s h b).reviewComplete
    v.board.replica = some (reviewed (raisedReplica s b r)) ∧ v.board.leases = s.board.leases ∧
    v.board.lastLaunched = s.board.lastLaunched + 1 ∧ Grows (raised s h b) v ∧
    v.link.relay = (raised s h b).link.relay ∧
    (r.complete = true → v.board.completions = s.board.completions ∧ v.link = (raised s h b).link) := by
  have board := raised_board h b hr
  have replica : (raised s h b).board.replica = some (raisedReplica s b r) := by rw [board]
  obtain ⟨h1, h2, h3⟩ := reviewComplete_replica replica
  refine ⟨h1, by rw [h2, board], by rw [h3, board], reviewComplete_grows _, by simp, fun hc => ?_⟩
  have complete : (raisedReplica s b r).complete = true := hc
  rw [reviewComplete_quiet replica (by simp [complete])]
  exact ⟨by simp [board], rfl⟩

/-- R55: the entry a touched page is left with. -/
theorem launch_eq (e : Entry) (edition : Nat) : e.launch edition =
    match e.status with
    | .printed _ _ => { e with need := edition, status := .opened, reprints := min (e.reprints + 1) 15 }
    | _ => { e with need := edition } := by
  unfold Entry.launch
  cases hs : e.status with
  | opened => rfl
  | claimed holder => rfl
  | printed station edition => rfl
  | failed station cause => rfl

/-- R51 to R54: what a frame void by its judgement leaves. -/
theorem judgedBy_void {s : State} {h : FrameHdr} (f : Frame) (x : RelayResult) :
    let t := (judgedBy (heard s h f) h s.pool x).afterFrame
    t.board = s.board ∧ t.launch = s.launch ∧ t.roster = s.roster := by
  simp only [judgedBy, afterFrame_frame, relayApplied_frame]
  exact ⟨rfl, rfl, rfl⟩

end Sys2Proof.Launching

open Sys2Proof Sys2Proof.Machine Sys2Proof.Laws Sys2Proof.Hearing Sys2Proof.Claiming Sys2Proof.Closing Sys2Proof.JoinLeave
  Sys2Proof.Leases Sys2Proof.Store Sys2Proof.Launching

/-- Settles O41: a LAUNCH raises the need edition of the pages its batch touches. -/
theorem launchRaisesTheTouchedPages : Obligations.LaunchRaisesTheTouchedPages := by
  intro s h b r hs hr why
  have hexec := (exec_launch h b s).trans (congrArg _ (applyFrame_hears hs h _ _))
  cases hw : launchFault s b with
  | some reason =>
    have hwhy : why = some reason := hw
    have framed : (heard s h (.launch b)).launchFrame h b = judgedBy (heard s h (.launch b)) h s.pool
        (relayJudged (.launch b) s.pool .void (some reason) none none) := launchFrame_void hr hw
    rw [framed] at hexec
    let x := relayJudged (.launch b) s.pool .void (some reason) none none
    obtain ⟨-, pool, answers, quiet⟩ := judgedBy_spec (s := s) (h := h) (.launch b) s.pool x
    obtain ⟨board, launch, roster⟩ := judgedBy_void (s := s) (h := h) (.launch b) x
    refine ⟨_, r, hexec, by rw [board, hr], rfl, by rw [board], fun k _ => by rw [pool],
      fun _ => ⟨pool, board, launch, roster⟩, fun hn => absurd hn (by simp [hwhy]), fun ho hrel hl => ?_,
      fun hn _ => quiet hn⟩
    obtain ⟨relay, out⟩ := answers ho hrel hl
    refine ⟨relay, [], ?_, fun _ => rfl⟩
    rw [out, pool, hwhy]
    rfl
  | none =>
    have hwhy : why = none := hw
    let u := heard s h (.launch b)
    have framed : u.launchFrame h b = (raised u h b).reviewComplete.enqueueBatch (launched u b) := launchFrame_taken hr hw
    rw [framed] at hexec
    obtain ⟨replica, leases, edition, ⟨more, grown⟩, relay, quiet⟩ := raised_review (s := u) (h := h) (b := b) hr
    let t := ((raised u h b).reviewComplete.enqueueBatch (launched u b)).afterFrame
    have board : t.board = (raised u h b).reviewComplete.board := by simp [t]
    have link : t.link = (raised u h b).reviewComplete.link := by simp [t]
    have pool : t.pool = withoutBatch s.pool b := by
      have pool : (raised u h b).pool = withoutBatch s.pool b := raised_pool u h b
      simpa [t] using pool
    refine ⟨t, reviewed (raisedReplica u b r), hexec, by rw [board, replica], rfl, by rw [board, leases]; rfl,
      fun k hk => by rw [pool, batchOf_without, if_neg hk], fun hn => absurd hwhy hn,
      fun _ => ⟨by rw [board, edition]; rfl, by rw [pool, batchOf_without, if_pos rfl], raisedReplica_length u b r,
        completeBoard_iff _, fun hc => by rw [board, (quiet hc).1]; rfl, fun p e he => ?_⟩, fun ho hrel hl => ?_,
      fun hn hc => ?_⟩
    · have entry : (reviewed (raisedReplica u b r)).entries[p]? = some (if s.roster.touchedBy (batchOf s.pool b) p = true
          then e.launch (s.board.lastLaunched + 1) else e) := raisedReplica_entry he
      refine ⟨fun hn => ?_, fun hy => ?_⟩
      · rw [entry, if_neg (by simp [hn])]
      · rw [entry, if_pos hy]
        exact congrArg some (launch_eq e _)
    · obtain ⟨none, out⟩ := raised_answers (s := u) (h := h) b ho hrel hl
      refine ⟨by rw [link, relay, none], more, ?_, fun hc => ?_⟩
      · rw [link, grown, out, pool, hwhy, List.append_assoc]
        rfl
      · have complete : r.complete = true := hc.resolve_right (fun hn => hn hwhy)
        rw [(quiet complete).2] at grown
        exact List.append_cancel_left (grown.symm.trans (List.append_nil _).symm)
    · have complete : r.complete = true := hc.resolve_right (fun hn => hn hwhy)
      rw [link, (quiet complete).2]
      exact raised_quiet (s := u) b hn
end

section
/-! PROOFS. The wire formats: frames, snapshot page entries and outbound records (R171, R177 to R181). -/

namespace Sys2Proof.Wire

open Sys2Proof Sys2Proof.Machine Sys2Proof.Laws Sys2Proof.Stream Sys2Proof.Payloads

/-! ## Bits and numbers (R178) -/

theorem natBits_length (w n : Nat) : (natBits w n).length = w := by simp [natBits]

theorem natBits_succ (w n : Nat) : natBits (w + 1) n = natBits w (n / 2) ++ [n.testBit 0] := by
  rw [natBits, List.range_succ, List.map_append, natBits]
  congr 1
  · refine List.map_congr_left (fun i hi => ?_)
    have lt := List.mem_range.mp hi
    rw [← Nat.testBit_succ]
    congr 1
    omega
  · simp

theorem bitsNat_concat (bits : List Bool) (b : Bool) : bitsNat (bits ++ [b]) = 2 * bitsNat bits + b.toNat := by
  simp [bitsNat]

theorem bitsNat_natBits {w n : Nat} (h : n < 2 ^ w) : bitsNat (natBits w n) = n := by
  induction w generalizing n with
  | zero =>
    obtain rfl : n = 0 := by simpa using h
    rfl
  | succ w ih =>
    have half : n / 2 < 2 ^ w := by
      rw [Nat.pow_succ] at h
      omega
    rw [natBits_succ, bitsNat_concat, ih half, Nat.testBit_zero]
    rcases Nat.mod_two_eq_zero_or_one n with hn | hn <;> simp [hn] <;> omega

theorem byteBits_eq (b : Byte) : byteBits b = natBits 8 b.toNat := by
  refine List.map_congr_left (fun i hi => ?_)
  have lt := List.mem_range.mp hi
  simp [BitVec.getMsbD, lt, BitVec.getLsbD]

theorem byteBits_length (b : Byte) : (byteBits b).length = 8 := by simp [byteBits]

theorem bitsNat_byteBits (b : Byte) : bitsNat (byteBits b) = b.toNat := by
  rw [byteBits_eq, bitsNat_natBits b.isLt]

theorem flatMap_byteBits_length (bs : List Byte) : (bs.flatMap byteBits).length = 8 * bs.length := by
  induction bs with
  | nil => rfl
  | cons b bs ih => rw [List.flatMap_cons, List.length_append, byteBits_length, ih, List.length_cons, Nat.mul_succ, Nat.add_comm]

theorem bitsBytes_flatMap (bs : List Byte) (rest : List Bool) : bitsBytes bs.length (bs.flatMap byteBits ++ rest) = bs := by
  induction bs with
  | nil => rfl
  | cons b bs ih =>
    rw [List.flatMap_cons, List.append_assoc, List.length_cons, bitsBytes, List.take_left' (byteBits_length b),
      List.drop_left' (byteBits_length b), ih, bitsNat_byteBits, byte_toNat]

/-! ## The frame (R131, R133, R179) -/

/-- R179: the fields of a frame fit their places. -/
def FieldsFit : Frame → Prop
  | .snapHead rq rs _ pages last _ states n => rq < 256 ∧ rs < 256 ∧ pages < 65536 ∧ last < 65536 ∧ states < 256 ∧ n < 256
  | .snapPages rq ix es => rq < 256 ∧ ix < 256 ∧ es.length % 7 = 0 ∧ 0 < es.length ∧ es.length ≤ 56
  | .snapAmend rq ix b => rq < 256 ∧ ix < 256 ∧ b.batch < 256 ∧ b.subject < 65536 ∧ b.kind < 256 ∧ b.payload.length ≤ 50
  | .lapse p h m => p < 65536 ∧ h < 256 ∧ m < 256
  | .done p e => p < 65536 ∧ e < 65536
  | .fail p c => p < 65536 ∧ c < 256
  | .release p => p < 65536
  | .launch b => b < 256
  | .drop b => b < 256
  | .claim p c => p < 65536 ∧ c < 256
  | .renew p => p < 65536
  | .amend b => b.batch < 256 ∧ b.subject < 65536 ∧ b.kind < 256 ∧ b.payload.length ≤ 50
  | .ask _ => True
  | .join st _ => st < 256
  | .leave st => st < 256

theorem fieldsFit_of_wf {c : Instr} {h : FrameHdr} {f : Frame} (hf : frameOf c = some (h, f)) (hw : c.wf = true) :
    h.sender < 16 ∧ FieldsFit f := by
  cases c <;> cases hf <;>
    simpa [Instr.wf, FrameHdr.wf, AmendBody.wf, entriesWf, isByte, isHalf, FieldsFit, and_assoc] using hw

theorem cls_lt (f : Frame) : f.cls < 2 ^ 2 := by cases f <;> simp [Frame.cls]

theorem code_lt (f : Frame) : f.code < 2 ^ 3 := by cases f <;> simp [Frame.code]

theorem payload_length {f : Frame} (h : FieldsFit f) : f.payload.length ≤ 64 ∧
    lengthOk f.cls f.code f.payload.length = true := by
  cases f <;> simp only [FieldsFit] at h <;>
    simp [Frame.payload, lengthOk, Frame.cls, Frame.code, AmendBody.bytes, bytes2, bytes4] <;> omega

theorem readBody_bytes {b : AmendBody} (h : b.batch < 256 ∧ b.subject < 65536 ∧ b.kind < 256 ∧ b.payload.length ≤ 50) :
    readBody (AmendBody.bytes b) = some b := by
  obtain ⟨hb, hs, hk, -⟩ := h
  simp [AmendBody.bytes, bytes2, readBody, toNat_byte hb, toNat_byte hk, be2_bytes _ hs]

/-- R179: the payload spells its frame. -/
theorem readKind_payload {f : Frame} (h : FieldsFit f) : readKind f.cls f.code f.payload = some f := by
  cases f with
  | snapHead rq rs pid pages last present states n =>
    obtain ⟨h1, h2, h3, h4, h5, h6⟩ := h
    obtain ⟨a, b, c, d, hb, he⟩ := be4_bytes4 pid
    simp [Frame.payload, Frame.cls, Frame.code, readKind, bytes2, toNat_byte, be2_bytes, *, present.isLt]
  | snapPages rq ix es =>
    obtain ⟨h1, h2, -⟩ := h
    simp [Frame.payload, Frame.cls, Frame.code, readKind, toNat_byte, *]
  | snapAmend rq ix b =>
    obtain ⟨h1, h2, h3⟩ := h
    simp [Frame.payload, Frame.cls, Frame.code, readKind, toNat_byte, readBody_bytes h3, h1, h2]
  | amend b => simp [Frame.payload, Frame.cls, Frame.code, readKind, readBody_bytes h]
  | ask pid =>
    obtain ⟨a, b, c, d, hb, he⟩ := be4_bytes4 pid
    simp [Frame.payload, Frame.cls, Frame.code, readKind, hb, he]
  | join st pid =>
    obtain ⟨a, b, c, d, hb, he⟩ := be4_bytes4 pid
    simp [Frame.payload, Frame.cls, Frame.code, readKind, hb, he, toNat_byte h]
  | _ =>
    simp only [FieldsFit] at h
    simp [Frame.payload, Frame.cls, Frame.code, readKind, bytes2, toNat_byte, be2_bytes, h]

theorem frameBody_length (sender : Nat) (hold : Bool) (f : Frame) :
    (frameBody sender hold f).length = 17 + 8 * f.payload.length := by
  simp only [frameBody, List.length_append, natBits_length, flatMap_byteBits_length, List.length_cons, List.length_nil]

theorem frameBits_length (sender : Nat) (hold : Bool) (f : Frame) :
    (frameBits sender hold f).length = 17 + 8 * f.payload.length + 16 := by
  simp only [frameBits, List.length_append, frameBody_length, natBits_length]

/-- R133, R179: a frame's bits are good and read back as what it says. -/
theorem readFrame_frameBits {sender : Nat} (hold : Bool) {f : Frame} (hs : sender < 16) (hf : FieldsFit f) :
    readFrame (frameBits sender hold f) = some ⟨f.cls, sender, f.code, hold, f.payload⟩ := by
  obtain ⟨short, fits⟩ := payload_length hf
  let bits := frameBits sender hold f
  have cls : bitsNat (bits.take 2) = f.cls := bitsNat_natBits (cls_lt f)
  have sends : bitsNat ((bits.drop 2).take 4) = sender := bitsNat_natBits (show sender < 2 ^ 4 from hs)
  have code : bitsNat ((bits.drop 6).take 3) = f.code := bitsNat_natBits (code_lt f)
  have len : bitsNat ((bits.drop 10).take 7) = f.payload.length :=
    bitsNat_natBits (show f.payload.length < 2 ^ 7 by omega)
  have payload : bitsBytes f.payload.length (bits.drop 17) = f.payload := bitsBytes_flatMap f.payload _
  have body : bits.take (17 + 8 * f.payload.length) = frameBody sender hold f :=
    List.take_left' (frameBody_length sender hold f)
  have check : bitsNat (bits.drop (17 + 8 * f.payload.length)) = (crc16 (frameBody sender hold f)).toNat := by
    rw [show bits.drop (17 + 8 * f.payload.length) = _ from List.drop_left' (frameBody_length sender hold f)]
    exact bitsNat_natBits (crc16 _).isLt
  unfold readFrame
  rw [if_pos]
  · rw [cls, sends, code, len, payload]
    rfl
  · rw [len, cls, code, body, check]
    exact ⟨frameBits_length sender hold f, short, fits, rfl⟩

/-! ## Page entries (R151, R180) -/

/-- R180: the fields of an entry fit their places. -/
structure EntryFits (e : Entry) : Prop where
  mark : e.mark < 256
  need : e.need < 65536
  lapses : e.lapses ≤ 3
  reprints : e.reprints ≤ 15
  holder : ∀ h, e.status.holder = some h → h < 16
  printed : ∀ n, e.status.printedEdition = some n → n < 65536
  lapsed : e.lapses = 3 → ∃ h c, e.status = .failed h c

theorem entry_bytes_length (e : Entry) : e.bytes.length = 7 := rfl

/-- R180: the cause code, 0 where the page has not failed. -/
def causeCode (st : PageStatus) : Nat := match st.failCause with | some c => c.code | none => 0

theorem status_code_lt (st : PageStatus) : st.code < 4 := by cases st <;> simp [PageStatus.code]

theorem causeCode_lt (st : PageStatus) : causeCode st < 4 := by
  cases st with
  | failed h c => cases c <;> simp [causeCode, PageStatus.failCause, FailCause.code]
  | _ => simp [causeCode, PageStatus.failCause]

theorem getD_lt {o : Option Nat} {k : Nat} (hk : 0 < k) (h : ∀ x, o = some x → x < k) : o.getD 0 < k := by
  cases o with
  | none => exact hk
  | some x => exact h x rfl

/-- R180: the fields packed in an entry's bytes read back as its state, mark, editions and counts. -/
theorem readEntry_bytes {e : Entry} (fits : EntryFits e) :
    readEntry (byte (e.status.code * 64 + e.status.holder.getD 0 * 4 + e.lapses)) (byte e.mark) (byte (e.need / 256))
      (byte e.need) (byte (e.status.printedEdition.getD 0 / 256)) (byte (e.status.printedEdition.getD 0))
      (byte (causeCode e.status * 64 + e.reprints)) = some e := by
  have code := status_code_lt e.status
  have cause := causeCode_lt e.status
  have holder := getD_lt (by omega) fits.holder
  have printed := getD_lt (by omega) fits.printed
  have lapses := fits.lapses
  have reprints := fits.reprints
  unfold readEntry
  rw [toNat_byte (n := e.status.code * 64 + e.status.holder.getD 0 * 4 + e.lapses) (by omega),
    toNat_byte (n := causeCode e.status * 64 + e.reprints) (by omega), toNat_byte fits.mark,
    be2_bytes _ fits.need, be2_bytes _ printed]
  have h1 : (e.status.code * 64 + e.status.holder.getD 0 * 4 + e.lapses) / 64 = e.status.code := by omega
  have h2 : (e.status.code * 64 + e.status.holder.getD 0 * 4 + e.lapses) / 4 % 16 = e.status.holder.getD 0 := by omega
  have h3 : (e.status.code * 64 + e.status.holder.getD 0 * 4 + e.lapses) % 4 = e.lapses := by omega
  have h4 : (causeCode e.status * 64 + e.reprints) / 64 = causeCode e.status := by omega
  have h5 : (causeCode e.status * 64 + e.reprints) / 16 % 4 = 0 := by omega
  have h6 : (causeCode e.status * 64 + e.reprints) % 16 = e.reprints := by omega
  simp only [h1, h2, h3, h4, h5, h6]
  have lapsed := fits.lapsed
  obtain ⟨status, mark, need, l, k⟩ := e
  cases status with
  | opened => simp_all [PageStatus.code, PageStatus.holder, PageStatus.printedEdition, causeCode, PageStatus.failCause]
  | claimed h => simp_all [PageStatus.code, PageStatus.holder, PageStatus.printedEdition, causeCode, PageStatus.failCause]
  | printed h n => simp_all [PageStatus.code, PageStatus.holder, PageStatus.printedEdition, causeCode, PageStatus.failCause]
  | failed h c =>
    cases c <;> simp [PageStatus.code, PageStatus.holder, PageStatus.printedEdition, causeCode, PageStatus.failCause,
      FailCause.code]

/-! ## Outbound records (R171, R177, R181) -/

theorem optBytes_length {α : Type} {width : Nat} {bytes : α → List Byte} (h : ∀ x, (bytes x).length = width) (o : Option α) :
    (optBytes width bytes o).length = width + 1 := by
  cases o <;> simp [optBytes, h]

@[simp] theorem bytes1_length (n : Nat) : (bytes1 n).length = 1 := rfl

@[simp] theorem bytes2_length (n : Nat) : (bytes2 n).length = 2 := rfl

@[simp] theorem bytes4_length (x : Id32) : (bytes4 x).length = 4 := rfl

@[simp] theorem flagByte_length (b : Bool) : (flagByte b).length = 1 := rfl

@[simp] theorem optBytes1_length (o : Option Nat) : (optBytes 1 bytes1 o).length = 2 := optBytes_length bytes1_length o

@[simp] theorem optBytes2_length (o : Option Nat) : (optBytes 2 bytes2 o).length = 3 := optBytes_length bytes2_length o

@[simp] theorem optBytes4_length (o : Option Id32) : (optBytes 4 bytes4 o).length = 5 := optBytes_length bytes4_length o

@[simp] theorem optFlag_length (o : Option Bool) : (optBytes 1 flagByte o).length = 2 := optBytes_length flagByte_length o

@[simp] theorem optNotices_length (o : Option Notices) : (optBytes 7 Notices.bytes o).length = 8 :=
  optBytes_length (width := 7) (fun _ => rfl) o

@[simp] theorem optReason_length (o : Option Reason) : (optBytes 1 (fun x => bytes1 (Reason.code x)) o).length = 2 :=
  optBytes_length (width := 1) (fun _ => rfl) o

@[simp] theorem optStates_length (o : Option (List Bool)) : (optBytes 1 (fun x => [statesByte x]) o).length = 2 :=
  optBytes_length (width := 1) (fun _ => rfl) o

@[simp] theorem optSetup_length (o : Option Setup) : (optBytes 8 Setup.bytes o).length = 9 :=
  optBytes_length (width := 8) (fun _ => rfl) o

@[simp] theorem faultRecord_length (x : FaultRecord) : x.bytes.length = 12 := by simp [FaultRecord.bytes]

@[simp] theorem optFault_length (o : Option FaultRecord) : (optBytes 12 FaultRecord.bytes o).length = 13 :=
  optBytes_length faultRecord_length o

theorem flatMap_length_const {α : Type} {width : Nat} {bytes : α → List Byte} (h : ∀ x, (bytes x).length = width)
    (xs : List α) : (xs.flatMap bytes).length = width * xs.length := by
  induction xs with
  | nil => rfl
  | cons x xs ih => rw [List.flatMap_cons, List.length_append, h, ih, List.length_cons, Nat.mul_succ, Nat.add_comm]

@[simp] theorem workList_length (xs : List (Nat × WorkPhase × Nat × Option Nat)) :
    (listBytes workBytes xs).length = 7 * xs.length + 1 := by
  rw [listBytes, List.length_cons, flatMap_length_const (width := 7) (fun w => by simp [workBytes])]

@[simp] theorem sheetList_length (xs : List Sheet) : (listBytes Sheet.bytes xs).length = 5 * xs.length + 1 := by
  rw [listBytes, List.length_cons, flatMap_length_const (width := 5) (fun w => by simp [Sheet.bytes])]

/-- R175: the payload of a STATUS before the work list. -/
def statusHead (station : Nat) (r : Status) : List Byte :=
  bytes1 r.request ++
  (bytes1 station ++ bytes1 r.state.code ++ bytes1 r.abandoned ++ bytes1 r.reask ++ flagByte r.volumeSeen) ++
  optBytes 8 Setup.bytes r.setup ++
  (bytes1 r.roster.code ++ optBytes 4 bytes4 r.identity ++ bytes2 r.edition ++ bytes2 r.lastLaunched) ++
  (flagByte r.silent ++ bytes1 r.tx ++ bytes1 r.rx) ++
  (flagByte r.held ++ bytes2 r.present.toNat ++ bytes2 r.opened ++ bytes2 r.claimed ++ bytes2 r.printed ++
    bytes2 r.failed)

/-- R175: between the work list and the sheet list. -/
def statusLane (r : Status) : List Byte :=
  bytes1 r.lanePhase.code ++ optBytes 1 bytes1 r.lastTemplate ++ flagByte (!r.outcomeHold) ++
    flagByte r.sheetReady ++ flagByte r.offline

/-- R175: after the sheet list. -/
def statusTail (r : Status) : List Byte :=
  (bytes1 r.faultPhase.code ++ optBytes 12 FaultRecord.bytes r.fault ++ bytes1 r.awaited) ++
  (flagByte (!r.linkUp) ++ flagByte r.relayBusy) ++
  [r.delivered, r.spoiled, r.withdrawn, r.lost, r.framesSent, r.framesVetoed, r.inDropped, r.outDropped].flatMap
    counterBytes

theorem status_bytes (station : Nat) (r : Status) : r.bytes station =
    statusHead station r ++ (listBytes workBytes r.work ++ (statusLane r ++ (listBytes Sheet.bytes r.sheets ++ statusTail r))) := by
  simp only [Status.bytes, statusHead, statusLane, statusTail, List.append_assoc]

theorem statusHead_length (station : Nat) (r : Status) : (statusHead station r).length = 39 := by simp [statusHead]

theorem statusLane_length (r : Status) : (statusLane r).length = 6 := by simp [statusLane]

theorem statusTail_length (r : Status) : (statusTail r).length = 49 := by
  rw [statusTail, List.length_append, flatMap_length_const (width := 4) (fun _ => rfl)]
  simp

/-- The byte at a list's place counts its items. -/
theorem byteAt_append {xs ys : List Byte} {b : Byte} {k : Nat} (h : xs.length = k) : byteAt (xs ++ b :: ys) k = b.toNat := by
  rw [byteAt, List.getElem?_append_right (by omega), h, Nat.sub_self]
  rfl

theorem status_fits {station : Nat} {r : Status} (hw : r.work.length < 256) (hs : r.sheets.length < 256) :
    outboundFits 0x87 (r.bytes station) = true := by
  have work : byteAt (r.bytes station) 39 = r.work.length := by
    rw [status_bytes, listBytes, List.cons_append, byteAt_append (statusHead_length station r), toNat_byte hw]
  have sheets : byteAt (r.bytes station) (46 + 7 * r.work.length) = r.sheets.length := by
    have place : (statusHead station r ++ (listBytes workBytes r.work ++ statusLane r)).length = 46 + 7 * r.work.length := by
      rw [List.length_append, List.length_append, statusHead_length, statusLane_length, workList_length]
      omega
    have split : r.bytes station = (statusHead station r ++ (listBytes workBytes r.work ++ statusLane r)) ++
        byte r.sheets.length :: (r.sheets.flatMap Sheet.bytes ++ statusTail r) := by
      rw [status_bytes, listBytes, listBytes]
      simp only [List.append_assoc, List.cons_append]
    rw [split, byteAt_append place, toNat_byte hs]
  have length : (r.bytes station).length = 96 + 7 * r.work.length + 5 * r.sheets.length := by
    simp only [status_bytes, List.length_append, statusHead_length, statusLane_length, statusTail_length, workList_length,
      sheetList_length]
    omega
  simp only [outboundFits, work, sheets, length, decide_true]

/-- R171, R181: an outbound payload has the length of its kind. -/
theorem payload_fits (r : OutRecord)
    (h : ∀ x, r.body = .status x → x.work.length < 256 ∧ x.sheets.length < 256) :
    outboundFits r.body.kind r.payload = true := by
  obtain ⟨station, body⟩ := r
  cases body with
  | status x =>
    obtain ⟨hw, hs⟩ := h x rfl
    exact status_fits hw hs
  | planAsk reask identity wanted => simp [OutRecord.payload, OutBody.kind, outboundFits]
  | fetch tag portrait => simp [OutRecord.payload, OutBody.kind, outboundFits]
  | pageReport page edition outcome notices => simp [OutRecord.payload, OutBody.kind, outboundFits]
  | faultReport x => simp [OutRecord.payload, OutBody.kind, outboundFits, FaultReport.bytes]
  | relayResult x => simp [OutRecord.payload, OutBody.kind, outboundFits, RelayResult.bytes]
  | volumeReport x => simp [OutRecord.payload, OutBody.kind, outboundFits, VolumeReport.bytes]

end Sys2Proof.Wire

open Sys2Proof Sys2Proof.Machine Sys2Proof.Wire

/-- Settles O54: the fields of each format are read back from the places they are packed in. -/
theorem framesAndEntriesRoundTrip : Obligations.FramesAndEntriesRoundTrip := by
  refine ⟨fun c h f hf hw => ?_, fun e mark need lapses reprints holder printed lapsed => ⟨rfl, fun rest es he => ?_⟩,
    fun r hr => ⟨payload_fits r hr, rfl, ?_⟩⟩
  · obtain ⟨sends, fits⟩ := fieldsFit_of_wf hf hw
    refine ⟨(frameBits_length ..).trans (by omega), ?_⟩
    rw [readWhole, readFrame_frameBits h.hold sends fits]
    dsimp only
    rw [readKind_payload fits]
    rfl
  · have entry := readEntry_bytes ⟨mark, need, lapses, reprints, holder, printed, lapsed⟩
    show readEntries (_ :: _ :: _ :: _ :: _ :: _ :: _ :: rest) = _
    unfold readEntries
    rw [he]
    exact (congrArg (fun o => match o, some es with | some x, some xs => some (x :: xs) | _, _ => none) entry)
  · rintro st tag pid rfl core
    have length : (OutRecord.payload ⟨st, .fetch tag pid⟩).length = 6 := rfl
    have same : recordCore 0x82 (OutRecord.payload ⟨st, .fetch tag pid⟩) = core := by
      rw [recordCore, length]
      rfl
    rw [← same]
    rfl
end

section
/-! PROOFS. What equal stations make of one frame (R23). -/

namespace Sys2Proof.Replicas

open Sys2Proof Sys2Proof.Machine Sys2Proof.Laws Sys2Proof.Bus Sys2Proof.Hearing Sys2Proof.Claiming Sys2Proof.Lapsing
  Sys2Proof.JoinLeave Sys2Proof.Ending Sys2Proof.Store Sys2Proof.Launching

/-! ## The shared data of the hall -/

/-- R23: the board's entries and presence flags. -/
def shown (s : State) : Option (List Entry × StationSet) := s.board.replica.map (fun q => (q.entries, q.present))

/-- R23: the data that the stations of a hall hold alike. -/
structure Shared where
  pool : List Amendment
  lastLaunched : Nat
  entries : List Entry
  present : StationSet

/-- A station holds the data. -/
structure Holds (s : State) (x : Shared) : Prop where
  pool : s.pool = x.pool
  lastLaunched : s.board.lastLaunched = x.lastLaunched
  shown : shown s = some (x.entries, x.present)

/-- R25 to R32, R51 to R55: what a frame makes of the shared data; only the plan is used beside them. -/
def sharedAfter (ro : Roster) (r : Replica) (pool : List Amendment) (last sender : Nat) : Frame → Shared
  | .amend b =>
    match judgeAmend pool ro.subjectCount b with
    | .void _ => ⟨pool, last, r.entries, r.present⟩
    | .taken x => ⟨x.1, last, r.entries, r.present⟩
  | .drop b =>
    match judgeDrop pool b with
    | .void _ => ⟨pool, last, r.entries, r.present⟩
    | .taken x => ⟨x, last, r.entries, r.present⟩
  | .launch b =>
    match judgeLaunch pool last b with
    | .void _ => ⟨pool, last, r.entries, r.present⟩
    | .taken x => ⟨withoutBatch pool b, x.edition, (r.launch (ro.touchedBy x.records) x.edition).entries, r.present⟩
  | f =>
    let r' := (r.apply ro.identity sender f).getD r
    ⟨pool, last, r'.entries, r'.present⟩

theorem touchedBy_congr {ro ro' : Roster} (hp : ro.pages = ro'.pages) (ht : ro.templates = ro'.templates)
    (hs : ro.sections = ro'.sections) : ro.touchedBy = ro'.touchedBy := by
  funext records page
  simp only [Roster.touchedBy, Roster.page?, Roster.touches, Roster.cellCount, Roster.resolve, hp, ht, hs]
  rfl

/-- R23: equal plans make the same of a frame. -/
theorem sharedAfter_congr {ro ro' : Roster} (hh : ro.head = ro'.head) (h1 : ro.status = .loaded) (h2 : ro'.status = .loaded)
    (hp : ro.pages = ro'.pages) (ht : ro.templates = ro'.templates) (hs : ro.sections = ro'.sections) :
    sharedAfter ro = sharedAfter ro' := by
  have identity : ro.identity = ro'.identity := by rw [Roster.identity, Roster.identity, h1, h2, hh]
  have count : ro.subjectCount = ro'.subjectCount := by rw [Roster.subjectCount, Roster.subjectCount, hh]
  have touched := touchedBy_congr hp ht hs
  funext r pool last sender f
  cases f <;> simp only [sharedAfter, identity, count, touched]

/-! ## The frames of the board (R25 to R32) -/

theorem shown_reviewComplete (s : State) : shown s.reviewComplete = shown s := by
  cases hr : s.board.replica with
  | none => rw [reviewComplete_absent hr]
  | some r =>
    obtain ⟨replica, -⟩ := reviewComplete_replica hr
    rw [shown, replica, shown, hr]
    rfl

theorem shown_boardFrame {s : State} {r : Replica} (sender : Nat) (f : Frame) (hr : s.board.replica = some r) :
    shown (s.boardFrame sender f) = some (((r.apply s.roster.identity sender f).getD r).entries,
      ((r.apply s.roster.identity sender f).getD r).present) := by
  cases ha : r.apply s.roster.identity sender f with
  | none =>
    rw [boardFrame_void hr ha, shown, hr]
    rfl
  | some r' =>
    rw [boardFrame_taken hr ha]
    rfl

/-- What a frame of the board leaves of the shared data. -/
def boardAfter (s : State) (r : Replica) (sender : Nat) (f : Frame) : Shared :=
  ⟨s.pool, s.board.lastLaunched, ((r.apply s.roster.identity sender f).getD r).entries,
    ((r.apply s.roster.identity sender f).getD r).present⟩

theorem holds_boardFrame {s v : State} {r : Replica} {sender : Nat} {f : Frame} (hr : s.board.replica = some r)
    (hp : v.pool = s.pool) (hl : v.board.lastLaunched = s.board.lastLaunched)
    (hb : v.board.replica = (s.boardFrame sender f).reviewComplete.board.replica) : Holds v (boardAfter s r sender f) := by
  refine ⟨hp, hl, ?_⟩
  have same : shown v = shown (s.boardFrame sender f).reviewComplete := congrArg (Option.map _) hb
  rw [same, shown_reviewComplete, shown_boardFrame sender f hr]
  rfl

/-- R27, R34: a void LAPSE leaves the replica. -/
theorem lapseFrame_replica {s : State} {r : Replica} (h : FrameHdr) (page holder mark : Nat) (hr : s.board.replica = some r) :
    shown (s.lapseFrame h page holder mark) = shown (s.boardFrame h.sender (.lapse page holder mark)) := by
  cases ha : r.apply s.roster.identity h.sender (.lapse page holder mark) with
  | none =>
    rw [lapseFrame_void (boardFate_void hr ha) (boardFrame_void hr ha), boardFrame_void hr ha]
    split_ifs
    · simp [shown]
    · rfl
  | some r' =>
    have board := lapseFrame_board (boardFate_taken hr ha)
    have same : shown (s.lapseFrame h page holder mark) =
        shown (s.boardFrame h.sender (.lapse page holder mark)).reviewComplete := by rw [shown, board, shown]
    rw [same, shown_reviewComplete]

theorem joinOwn_replica (s : State) (fate : BoardFate) : (s.joinOwn fate).board.replica = s.board.replica := by
  unfold State.joinOwn
  split_ifs
  · simp
  · rfl

theorem joinFrame_replica (s : State) (h : FrameHdr) (station : Nat) (identity : Id32) :
    (s.joinFrame h station identity).board.replica =
      (s.boardFrame h.sender (.join station identity)).reviewComplete.board.replica := by
  by_cases ho : h.sender = s.straps.station
  · rw [joinFrame_own ho, joinOwn_replica]
  · rw [joinFrame_other ho]
    simp

/-! ## The frames of the store (R51 to R55) -/

theorem shown_relayApplied (s : State) (h : FrameHdr) (x : RelayResult) : shown (s.relayApplied h x) = shown s := by
  simp [shown]

theorem amendFrame_holds {s : State} {r : Replica} (h : FrameHdr) (b : AmendBody) (hr : s.board.replica = some r) :
    Holds (s.amendFrame h b) (sharedAfter s.roster r s.pool s.board.lastLaunched h.sender (.amend b)) := by
  unfold State.amendFrame
  rw [if_neg (by simp [hr])]
  cases hj : judgeAmend s.pool s.roster.subjectCount b with
  | void reason =>
    simp only [sharedAfter, hj]
    exact ⟨by simp, by simp, by simp [shown, hr]⟩
  | taken x =>
    simp only [sharedAfter, hj]
    exact ⟨by simp, by simp, by simp [shown, hr]⟩

theorem dropFrame_holds {s : State} {r : Replica} (h : FrameHdr) (b : Nat) (hr : s.board.replica = some r) :
    Holds (s.dropFrame h b) (sharedAfter s.roster r s.pool s.board.lastLaunched h.sender (.drop b)) := by
  unfold State.dropFrame
  rw [if_neg (by simp [hr])]
  cases hj : judgeDrop s.pool b with
  | void reason =>
    simp only [sharedAfter, hj]
    exact ⟨by simp, by simp, by simp [shown, hr]⟩
  | taken x =>
    simp only [sharedAfter, hj]
    exact ⟨by simp, by simp, by simp [shown, hr]⟩

theorem launchFrame_holds {s : State} {r : Replica} (h : FrameHdr) (b : Nat) (hr : s.board.replica = some r) :
    Holds (s.launchFrame h b) (sharedAfter s.roster r s.pool s.board.lastLaunched h.sender (.launch b)) := by
  unfold State.launchFrame
  rw [if_neg (by simp [hr])]
  cases hj : judgeLaunch s.pool s.board.lastLaunched b with
  | void reason =>
    simp only [sharedAfter, hj]
    exact ⟨by simp, by simp, by simp [shown, hr]⟩
  | taken x =>
    simp only [sharedAfter, hj]
    refine ⟨by simp [State.launchBoard], by simp [State.launchBoard], ?_⟩
    have reviewed : ∀ v : State, shown (v.reviewComplete.enqueueBatch x) = shown v := fun v => by
      rw [← shown_reviewComplete v, shown, shown, (enqueueBatch_frame _ _).2.2.2.2.1]
    rw [reviewed, shown_relayApplied]
    simp [shown, State.launchBoard, hr]
    rfl

/-! ## The frames of a snapshot (R150 to R152) -/

theorem headFrame_held {s : State} {r : Replica} (hr : s.board.replica = some r) (fresh : Bool)
    (sender requester responder : Nat) (c : Collection) :
    (s.headFrame fresh sender requester responder c).board = s.board ∧
    (s.headFrame fresh sender requester responder c).pool = s.pool := by
  let v := (if fresh && decide (requester = s.straps.station) then s.withdrawAsk else s).withdrawRun sender requester
  have board : v.board = s.board := by
    show (State.withdrawRun (if _ then _ else _) _ _).board = _
    split_ifs <;> simp
  have pool : v.pool = s.pool := by
    show (State.withdrawRun (if _ then _ else _) _ _).pool = _
    split_ifs <;> simp
  have bars : v.mayCollect = false := by simp [State.mayCollect, board, hr]
  have stands : s.headFrame fresh sender requester responder c = v := if_neg (by
    show ¬ (_ && v.mayCollect && _) = true
    simp [bars])
  rw [stands]
  exact ⟨board, pool⟩

theorem uncollecting_frames {s : State} (hc : s.ctl.collection = none) (requester index : Nat) :
    (∀ es, s.pagesFrame requester index es = s) ∧ ∀ b, s.snapAmendFrame requester index b = s := by
  refine ⟨fun es => ?_, fun b => ?_⟩
  · simp only [State.pagesFrame, hc]
  · simp only [State.snapAmendFrame, hc]

theorem holds_same {s v : State} {r : Replica} (hr : s.board.replica = some r) (hp : v.pool = s.pool)
    (hb : v.board = s.board) : Holds v ⟨s.pool, s.board.lastLaunched, r.entries, r.present⟩ :=
  ⟨hp, by rw [hb], by rw [shown, hb, hr]; rfl⟩

/-! ## Every frame -/

/-- R23: the shared data after a frame are what the plan, these data and the frame make them. -/
theorem exec_frame_holds {s t : State} {c : Instr} {h : FrameHdr} {f : Frame} {r : Replica} (hf : frameOf c = some (h, f))
    (hs : s.hears) (hr : s.board.replica = some r) (hl : ∀ st, f = .leave st → h.sender ≠ s.straps.station)
    (he : exec c s = .next t) : Holds t (sharedAfter s.roster r s.pool s.board.lastLaunched h.sender f) := by
  let u := heard s h f
  have act (g : State → State) (hg : exec c s = .next (s.applyFrame h f g))
      (ha : Holds (g u) (sharedAfter s.roster r s.pool s.board.lastLaunched h.sender f)) :
      Holds t (sharedAfter s.roster r s.pool s.board.lastLaunched h.sender f) := by
    rw [he, applyFrame_hears hs] at hg
    obtain rfl : t = (g u).afterFrame := by injection hg
    obtain ⟨pool, last, shows⟩ := ha
    exact ⟨by simpa using pool, by simpa using last, by simpa [shown] using shows⟩
  have boardFrame (v : State) (hp : v.pool = u.pool) (hb : v.board.lastLaunched = u.board.lastLaunched)
      (hv : v.board.replica = (u.boardFrame h.sender f).reviewComplete.board.replica) :
      Holds v (boardAfter u r h.sender f) := holds_boardFrame hr hp hb hv
  have stays (v : State) (hp : v.pool = u.pool) (hb : v.board = u.board) :
      Holds v ⟨s.pool, s.board.lastLaunched, r.entries, r.present⟩ := holds_same (s := u) hr hp hb
  have idle : u.ctl.collection = none := hs.2
  cases c <;> cases hf
  case claim page n => exact act _ rfl (boardFrame _ (by simp) (by simp) (by rw [claimFrame_board]))
  case renew page => exact act _ rfl (boardFrame _ (by simp) (by simp) rfl)
  case lapse page holder mark =>
    refine act _ rfl ⟨by simp; rfl, by simp; rfl, ?_⟩
    rw [lapseFrame_replica (s := u) h page holder mark hr, shown_boardFrame (s := u) _ _ hr]
    rfl
  case done page edition => exact act _ rfl (boardFrame _ (by simp) (by simp) (by rw [doneFrame_board]))
  case release page => exact act _ rfl (boardFrame _ (by simp) (by simp) (by rw [releaseFrame_board]))
  case fail page cause => exact act _ rfl (boardFrame _ (by simp) (by simp) (by rw [failFrame_board]))
  case join station identity => exact act _ rfl (boardFrame _ (by simp) (by simp) (joinFrame_replica ..))
  case leave station =>
    have other : h.sender ≠ u.straps.station := hl station rfl
    exact act _ rfl (boardFrame _ (by rw [leaveFrame_other other]; simp) (by simp) (by rw [leaveFrame_other other]))
  case amend b => exact act _ rfl (amendFrame_holds (s := u) h b hr)
  case launch b => exact act _ rfl (launchFrame_holds (s := u) h b hr)
  case drop b => exact act _ rfl (dropFrame_holds (s := u) h b hr)
  case ask identity => exact act _ rfl (stays _ (by simp) (by simp))
  case snapHead =>
    refine act _ rfl ?_
    split_ifs
    · exact stays _ rfl rfl
    · obtain ⟨board, pool⟩ := headFrame_held (s := u) hr _ _ _ _ _
      exact stays _ pool board
  case snapPages requester index es =>
    refine act _ rfl ?_
    rw [(uncollecting_frames idle requester index).1 es]
    exact stays _ rfl rfl
  case snapAmend requester index b =>
    refine act _ rfl ?_
    rw [(uncollecting_frames idle requester index).2 b]
    exact stays _ rfl rfl

end Sys2Proof.Replicas

open Sys2Proof Sys2Proof.Machine Sys2Proof.Replicas

/-- Settles O60: a frame's effect on the shared data uses nothing but these data and the plan. -/
theorem equalReplicasStayEqual : Obligations.EqualReplicasStayEqual := by
  intro c h f s1 s2 t1 t2 r hf hl hs1 hs2 hr1 hr2 pool last head loaded1 loaded2 pages templates sections he1 he2
  obtain ⟨pool1, last1, shown1⟩ := exec_frame_holds hf hs1 hr1 (fun st hst => (hl st hst).1) he1
  have after2 := exec_frame_holds hf hs2 hr2 (fun st hst => (hl st hst).2) he2
  rw [← sharedAfter_congr head loaded1 loaded2 pages templates sections, ← pool, ← last] at after2
  obtain ⟨pool2, last2, shown2⟩ := after2
  exact ⟨pool1.trans pool2.symm, last1.trans last2.symm, shown1.trans shown2.symm⟩
end

section
/-! PROOFS. The class, the placement and the notices of a cell (R67, R72, R74 to R80). -/

namespace Sys2Proof.Cells

open Sys2Proof Sys2Proof.Machine Sys2Proof.Laws

/-! ## The first case that applies (R74) -/

theorem placing_vacant {s : State} {x : Held} {t : Template} {i j : Nat} {c : Cell} {y : Subject} (hc : c.subject = some j)
    (hy : s.roster.subjects[j]? = some y) (hw : y.withdrawn = true) :
    s.placing x t i c = some (plainCell s.comp.tracker .vacant []) := by
  simp only [State.placing, hc, hy, hw, if_true]

theorem placing_noPortrait {s : State} {x : Held} {t : Template} {i j : Nat} {c : Cell} {y : Subject}
    (hc : c.subject = some j) (hy : s.roster.subjects[j]? = some y) (hw : y.withdrawn = false) (hp : y.portrait = none) :
    s.placing x t i c = some (plainCell s.comp.tracker .placeholder [.noPortrait]) := by
  simp [State.placing, hc, hy, hw, hp]

/-- R74: what a cell with a portrait comes to: learned, answered, READY, or waiting. -/
theorem placing_portrait {s : State} {x : Held} {t : Template} {i j : Nat} {c : Cell} {y : Subject}
    (hc : c.subject = some j) (hy : s.roster.subjects[j]? = some y) (hw : y.withdrawn = false) (hp : y.portrait ≠ none) :
    (∀ k, learnedKind s.comp.learned x.page x.edition i = some k →
      s.placing x t i c = some (plainCell s.comp.tracker .placeholder [k])) ∧
    (learnedKind s.comp.learned x.page x.edition i = none →
      (∀ a, c.answer = some a → s.placing x t i c = some (lateCell s.comp.tracker a.notice)) ∧
      (c.answer = none → s.placing x t i c =
        (s.tiles.readyFor i).map (fun r => s.placePortrait x t i y r.1 r.2.1 r.2.2))) := by
  have portrait : y.portrait.isNone = false := by simpa [Option.isSome_iff_ne_none] using hp
  refine ⟨fun k hk => ?_, fun hl => ⟨fun a ha => ?_, fun ha => ?_⟩⟩
  · simp [State.placing, hc, hy, hw, portrait, hk]
  · simp [State.placing, hc, hy, hw, portrait, hl, ha]
  · simp [State.placing, hc, hy, hw, portrait, hl, ha]

/-! ## A READY portrait (R76 to R80) -/

theorem placePortrait_small {s : State} {x : Held} {t : Template} {i n pw ph : Nat} {y : Subject}
    (h : 2 * (windowFor y.crop pw ph t.cellW t.cellH).width < t.cellW) : s.placePortrait x t i y n pw ph =
      { lateCell s.comp.tracker .lowResolution with
        notices := (if clampCrop y.crop pw ph ≠ y.crop then [.cropClamped] else []) ++ [.lowResolution] } :=
  if_pos (decide_eq_true h)

/-- R92, R98: the tone step of the READY portrait in a slot. -/
def toneFor (s : State) (x : Held) (t : Template) (y : Subject) (n pw ph : Nat) : ToneStep :=
  s.toneOf x t { dram := s.tiles.dram, slot := n, width := pw } (windowFor y.crop pw ph t.cellW t.cellH)

/-- R76, R78, R97: the notices of a PORTRAIT. -/
def portraitNotices (clamped upscaled limited : Bool) : List Notice :=
  (if clamped then [.cropClamped] else []) ++ (if upscaled then [.upscaled] else []) ++
    (if limited then [.toneLimited] else [])

theorem portraitNotices_spec (clamped upscaled limited : Bool) :
    (.cropClamped ∈ portraitNotices clamped upscaled limited ↔ clamped = true) ∧
    (.upscaled ∈ portraitNotices clamped upscaled limited ↔ upscaled = true) ∧
    (.toneLimited ∈ portraitNotices clamped upscaled limited ↔ limited = true) ∧
    (portraitNotices clamped upscaled limited).Nodup ∧
    ∀ k ∈ portraitNotices clamped upscaled limited, k = .cropClamped ∨ k = .upscaled ∨ k = .toneLimited := by
  revert clamped upscaled limited
  decide

theorem placePortrait_placed {s : State} {x : Held} {t : Template} {i n pw ph : Nat} {y : Subject}
    (h : t.cellW ≤ 2 * (windowFor y.crop pw ph t.cellW t.cellH).width) : s.placePortrait x t i y n pw ph =
      { cls := .portrait,
        notices := portraitNotices (decide (clampCrop y.crop pw ph ≠ y.crop))
          (decide ((windowFor y.crop pw ph t.cellW t.cellH).width < t.cellW)) (toneFor s x t y n pw ph).limited,
        place := some { window := windowFor y.crop pw ph t.cellW t.cellH,
                        mirror := mirrored t.facing y.pose x.page (i % t.columns) t.columns,
                        gain := (toneFor s x t y n pw ph).gain },
        tracker := (toneFor s x t y n pw ph).tracker, late := none } := by
  have wide : ¬ tooSmall (windowFor y.crop pw ph t.cellW t.cellH) t.cellW = true := by
    simpa [tooSmall] using h
  refine (if_neg wide).trans ?_
  simp only [portraitNotices, clampNotice, enlarged, decide_eq_true_eq]
  rfl

theorem toneOf_untoned {s : State} {x : Held} {t : Template} (r : Raster) (w : Window) (h : t.tone ≠ 0) :
    s.toneOf x t r w = { gain := 16, tracker := s.comp.tracker, limited := false } := by
  simp [State.toneOf, Template.toned, h]

theorem toneOf_toned {s : State} {x : Held} {t : Template} {z : Section} (r : Raster) (w : Window) (h : t.tone = 0)
    (hz : s.roster.sections[x.sectionIx]? = some z) :
    s.toneOf x t r w = toneStep s.comp.tracker z (measure r.luminance w t.weights) := by
  simp [State.toneOf, Template.toned, h, hz]

/-! ## Recording a placed cell (R67, R74) -/

theorem modifyCell_comp (s : State) (i : Nat) (f : Cell → Cell) :
    (s.modifyCell i f).comp.tracker = s.comp.tracker ∧ (s.modifyCell i f).comp.learned = s.comp.learned := by
  unfold State.modifyCell
  split <;> exact ⟨rfl, rfl⟩

theorem recordPlaced_memory (s : State) (x : Held) (i : Nat) (p : Placed) :
    (s.recordPlaced x i p).comp.tracker = p.tracker ∧
    (s.recordPlaced x i p).comp.learned = s.comp.learned.map (fun l => match p.late with
      | some k => { l with cells := l.cells ++ [(i, k)] }
      | none => l) := by
  have learned : (match p.late with
      | some n => s.comp.learned.map (fun l => l.add i n)
      | none => s.comp.learned) = s.comp.learned.map (fun l => match p.late with
        | some k => { l with cells := l.cells ++ [(i, k)] }
        | none => l) := by
    cases p.late with
    | none => exact Option.map_id'.symm
    | some k => rfl
  unfold State.recordPlaced
  dsimp only
  split_ifs
  · exact ⟨(modifyCell_comp _ _ _).1, (modifyCell_comp _ _ _).2.trans learned⟩
  · exact ⟨rfl, learned⟩

/-- R80: a cell too small for its portrait keeps no reference. -/
theorem recordPlaced_unreferenced {s : State} {x : Held} {i : Nat} {p : Placed} (h : p.late = some .lowResolution) :
    ∀ sl ∈ (s.recordPlaced x i p).tiles.slots, Ref.composing i ∉ sl.refs := by
  intro sl hsl hm
  unfold State.recordPlaced at hsl
  rw [if_pos h] at hsl
  simpa using (mem_keepRefs hsl hm).1

end Sys2Proof.Cells

open Sys2Proof Sys2Proof.Machine Sys2Proof.Laws Sys2Proof.Cells

/-- Settles O46: the cases of a cell are taken in order, and what placing it comes to is recorded. -/
theorem cellClassIsTheFirstCase : Obligations.CellClassIsTheFirstCase := by
  refine ⟨fun s x t i c => ⟨fun hc => ⟨plainCell s.comp.tracker .empty [], ?_, rfl, rfl⟩, fun j y hc hy => ?_⟩,
    ⟨fun s x i c p hx hc => ?_, fun r p cellW cellH u v k hk => ?_⟩,
    fun l page edition cell => ⟨fun k hk => Opening.learnedKind_some hk, Opening.learnedKind_none_iff ..⟩⟩
  · simp only [State.placing, hc]
  · refine ⟨fun hw => ⟨_, placing_vacant hc hy hw, rfl, rfl⟩,
      fun hw hp => ⟨_, placing_noPortrait hc hy hw hp, rfl, rfl, rfl⟩, fun hw hp => ?_⟩
    obtain ⟨learned, others⟩ := placing_portrait (x := x) (t := t) (i := i) hc hy hw hp
    refine ⟨fun k hk => ⟨_, learned k hk, rfl, rfl, rfl⟩, fun hl => ?_⟩
    obtain ⟨answered, tile⟩ := others hl
    refine ⟨fun a ha => ⟨_, answered a ha, rfl, rfl, rfl, rfl⟩, fun ha hr => by rw [tile ha, hr]; rfl,
      fun n pw ph ha hr => ?_⟩
    have ready : s.placing x t i c = some (s.placePortrait x t i y n pw ph) := by rw [tile ha, hr]; rfl
    refine ⟨fun small => ?_, fun wide => ?_⟩
    · rw [placePortrait_small small] at ready
      exact ⟨_, ready, rfl, rfl, rfl, rfl⟩
    · rw [placePortrait_placed wide] at ready
      obtain ⟨clamped, upscaled, limited, nodup, only⟩ := portraitNotices_spec
        (decide (clampCrop y.crop pw ph ≠ y.crop)) (decide ((windowFor y.crop pw ph t.cellW t.cellH).width < t.cellW))
        (toneFor s x t y n pw ph).limited
      refine ⟨_, _, ready, rfl, rfl, rfl, rfl, rfl, clamped.trans decide_eq_true_iff, upscaled.trans decide_eq_true_iff,
        nodup, only, fun off => ?_, fun z on hz => ?_⟩
      · have tone : toneFor s x t y n pw ph = _ := toneOf_untoned _ _ off
        refine ⟨by rw [tone], fun hm => ?_, by rw [tone]⟩
        have limits := limited.mp hm
        rw [tone] at limits
        cases limits
      · have tone : toneFor s x t y n pw ph = _ := toneOf_toned _ _ on hz
        refine ⟨by rw [tone], by rw [tone], ?_⟩
        rw [← tone]
        exact limited
  · obtain ⟨held, -⟩ := recordPlaced_spec s x i p hx
    obtain ⟨tracker, learned⟩ := recordPlaced_memory s x i p
    refine ⟨_, placedCell p c, held, by simp [hc], rfl, rfl, rfl, rfl, fun k hk => ?_, rfl, rfl, tracker, learned,
      fun small => ⟨by simp [placedCell, small], recordPlaced_unreferenced small⟩⟩
    exact List.getElem?_modify_ne _ _ (Ne.symm hk)
  · rw [outputPixel, List.getElem?_map, List.getElem?_range hk]
    rfl
end

section
/-! PROOFS. The crop window, mirroring, resampling and the tone measure (R76 to R79, R89 to R97). -/

namespace Sys2Proof.Placing

open Sys2Proof Sys2Proof.Machine

/-! ## The window (R76, R77) -/

theorem clampCrop_bounds {c : Crop} {pw ph : Nat} (hx : c.x0 < c.x1) (hy : c.y0 < c.y1) (hw : 64 ≤ pw) (hh : 64 ≤ ph) :
    (clampCrop c pw ph).x0 < (clampCrop c pw ph).x1 ∧ (clampCrop c pw ph).x1 ≤ pw ∧
    (clampCrop c pw ph).y0 < (clampCrop c pw ph).y1 ∧ (clampCrop c pw ph).y1 ≤ ph := by
  simp only [clampCrop]
  omega

/-- R77: the height that brings the clamped window to the cell's aspect. -/
def aspectHeight (c : Crop) (cellW cellH : Nat) : Nat := max 1 (roundDiv ((c.x1 - c.x0) * cellH) cellW)

theorem adjustWindow_tall {c : Crop} {ph cellW cellH : Nat} (h : ph < aspectHeight c cellW cellH) :
    adjustWindow c ph cellW cellH =
      { left := c.x0 + (c.x1 - c.x0 - min (c.x1 - c.x0) (roundDiv (ph * cellW) cellH)) / 2, top := 0,
        width := min (c.x1 - c.x0) (roundDiv (ph * cellW) cellH), height := ph } := if_pos h

/-- R77: where the window would stand centred on the clamped one. -/
def centredTop (c : Crop) (h : Nat) : Int := c.y0 + (((c.y1 - c.y0 : Nat) : Int) - h) / 2

theorem adjustWindow_fits {c : Crop} {ph cellW cellH : Nat} (h : aspectHeight c cellW cellH ≤ ph) :
    adjustWindow c ph cellW cellH =
      { left := c.x0,
        top := if ph < (centredTop c (aspectHeight c cellW cellH)).toNat + aspectHeight c cellW cellH
          then ph - aspectHeight c cellW cellH else (centredTop c (aspectHeight c cellW cellH)).toNat,
        width := c.x1 - c.x0, height := aspectHeight c cellW cellH } := if_neg (Nat.not_lt.mpr h)

/-- R77: a window of the whole height is not empty. -/
theorem roundDiv_pos {ph cellW cellH : Nat} (hh : 64 ≤ ph) (hw : 32 ≤ cellW) (h0 : 0 < cellH) (h1 : cellH ≤ 2560) :
    1 ≤ roundDiv (ph * cellW) cellH := by
  have area : 64 * 32 ≤ ph * cellW := Nat.mul_le_mul hh hw
  rw [roundDiv, Nat.one_le_div_iff (by omega)]
  omega

theorem windowFor_inside {c : Crop} {pw ph cellW cellH : Nat} (hx : c.x0 < c.x1) (hy : c.y0 < c.y1) (hpw : 64 ≤ pw)
    (hph : 64 ≤ ph) (hcw : 32 ≤ cellW) (hch : 32 ≤ cellH) (hcm : cellH ≤ 2560) :
    let w := windowFor c pw ph cellW cellH
    w.left + w.width ≤ pw ∧ w.top + w.height ≤ ph ∧ 1 ≤ w.height ∧ 1 ≤ w.width := by
  obtain ⟨x0, x1, -, -⟩ := clampCrop_bounds hx hy hpw hph
  rw [windowFor]
  generalize clampCrop c pw ph = d at x0 x1
  have positive := roundDiv_pos hph hcw (by omega) hcm
  have height : 1 ≤ aspectHeight d cellW cellH := le_max_left ..
  rcases Nat.lt_or_ge ph (aspectHeight d cellW cellH) with h | h
  · rw [adjustWindow_tall h]
    dsimp only
    omega
  · rw [adjustWindow_fits h]
    dsimp only
    split_ifs <;> omega

/-! ## Mirroring (R79) -/

theorem mirrored_iff {facing pose : Nat} (page column columns : Nat) (hf : facing < 3) (hp : pose < 3) :
    mirrored facing pose page column columns = true ↔
      (facing = 1 ∧ pose = 0 ∧ page % 2 = 0) ∨ (facing = 1 ∧ pose = 1 ∧ page % 2 = 1) ∨
      (facing = 2 ∧ columns % 2 = 1 ∧ pose = 0 ∧ column < (columns - 1) / 2) ∨
      (facing = 2 ∧ columns % 2 = 1 ∧ pose = 1 ∧ (columns - 1) / 2 < column) ∨
      (facing = 2 ∧ columns % 2 = 0 ∧ pose = 0 ∧ column < columns / 2) ∨
      (facing = 2 ∧ columns % 2 = 0 ∧ pose = 1 ∧ columns / 2 ≤ column) := by
  interval_cases facing <;> interval_cases pose <;> simp [mirrored]
  · omega
  · omega

/-! ## The tracker and the gain (R94 to R97) -/

theorem withinBand_iff (target half m : Nat) : withinBand target half m = true ↔ target ≤ m + half ∧ m ≤ target + half := by
  simp [withinBand]

theorem computedGain_bounds (target m : Nat) {ceiling : Nat} (h : 16 ≤ ceiling) :
    8 ≤ computedGain target ceiling m ∧ computedGain target ceiling m ≤ ceiling := by
  unfold computedGain
  split_ifs <;> omega

theorem toneStep_inside {tr : Tracker} {x : Section} {m : Nat}
    (h : withinBand x.target (match tr with | .steady => x.outer | .correcting => x.inner) m = true) :
    toneStep tr x m = { gain := 16, tracker := .steady, limited := false } := if_pos h

theorem toneStep_outside {tr : Tracker} {x : Section} {m : Nat}
    (h : ¬ withinBand x.target (match tr with | .steady => x.outer | .correcting => x.inner) m = true) :
    toneStep tr x m = ⟨computedGain x.target x.ceiling m, .correcting,
      !withinBand x.target x.inner (computedGain x.target x.ceiling m * m / 16)⟩ := if_neg h

/-! ## Sums over blocks (R78, R90, R91) -/

theorem raster_at (r : Raster) (x y k : Nat) :
    r.at x y k = (Mem.read r.dram (r.slot * 2 ^ 24 + 3 * (y * r.width + x) + k)).toNat := by
  rw [Raster.at, slotAddress, Nat.add_assoc]

theorem range_map_sum (n : Nat) (f : Nat → Nat) : ((List.range n).map f).sum = (Finset.range n).sum f := by
  induction n with
  | zero => rfl
  | succ n ih => rw [List.range_succ, List.map_append, List.sum_append, ih, Finset.sum_range_succ]; simp

theorem upTo_length (a b : Nat) : (upTo a b).length = (Finset.Icc a b).card := by simp [upTo]

theorem upTo_sum (a b : Nat) (f : Nat → Nat) : ((upTo a b).map f).sum = (Finset.Icc a b).sum f := by
  have whole : Finset.Icc a b = Finset.Ico a (b + 1) := by
    ext x
    simp only [Finset.mem_Icc, Finset.mem_Ico]
    omega
  rw [upTo, List.map_map, range_map_sum, whole, Finset.sum_Ico_eq_sum_range]
  rfl

theorem blockSum_upTo (f : Nat → Nat → Nat) (a b c d : Nat) : blockSum f (upTo a b) (upTo c d) =
    (Finset.Icc c d).sum (fun y => (Finset.Icc a b).sum (fun x => f x y)) := by
  simp only [blockSum, upTo_sum]

/-- R90: the length of a zone, the last taking the remainder. -/
def spanOf (len k : Nat) : Nat := len / 4 + if k = 3 then len % 4 else 0

theorem zoneSpan_eq (start len k : Nat) :
    zoneSpan start len k = (List.range (spanOf len k)).map (fun i => start + k * (len / 4) + i) := by
  unfold zoneSpan spanOf
  split_ifs <;> rfl

theorem zoneMean_eq (lum : Nat → Nat → Nat) (w : Window) (i : Nat) : zoneMean lum w i =
    (Finset.range (spanOf w.height (i / 4))).sum (fun y => (Finset.range (spanOf w.width (i % 4))).sum (fun x =>
      lum (w.left + i % 4 * (w.width / 4) + x) (w.top + i / 4 * (w.height / 4) + y))) /
    (spanOf w.width (i % 4) * spanOf w.height (i / 4)) := by
  simp only [zoneMean, blockSum, zoneSpan_eq, List.map_map, range_map_sum, List.length_map, List.length_range,
    Function.comp_def]

theorem zipWith_sum (ws : List Nat) (f : Nat → Nat) : (List.zipWith (· * ·) ws ((List.range ws.length).map f)).sum =
    (Finset.range ws.length).sum (fun i => ws.getD i 0 * f i) := by
  rw [← range_map_sum]
  congr 1
  refine List.ext_getElem (by simp) (fun i h1 h2 => ?_)
  have hi : i < ws.length := by simpa using h2
  simp [hi]

theorem measure_plain {lum : Nat → Nat → Nat} {w : Window} {weights : List Nat} (h : ∀ x ∈ weights, x = 0) :
    Machine.measure lum w weights = (Finset.range 16).sum (zoneMean lum w) / 16 := by
  have zero : weights.sum = 0 := List.sum_eq_zero h
  rw [Machine.measure, weightedMean, if_pos zero, range_map_sum]

theorem measure_weighted {lum : Nat → Nat → Nat} {w : Window} {weights : List Nat} (hl : weights.length = 16)
    (h : ∃ x ∈ weights, x ≠ 0) : Machine.measure lum w weights =
      (Finset.range 16).sum (fun i => weights.getD i 0 * zoneMean lum w i) / weights.sum := by
  obtain ⟨x, hx, hn⟩ := h
  have positive : ¬ weights.sum = 0 := fun hz => hn (List.sum_eq_zero_iff.mp hz x hx)
  have zip := zipWith_sum weights (zoneMean lum w)
  rw [hl] at zip
  rw [Machine.measure, weightedMean, if_neg positive, zip]

end Sys2Proof.Placing

open Sys2Proof Sys2Proof.Machine Sys2Proof.Placing

/-- Settles O47: the window, the mirror flag, the resampled pixel and the tone measure by their formulas. -/
theorem windowMirrorAndTone : Obligations.WindowMirrorAndTone := by
  refine ⟨fun c pw ph cellW cellH hx hy hpw hph _ _ hcw _ hch hcm => windowFor_inside hx hy hpw hph hcw hch hcm,
    fun facing pose page column columns hf hp => mirrored_iff page column columns hf hp,
    ⟨fun r g b hr hg hb => ⟨rfl, ?_⟩, fun tr x m hc => ?_, fun _ _ => rfl⟩,
    fun c pw ph cellW cellH hx hy hpw hph hcw hch => ?_, fun r w cellW cellH u v k => ?_,
    fun lum w weights hl => ⟨fun hz => ?_, fun hn => ?_⟩, fun r x y => ?_⟩
  · simp only [luminance]
    omega
  · intro half inside gain
    obtain ⟨low, high⟩ := computedGain_bounds x.target m hc
    refine ⟨low, high, fun h => toneStep_inside ((withinBand_iff ..).mpr h), fun h => ?_⟩
    rw [toneStep_outside (fun hn => h ((withinBand_iff ..).mp hn))]
    refine ⟨rfl, rfl, ?_⟩
    rw [Bool.not_eq_true', ← Bool.not_eq_true, withinBand_iff]
    rfl
  · intro x1 y1 x0 y0 h w top
    have bounds := clampCrop_bounds hx hy hpw hph
    have height : aspectHeight (clampCrop c pw ph) cellW cellH = h := rfl
    have centred : centredTop (clampCrop c pw ph) h = top := by
      have lower : y0 ≤ y1 := by omega
      show (y0 : Int) + (((y1 - y0 : Nat) : Int) - h) / 2 = top
      rw [Nat.cast_sub lower]
    refine ⟨rfl, fun hh => adjustWindow_tall hh, fun hh => ⟨_, adjustWindow_fits hh, rfl, rfl, rfl, fun ht => ?_,
      fun ht hf => ?_, fun ht hf => ?_⟩⟩
    · dsimp only
      rw [height, centred, if_neg (by omega)]
      omega
    · dsimp only
      rw [height, centred, if_neg (by omega)]
    · dsimp only
      rw [height, centred, if_pos (by omega)]
  · simp only [resampled, blockSum_upTo, upTo_length, raster_at]
    rfl
  · exact (measure_plain hz).trans (congrArg (· / 16) (Finset.sum_congr rfl (fun i _ => zoneMean_eq lum w i)))
  · exact (measure_weighted hl hn).trans (congrArg (· / weights.sum)
      (Finset.sum_congr rfl (fun i _ => congrArg (weights.getD i 0 * ·) (zoneMean_eq lum w i))))
  · simp only [Raster.luminance, luminance, raster_at]
end

section
/-! PROOFS. The boundary (R57, R60, R68 to R70). -/

namespace Sys2Proof.Boundary

open Sys2Proof Sys2Proof.Machine Sys2Proof.Laws

/-! ## The waiting batches applied (R57, R60, R62) -/

theorem applyBatches_touches (bs : List Batch) (s : State) : bs.foldl State.applyBatch s =
    { s with roster := bs.foldl Roster.applyBatch s.roster, tiles := (bs.foldl State.applyBatch s).tiles,
             fetch := (bs.foldl State.applyBatch s).fetch } := by
  induction bs generalizing s with
  | nil => rfl
  | cons b bs ih => exact ih (s.applyBatch b)

/-- R57: a point of application changes the Roster Store, the Launch Queue, the tiles and the Fetch Unit alone. -/
theorem applyWaiting_touches (s : State) : s.applyWaiting =
    { s with roster := (s.launch.queue ++ s.launch.forced).foldl Roster.applyBatch s.roster, launch := ⟨[], []⟩,
             tiles := s.applyWaiting.tiles, fetch := s.applyWaiting.fetch } := by
  have touches := applyBatches_touches (s.launch.queue ++ s.launch.forced) s
  exact congrArg (fun t : State => t.setLaunch Launch.cleared) touches

theorem applied_with (s : State) (claims : Claims) (comp : Comp) (tiles : Tiles) (fetch : Fetch) :
    { s.applyWaiting with claims := claims, comp := comp, tiles := tiles, fetch := fetch } =
      { s with claims := claims, comp := comp, tiles := tiles, fetch := fetch, launch := ⟨[], []⟩,
               roster := (s.launch.queue ++ s.launch.forced).foldl Roster.applyBatch s.roster } := by
  rw [applyWaiting_touches]

/-- R60: what a state has handed off, another with its roster, tiles and prefetch records has. -/
theorem handedOff_of {u v : State} {batches : List Batch} (h : u.handedOff batches) (hr : v.roster = u.roster)
    (hm : ∀ page cell, u.unmarked page cell → v.unmarked page cell) : v.handedOff batches := by
  intro b hb a ha hk page cell hs
  rw [hr] at hs
  exact hm page cell (h b hb a ha hk page cell hs)

/-! ## The page-start condition (R68) -/

theorem pageStart_some {s : State} {w : WorkEntry} {before after : List WorkEntry} (hi : s.comp.state = .idle)
    (ha : s.ctl.state = .active) (hf : s.fault.phase ≠ .recovering) (hr : s.lane.sheetReady = true)
    (hl : s.lane.sheets.length < 4) (hw : s.claims.work = before ++ w :: after) (hq : w.phase = .queued)
    (hc : s.closing w.page = false) (hb : ∀ x ∈ before, x.phase ≠ .queued ∨ s.closing x.page = true) :
    s.pageStart = some w := by
  unfold State.pageStart
  rw [if_pos ⟨hi, ha, hf, hr, hl⟩, hw, List.find?_append, List.find?_eq_none.mpr, Option.none_or,
    List.find?_cons_of_pos (by simp [hq, hc])]
  intro x hx
  rcases hb x hx with h | h <;> simp [h]

theorem pageStart_none {s : State} (h : s.comp.state ≠ .idle ∨ s.ctl.state ≠ .active ∨ s.fault.phase = .recovering ∨
    s.lane.sheetReady = false ∨ 4 ≤ s.lane.sheets.length ∨
    (∀ x ∈ s.claims.work, x.phase ≠ .queued ∨ s.closing x.page = true)) : s.pageStart = none := by
  unfold State.pageStart
  split_ifs with hp
  · obtain ⟨hi, ha, hf, hr, hl⟩ := hp
    have sheets : s.lane.sheets.length < 4 := hl
    have bars : ∀ x ∈ s.claims.work, x.phase ≠ .queued ∨ s.closing x.page = true := by
      rcases h with h | h | h | h | h | h
      · exact absurd hi h
      · exact absurd ha h
      · exact absurd h hf
      · exact absurd hr (by simp [h])
      · omega
      · exact h
    refine List.find?_eq_none.mpr (fun x hx => ?_)
    rcases bars x hx with h | h <;> simp [h]
  · rfl

theorem exec_boundary (s : State) : exec .boundary s = .next s.boundaryStep := rfl

theorem boundaryStep_none {s : State} (h : s.pageStart = none) : s.boundaryStep = s := by
  rw [State.boundaryStep, h]

/-! ## The page entered (R69, R70) -/

theorem page?_number {ro : Roster} {n : Nat} {p : PageRec} (h : ro.page? n = some p) : p.number = n := by
  simpa using List.find?_some h

/-- R69: the records of the plan stand while batches are applied. -/
theorem applied_plan (s : State) : s.applyWaiting.roster.pages = s.roster.pages ∧
    s.applyWaiting.roster.templates = s.roster.templates ∧ s.applyWaiting.roster.sections = s.roster.sections := by
  rw [(applyWaiting_spec s).1]
  obtain ⟨pages, templates, sections, -⟩ := applyBatches_keep (s.launch.queue ++ s.launch.forced) s.roster
  exact ⟨pages, templates, sections⟩

theorem boundaryStep_enters {s : State} {w : WorkEntry} {p : PageRec} {t : Template} (hw : s.pageStart = some w)
    (hp : s.roster.page? w.page = some p) (ht : s.roster.templates[p.template]? = some t) :
    s.boundaryStep = s.applyWaiting.enterPage p t := by
  obtain ⟨pages, templates, -⟩ := applied_plan s
  have page : s.applyWaiting.roster.page? w.page = some p := by
    rw [Roster.page?, pages]
    exact hp
  rw [State.boundaryStep, hw]
  dsimp only
  rw [page]
  dsimp only
  rw [templates, ht]

/-- R69: the work list with the page's entry COMPOSING. -/
theorem composing_work {work before after : List WorkEntry} {w : WorkEntry} (hw : work = before ++ w :: after)
    (hn : ∀ x ∈ before ++ after, x.page ≠ w.page) (f : WorkEntry → WorkEntry) :
    work.map (fun e => if e.page = w.page then f e else e) = before ++ f w :: after := by
  have keep (l : List WorkEntry) (hl : ∀ x ∈ l, x.page ≠ w.page) :
      l.map (fun e => if e.page = w.page then f e else e) = l :=
    (List.map_congr_left (fun x hx => if_neg (hl x hx))).trans (List.map_id l)
  rw [hw, List.map_append, List.map_cons, if_pos rfl, keep before (fun x hx => hn x (by simp [hx])),
    keep after (fun x hx => hn x (by simp [hx]))]

/-- R69: the state with the page held, before its references are taken. -/
def entered (s : State) (p : PageRec) (t : Template) : State :=
  (s.modifyWork p.number (fun e =>
    { e with phase := .composing, edition := some s.roster.edition, notices := none })).setComp
    { s.comp with state := .boundary, held := some (s.heldFor p t),
                  learned := some (keepLearned s.comp.learned p.number s.roster.edition), tracker := .steady, cut := false }

/-- R69: the entry of the page taken. -/
def composing (edition : Nat) (w : WorkEntry) : WorkEntry :=
  { w with phase := .composing, edition := some edition, notices := none }

theorem entered_claims (s : State) (p : PageRec) (t : Template) : (entered s p t).claims = { s.claims with
    work := s.claims.work.map (fun e => if e.page = p.number then composing s.roster.edition e else e) } := rfl

theorem enterPage_eq (s : State) (p : PageRec) (t : Template) :
    s.enterPage p t = ((entered s p t).takeReferences t 0).trainOrOpen p.template t := rfl

/-- R69: the cell table of a page that has its template. -/
theorem cellTable_spec {s : State} {p : PageRec} {t : Template} (ht : s.roster.templates[p.template]? = some t) :
    (s.cellTable p t).length = t.columns * t.rows ∧
    ∀ i c, (s.cellTable p t)[i]? = some c → c.subject = s.roster.resolve p i ∧ c.last = t.cellTop i + t.cellH - 1 ∧
      c.cls = none ∧ c.answer = none ∧ c.place = none := by
  have count : s.roster.cellCount p = t.columns * t.rows := by
    rw [Roster.cellCount, ht]
    rfl
  refine ⟨by simp [State.cellTable, count], fun i c hc => ?_⟩
  rw [State.cellTable, List.getElem?_map, Option.map_eq_some_iff] at hc
  obtain ⟨j, hj, rfl⟩ := hc
  obtain ⟨_, rfl⟩ := List.getElem?_eq_some_iff.mp hj
  simp [Template.cellLast]

theorem keepLearned_same {l : Learned} {page edition : Nat} (hp : l.page = page) (he : l.edition = edition) :
    keepLearned (some l) page edition = l := if_pos ⟨hp, he⟩

theorem keepLearned_other {o : Option Learned} {page edition : Nat}
    (h : ∀ l, o = some l → l.page ≠ page ∨ l.edition ≠ edition) :
    keepLearned o page edition = { page := page, edition := edition, cells := [] } := by
  cases o with
  | none => rfl
  | some l =>
    refine if_neg (fun hn => ?_)
    rcases h l rfl with h | h
    · exact h hn.1
    · exact h hn.2

/-- R70: TRAIN packet 0 or PAGE_OPEN. -/
theorem trainOrOpen_spec {s : State} {x : Held} (ix : Nat) (t : Template) (hx : s.comp.held = some x) :
    s.trainOrOpen ix t = (s.setComp { s.comp with
        state := if s.lane.lastTemplate = some ix then .streaming else .training }).setLane { s.lane with
        inFlight := some (if s.lane.lastTemplate = some ix then x.openPacket else trainPacket ix t 0) } := by
  unfold State.trainOrOpen
  split_ifs
  · rw [State.handOpen, hx]
    rfl
  · rfl

end Sys2Proof.Boundary

open Sys2Proof Sys2Proof.Machine Sys2Proof.Laws Sys2Proof.Boundary

/-- Settles O43: BOUNDARY applies the waiting batches and takes the first page that may be composed. -/
theorem boundaryTakesTheFirstQueuedPage : Obligations.BoundaryTakesTheFirstQueuedPage := by
  refine fun s => ⟨fun w before after p t hi ha hf hr hl hw hq hc hb hn hp ht => ?_, fun h => ?_⟩
  · intro batches ro
    obtain ⟨roster, -, handed, -⟩ := applyWaiting_spec s
    have touches := applyWaiting_touches s
    obtain ⟨-, templates, sections⟩ := applied_plan s
    have number := page?_number hp
    let v := entered s.applyWaiting p t
    obtain ⟨y, held, same, taken, length, cells⟩ := takeReferences_spec v t 0 (s.applyWaiting.heldFor p t) rfl
    have unmarked := takeReferences_unmarked v t 0
    have step : s.boundaryStep = (v.takeReferences t 0).trainOrOpen p.template t :=
      (boundaryStep_enters (pageStart_some hi ha hf hr hl hw hq hc hb) hp ht).trans (enterPage_eq ..)
    generalize v.takeReferences t 0 = z at held taken unmarked step
    have edition : s.applyWaiting.roster.edition = ro.edition := by rw [roster]
    have lane : z.lane = s.lane := by
      rw [taken, show v.lane = s.applyWaiting.lane from rfl, touches]
    have stands : z = { s with
        claims := v.claims, comp := { v.comp with held := some y }, tiles := z.tiles, fetch := z.fetch,
        launch := ⟨[], []⟩, roster := ro } := taken.trans (applied_with s ..)
    have comp : z.comp = { v.comp with held := some y } := by rw [stands]
    have page : y.page = w.page := by rw [same]; exact number
    have claims : v.claims = { s.claims with work := before ++ composing ro.edition w :: after } := by
      rw [entered_claims, number, edition, touches]
      exact congrArg (fun work => { s.claims with work := work }) (composing_work hw hn _)
    have learned : z.comp.learned = some (keepLearned s.comp.learned w.page ro.edition) := by
      rw [comp, ← number, ← edition]
      show some (keepLearned s.applyWaiting.comp.learned _ _) = _
      rw [touches]
    obtain ⟨count, table⟩ := cellTable_spec (s := s.applyWaiting) (by rw [templates]; exact ht)
    rw [trainOrOpen_spec p.template t held, lane] at step
    let u := (z.setComp { z.comp with
        state := if s.lane.lastTemplate = some p.template then .streaming else .training }).setLane { s.lane with
        inFlight := some (if s.lane.lastTemplate = some p.template then y.openPacket else trainPacket p.template t 0) }
    refine ⟨u, y, congrArg _ step, by show z.comp.held = _; rw [comp], ?_, ?_, ?_, page, by rw [same]; rfl,
      by rw [same]; rfl, by rw [same]; rfl, by rw [same]; exact edition, by rw [same]; rfl, by rw [same]; rfl,
      by rw [same], by rw [same]; rfl, by rw [same]; rfl, by rw [same]; rfl, by rw [same]; rfl, by rw [same]; rfl,
      length.trans count, fun i c hc => ?_, fun l hl hlp hle => ?_, fun ho => ?_, ?_, ?_, fun hs => ?_, fun hs => ?_⟩
    · have whole : z = { s with
          comp := z.comp, claims := z.claims, tiles := z.tiles, fetch := z.fetch, roster := ro, launch := ⟨[], []⟩ } := by
        have kept : z.claims = v.claims := by rw [stands]
        rw [comp, kept]
        exact stands
      exact congrArg (fun a : State => { a with comp := u.comp, lane := u.lane }) whole
    · exact handedOff_of handed (by show z.roster = _; rw [stands, roster])
        (fun page cell hm => unmarked page cell hm)
    · show z.claims = _
      rw [stands, claims]
      rfl
    · have bound : i < (s.applyWaiting.heldFor p t).cells.length := length ▸ (List.getElem?_eq_some_iff.mp hc).1
      have first := List.getElem?_eq_getElem bound
      obtain ⟨subject, last, cls, answer, place⟩ := table i _ first
      rw [cells i _ first] at hc
      obtain rfl := Option.some.inj hc
      have shows : s.applyWaiting.roster.resolve p i = s.roster.resolve p i := resolve_congr sections p i
      rw [shows] at subject
      split_ifs
      · exact ⟨subject, last, cls, answer, place⟩
      · exact ⟨subject, last, cls, answer, place⟩
    · show z.comp.learned = _
      rw [learned, hl, keepLearned_same hlp hle]
    · show z.comp.learned = _
      rw [learned, keepLearned_other ho]
    · show z.comp.tracker = _
      rw [comp]
      rfl
    · show z.comp.cut = _
      rw [comp]
      rfl
    · refine ⟨if_pos hs, congrArg (fun k => { s.lane with inFlight := some k }) ?_⟩
      have used : y.edition = ro.edition := by rw [same]; exact edition
      have template : y.template = p.template := by rw [same]; rfl
      rw [if_pos hs, Held.openPacket, page, used, template]
    · exact ⟨if_neg hs, congrArg (fun k => { s.lane with inFlight := some k }) (if_neg hs)⟩
  · rw [exec_boundary, boundaryStep_none (pageStart_none h)]
end

section
/-! PROOFS. The page's end: the close and the cut (R57, R85 to R87, R162, R164, R167). -/

namespace Sys2Proof.PageEnd

open Sys2Proof Sys2Proof.Machine Sys2Proof.Laws Sys2Proof.Ending Sys2Proof.EngineFaults Sys2Proof.Boundary

/-! ## The normal close (R85) -/

theorem keepRefs_touches (s : State) (keep : Ref → Bool) :
    ∃ tiles fetch, s.keepRefs keep = (s.setTiles tiles).setFetch fetch := ⟨_, _, rfl⟩

theorem dropPrefetch_touches (s : State) (page : Nat) :
    ∃ tiles fetch, s.dropPrefetch page = (s.setTiles tiles).setFetch fetch := ⟨_, _, rfl⟩

theorem exec_pageCloseSent {s : State} {x : Held} {cut : Bool} {n : Nat} (hf : s.lane.inFlight = some (.pageClose cut n))
    (hx : s.comp.held = some x) : exec .pageCloseSent s = .next (s.closeSent (.pageClose cut n) x) := by
  show execPageCloseSent s = _
  rw [execPageCloseSent, hf, hx]

/-- R120: the sheet list with one more sheet. -/
def withSheet (l : Lane) (sh : Sheet) : Lane := { l with
  sheets := l.sheets ++ [sh], headTimer := if l.sheets = [] then some 30000 else l.headTimer }

theorem addSheet_eq (l : Lane) (sh : Sheet) : l.addSheet sh = withSheet l sh := by
  simp only [Lane.addSheet, withSheet, List.isEmpty_iff]

/-- R85: the page's entry IN_ENGINE with the pass's tallies. -/
def inEngine (x : Held) (e : WorkEntry) : WorkEntry :=
  if e.page = x.page ∧ e.phase = .composing then { e with phase := .inEngine, notices := some x.tallies } else e

/-- R85: the state with the page closed, before the waiting batches are applied. -/
def closed (s : State) (p : Packet) (x : Held) : State :=
  (((s.setLane { (withSheet (s.sentPacket p).lane ⟨x.page, x.edition, false⟩) with phase := .idle }).setClaims
    { s.claims with work := s.claims.work.map (inEngine x) }).dropPrefetch x.page).setComp s.comp.release

theorem closeSent_eq (s : State) (p : Packet) (x : Held) : s.closeSent p x = (closed s p x).applyWaiting := by
  have same : (fun e : WorkEntry => if e.page = x.page then
      (if e.phase = .composing then { e with phase := .inEngine, notices := some x.tallies } else e) else e) = inEngine x := by
    funext e
    unfold inEngine
    by_cases hp : e.page = x.page
    · by_cases hc : e.phase = .composing <;> simp [hp, hc]
    · simp [hp]
  simp only [State.closeSent, closed, addSheet_eq, State.modifyWork, same, dropPrefetch_frame, State.sentPacket,
    State.setLane, State.setClaims]

theorem closed_touches (s : State) (p : Packet) (x : Held) : closed s p x = { s with
    lane := { (withSheet (s.sentPacket p).lane ⟨x.page, x.edition, false⟩) with phase := .idle },
    claims := { s.claims with work := s.claims.work.map (inEngine x) }, comp := s.comp.release,
    tiles := (closed s p x).tiles, fetch := (closed s p x).fetch } := by
  unfold closed
  generalize (s.sentPacket p).lane = l
  obtain ⟨tiles, fetch, drops⟩ := dropPrefetch_touches
    ((s.setLane { (withSheet l ⟨x.page, x.edition, false⟩) with phase := .idle }).setClaims
      { s.claims with work := s.claims.work.map (inEngine x) }) x.page
  rw [drops]
  simp only [State.setComp, State.setFetch, State.setTiles, State.setClaims, State.setLane]

/-- R105: the page's prefetch record and references are gone. -/
theorem closed_unprefetched (s : State) (p : Packet) (x : Held) :
    (∀ r ∈ (closed s p x).fetch.prefetch, r.page ≠ x.page) ∧
    (∀ sl ∈ (closed s p x).tiles.slots, ∀ i, Ref.prefetch x.page i ∉ sl.refs) := by
  refine ⟨fun r hr => ?_, fun sl hsl i hm => ?_⟩
  · simpa using (List.mem_filter.mp hr).2
  · simpa using (mem_keepRefs hsl hm).1

/-! ## The cut (R86, R87) -/

theorem exec_cutCarriedOut {s : State} {x : Held} (hx : s.comp.held = some x) :
    exec .cutCarriedOut s = .next (if s.cutReady = true then s.carryOutCut x else s) := by
  show execCutCarriedOut s = _
  rw [execCutCarriedOut, hx]
  dsimp only
  split_ifs <;> rfl

/-- R86, R118: no packet is in flight, or TRAIN packet 0 has not gone. -/
theorem cutReady_iff (s : State) : s.cutReady = true ↔ s.comp.cut = true ∧
    (s.lane.inFlight = none ∨ ∃ ix g pattern, s.lane.inFlight = some (.train ix 0 g pattern)) := by
  unfold State.cutReady
  rw [Bool.and_eq_true]
  refine and_congr_right (fun _ => ?_)
  cases hf : s.lane.inFlight with
  | none => simp
  | some p => cases p <;> simp

/-- R86, R87: the lane after the cut close. -/
def cutLane (l : Lane) (x : Held) : Lane := { (withSheet l ⟨x.page, x.edition, true⟩) with
  phase := .idle, inFlight := none,
  sent := l.sent ++ (if x.opened then [] else [.pageOpen x.page x.edition x.template]) ++ [.pageClose true x.bandsSent] }

/-- R86, R87: the state with the page cut, before the waiting batches are applied. -/
def cutClosed (s : State) (x : Held) : State :=
  let u := (s.setLane (cutLane s.lane x)).keepRefs (fun r => !r.isComposing)
  ((u.setFetch { u.fetch with wants := [] }).setClaims { s.claims with work := requeueCut s.claims.work x.page }).setComp
    s.comp.release

theorem carryOutCut_eq (s : State) (x : Held) : s.carryOutCut x = (cutClosed s x).applyWaiting.cutSettled := by
  have lane : ({ (s.lane.addSheet { page := x.page, edition := x.edition, cut := true }) with
      phase := .idle, inFlight := none, sent := s.lane.sent ++ x.cutPackets } : Lane) = cutLane s.lane x := by
    rw [addSheet_eq, Held.cutPackets, ← List.append_assoc]
    rfl
  simp only [State.carryOutCut, lane, cutClosed, State.setFetch, State.setClaims, keepRefs_frame, State.setLane]

theorem cutClosed_touches (s : State) (x : Held) : cutClosed s x = { s with
    lane := cutLane s.lane x, claims := { s.claims with work := requeueCut s.claims.work x.page },
    comp := s.comp.release, tiles := (cutClosed s x).tiles, fetch := (cutClosed s x).fetch } := by
  unfold cutClosed
  generalize cutLane s.lane x = l
  obtain ⟨tiles, fetch, drops⟩ := keepRefs_touches (s.setLane l) (fun r => !r.isComposing)
  rw [drops]
  simp only [State.setComp, State.setFetch, State.setTiles, State.setClaims, State.setLane]

theorem cutClosed_unreferenced (s : State) (x : Held) :
    ∀ sl ∈ (cutClosed s x).tiles.slots, ∀ i, Ref.composing i ∉ sl.refs := by
  intro sl hsl i hm
  simpa [Ref.isComposing] using (mem_keepRefs hsl hm).1

/-- R87: the cut page's entry is QUEUED at the head. -/
theorem requeueCut_listed {work before after : List WorkEntry} {e : WorkEntry} {page : Nat} (hw : work = before ++ e :: after)
    (he : e.page = page) (hn : ∀ y ∈ before ++ after, y.page ≠ page) : requeueCut work page =
      { e with phase := .queued, edition := none, notices := none } :: (before ++ after) := by
  have none (l : List WorkEntry) (hl : ∀ y ∈ l, y.page ≠ page) : l.filter (fun y => decide (y.page = page)) = [] :=
    List.filter_eq_nil_iff.mpr (fun y hy => by simpa using hl y hy)
  have all (l : List WorkEntry) (hl : ∀ y ∈ l, y.page ≠ page) : l.filter (fun y => decide (y.page ≠ page)) = l :=
    List.filter_eq_self.mpr (fun y hy => by simpa using hl y hy)
  have hb : ∀ y ∈ before, y.page ≠ page := fun y hy => hn y (by simp [hy])
  have ha : ∀ y ∈ after, y.page ≠ page := fun y hy => hn y (by simp [hy])
  rw [requeueCut, hw, List.filter_append, List.filter_append, none before hb, all before hb, List.filter_cons_of_pos (by simp [he]),
    List.filter_cons_of_neg (by simp [he]), none after ha, all after ha]
  rfl

theorem requeueCut_unlisted {work : List WorkEntry} {page : Nat} (hn : ∀ y ∈ work, y.page ≠ page) :
    requeueCut work page = work := by
  rw [requeueCut, List.filter_eq_nil_iff.mpr (fun y hy => by simpa using hn y hy),
    List.filter_eq_self.mpr (fun y hy => by simpa using hn y hy)]
  rfl

/-! ## The cut in a recovery (R162, R164, R167) -/

/-- R164: the cut's local step complete, and the flush made that waited for it. -/
def cutDone (s : State) : State :=
  if s.fault.flushStep = true then (s.setLane (flushed s.lane)).setFault
    { s.fault with cutStep := false, flushStep := false, lost := s.lane.sheets.length }
  else s.setFault { s.fault with cutStep := false }

theorem cutSettled_eq (s : State) : s.cutSettled = (cutDone s).tryEnd := by
  cases hf : s.fault.flushStep with
  | true => simp only [State.cutSettled, cutDone, setFault_fault, hf, if_true, flushSheets_eq]; rfl
  | false => simp only [State.cutSettled, cutDone, setFault_fault, hf, Bool.false_eq_true, if_false]

theorem cutDone_touches (s : State) :
    cutDone s = { s with lane := (cutDone s).lane, fault := (cutDone s).fault } := by
  unfold cutDone
  split_ifs <;> rfl

theorem cutDone_fault (s : State) : (cutDone s).fault =
    { s.fault with cutStep := false, flushStep := false,
                   lost := if s.fault.flushStep = true then s.lane.sheets.length else s.fault.lost } := by
  unfold cutDone
  split_ifs with hf
  · rfl
  · have stays : s.fault.flushStep = false := by simpa using hf
    show { s.fault with cutStep := false } = _
    rw [← stays]

theorem cutDone_lane (s : State) :
    (cutDone s).lane = if s.fault.flushStep = true then flushed s.lane else s.lane := by
  unfold cutDone
  split_ifs <;> rfl


theorem cutDone_stays {s : State} (h : s.fault.flushStep = false) : cutDone s = s.setFault { s.fault with cutStep := false } :=
  if_neg (by simp [h])

/-! ## What the end of a recovery leaves (R162) -/

theorem claimOutcome_length (s : State) (sh : Sheet) (o : EngineOutcome) :
    (s.claimOutcome sh o).link.outbound.length ≤ s.link.outbound.length + 1 := by
  unfold State.claimOutcome
  split_ifs
  · omega
  · split
    · split
      · simp
      · split_ifs <;> simp
      · split_ifs <;> simp
    · exact emit_length _ _

theorem replayed_length (s : State) :
    (replayed s).link.outbound.length ≤ s.link.outbound.length + s.fault.deferred.length := by
  have all (l : List (Sheet × EngineOutcome)) (u : State) :
      (l.foldl (fun st d => State.claimOutcome st d.1 d.2) u).link.outbound.length ≤ u.link.outbound.length + l.length := by
    induction l generalizing u with
    | nil => exact Nat.le_refl _
    | cons d l ih =>
      have first := claimOutcome_length u d.1 d.2
      have rest := ih (u.claimOutcome d.1 d.2)
      rw [List.foldl_cons, List.length_cons]
      omega
  exact all s.fault.deferred (ended s)

/-- R105: an outcome adds no mark: a new prefetch record has none. -/
theorem claimOutcome_unmarked {s : State} {page cell : Nat} (sh : Sheet) (o : EngineOutcome) (h : s.unmarked page cell) :
    (s.claimOutcome sh o).unmarked page cell := by
  refine unmarked_of s _ page cell h (fun sl hsl hm => ⟨sl, by simpa using hsl, hm⟩) (fun x hx => ?_)
  have records : (s.claimOutcome sh o).fetch.prefetch = s.fetch.prefetch ∨
      ∃ p, (s.claimOutcome sh o).fetch.prefetch = s.fetch.prefetch ++ [⟨p, []⟩] := by
    unfold State.claimOutcome
    split_ifs
    · exact .inl rfl
    · split
      · split
        · exact .inl (by simp)
        · split_ifs
          · exact .inr ⟨_, rfl⟩
          · exact .inl (by simp)
        · split_ifs
          · exact .inr ⟨_, rfl⟩
          · exact .inl (by simp)
      · exact .inl (by rw [State.reportPage, emit_link]; rfl)
  rcases records with hr | ⟨p, hr⟩
  · exact .inl (hr ▸ hx)
  · rw [hr, List.mem_append, List.mem_singleton] at hx
    rcases hx with hx | rfl
    · exact .inl hx
    · exact .inr rfl

theorem tryEnd_unmarked {s : State} {page cell : Nat} (h : s.unmarked page cell) : s.tryEnd.unmarked page cell := by
  have all (l : List (Sheet × EngineOutcome)) (u : State) (hu : u.unmarked page cell) :
      (l.foldl (fun st d => State.claimOutcome st d.1 d.2) u).unmarked page cell := by
    induction l generalizing u with
    | nil => exact hu
    | cons d l ih => exact ih _ (claimOutcome_unmarked d.1 d.2 hu)
  by_cases he : s.fault.phase = .recovering ∧ s.fault.settled = true
  · have ends : s.tryEnd = (replayed s).sendFaultReport 0 := if_pos he
    obtain ⟨link, fault, sent⟩ := sendFaultReport_touches (replayed s) 0
    rw [ends, sent]
    exact all s.fault.deferred (ended s) h
  · have stands : s.tryEnd = s := if_neg he
    rwa [stands]

/-! ## The waiting batches applied at the page's end (R57, R60) -/

theorem applied_after {s v : State} {lane : Lane} {claims : Claims} {comp : Comp} (h : v = { s with
    lane := lane, claims := claims, comp := comp, tiles := v.tiles, fetch := v.fetch }) :
    v.applyWaiting = { s with
      lane := lane, claims := claims, comp := comp, tiles := v.applyWaiting.tiles, fetch := v.applyWaiting.fetch,
      roster := (s.launch.queue ++ s.launch.forced).foldl Roster.applyBatch s.roster, launch := ⟨[], []⟩ } ∧
    v.applyWaiting.handedOff (s.launch.queue ++ s.launch.forced) := by
  obtain ⟨tiles, fetch, rfl⟩ : ∃ tiles fetch, v = { s with
      lane := lane, claims := claims, comp := comp, tiles := tiles, fetch := fetch } := ⟨_, _, h⟩
  exact ⟨applyWaiting_touches _, (applyWaiting_spec _).2.2.1⟩

/-- R86, R87: the state with the page cut and the batches applied, its fault steps still to be settled. -/
def cutApplied (s : State) (x : Held) : State := (cutClosed s x).applyWaiting

theorem cutApplied_spec (s : State) (x : Held) :
    cutApplied s x = { s with
      lane := cutLane s.lane x, claims := { s.claims with work := requeueCut s.claims.work x.page },
      comp := s.comp.release, tiles := (cutApplied s x).tiles, fetch := (cutApplied s x).fetch,
      roster := (s.launch.queue ++ s.launch.forced).foldl Roster.applyBatch s.roster, launch := ⟨[], []⟩ } ∧
    (cutApplied s x).handedOff (s.launch.queue ++ s.launch.forced) ∧ (cutApplied s x).fetch.wants = [] ∧
    ∀ sl ∈ (cutApplied s x).tiles.slots, ∀ i, Ref.composing i ∉ sl.refs := by
  obtain ⟨applied, handed⟩ := applied_after (cutClosed_touches s x)
  refine ⟨applied, handed, ?_, fun sl hsl i hm => ?_⟩
  · exact (applyWaiting_fetch_fields (cutClosed s x)).2.2.2.2
  · obtain ⟨sl', hsl', hm'⟩ := (applyWaiting_refs (cutClosed s x)).1 sl hsl _ hm
    exact cutClosed_unreferenced s x sl' hsl' i hm'

theorem exec_cut {s : State} {x : Held} (hx : s.comp.held = some x) (hc : s.comp.cut = true)
    (hl : s.lane.inFlight = none ∨ ∃ ix g pattern, s.lane.inFlight = some (.train ix 0 g pattern)) :
    exec .cutCarriedOut s = .next (cutDone (cutApplied s x)).tryEnd := by
  rw [exec_cutCarriedOut hx, if_pos ((cutReady_iff s).mpr ⟨hc, hl⟩), carryOutCut_eq, cutSettled_eq]
  rfl

end Sys2Proof.PageEnd

open Sys2Proof Sys2Proof.Machine Sys2Proof.Laws Sys2Proof.Ending Sys2Proof.EngineFaults Sys2Proof.Boundary Sys2Proof.PageEnd

/-- Settles O49: the close and the cut end the page, and the waiting batches are applied. -/
theorem pageCloseAndCutEndThePage : Obligations.PageCloseAndCutEndThePage := by
  refine ⟨fun s x n hf hx => ?_, fun s x hx hc hl hp hfl => ?_, fun s x w hx hc hl hp hr => ?_, fun s h => ?_⟩
  · intro batches
    have step := (exec_pageCloseSent hf hx).trans (congrArg _ (closeSent_eq s (.pageClose false n) x))
    obtain ⟨unrecorded, unreferenced⟩ := closed_unprefetched s (.pageClose false n) x
    obtain ⟨refs, records⟩ := applyWaiting_refs (closed s (.pageClose false n) x)
    obtain ⟨applied, handed⟩ := applied_after (closed_touches s (.pageClose false n) x)
    generalize (closed s (.pageClose false n) x).applyWaiting = u at step applied handed refs records
    have lane : u.lane = { (withSheet (s.sentPacket (.pageClose false n)).lane ⟨x.page, x.edition, false⟩) with
        phase := .idle } := by rw [applied]
    have comp : u.comp = s.comp.release := by rw [applied]
    have claims : u.claims = { s.claims with work := s.claims.work.map (inEngine x) } := by rw [applied]
    refine ⟨u, step, ?_, handed, lane, comp, claims, fun r hr => ?_, fun sl hsl i hm => ?_⟩
    · rw [lane, comp, claims]
      exact applied
    · obtain ⟨y, hy, page⟩ := records r hr
      exact page ▸ unrecorded y hy
    · obtain ⟨sl', hsl', hm'⟩ := refs sl hsl _ hm
      exact unreferenced sl' hsl' i hm'
  · intro batches
    have step := exec_cut hx hc hl
    obtain ⟨applied, handed, wants, refs⟩ := cutApplied_spec s x
    generalize cutApplied s x = v at step applied handed wants refs
    have fault : v.fault = s.fault := by rw [applied]
    have claims : v.claims = { s.claims with work := requeueCut s.claims.work x.page } := by rw [applied]
    have stands : (cutDone v).tryEnd = v.setFault { v.fault with cutStep := false } := by
      rw [cutDone_stays (by rw [fault]; exact hfl)]
      exact Closing.tryEnd_idle (by rw [setFault_fault, fault]; exact hp)
    refine ⟨_, step.trans (congrArg _ stands), ?_, ?_, wants, refs, fun e before after hw he hn => ?_, fun hn => ?_, ?_, ?_,
      handed, ?_, ?_, ?_, ?_⟩
    · show v.comp = _
      rw [applied]
      rfl
    · show v.lane = _
      rw [applied]
      rfl
    · show v.claims.work = _
      rw [claims, requeueCut_listed hw he hn]
    · show v.claims.work = _
      rw [claims, requeueCut_unlisted hn]
    · show v.roster = _
      rw [applied]
    · show v.launch = _
      rw [applied]
    · show v.board = _
      rw [applied]
    · show v.port = _
      rw [applied]
    · show v.ctl = _
      rw [applied]
    · show v.link = _
      rw [applied]
  · intro batches sheets
    have step := exec_cut hx hc hl
    obtain ⟨applied, handed, -, -⟩ := cutApplied_spec s x
    generalize cutApplied s x = v at step applied handed
    have vfault : v.fault = s.fault := by rw [applied]
    have vlane : v.lane = cutLane s.lane x := by rw [applied]
    have fault := cutDone_fault v
    have lane := cutDone_lane v
    have touches := cutDone_touches v
    rw [vfault, vlane] at fault lane
    generalize cutDone v = d at step touches fault lane
    have handed : d.handedOff batches := handedOff_of handed (by rw [touches]) (fun page cell hm => by
      rw [touches]
      exact hm)
    have comp : d.comp = s.comp.release := by rw [touches, applied]
    have roster : d.roster = batches.foldl Roster.applyBatch s.roster := by rw [touches, applied]
    have launch : d.launch = ⟨[], []⟩ := by rw [touches, applied]
    have board : d.board = s.board := by rw [touches, applied]
    have ctl : d.ctl = s.ctl := by rw [touches, applied]
    have straps : d.straps = s.straps := by rw [touches, applied]
    have link : d.link = s.link := by rw [touches, applied]
    have port : d.port = s.port := by rw [touches, applied]
    have phase : d.fault.phase = .recovering := by rw [fault]; exact hp
    have record : d.fault.record = some w := by rw [fault]; exact hr
    refine ⟨_, step, by simp [comp, Comp.release], ?_, ?_, by simp [record], by simp [fault], by simp [fault],
      by simp [fault], by simp [fault], by simp [roster], by simp [launch],
      handedOff_of handed (by simp) (fun page cell hm => tryEnd_unmarked hm), by simp [board], by simp [ctl],
      fun hf => ?_, fun hf => ?_, fun ho => ?_, fun ha hh => ?_⟩
    · simp only [tryEnd_frame, lane]
      split_ifs <;> rfl
    · simp only [tryEnd_frame, lane]
      split_ifs <;> rfl
    · simp only [tryEnd_frame, tryEnd_fault_fields, lane, fault, hf, Bool.false_eq_true, if_false]
      exact ⟨rfl, rfl, rfl, trivial⟩
    · simp only [tryEnd_frame, tryEnd_fault_fields, lane, fault, hf, if_true]
      exact ⟨rfl, rfl, rfl, rfl, rfl, rfl, rfl⟩
    · have open_ : d.tryEnd = d := by
        refine tryEnd_stands _ (.inr ⟨phase, Bool.eq_false_iff.mpr (fun hs => ?_)⟩)
        obtain ⟨awaited, -, -, halt⟩ := (settled_iff _).mp hs
        rw [fault] at awaited halt
        rcases ho with h | h
        · exact h awaited
        · exact absurd halt (by simp [h])
      rw [open_]
      exact ⟨phase, by rw [fault], link, port⟩
    · have ends := tryEnd_ends phase ((settled_iff _).mpr (by rw [fault]; exact ⟨ha, rfl, rfl, hh⟩)) record
      have length := replayed_length d
      have deferred : d.fault.deferred = s.fault.deferred := by rw [fault]
      rw [link, deferred] at length
      rw [ends]
      refine ⟨by simp, by simp, by simp, by simp, fun hl => ⟨(replayed d).link.outbound, endReport d w, ?_, rfl, ?_, ?_, ?_, rfl⟩⟩
      · simp only [setFault_link, setLink_link]
        rw [handed_outbound _ (by omega), straps]
      · simp [endReport, ctl]
      · simp [endReport, fault]
      · simp [endReport]
  · cases hx : s.comp.held with
    | none =>
      show execCutCarriedOut s = _
      rw [execCutCarriedOut, hx]
    | some x =>
      rw [exec_cutCarriedOut hx, if_neg]
      intro ready
      obtain ⟨cut, free⟩ := (cutReady_iff s).mp ready
      rcases h with h | h | ⟨p, hp, hn⟩
      · simp [hx] at h
      · simp [cut] at h
      · rcases free with hf | ⟨ix, g, pattern, hf⟩
        · simp [hf] at hp
        · exact hn ix g pattern (Option.some.inj (hp.symm.trans hf))
end

section
/-! PROOFS. The Launch Queue and the batches applied (R10, R57 to R62, R113). -/

namespace Sys2Proof.LaunchQueue

open Sys2Proof Sys2Proof.Machine Sys2Proof.Laws Sys2Proof.Hearing Sys2Proof.Leases Sys2Proof.Store Sys2Proof.Launching
  Sys2Proof.Boundary

/-! ## A batch handed over (R57, R58, R61, R62) -/

/-- R58: the batch fits the queue. -/
def Fits (l : Launch) (b : Batch) : Prop :=
  l.queue.length < 4 ∧ b.records.length + (l.queue.map (fun q => q.records.length)).sum ≤ 64

theorem fits_iff (l : Launch) (b : Batch) : l.fits b = true ↔ Fits l b := by simp [Launch.fits, Fits, Config.launchCap, Config.launchRecords]

theorem enqueueBatch_applied {s : State} {b : Batch} (hh : s.comp.held = none) (hf : s.launch.forced = []) :
    s.enqueueBatch b = (s.setLaunch { s.launch with queue := s.launch.queue ++ [b] }).applyWaiting := by
  simp [State.enqueueBatch, hf, State.holdsPage, hh]

theorem enqueueBatch_behind {s : State} {b : Batch} (hf : s.launch.forced ≠ []) :
    s.enqueueBatch b = s.setLaunch { s.launch with forced := s.launch.forced ++ [b] } := by
  simp [State.enqueueBatch, hf]

theorem enqueueBatch_waits {s : State} {b : Batch} {x : Held} (hh : s.comp.held = some x) (hf : s.launch.forced = [])
    (hq : Fits s.launch b) : s.enqueueBatch b =
      (s.setLaunch ⟨s.launch.queue ++ [b], []⟩).setComp (if s.cuttable = true ∧ s.roster.touchedBy b.records x.page = true
        then { s.comp with cut := true } else s.comp) := by
  have queued : s.enqueueBatch b =
      if (s.setLaunch ⟨s.launch.queue ++ [b], []⟩).touchesHeld b = true
      then (s.setLaunch ⟨s.launch.queue ++ [b], []⟩).requestCut else s.setLaunch ⟨s.launch.queue ++ [b], []⟩ := by
    simp [State.enqueueBatch, hf, State.holdsPage, hh, (fits_iff _ _).mpr hq]
  have touches : (s.setLaunch ⟨s.launch.queue ++ [b], []⟩).touchesHeld b = s.roster.touchedBy b.records x.page := by
    simp [State.touchesHeld, hh]
  have cuts : (s.setLaunch ⟨s.launch.queue ++ [b], []⟩).cuttable = s.cuttable := rfl
  rw [queued, touches, State.requestCut, cuts]
  by_cases ht : s.roster.touchedBy b.records x.page = true
  · by_cases hc : s.cuttable = true
    · rw [if_pos ht, if_pos hc, if_pos ⟨hc, ht⟩]
      rfl
    · rw [if_pos ht, if_neg hc, if_neg (fun h => hc h.1)]
      rfl
  · rw [if_neg ht, if_neg (fun h => ht h.2)]
    rfl

theorem enqueueBatch_forces {s : State} {b : Batch} {x : Held} (hh : s.comp.held = some x) (hf : s.launch.forced = [])
    (hq : ¬ Fits s.launch b) : s.enqueueBatch b =
      (s.setLaunch ⟨s.launch.queue, [b]⟩).setComp (if s.cuttable = true then { s.comp with cut := true } else s.comp) := by
  have forced : s.enqueueBatch b = (s.setLaunch ⟨s.launch.queue, [b]⟩).requestCut := by
    simp [State.enqueueBatch, hf, State.holdsPage, hh, mt (fits_iff _ _).mp hq]
  have cuts : (s.setLaunch ⟨s.launch.queue, [b]⟩).cuttable = s.cuttable := rfl
  rw [forced, State.requestCut, cuts]
  split_ifs <;> rfl

/-- R57: while a page is held nothing is applied. -/
theorem enqueueBatch_holding {s : State} {x : Held} (b : Batch) (hh : s.comp.held = some x) :
    (s.enqueueBatch b).roster = s.roster ∧ (s.enqueueBatch b).tiles = s.tiles ∧ (s.enqueueBatch b).fetch = s.fetch := by
  by_cases hf : s.launch.forced = []
  · by_cases hq : Fits s.launch b
    · rw [enqueueBatch_waits hh hf hq]
      exact ⟨rfl, rfl, rfl⟩
    · rw [enqueueBatch_forces hh hf hq]
      exact ⟨rfl, rfl, rfl⟩
  · rw [enqueueBatch_behind hf]
    exact ⟨rfl, rfl, rfl⟩

/-- R54, R57: a taken LAUNCH as the batch handed over to a station that is as before but for the board. -/
theorem exec_launch_taken {s : State} {h : FrameHdr} {b : Nat} {r : Replica} (hs : s.hears) (hr : s.board.replica = some r)
    (hb : b < 4) (hn : batchOf s.pool b ≠ []) (hl : s.board.lastLaunched ≠ 65535) :
    ∃ v t : State, exec (.launch h b) s = .next t ∧ t = (v.enqueueBatch (launched s b)).afterFrame ∧ v.roster = s.roster ∧
      v.launch = s.launch ∧ v.comp = s.comp ∧ v.tiles = s.tiles ∧ v.fetch = s.fetch ∧ v.lane = s.lane := by
  have taken : launchFault s b = none := by simp [launchFault, Nat.not_le.mpr hb, hn, hl]
  have hexec := (exec_launch h b s).trans (congrArg _ (applyFrame_hears hs h _ _))
  let u := heard s h (.launch b)
  have framed : u.launchFrame h b = (raised u h b).reviewComplete.enqueueBatch (launched u b) := launchFrame_taken hr taken
  rw [framed] at hexec
  refine ⟨(raised u h b).reviewComplete, _, hexec, rfl, ?_, ?_, ?_, ?_, ?_, ?_⟩ <;>
    simp only [reviewComplete_frame, raised, relayApplied_frame, launchBoard_frame] <;> rfl

/-! ## The hand-off (R60, R101, R113) -/

theorem mem_retaken_iff (b : Batch) (j : Nat) :
    j ∈ b.retaken ↔ ∃ a ∈ b.records, a.subject = j ∧ a.payload.kind = 0 := by
  have retakes (p : Payload) : p.isRetake = true ↔ p.kind = 0 := by cases p <;> simp [Payload.isRetake, Payload.kind]
  simp only [Batch.retaken, List.mem_map, List.mem_filter, retakes]
  constructor
  · rintro ⟨a, ⟨ha, hk⟩, hj⟩
    exact ⟨a, ha, hj, hk⟩
  · rintro ⟨a, ha, hj, hk⟩
    exact ⟨a, ⟨ha, hk⟩, hj⟩

theorem showsOneOf_iff (ro : Roster) (subjects : List Nat) (p i : Nat) :
    ro.showsOneOf subjects p i = true ↔ ∃ j, ro.subjectAt p i = some j ∧ j ∈ subjects := by
  unfold Roster.showsOneOf
  cases ro.subjectAt p i with
  | none => simp
  | some j => simp

/-- R101: a slot of which the references stay that pass. -/
def kept (keep : Ref → Bool) (sl : Slot) : Slot := (sl.keepRefs keep).settle

theorem kept_refs (keep : Ref → Bool) (sl : Slot) : (kept keep sl).refs = sl.refs.filter keep := by
  rw [kept, settle_refs]
  cases sl <;> rfl

theorem kept_free {keep : Ref → Bool} {sl : Slot} (hr : (kept keep sl).refs = []) (hy : sl.isReady = true) :
    kept keep sl = .free := by
  cases sl with
  | free => rfl
  | filling p rs => cases hy
  | ready p w h rs =>
    rw [kept_refs] at hr
    have none : rs.filter keep = [] := hr
    simp [kept, Slot.keepRefs, none, Slot.settle]

theorem kept_filling (keep : Ref → Bool) (p : Id32) (rs : List Ref) :
    kept keep (.filling p rs) = .filling p (kept keep (.filling p rs)).refs := rfl

theorem keepRefs_slots (s : State) (keep : Ref → Bool) :
    (s.keepRefs keep).tiles.slots = s.tiles.slots.map (kept keep) := by
  show (s.tiles.slots.map (Slot.keepRefs keep)).map Slot.settle = _
  rw [List.map_map]
  rfl

theorem keepRefs_list (s : State) (keep : Ref → Bool) :
    (s.keepRefs keep).fetch.list = s.fetch.list.map (FetchEntry.restale (s.keepRefs keep).tiles.slots) := rfl

/-- R60: which references a hand-off leaves. -/
def keeps (ro : Roster) (subjects : List Nat) : Ref → Bool
  | .prefetch p c => !ro.showsOneOf subjects p c
  | .composing _ => true

theorem keeps_iff (ro : Roster) (subjects : List Nat) (r : Ref) :
    keeps ro subjects r = true ↔ ∀ p i, r = .prefetch p i → ¬ ro.showsOneOf subjects p i = true := by
  cases r with
  | composing i => simp [keeps]
  | prefetch p i => simp [keeps]

/-- R113: a prefetch record without the SETTLED marks of the cells that show a retaken subject. -/
def unmark (ro : Roster) (subjects : List Nat) (r : Prefetch) : Prefetch :=
  { r with settled := r.settled.filter (fun c => !ro.showsOneOf subjects r.page c) }

theorem handOff_eq (s : State) (subjects : List Nat) : s.handOff subjects =
    (s.keepRefs (keeps s.roster subjects)).setFetch { (s.keepRefs (keeps s.roster subjects)).fetch with
      prefetch := s.fetch.prefetch.map (unmark s.roster subjects) } := by
  have same : (fun r : Ref => match r with
      | .prefetch p c => !s.roster.showsOneOf subjects p c
      | .composing _ => true) = keeps s.roster subjects := by
    funext r
    cases r <;> rfl
  rw [State.handOff]
  exact congrArg (fun keep => (s.keepRefs keep).setFetch { (s.keepRefs keep).fetch with
    prefetch := s.fetch.prefetch.map (unmark s.roster subjects) }) same

/-! ## The records and the pages (R10, R59) -/

theorem applyRecord_subject {ro : Roster} {a : Amendment} {j : Subject} (h : ro.subjects[a.subject]? = some j) :
    (ro.applyRecord a).subjects[a.subject]? = some (Subject.amend j a.payload) := by
  simp [Roster.applyRecord, h]

theorem applyRecord_other (ro : Roster) (a : Amendment) {n : Nat} (h : n ≠ a.subject) :
    (ro.applyRecord a).subjects[n]? = ro.subjects[n]? := List.getElem?_modify_ne _ _ (Ne.symm h)

theorem touchedBy_iff (ro : Roster) (records : List Amendment) (page : Nat) : ro.touchedBy records page = true ↔
    ∃ p a, ro.page? page = some p ∧ a ∈ records ∧ ro.touches p a.subject = true := by
  unfold Roster.touchedBy
  cases ro.page? page with
  | none => simp
  | some p => simp

/-- R10: the cells of a page and the subjects they show. -/
theorem touches_iff {ro : Roster} {p : PageRec} {x : Section} {t : Template} (hx : ro.sections[p.sectionIx]? = some x)
    (ht : ro.templates[p.template]? = some t) (j : Nat) : ro.touches p j = true ↔
      ∃ i, i < t.columns * t.rows ∧ p.position i < x.count ∧ x.first + p.position i = j := by
  have count : ro.cellCount p = t.columns * t.rows := by
    rw [Roster.cellCount, ht]
    rfl
  simp only [Roster.touches, List.any_eq_true, List.mem_range, count, decide_eq_true_eq, Roster.resolve, hx,
    Option.ite_none_right_eq_some, Option.some.injEq]

/-- R60, R113: what the hand-off of one batch leaves of the prefetch records, the slots and the fetch list; `gone` are the
cells that show a retaken subject. -/
theorem handOff_spec {s : State} {subjects : List Nat} {gone : Nat → Nat → Prop}
    (hg : ∀ p i, s.roster.showsOneOf subjects p i = true ↔ gone p i) :
    let t := s.handOff subjects
    t.fetch.prefetch.length = s.fetch.prefetch.length ∧
    (∀ (k : Nat) x, s.fetch.prefetch[k]? = some x → ∃ y, t.fetch.prefetch[k]? = some y ∧ y.page = x.page ∧
      ∀ i, i ∈ y.settled ↔ i ∈ x.settled ∧ ¬ gone x.page i) ∧
    (∀ (n : Nat) sl, s.tiles.slots[n]? = some sl → ∃ sl', t.tiles.slots[n]? = some sl' ∧
      (∀ ref, ref ∈ sl'.refs ↔ ref ∈ sl.refs ∧ ∀ p i, ref = .prefetch p i → ¬ gone p i) ∧
      (sl'.refs = [] → sl.isReady = true → sl' = .free) ∧
      (∀ p refs, sl = .filling p refs → sl' = .filling p sl'.refs)) ∧
    (∀ (k : Nat) e, s.fetch.list[k]? = some e → ∃ e', t.fetch.list[k]? = some e' ∧ e'.tag = e.tag ∧ e'.slot = e.slot ∧
      ∀ sl', t.tiles.slots[e.slot]? = some sl' → (e'.stale = true ↔ sl'.refs = [])) := by
  rw [handOff_eq]
  refine ⟨by simp, fun k x hk => ⟨unmark s.roster subjects x, by simp [hk], rfl, fun i => ?_⟩, fun n sl hn => ⟨kept (keeps s.roster subjects) sl, ?_,
    fun ref => ?_, kept_free, ?_⟩, fun k e hk => ⟨e.restale (s.keepRefs (keeps s.roster subjects)).tiles.slots, ?_, rfl, rfl,
    fun sl' hsl' => ?_⟩⟩
  · rw [← hg, unmark, List.mem_filter]
    simp
  · show (s.keepRefs _).tiles.slots[n]? = _
    rw [keepRefs_slots, List.getElem?_map, hn]
    rfl
  · rw [kept_refs, List.mem_filter, keeps_iff]
    simp only [hg]
  · rintro p refs rfl
    exact kept_filling _ p refs
  · show (s.keepRefs _).fetch.list[k]? = _
    rw [keepRefs_list, List.getElem?_map, hk]
    rfl
  · have slot : (s.keepRefs (keeps s.roster subjects)).tiles.slots[e.slot]? = some sl' := hsl'
    rw [FetchEntry.restale, slot]
    exact List.isEmpty_iff

end Sys2Proof.LaunchQueue

open Sys2Proof Sys2Proof.Machine Sys2Proof.Laws Sys2Proof.Launching Sys2Proof.Boundary Sys2Proof.LaunchQueue

/-- Settles O42: a launched batch waits while a page is held and is applied and handed off where none is. -/
theorem launchedBatchWaitsOrIsApplied : Obligations.LaunchedBatchWaitsOrIsApplied := by
  refine ⟨⟨fun s h b r hs hr hb hn hl => ?_, fun _ _ => rfl⟩, fun s h b r hs hr hb hn hl hh hq => ?_,
    fun ro a j hj => ⟨fun n hne => applyRecord_other ro a hne, fun pid c q hp => ?_, fun l1 l2 hp => ?_, fun hp => ?_,
      fun hp => ?_, rfl⟩,
    touchedBy_iff, fun ro page p hp => ⟨List.mem_of_find?_eq_some hp, page?_number hp⟩, fun ro p x t j hx ht => ⟨fun hk => ?_,
      fun hk hc => ?_⟩⟩
  · intro new fits
    obtain ⟨v, t, hexec, ht, roster, launch, comp, tiles, fetch, lane⟩ := exec_launch_taken (h := h) hs hr hb hn hl
    refine ⟨t, hexec, fun hh hf => ?_, fun x hx => ?_⟩
    · have applied := enqueueBatch_applied (b := launched s b) ((congrArg Comp.held comp).trans hh) ((congrArg Launch.forced launch).trans hf)
      obtain ⟨applies, empties, -⟩ := applyWaiting_spec
        (v.setLaunch { v.launch with queue := v.launch.queue ++ [launched s b] })
      rw [← applied] at applies empties
      simp only [ht, afterFrame_frame]
      refine ⟨applies.trans ?_, empties, ?_, ?_⟩
      · simp [roster, launch, hf]
        rfl
      · rw [applied]
        simp [comp]
      · simp [lane]
    · have forced (hf : s.launch.forced = []) : v.launch.forced = [] := (congrArg Launch.forced launch).trans hf
      have held : v.comp.held = some x := (congrArg Comp.held comp).trans hx
      obtain ⟨eroster, etiles, efetch⟩ := enqueueBatch_holding (launched s b) held
      have cuts : v.cuttable = s.cuttable := by simp [State.cuttable, State.holdsPage, State.closeHanded, comp, lane]
      have behind (hf : s.launch.forced ≠ []) : v.launch.forced ≠ [] := by rw [launch]; exact hf
      refine ⟨by simp [ht, eroster, roster], by simp [ht, etiles, tiles], by simp [ht, efetch, fetch], by simp [ht, lane],
        fun hf hq => ?_, fun hf hq => ?_, fun hf => ?_⟩
      · have waits := enqueueBatch_waits (b := launched s b) held (forced hf) (by rw [launch]; exact hq)
        rw [cuts, roster, comp, launch] at waits
        simp only [ht, afterFrame_frame, waits]
        exact ⟨rfl, rfl⟩
      · have forces := enqueueBatch_forces (b := launched s b) held (forced hf) (by rw [launch]; exact hq)
        rw [cuts, comp, launch] at forces
        simp only [ht, afterFrame_frame, forces]
        exact ⟨rfl, rfl⟩
      · have stands := enqueueBatch_behind (b := launched s b) (behind hf)
        rw [launch] at stands
        simp only [ht, afterFrame_frame, stands]
        exact ⟨rfl, comp⟩
  · intro gone
    obtain ⟨v, t, hexec, ht, roster, launch, comp, tiles, fetch, lane⟩ := exec_launch_taken (h := h) hs hr hb hn hl
    have applied := enqueueBatch_applied (b := launched s b) ((congrArg Comp.held comp).trans hh)
      ((congrArg Launch.forced launch).trans (by rw [hq]))
    rw [launch, hq] at applied
    let w := (v.setLaunch ⟨[launched s b], []⟩).setRoster (v.roster.applyBatch (launched s b))
    have once : v.enqueueBatch (launched s b) = (w.handOff (launched s b).retaken).setLaunch Launch.cleared := applied
    have shows (p i : Nat) : w.roster.showsOneOf (launched s b).retaken p i = true ↔ gone p i := by
      obtain ⟨pages, -, sections, -⟩ := applyBatch_keeps v.roster (launched s b)
      have subject : w.roster.subjectAt p i = s.roster.subjectAt p i := by
        rw [← roster]
        exact subjectAt_congr pages sections p i
      rw [showsOneOf_iff, subject]
      simp only [mem_retaken_iff]
      constructor
      · rintro ⟨j, hj, a, ha, haj, hk⟩
        exact ⟨j, a, hj, ha, haj, hk⟩
      · rintro ⟨j, a, hj, ha, haj, hk⟩
        exact ⟨j, hj, a, ha, haj, hk⟩
    have spec := handOff_spec shows
    have tfetch : t.fetch = (w.handOff (launched s b).retaken).fetch := by
      simp only [ht, afterFrame_frame, once]
      rfl
    have ttiles : t.tiles = (w.handOff (launched s b).retaken).tiles := by
      simp only [ht, afterFrame_frame, once]
      rfl
    have wfetch : w.fetch = s.fetch := fetch
    have wtiles : w.tiles = s.tiles := tiles
    dsimp only at spec
    rw [← tfetch, ← ttiles, wfetch, wtiles] at spec
    exact ⟨t, hexec, spec⟩
  · rw [applyRecord_subject hj, hp, Subject.amend]
  · rw [applyRecord_subject hj, hp, Subject.amend]
  · rw [applyRecord_subject hj, hp, Subject.amend]
  · rw [applyRecord_subject hj, hp, Subject.amend]
  · have place (i : Nat) : p.position i = p.slice + i := by simp [PageRec.position, PageRec.sliceStart, hk]
    rw [touches_iff hx ht]
    simp only [place]
    constructor
    · rintro ⟨i, hi, hin, rfl⟩
      omega
    · rintro ⟨h1, h2, h3, h4⟩
      exact ⟨j - x.first - p.slice, by omega, by omega, by omega⟩
  · have place (i : Nat) : p.position i = i := by simp [PageRec.position, PageRec.sliceStart, hk]
    rw [touches_iff hx ht]
    simp only [place]
    constructor
    · rintro ⟨i, hi, hin, rfl⟩
      omega
    · rintro ⟨h1, h2⟩
      exact ⟨j - x.first, by omega, by omega, by omega⟩
end

section
/-! PROOFS. Wants and the prefetch walk (R72, R100 to R105). -/

namespace Sys2Proof.Fetching

open Sys2Proof Sys2Proof.Machine Sys2Proof.Laws

/-! ## The slots (R100, R101, R104) -/

theorem isFree_iff (sl : Slot) : sl.isFree = true ↔ sl = .free := by cases sl <;> simp [Slot.isFree]

/-- R100: the slot of a number is FREE. -/
def freeAt (t : Tiles) (n : Nat) : Bool := match t.slots[n]? with | some sl => sl.isFree | none => false

theorem freeAt_iff (t : Tiles) (n : Nat) : freeAt t n = true ↔ t.slots[n]? = some .free := by
  unfold freeAt
  cases t.slots[n]? with
  | none => simp
  | some sl => simp [isFree_iff]

theorem firstFree_eq (t : Tiles) : t.firstFree = (List.range t.slots.length).find? (freeAt t) := rfl

theorem firstFree_iff (t : Tiles) (n : Nat) : t.firstFree = some n ↔
    t.slots[n]? = some .free ∧ ∀ m, m < n → t.slots[m]? ≠ some .free := by
  rw [firstFree_eq, find_range_iff, freeAt_iff]
  constructor
  · rintro ⟨-, hn, hm⟩
    refine ⟨hn, fun m hlt hfree => ?_⟩
    have busy := hm m hlt
    rw [(freeAt_iff t m).mpr hfree] at busy
    cases busy
  · rintro ⟨hn, hm⟩
    exact ⟨(List.getElem?_eq_some_iff.mp hn).1, hn, fun m hlt =>
      Bool.eq_false_iff.mpr (fun hfree => hm m hlt ((freeAt_iff t m).mp hfree))⟩

theorem firstFree_none_iff (t : Tiles) : t.firstFree = none ↔ ∀ sl ∈ t.slots, sl ≠ .free := by
  rw [firstFree_eq, List.find?_eq_none]
  constructor
  · rintro h sl hsl rfl
    obtain ⟨n, hn⟩ := List.mem_iff_getElem?.mp hsl
    exact h n (List.mem_range.mpr (List.getElem?_eq_some_iff.mp hn).1) ((freeAt_iff t n).mpr hn)
  · intro h n _ hfree
    exact h .free (List.mem_of_getElem? ((freeAt_iff t n).mp hfree)) rfl

theorem portrait?_iff (sl : Slot) (pid : Id32) : sl.portrait? = some pid ↔
    (∃ refs, sl = .filling pid refs) ∨ ∃ pw ph refs, sl = .ready pid pw ph refs := by
  cases sl <;> simp [Slot.portrait?]

theorem slotOf_some {t : Tiles} {pid : Id32} {n : Nat} (h : t.slotOf pid = some n) : ∃ sl, t.slots[n]? = some sl ∧
    sl.portrait? = some pid := by
  have found := List.find?_some h
  cases hs : t.slots[n]? with
  | none => rw [hs] at found; cases found
  | some sl => exact ⟨sl, rfl, slotOf_held h hs⟩

theorem slotOf_none_iff (t : Tiles) (pid : Id32) :
    t.slotOf pid = none ↔ ∀ sl ∈ t.slots, sl.portrait? ≠ some pid := by
  rw [Tiles.slotOf, List.find?_eq_none]
  constructor
  · intro h sl hsl hp
    obtain ⟨n, hn⟩ := List.mem_iff_getElem?.mp hsl
    exact h n (List.mem_range.mpr (List.getElem?_eq_some_iff.mp hn).1) (by simp [hn, hp])
  · intro h n _ hp
    cases hs : t.slots[n]? with
    | none => simp [hs] at hp
    | some sl => exact h sl (List.mem_of_getElem? hs) (by simpa [hs] using hp)

/-- R104: the READY slot without composing reference that is latest in the fill order. -/
def Evictable (t : Tiles) (n : Nat) : Prop := ∃ pid pw ph refs, t.slots[n]? = some (.ready pid pw ph refs) ∧
  ∀ i, Ref.composing i ∉ refs

/-- R104: the slot of a number may be evicted. -/
def evicts (t : Tiles) (n : Nat) : Bool :=
  match t.slots[n]? with | some sl => sl.isReady && sl.isPrefetch | none => false

theorem evictable_eq (t : Tiles) : t.evictable = t.fillOrder.reverse.find? (evicts t) := rfl

theorem evicts_true_iff (t : Tiles) (n : Nat) : evicts t n = true ↔ Evictable t n := evicts_iff t n

theorem evictable_some {t : Tiles} {n : Nat} {earlier later : List Nat} (hf : t.fillOrder = earlier ++ n :: later)
    (hn : Evictable t n) (hl : ∀ m ∈ later, ¬ Evictable t m) : t.evictable = some n := by
  rw [evictable_eq, hf, List.reverse_append, List.reverse_cons, List.append_assoc, List.find?_append,
    List.find?_eq_none.mpr, Option.none_or, List.singleton_append,
    List.find?_cons_of_pos ((evicts_true_iff t n).mpr hn)]
  intro m hm he
  exact hl m (List.mem_reverse.mp hm) ((evicts_true_iff t m).mp he)

theorem evictable_none {t : Tiles} (h : ∀ m ∈ t.fillOrder, ¬ Evictable t m) : t.evictable = none := by
  rw [evictable_eq]
  exact List.find?_eq_none.mpr (fun m hm he => h m (List.mem_reverse.mp hm) ((evicts_true_iff t m).mp he))

theorem holds_iff (t : Tiles) (r : Ref) : t.holds r = true ↔ ∃ sl ∈ t.slots, r ∈ sl.refs := by
  simp [Tiles.holds]

theorem not_holds {t : Tiles} {r : Ref} (h : ∀ sl ∈ t.slots, r ∉ sl.refs) : t.holds r = false :=
  Bool.eq_false_iff.mpr (fun hh => by
    obtain ⟨sl, hsl, hr⟩ := (holds_iff t r).mp hh
    exact h sl hsl hr)

/-! ## Requests and references (R101, R102) -/

theorem mayFetch_iff (s : State) : s.mayFetch = true ↔
    s.fetch.list.length < 8 ∧ s.link.up = true ∧ s.fetch.hold = false := by
  simp [State.mayFetch, Config.fetchCap, and_assoc]

theorem request_eq (s : State) (n : Nat) (pid : Id32) {refs : List Ref} (hr : refs ≠ []) :
    s.request n pid refs false = { s with
      tiles := { s.tiles with slots := s.tiles.slots.set n (.filling pid refs) },
      fetch := { s.fetch with
        list := s.fetch.list ++ [{ tag := s.fetch.tag, portrait := pid, slot := n, stale := false, retry := false }],
        tag := (s.fetch.tag + 1) % 256,
        timer := if s.fetch.list = [] then some s.fetchMs else s.fetch.timer },
      link := s.link.handed ⟨s.straps.station, .fetch s.fetch.tag pid⟩ } := by
  have fresh : refs.isEmpty = false := by simpa using hr
  simp only [State.request, emit_link, fresh, List.isEmpty_iff]
  rfl

/-- R101: counting references on slots leaves all but the tiles and the stale marks. -/
theorem withSlots_touches (s : State) (slots : List Slot) :
    s.withSlots slots = { s with tiles := (s.withSlots slots).tiles, fetch := (s.withSlots slots).fetch } ∧
    (s.withSlots slots).fetch.wants = s.fetch.wants ∧ (s.withSlots slots).fetch.tag = s.fetch.tag ∧
    (s.withSlots slots).fetch.timer = s.fetch.timer ∧ (s.withSlots slots).fetch.prefetch = s.fetch.prefetch ∧
    (s.withSlots slots).fetch.list.map (fun e => (e.tag, e.portrait, e.slot, e.retry)) =
      s.fetch.list.map (fun e => (e.tag, e.portrait, e.slot, e.retry)) := by
  refine ⟨rfl, rfl, rfl, rfl, rfl, ?_⟩
  show (s.fetch.list.map (FetchEntry.restale _)).map _ = _
  rw [List.map_map]
  rfl

theorem held_not_free {t : Tiles} {pid : Id32} {n : Nat} {sl : Slot} (h : t.slotOf pid = some n)
    (hs : t.slots[n]? = some sl) : sl ≠ .free := by
  rintro rfl
  simpa [Slot.portrait?] using slotOf_held h hs


/-! ## Wants (R72, R103, R104) -/

theorem exec_fetchWantRequest (s : State) : exec .fetchWantRequest s = .next s.wantStep := rfl

theorem exec_prefetchWalk (s : State) : exec .prefetchWalk s = .next s.walkStep := rfl

theorem wantStep_idle {s : State} (h : s.mayFetch = false) : s.wantStep = s := by
  unfold State.wantStep
  split
  · rw [if_neg (by simp [h])]
  · rfl

theorem wantStep_places {s : State} {w : Want} {rest : List Want} (hw : s.fetch.wants = w :: rest)
    (h : s.mayFetch = true) : s.wantStep = s.placeWant w := by
  rw [State.wantStep, hw]
  exact if_pos h

theorem placeWant_held {s : State} {w : Want} {n : Nat} (h : s.tiles.slotOf w.portrait = some n) :
    s.placeWant w = s.dropWant.addRefs n (w.cells.map .composing) := by
  rw [State.placeWant, h]
  rfl

theorem placeWant_free {s : State} {w : Want} {n : Nat} (h : s.tiles.slotOf w.portrait = none)
    (hf : s.tiles.firstFree = some n) : s.placeWant w = s.dropWant.request n w.portrait (w.cells.map .composing) false := by
  rw [State.placeWant, h]
  dsimp only
  rw [hf]
  rfl

theorem placeWant_evicts {s : State} {w : Want} {n : Nat} (h : s.tiles.slotOf w.portrait = none)
    (hf : s.tiles.firstFree = none) (he : s.tiles.evictable = some n) :
    s.placeWant w = (s.dropWant.freeSlot n).request n w.portrait (w.cells.map .composing) false := by
  rw [State.placeWant, h]
  dsimp only
  rw [hf]
  dsimp only
  rw [he]
  rfl

theorem placeWant_waits {s : State} {w : Want} (h : s.tiles.slotOf w.portrait = none) (hf : s.tiles.firstFree = none)
    (he : s.tiles.evictable = none) : s.placeWant w = s := by
  rw [State.placeWant, h]
  dsimp only
  rw [hf]
  dsimp only
  rw [he]

theorem countComposing_held {s : State} {page cell : Nat} (pid : Id32) (h : s.tiles.holds (.prefetch page cell) = true) :
    s.countComposing page cell pid = s.withSlots (s.tiles.slots.map (Slot.convert page cell)) := if_pos h

theorem countComposing_slot {s : State} {page cell n : Nat} {pid : Id32} (h : s.tiles.holds (.prefetch page cell) = false)
    (hn : s.tiles.slotOf pid = some n) : s.countComposing page cell pid = s.addRefs n [.composing cell] := by
  rw [State.countComposing, if_neg (by simp [h]), hn]

theorem countComposing_wants {s : State} {page cell : Nat} {pid : Id32} (h : s.tiles.holds (.prefetch page cell) = false)
    (hn : s.tiles.slotOf pid = none) : s.countComposing page cell pid =
      s.setFetch { s.fetch with wants := countWant s.fetch.wants pid cell } := by
  rw [State.countComposing, if_neg (by simp [h]), hn]

theorem countWant_new {wants : List Want} {pid : Id32} (cell : Nat) (h : ∀ w ∈ wants, w.portrait ≠ pid) :
    countWant wants pid cell = wants ++ [{ portrait := pid, cells := [cell] }] :=
  if_neg (by simpa using h)

theorem countWant_more {wants : List Want} {pid : Id32} (cell : Nat) (h : ∃ w ∈ wants, w.portrait = pid) :
    countWant wants pid cell =
      wants.map (fun w => if w.portrait = pid then { w with cells := w.cells ++ [cell] } else w) :=
  if_pos (by simpa using h)

/-! ## A prefetch reference turned into a composing one (R103) -/

theorem convert_other {page cell : Nat} {sl : Slot} (h : Ref.prefetch page cell ∉ sl.refs) :
    sl.convert page cell = sl := if_neg (by simpa using h)

theorem convert_own {page cell : Nat} {sl : Slot} (h : Ref.prefetch page cell ∈ sl.refs) :
    (sl.convert page cell).settle.refs =
      sl.refs.filter (fun r => decide (r ≠ .prefetch page cell)) ++ [.composing cell] ∧
    (sl.convert page cell).settle.portrait? = sl.portrait? := by
  have converts : sl.convert page cell =
      (sl.keepRefs (fun r => decide (r ≠ .prefetch page cell))).addRefs [.composing cell] := if_pos (by simpa using h)
  rw [converts]
  cases sl with
  | free => simp [Slot.refs] at h
  | filling p rs => exact ⟨rfl, rfl⟩
  | ready p w h rs =>
    refine ⟨by rw [settle_refs]; rfl, ?_⟩
    simp [Slot.keepRefs, Slot.addRefs, Slot.settle, Slot.portrait?]

theorem length_without_one {l : List Ref} {r : Ref} (hn : l.Nodup) (hr : r ∈ l) :
    (l.filter (fun x => decide (x ≠ r))).length + 1 = l.length := by
  have erased : l.erase r = l.filter (fun x => decide (x ≠ r)) := by
    rw [hn.erase_eq_filter]
    refine List.filter_congr (fun x _ => ?_)
    by_cases h : x = r <;> simp [h]
  rw [← erased, List.length_erase_of_mem hr]
  have := List.length_pos_of_mem hr
  omega

/-! ## The prefetch walk (R105) -/

theorem settled_iff (f : Fetch) (page cell : Nat) : f.settled page cell = true ↔
    ∃ r ∈ f.prefetch, r.page = page ∧ cell ∈ r.settled := by
  simp [Fetch.settled]

/-- R105: the cells the walk does not pass over. -/
theorem walkNeeds_iff (s : State) (page cell : Nat) (pid : Id32) : s.walkNeeds page cell = some pid ↔
    (∀ sl ∈ s.tiles.slots, Ref.prefetch page cell ∉ sl.refs) ∧
    (∀ r ∈ s.fetch.prefetch, r.page = page → cell ∉ r.settled) ∧
    learnedKind s.comp.learned page s.roster.edition cell = none ∧
    ∃ j y, s.roster.subjectAt page cell = some j ∧ s.roster.subjects[j]? = some y ∧ y.withdrawn = false ∧
      y.portrait = some pid := by
  have subject : (match s.roster.subjectAt page cell with
      | none => none
      | some j => match s.roster.subjects[j]? with
        | none => none
        | some x => if x.withdrawn then none else x.portrait) = some pid ↔
      ∃ j y, s.roster.subjectAt page cell = some j ∧ s.roster.subjects[j]? = some y ∧ y.withdrawn = false ∧
        y.portrait = some pid := by
    cases s.roster.subjectAt page cell with
    | none => simp
    | some j =>
      cases hy : s.roster.subjects[j]? with
      | none => simp [hy]
      | some y => simp [hy]
  unfold State.walkNeeds
  by_cases hh : s.tiles.holds (.prefetch page cell) = true
  · obtain ⟨sl, hsl, hr⟩ := (holds_iff _ _).mp hh
    simp only [hh, Bool.true_or, if_true]
    exact ⟨nofun, fun h => absurd hr (h.1 sl hsl)⟩
  have unheld : ∀ sl ∈ s.tiles.slots, Ref.prefetch page cell ∉ sl.refs :=
    fun sl hsl hr => hh ((holds_iff _ _).mpr ⟨sl, hsl, hr⟩)
  by_cases hm : s.fetch.settled page cell = true
  · obtain ⟨r, hr, hp, hc⟩ := (settled_iff _ _ _).mp hm
    simp only [hm, Bool.or_true, Bool.true_or, if_true]
    exact ⟨nofun, fun h => absurd hc (h.2.1 r hr hp)⟩
  have unsettled : ∀ r ∈ s.fetch.prefetch, r.page = page → cell ∉ r.settled :=
    fun r hr hp hc => hm ((settled_iff _ _ _).mpr ⟨r, hr, hp, hc⟩)
  cases hl : learnedKind s.comp.learned page s.roster.edition cell with
  | some k =>
    simp only [Option.isSome_some, Bool.or_true, if_true]
    exact ⟨nofun, fun h => nomatch h.2.2.1⟩
  | none =>
    rw [if_neg (by simp [hh, hm])]
    exact ⟨fun h => ⟨unheld, unsettled, rfl, subject.mp h⟩, fun h => subject.mpr h.2.2.2⟩

/-- R105: the cells of the QUEUED page of one entry. -/
def entryCells (ro : Roster) (e : WorkEntry) : List (Nat × Nat) :=
  match e.phase, ro.page? e.page with
  | .queued, some p => match ro.templates[p.template]? with
    | some t => (List.range (t.columns * t.rows)).map (fun i => (e.page, i))
    | none => []
  | _, _ => []

theorem walkCells_eq (s : State) : s.walkCells = (s.claims.work.map (entryCells s.roster)).flatten := by
  rw [State.walkCells, ← List.flatMap_def]
  induction s.claims.work with
  | nil => rfl
  | cons e l ih =>
    have page : (match s.roster.page? e.page with
        | some p => (List.range (s.roster.cellCount p)).map (fun i => (e.page, i))
        | none => []) = if e.phase = .queued then entryCells s.roster e else
          (match s.roster.page? e.page with
            | some p => (List.range (s.roster.cellCount p)).map (fun i => (e.page, i))
            | none => []) := by
      split_ifs with hq
      · unfold entryCells Roster.cellCount
        rw [hq]
        cases s.roster.page? e.page with
        | none => rfl
        | some p =>
          dsimp only
          cases s.roster.templates[p.template]? <;> rfl
      · rfl
    by_cases hq : e.phase = .queued
    · rw [if_pos hq] at page
      rw [List.filter_cons_of_pos (by simpa using hq), List.flatMap_cons, List.flatMap_cons, ih]
      exact congrArg (· ++ _) page
    · have none : entryCells s.roster e = [] := by
        unfold entryCells
        cases hp : e.phase with
        | queued => exact absurd hp hq
        | composing => rfl
        | inEngine => rfl
      rw [List.filter_cons_of_neg (by simpa using hq), List.flatMap_cons, none, ih, List.nil_append]

theorem mem_entryCells_iff (ro : Roster) (e : WorkEntry) (page cell : Nat) : (page, cell) ∈ entryCells ro e ↔
    e.phase = .queued ∧ e.page = page ∧ ∃ p t, ro.page? page = some p ∧ ro.templates[p.template]? = some t ∧
      cell < t.columns * t.rows := by
  unfold entryCells
  cases hp : e.phase with
  | composing => simp
  | inEngine => simp
  | queued =>
    cases hg : ro.page? e.page with
    | none =>
      simp only [List.not_mem_nil, true_and, false_iff]
      rintro ⟨rfl, p, t, hp, -⟩
      simp [hg] at hp
    | some p =>
      cases ht : ro.templates[p.template]? with
      | none =>
        simp only [ht, List.not_mem_nil, true_and, false_iff]
        rintro ⟨rfl, q, t, hq, hqt, -⟩
        obtain rfl := Option.some.inj (hg.symm.trans hq)
        simp [ht] at hqt
      | some t =>
        simp only [ht, List.mem_map, List.mem_range, Prod.mk.injEq, true_and]
        constructor
        · rintro ⟨i, hi, rfl, rfl⟩
          exact ⟨rfl, p, t, hg, ht, hi⟩
        · rintro ⟨rfl, q, t', hq, hqt, hi⟩
          obtain rfl := Option.some.inj (hg.symm.trans hq)
          obtain rfl := Option.some.inj (ht.symm.trans hqt)
          exact ⟨cell, hi, rfl, rfl⟩

theorem walk_passes {s : State} {page cell : Nat} (rest : List (Nat × Nat)) (h : s.walkNeeds page cell = none) :
    State.walk ((page, cell) :: rest) s = State.walk rest s := by
  rw [State.walk, h]

theorem walk_holds {s : State} {page cell n : Nat} {pid : Id32} (rest : List (Nat × Nat))
    (h : s.walkNeeds page cell = some pid) (hn : s.tiles.slotOf pid = some n) :
    State.walk ((page, cell) :: rest) s = State.walk rest (s.addRefs n [.prefetch page cell]) := by
  rw [State.walk, h]
  dsimp only
  rw [hn]

theorem walk_asks {s : State} {page cell n : Nat} {pid : Id32} (rest : List (Nat × Nat))
    (h : s.walkNeeds page cell = some pid) (hn : s.tiles.slotOf pid = none) (hf : s.tiles.firstFree = some n)
    (hp : s.tiles.prefetchSlots < 24) (hm : s.mayFetch = true) :
    State.walk ((page, cell) :: rest) s = State.walk rest (s.request n pid [.prefetch page cell] false) := by
  rw [State.walk, h]
  dsimp only
  rw [hn]
  dsimp only
  rw [hf]
  exact if_pos ⟨hp, hm⟩

theorem walk_stops {s : State} {page cell : Nat} {pid : Id32} (rest : List (Nat × Nat))
    (h : s.walkNeeds page cell = some pid) (hn : s.tiles.slotOf pid = none)
    (hb : s.tiles.firstFree = none ∨ 24 ≤ s.tiles.prefetchSlots ∨ 8 ≤ s.fetch.list.length ∨ s.link.up = false ∨
      s.fetch.hold = true) : State.walk ((page, cell) :: rest) s = s := by
  rw [State.walk, h]
  dsimp only
  rw [hn]
  dsimp only
  cases hf : s.tiles.firstFree with
  | none => rfl
  | some n =>
    refine if_neg (fun hc => ?_)
    have below : s.tiles.prefetchSlots < 24 := hc.1
    obtain ⟨length, up, hold⟩ := (mayFetch_iff s).mp hc.2
    rcases hb with hb | hb | hb | hb | hb
    · simp [hf] at hb
    · omega
    · omega
    · simp [up] at hb
    · simp [hold] at hb

theorem walkStep_walks {s : State} (h : s.fetch.wants = []) : s.walkStep = State.walk s.walkCells s := by
  simp [State.walkStep, h]

end Sys2Proof.Fetching

open Sys2Proof Sys2Proof.Machine Sys2Proof.Laws Sys2Proof.Fetching

/-- Settles O50: wants and the prefetch walk by the slots that hold, are free for or may be evicted for a portrait. -/
theorem wantsAndThePrefetchWalkAskAhead : Obligations.WantsAndThePrefetchWalkAskAhead := by
  refine ⟨fun s w rest hw => ⟨fun n hl hu hh hn hf hc => ?_, fun hb => ?_⟩,
    fun s => ⟨fun hw => ?_, fun page cell pid n hw hc hnd hn hf hp hl hu hh => ?_, fun page cell pid hw hc hnd hn hb => ?_⟩,
    fun s page cell pid hno => ⟨fun hn hw => ?_, fun hn hw => ?_, fun n sl hn hs => ?_⟩,
    fun s w rest hw hl hu hh => ⟨fun n sl hn hs => ?_, fun hn hfree => ⟨fun n earlier later hfo he hlater hc => ?_, fun he => ?_⟩⟩,
    fun s page cell => ⟨walkNeeds_iff s page cell, ?_, walkCells_eq s, fun hw => ?_, rfl, fun rest =>
      ⟨fun pid n hnd hn hf hp hl hu hh => ?_, fun pid hnd hn hb => walk_stops rest hnd hn hb, walk_passes rest,
        fun pid n sl hnd hn hs => ?_⟩⟩,
    fun s page cell n pid sl hs hr hnodup honly => ?_,
    fun t pid => ⟨firstFree_iff t, firstFree_none_iff t, fun n hn => ?_, ?_⟩⟩
  · have tail : s.fetch.wants.tail = rest := by rw [hw]; rfl
    rw [exec_fetchWantRequest, wantStep_places hw ((mayFetch_iff s).mpr ⟨hl, hu, hh⟩), placeWant_free hn hf,
      request_eq _ _ _ (by simpa using hc), ← tail]
    rfl
  · have bars : s.mayFetch = false := Bool.eq_false_iff.mpr (fun hm => by
      obtain ⟨length, up, hold⟩ := (mayFetch_iff s).mp hm
      rcases hb with hb | hb | hb
      · omega
      · simp [up] at hb
      · simp [hold] at hb)
    rw [exec_fetchWantRequest, wantStep_idle bars]
  · rw [exec_prefetchWalk, State.walkStep, if_neg (by simpa using hw)]
  · rw [exec_prefetchWalk, walkStep_walks hw, hc, walk_asks [] hnd hn hf hp ((mayFetch_iff s).mpr ⟨hl, hu, hh⟩),
      request_eq _ _ _ (by simp)]
    rfl
  · rw [exec_prefetchWalk, walkStep_walks hw, hc, walk_stops [] hnd hn hb]
  · rw [countComposing_wants (not_holds hno) hn, countWant_new cell hw]
    rfl
  · rw [countComposing_wants (not_holds hno) hn, countWant_more cell hw]
    rfl
  · rw [countComposing_slot (not_holds hno) hn]
    exact ⟨rfl, (addRefs_refs s n _ sl hs (held_not_free hn hs)).1⟩
  · obtain ⟨⟨sl', hs', hr'⟩, others⟩ := addRefs_refs s.dropWant n (w.cells.map .composing) sl hs (held_not_free hn hs)
    obtain ⟨-, -, tag, timer, -, list⟩ := withSlots_touches s.dropWant
      (s.dropWant.tiles.slots.modify n (Slot.addRefs (w.cells.map .composing)))
    have tail : s.fetch.wants.tail = rest := by rw [hw]; rfl
    refine ⟨_, sl', (exec_fetchWantRequest s).trans (congrArg _ ((wantStep_places hw ((mayFetch_iff s).mpr ⟨hl, hu, hh⟩)).trans
      (placeWant_held hn))), rfl, tail, tag, timer, list, hs', hr', others⟩
  · have tail : s.fetch.wants.tail = rest := by rw [hw]; rfl
    rw [exec_fetchWantRequest, wantStep_places hw ((mayFetch_iff s).mpr ⟨hl, hu, hh⟩),
      placeWant_evicts hn ((firstFree_none_iff _).mpr hfree) (evictable_some hfo he hlater),
      request_eq _ _ _ (by simpa using hc), ← tail]
    simp only [State.freeSlot, State.dropWant, State.setTiles, State.setFetch, List.set_set]
    rfl
  · rw [exec_fetchWantRequest, wantStep_places hw ((mayFetch_iff s).mpr ⟨hl, hu, hh⟩),
      placeWant_waits hn ((firstFree_none_iff _).mpr hfree) (evictable_none he)]
  · rw [walkCells_eq]
    simp only [List.mem_flatten, List.mem_map]
    constructor
    · rintro ⟨_, ⟨e, he, rfl⟩, hm⟩
      obtain ⟨hq, hp, p, t, hpg, ht, hc⟩ := (mem_entryCells_iff ..).mp hm
      exact ⟨e, p, t, he, hq, hp, hpg, ht, hc⟩
    · rintro ⟨e, p, t, he, hq, hp, hpg, ht, hc⟩
      exact ⟨_, ⟨e, he, rfl⟩, (mem_entryCells_iff ..).mpr ⟨hq, hp, p, t, hpg, ht, hc⟩⟩
  · rw [exec_prefetchWalk, walkStep_walks hw]
  · rw [walk_asks rest hnd hn hf hp ((mayFetch_iff s).mpr ⟨hl, hu, hh⟩), request_eq _ _ _ (by simp)]
  · obtain ⟨⟨sl', hs', hr'⟩, others⟩ := addRefs_refs s n [.prefetch page cell] sl hs (held_not_free hn hs)
    refine ⟨_, sl', walk_holds rest hnd hn, rfl, rfl, rfl, ?_, hs', hr', others⟩
    exact List.length_map _
  · have holds : s.tiles.holds (.prefetch page cell) = true := (holds_iff _ _).mpr ⟨sl, List.mem_of_getElem? hs, hr⟩
    obtain ⟨refs, portrait⟩ := convert_own hr
    have slots (m : Nat) : (s.withSlots (s.tiles.slots.map (Slot.convert page cell))).tiles.slots[m]? =
        (s.tiles.slots[m]?).map (fun x => (x.convert page cell).settle) := by
      show ((s.tiles.slots.map (Slot.convert page cell)).map Slot.settle)[m]? = _
      rw [List.map_map, List.getElem?_map]
      rfl
    refine ⟨_, (sl.convert page cell).settle, countComposing_held pid holds, rfl, rfl, rfl, rfl, ?_, portrait, ?_, refs,
      fun m hm => ?_⟩
    · rw [slots, hs]
      rfl
    · rw [refs, List.length_append]
      exact length_without_one hnodup hr
    · rw [slots, Option.map_map]
      cases hx : s.tiles.slots[m]? with
      | none => rfl
      | some x =>
        simp only [Option.map_some, Function.comp_apply, settle_refs, convert_other (honly m x hx hm)]
  · obtain ⟨sl, hs, hp⟩ := slotOf_some hn
    exact ⟨sl, hs, (portrait?_iff sl pid).mp hp⟩
  · rw [slotOf_none_iff]
    refine forall₂_congr (fun sl _ => ?_)
    rw [Ne, portrait?_iff]
    push Not
    rfl
end

section
/-! PROOFS. Placing and beginning a band (R71, R72, R112). -/

namespace Sys2Proof.BandSteps

open Sys2Proof Sys2Proof.Machine Sys2Proof.Laws

/-! ## Placing the needed cells (R71, R74) -/

theorem placeBand_eq {s : State} {x : Held} {t : Template} (hx : s.comp.held = some x)
    (ht : s.roster.templates[x.template]? = some t) : s.placeBand =
      let r := State.placeCells t ((List.range x.cells.length).filter (fun i => t.neededBy x.band i)) s
      { r.1 with comp := { r.1.comp with state := if r.2 then .streaming else .waitingTile } } := by
  have template : s.templateOf x = some t := ht
  rw [State.placeBand, hx]
  dsimp only
  rw [template]
  rfl

theorem placeCells_classed {s : State} {x : Held} {t : Template} {i : Nat} {c : Cell} (rest : List Nat)
    (hx : s.comp.held = some x) (hc : x.cells[i]? = some c) (h : c.cls ≠ none) :
    State.placeCells t (i :: rest) s = State.placeCells t rest s := by
  have classed : c.cls.isSome = true := Option.isSome_iff_ne_none.mpr h
  simp only [State.placeCells, hx, hc, classed, if_true]

theorem placeCells_places {s : State} {x : Held} {t : Template} {i : Nat} {c : Cell} {p : Placed} (rest : List Nat)
    (hx : s.comp.held = some x) (hc : x.cells[i]? = some c) (h : c.cls = none) (hp : s.placing x t i c = some p) :
    State.placeCells t (i :: rest) s = State.placeCells t rest (s.recordPlaced x i p) := by
  simp only [State.placeCells, hx, hc, h, hp, Option.isSome_none, Bool.false_eq_true, if_false]

theorem placeCells_stops {s : State} {x : Held} {t : Template} {i : Nat} {c : Cell} (rest : List Nat)
    (hx : s.comp.held = some x) (hc : x.cells[i]? = some c) (h : c.cls = none) (hp : s.placing x t i c = none) :
    State.placeCells t (i :: rest) s = (s, false) := by
  simp only [State.placeCells, hx, hc, h, hp, Option.isSome_none, Bool.false_eq_true, if_false]

/-! ## A band begins (R71, R72) -/

theorem reachOf_eq (t : Template) (b : Nat) : t.reachOf b = min (64 * b + 127) (t.pageH - 1) := rfl

theorem beginBand_spec {s : State} {x : Held} {t : Template} (b : Nat) (hx : s.comp.held = some x)
    (ht : s.roster.templates[x.template]? = some t) : ∃ y, (s.beginBand b).comp.held = some y ∧
      y = { x with band := b, reach := t.reachOf b, late := y.late, tallies := y.tallies, cells := y.cells } ∧
      (s.beginBand b).bandHanded y t s.lane ∧
      s.beginBand b = { s with
        comp := (s.beginBand b).comp, tiles := (s.beginBand b).tiles, fetch := (s.beginBand b).fetch,
        lane := (s.beginBand b).lane } ∧
      ∀ (i : Nat) c, x.cells[i]? = some c → ∃ d, y.cells[i]? = some d ∧ d.subject = c.subject ∧ d.last = c.last ∧
        (d.taken = true ↔ c.taken = true ∨ (∃ pid, s.cellNeeds x i c = some pid) ∧ t.cellTop i ≤ y.reach) := by
  obtain ⟨y, held, same, touches, -, prepared, cells⟩ := startBand_spec s x t b hx ht
  have template : (s.startBand b).roster.templates[y.template]? = some t := by
    rw [touches, same]
    exact ht
  obtain ⟨comp, handed, bandHanded⟩ := handReady_spec (s.startBand b) y t held template prepared
  have lane : (s.startBand b).lane = s.lane := by rw [touches]
  rw [lane] at bandHanded
  refine ⟨y, by rw [State.beginBand, comp, held], same, bandHanded, ?_, fun i c hc => ?_⟩
  · rw [State.beginBand, handed, touches]
  · obtain ⟨d, hd, subject, last, taken, -⟩ := cells i c hc
    exact ⟨d, hd, subject, last, taken⟩

/-- R71, R72: a band of which no reference is due and every needed cell has a class is handed as it is. -/
theorem beginBand_ready {s : State} {x : Held} {t : Template} {b : Nat} (hx : s.comp.held = some x)
    (ht : s.roster.templates[x.template]? = some t)
    (h : ∀ (i : Nat) c, x.cells[i]? = some c → (t.neededBy b i = true → c.cls ≠ none) ∧
      (c.taken = true ∨ s.cellNeeds x i c = none ∨ t.reachOf b < t.cellTop i)) :
    let y : Held := { x with band := b, reach := t.reachOf b }
    s.beginBand b = { s with
      comp := { s.comp with held := some y, state := .streaming },
      lane := { s.lane with inFlight := some (s.preparedBand y t) } } := by
  intro y
  let v := s.setHeld y
  have none_taken : s.takeReferences t b = v := by
    rw [State.takeReferences, hx]
    refine foldl_noop _ v _ (fun i _ => takeCell_noop v t i y rfl (fun c hc => ?_))
    rcases (h i c hc).2 with h | h | h
    · exact .inl h
    · exact .inr (.inl h)
    · exact .inr (.inr h)
  have placed : State.placeCells t (neededCells t y.cells.length y.band) v = (v, true) := by
    refine placeCells_noop t v y rfl _ (fun i hi c hc => (h i c hc).1 ?_)
    exact (List.mem_filter.mp hi).2
  have template : v.templateOf y = some t := ht
  have templateV : v.templateOf y = some t := ht
  have band : v.placeBand = v.setCompState .streaming := by
    rw [State.placeBand, show v.comp.held = some y from rfl]
    dsimp only
    rw [templateV]
    dsimp only
    rw [placed]
    rfl
  have begun : s.startBand b = v.setCompState .streaming := by
    have template : s.templateOf x = some t := ht
    rw [State.startBand, hx]
    dsimp only
    rw [template]
    dsimp only
    rw [none_taken, band]
  rw [State.beginBand, begun]
  have ready : (v.setCompState .streaming).handReady = (v.setCompState .streaming).handBand t := by
    have template : (v.setCompState .streaming).templateOf y = some t := ht
    rw [State.handReady, show (v.setCompState .streaming).comp.held = some y from rfl]
    dsimp only
    rw [template]
    exact if_neg nofun
  rw [ready]
  rfl

/-! ## An answer has come (R71, R112) -/

theorem resume_idle {s : State} (h : s.comp.state ≠ .waitingTile ∨ s.comp.cut = true) : s.resume = s := by
  refine if_neg (fun hc => ?_)
  rcases h with h | h
  · exact h hc.1
  · simp [h] at hc

theorem resume_spec {s : State} {x : Held} {t : Template} (hx : s.comp.held = some x)
    (ht : s.roster.templates[x.template]? = some t) (hw : s.comp.state = .waitingTile) (hc : s.comp.cut = false) :
    ∃ y, s.resume.comp.held = some y ∧ y.band = x.band ∧ y.captions = x.captions ∧ s.resume.bandPrepared y t ∧
      (s.lane.inFlight = none → s.resume.bandHanded y t s.lane) ∧
      (s.lane.inFlight ≠ none → s.resume.lane = s.lane) := by
  obtain ⟨y, held, same, touches, -, prepared, -⟩ := placeBand_spec s x t hx ht
  have template : s.placeBand.roster.templates[y.template]? = some t := by
    rw [touches, show y = _ from same]
    exact ht
  obtain ⟨comp, -, handed⟩ := handReady_spec s.placeBand y t held template prepared
  have lane : s.placeBand.lane = s.lane := by rw [touches]
  have resumes : s.resume = if s.placeBand.lane.inFlight.isNone = true then s.placeBand.handReady else s.placeBand :=
    if_pos ⟨hw, hc⟩
  have fields : y.band = x.band ∧ y.captions = x.captions := by
    rw [show y = _ from same]
    exact ⟨rfl, rfl⟩
  rw [lane] at handed resumes
  cases hf : s.lane.inFlight with
  | none =>
    rw [hf, if_pos (show (none : Option Packet).isNone = true from rfl)] at resumes
    rw [resumes]
    exact ⟨y, by rw [comp, held], fields.1, fields.2, handed.1, fun _ => handed, fun h => absurd rfl h⟩
  | some p =>
    rw [hf, if_neg (by simp)] at resumes
    rw [resumes]
    exact ⟨y, held, fields.1, fields.2, prepared, nofun, fun _ => lane⟩

end Sys2Proof.BandSteps
end

section
/-! PROOFS. What follows a sent band or caption (R75, R113). -/

namespace Sys2Proof.AfterBand

open Sys2Proof Sys2Proof.Machine Sys2Proof.Laws Sys2Proof.Opening Sys2Proof.LaunchQueue Sys2Proof.Fetching

/-! ## A released cell's reference is not taken again (R72, R75) -/

/-- No slot carries the composing reference of that cell. -/
def unreferenced (s : State) (i : Nat) : Prop := ∀ sl ∈ s.tiles.slots, Ref.composing i ∉ sl.refs

theorem mem_addRefs {r : Ref} {new : List Ref} {sl : Slot} (h : r ∈ (sl.addRefs new).refs) : r ∈ sl.refs ∨ r ∈ new := by
  cases sl with
  | free => exact .inl h
  | filling p rs => exact List.mem_append.mp h
  | ready p w k rs => exact List.mem_append.mp h

theorem mem_keepRefs {r : Ref} {keep : Ref → Bool} {sl : Slot} (h : r ∈ (sl.keepRefs keep).refs) : r ∈ sl.refs := by
  cases sl with
  | free => exact h
  | filling p rs => exact (List.mem_filter.mp h).1
  | ready p w k rs => exact (List.mem_filter.mp h).1

theorem withSlots_unreferenced (s : State) {slots : List Slot} {i : Nat} (h : ∀ sl ∈ slots, Ref.composing i ∉ sl.refs) :
    unreferenced (s.withSlots slots) i := by
  intro sl hsl hr
  obtain ⟨old, hold, rfl⟩ := List.mem_map.mp hsl
  rw [settle_refs] at hr
  exact h old hold hr

theorem keepRefs_unreferenced {s : State} {i : Nat} (keep : Ref → Bool) (h : unreferenced s i) :
    unreferenced (s.keepRefs keep) i := by
  refine withSlots_unreferenced s (fun sl hsl hr => ?_)
  obtain ⟨old, hold, rfl⟩ := List.mem_map.mp hsl
  exact h old hold (mem_keepRefs hr)

theorem addRefs_unreferenced {s : State} {i n : Nat} {new : List Ref} (hn : Ref.composing i ∉ new)
    (h : unreferenced s i) : unreferenced (s.addRefs n new) i := by
  refine withSlots_unreferenced s (fun sl hsl hr => ?_)
  obtain ⟨m, hm⟩ := List.mem_iff_getElem?.mp hsl
  rw [List.getElem?_modify] at hm
  obtain ⟨old, hold, rfl⟩ := Option.map_eq_some_iff.mp hm
  have kept := h old (List.mem_of_getElem? hold)
  split at hr
  · exact (mem_addRefs hr).elim kept hn
  · exact kept hr

theorem convert_unreferenced {page k i : Nat} {sl : Slot} (hi : k ≠ i) (h : Ref.composing i ∉ sl.refs) :
    Ref.composing i ∉ (sl.convert page k).refs := by
  intro hr
  unfold Slot.convert at hr
  split at hr
  · rcases mem_addRefs hr with hr | hr
    · exact h (mem_keepRefs hr)
    · exact hi (by simpa using (List.mem_singleton.mp hr).symm)
  · exact h hr

theorem countComposing_unreferenced {s : State} {page k i : Nat} (pid : Id32) (hi : k ≠ i) (h : unreferenced s i) :
    unreferenced (s.countComposing page k pid) i := by
  cases held : s.tiles.holds (.prefetch page k) with
  | true =>
    rw [countComposing_held pid held]
    refine withSlots_unreferenced s (fun sl hsl hr => ?_)
    obtain ⟨old, hold, rfl⟩ := List.mem_map.mp hsl
    exact convert_unreferenced hi (h old hold) hr
  | false =>
    cases slot : s.tiles.slotOf pid with
    | some n =>
      rw [countComposing_slot held slot]
      exact addRefs_unreferenced (by simpa using hi.symm) h
    | none =>
      rw [countComposing_wants held slot]
      exact h

theorem takeCell_other_unreferenced {s : State} {t : Template} {k i : Nat} (hi : k ≠ i) (h : unreferenced s i) :
    unreferenced (s.takeCell t k) i := by
  unfold State.takeCell
  split
  · exact h
  · split
    · exact h
    · split
      · exact h
      · split
        · refine countComposing_unreferenced _ hi ?_
          unfold State.modifyCell
          split <;> exact h
        · exact h

/-- R72: the cell has had its reference, and no slot carries it now. -/
def letGo (s : State) (i : Nat) : Prop :=
  (∃ x c, s.comp.held = some x ∧ x.cells[i]? = some c ∧ c.taken = true) ∧ unreferenced s i

theorem takeCell_letGo {s : State} (t : Template) (k : Nat) {i : Nat} (h : letGo s i) : letGo (s.takeCell t k) i := by
  obtain ⟨⟨x, c, hx, hc, taken⟩, free⟩ := h
  by_cases hk : k = i
  · subst hk
    rw [takeCell_noop s t k x hx (fun d hd => .inl (by rw [hc] at hd; cases hd; exact taken))]
    exact ⟨⟨x, c, hx, hc, taken⟩, free⟩
  · obtain ⟨y, held, -, -, -, others, -⟩ := takeCell_spec s t k x hx
    exact ⟨⟨y, c, held, by rw [others i (Ne.symm hk), hc], taken⟩, takeCell_other_unreferenced hk free⟩

theorem takeReferences_letGo {s : State} (t : Template) (b : Nat) {i : Nat} (h : letGo s i) :
    letGo (s.takeReferences t b) i := by
  obtain ⟨⟨x, c, hx, hc, taken⟩, free⟩ := h
  have start : letGo (s.setHeld { x with band := b, reach := t.reachOf b }) i := ⟨⟨_, c, rfl, hc, taken⟩, free⟩
  have all := List.foldlRecOn (motive := fun u => letGo u i) (List.range x.cells.length)
    (fun st k => State.takeCell st t k) start (fun u hu k _ => takeCell_letGo t k hu)
  simpa only [State.takeReferences, hx] using all

theorem recordPlaced_tiles (s : State) (x : Held) (k : Nat) (p : Placed) : (s.recordPlaced x k p).tiles = s.tiles ∨
    (s.recordPlaced x k p).tiles = (s.keepRefs (fun r => decide (r ≠ .composing k))).tiles := by
  unfold State.recordPlaced
  dsimp only
  split
  · exact .inr rfl
  · exact .inl rfl

theorem placeCells_unreferenced (t : Template) (i : Nat) : ∀ (l : List Nat) (s : State), unreferenced s i →
    unreferenced (State.placeCells t l s).1 i := by
  intro l
  induction l with
  | nil => exact fun s h => h
  | cons k rest ih =>
    intro s h
    unfold State.placeCells
    split
    · exact h
    · rename_i x hx
      split
      · exact ih s h
      · split
        · exact ih s h
        · split
          · rename_i p _
            refine ih _ ?_
            rcases recordPlaced_tiles s x k p with tiles | tiles
            · rw [unreferenced, tiles]
              exact h
            · rw [unreferenced, tiles]
              exact keepRefs_unreferenced _ h
          · exact h

theorem placeBand_unreferenced {s : State} {i : Nat} (h : unreferenced s i) : unreferenced s.placeBand i := by
  unfold State.placeBand
  split
  · exact h
  · split
    · exact h
    · exact placeCells_unreferenced _ i _ s h

theorem startBand_unreferenced {s : State} (b : Nat) {i : Nat} (h : letGo s i) : unreferenced (s.startBand b) i := by
  unfold State.startBand
  split
  · exact h.2
  · split
    · exact h.2
    · exact placeBand_unreferenced (takeReferences_letGo _ b h).2

/-! ## What the lane is handed next (R75, R113) -/

section Proceed

variable {s : State} {x : Held} {t : Template} (hx : s.comp.held = some x)

include hx

theorem proceed_untold (ht : s.roster.templates[x.template]? = none) : s.proceed = s := by
  have template : s.templateOf x = none := ht
  simp only [State.proceed, hx, template]

variable (ht : s.roster.templates[x.template]? = some t)

include ht

theorem proceed_caption {d : CaptionDue} {rest : List CaptionDue} (h : x.captions = d :: rest) :
    s.proceed = (s.setHeld { x with captions := rest }).handPacket (s.captionPacket x t d) := by
  have template : s.templateOf x = some t := ht
  simp only [State.proceed, hx, template, h]

theorem proceed_ready (h : x.captions = []) (hb : x.bandsSent < x.bandCount) : s.proceed = s.handReady := by
  have template : s.templateOf x = some t := ht
  simp only [State.proceed, hx, template, h, if_pos hb]

theorem proceed_late (h : x.captions = []) (hb : x.bandCount ≤ x.bandsSent) (hl : x.late = true) :
    s.proceed = s.setComp { s.comp with cut := true } := by
  have template : s.templateOf x = some t := ht
  simp only [State.proceed, hx, template, h, if_neg (Nat.not_lt.mpr hb), if_pos hl]

theorem proceed_close (h : x.captions = []) (hb : x.bandCount ≤ x.bandsSent) (hl : x.late = false) :
    s.proceed = s.handClose x := by
  have template : s.templateOf x = some t := ht
  simp only [State.proceed, hx, template, h, if_neg (Nat.not_lt.mpr hb), hl, Bool.false_eq_true, if_false]

theorem handReady_waits (h : s.comp.state = .waitingTile) : s.handReady = s := by
  have template : s.templateOf x = some t := ht
  simp only [State.handReady, hx, template, if_pos h]

theorem handReady_hands (h : s.comp.state ≠ .waitingTile) :
    s.handReady = (s.handPacket (s.preparedBand x t)).setCompState .streaming := by
  have template : s.templateOf x = some t := ht
  simp only [State.handReady, State.handBand, hx, template, if_neg h]
  rfl

/-- Handing the next packet leaves the slots as they are, and the page but for its captions. -/
theorem proceed_keeps : s.proceed.tiles = s.tiles ∧
    ∃ l, s.proceed.comp.held = some { x with captions := l } ∧ (x.captions = [] → l = x.captions) := by
  cases captions : x.captions with
  | cons d rest =>
    rw [proceed_caption hx ht captions]
    exact ⟨rfl, rest, rfl, nofun⟩
  | nil =>
    by_cases more : x.bandsSent < x.bandCount
    · rw [proceed_ready hx ht captions more]
      by_cases waits : s.comp.state = .waitingTile
      · rw [handReady_waits hx ht waits]
        exact ⟨rfl, x.captions, hx, fun _ => captions⟩
      · rw [handReady_hands hx ht waits]
        exact ⟨rfl, x.captions, hx, fun _ => captions⟩
    · rcases Bool.eq_false_or_eq_true x.late with late | late
      · rw [proceed_late hx ht captions (by omega) late]
        exact ⟨rfl, x.captions, hx, fun _ => captions⟩
      · rw [proceed_close hx ht captions (by omega) late]
        exact ⟨rfl, x.captions, hx, fun _ => captions⟩

end Proceed

/-! ## A caption is sent (R113) -/

theorem exec_captionSent {s : State} {k : Packet} (h : s.lane.inFlight = some k)
    (hk : (∃ i l1 l2, k = .captionCell i l1 l2) ∨ ∃ r ls, k = .captionRow r ls) :
    exec .captionSent s = .next (s.captionSent k) := by
  show execCaptionSent s = _
  rcases hk with ⟨i, l1, l2, rfl⟩ | ⟨r, ls, rfl⟩ <;> rw [execCaptionSent, h]

theorem captionSent_cut {s : State} (k : Packet) (h : s.comp.cut = true) : s.captionSent k = s.sentPacket k :=
  unlessCut_cut _ h

theorem captionSent_uncut {s : State} (k : Packet) (h : s.comp.cut = false) :
    s.captionSent k = (s.sentPacket k).proceed := unlessCut_uncut _ h

/-! ## A band is sent (R75, R105) -/

/-- R75: the state when the sent band is counted and the references it ends are gone. -/
def counted (s : State) (p : Packet) (x : Held) (b past : Nat) : State :=
  ((s.sentPacket p).countBand x ((s.sentPacket p).dueAfter x b)).releaseRefs past

theorem exec_bandSent {s : State} {b first n : Nat} {raster : List Byte}
    (h : s.lane.inFlight = some (.band b first n raster)) :
    exec .bandSent s = .next (s.bandSent (.band b first n raster) b (first + n)) := by
  show execBandSent s = _
  rw [execBandSent, h]

theorem bandSent_eq {s : State} {x : Held} (p : Packet) (b past : Nat) (hx : s.comp.held = some x) :
    s.bandSent p b past = (counted s p x b past).unlessCut State.afterBand := by
  have held : (s.sentPacket p).comp.held = some x := hx
  simp only [State.bandSent, held]
  rfl

/-- What the count and the releases leave of the page and of the slots. -/
theorem counted_spec (s : State) (x : Held) (p : Packet) (b past : Nat) :
    ∃ z, (counted s p x b past).comp.held = some z ∧
      z = { x with
        bandsSent := x.bandsSent + 1, captions := (s.sentPacket p).dueAfter x b, cells := z.cells } ∧
      counted s p x b past = { s with
        comp := { s.comp with
          held := some z, state := if x.bandsSent + 1 < x.bandCount then s.comp.state else .closing },
        tiles := { s.tiles with
          slots := (counted s p x b past).tiles.slots, fillOrder := (counted s p x b past).tiles.fillOrder },
        fetch := { s.fetch with list := (counted s p x b past).fetch.list },
        lane := { s.lane with inFlight := none, sent := s.lane.sent ++ [p] } } ∧
      (∀ (i : Nat) c, x.cells[i]? = some c →
        z.cells[i]? = some (if c.endsAbove past then { c with ref := false } else c)) ∧
      (∀ (k : Nat) sl, s.tiles.slots[k]? = some sl → ∃ w, (counted s p x b past).tiles.slots[k]? = some w ∧
        ∀ r, r ∈ w.refs ↔ r ∈ sl.refs ∧
          ∀ (i : Nat) c, r = .composing i → x.cells[i]? = some c → c.endsAbove past = false) ∧
      (∀ (i : Nat) c, x.cells[i]? = some c → c.endsAbove past = true → unreferenced (counted s p x b past) i) := by
  obtain ⟨z, comp, same, touches, cells, slots, gone⟩ := releaseRefs_spec
    ((s.sentPacket p).countBand x ((s.sentPacket p).dueAfter x b)) past _ rfl
  refine ⟨z, by rw [counted, comp], same, ?_, cells, slots, gone⟩
  rw [comp] at touches
  exact touches

theorem endsAbove_iff (past : Nat) (c : Cell) :
    c.endsAbove past = true ↔ c.ref = true ∧ c.cls = some .portrait ∧ c.last < past := by
  simp [Cell.endsAbove, and_assoc]

theorem dueAfter_kept {s : State} {x : Held} (b : Nat)
    (h : s.comp.cut = true ∨ s.roster.templates[x.template]? = none) : s.dueAfter x b = x.captions := by
  unfold State.dueAfter
  rcases h with h | h
  · exact if_pos h
  · have template : s.templateOf x = none := h
    rw [template]
    exact ite_self _

theorem dueAfter_captions {s : State} {x : Held} {t : Template} (b : Nat) (hc : s.comp.cut = false)
    (ht : s.roster.templates[x.template]? = some t) : s.dueAfter x b = captionsDue x t b := by
  have template : s.templateOf x = some t := ht
  rw [State.dueAfter, if_neg (by simp [hc]), template]

theorem afterBand_eq {s : State} {x : Held} (hx : s.comp.held = some x) : s.afterBand =
    (if x.bandsSent < x.bandCount then s.startBand x.bandsSent else s).proceed := by
  simp only [State.afterBand, hx]

theorem startBand_untold {s : State} {x : Held} (b : Nat) (hx : s.comp.held = some x)
    (ht : s.roster.templates[x.template]? = none) : s.startBand b = s := by
  have template : s.templateOf x = none := ht
  simp only [State.startBand, hx, template]

theorem afterBand_untold {s : State} {x : Held} (hx : s.comp.held = some x)
    (ht : s.roster.templates[x.template]? = none) : s.afterBand = s := by
  rw [afterBand_eq hx, startBand_untold _ hx ht, ite_self, proceed_untold hx ht]

/-- The state in which the next packet is looked for: the next band is begun if there is one. -/
def begun (v : State) (z : Held) : State := if z.bandsSent < z.bandCount then v.startBand z.bandsSent else v

/-- R72, R75: what beginning the next band, if there is one, makes of the page just counted. -/
theorem begun_spec {v : State} {z : Held} {t : Template} (hz : v.comp.held = some z)
    (ht : v.roster.templates[z.template]? = some t) :
    ∃ y, (begun v z).comp.held = some y ∧
      y = { z with band := y.band, reach := y.reach, late := y.late, tallies := y.tallies, cells := y.cells } ∧
      (begun v z).roster = v.roster ∧ (begun v z).lane = v.lane ∧
      (z.bandsSent < z.bandCount → y.band = z.bandsSent ∧ y.reach = t.reachOf z.bandsSent ∧
        (begun v z).bandPrepared y t) ∧
      (z.bandCount ≤ z.bandsSent → begun v z = v ∧ y = z) ∧
      ∀ (i : Nat) c, z.cells[i]? = some c → c.taken = true → c.ref = false → unreferenced v i →
        (∃ d, y.cells[i]? = some d ∧ d.ref = false) ∧ unreferenced (begun v z) i := by
  by_cases more : z.bandsSent < z.bandCount
  · rw [begun, if_pos more]
    obtain ⟨y, held, same, touches, -, prepared, cells⟩ := startBand_spec v z t z.bandsSent hz ht
    refine ⟨y, held, ?_, by rw [touches], by rw [touches], fun _ => ⟨by rw [same], by rw [same], prepared⟩,
      fun h => absurd more (Nat.not_lt.mpr h), ?_⟩
    · rw [same]
    · intro i c hc taken ref free
      obtain ⟨d, hd, -, -, -, stays⟩ := cells i c hc
      exact ⟨⟨d, hd, stays taken ref⟩, startBand_unreferenced _ ⟨⟨z, c, hz, hc, taken⟩, free⟩⟩
  · rw [begun, if_neg more]
    exact ⟨z, hz, rfl, rfl, rfl, fun h => absurd h more, fun _ => ⟨rfl, rfl⟩, fun i c hc _ ref free => ⟨⟨c, hc, ref⟩, free⟩⟩

section Sent

variable {s : State} {x : Held} (p : Packet) (b past : Nat) (hx : s.comp.held = some x)

include hx

/-- A cut page, or one without a template, goes no further. -/
theorem bandSent_stops (h : s.comp.cut = true ∨ s.roster.templates[x.template]? = none) :
    s.bandSent p b past = counted s p x b past := by
  obtain ⟨z, held, same, touches, -⟩ := counted_spec s x p b past
  rw [bandSent_eq p b past hx]
  cases hc : s.comp.cut with
  | true => exact unlessCut_cut _ (by rw [touches]; exact hc)
  | false =>
    refine (unlessCut_uncut _ (by rw [touches]; exact hc)).trans (afterBand_untold held ?_)
    rw [touches, same]
    exact h.resolve_left (by simp [hc])

theorem bandSent_goes {t : Template} (hc : s.comp.cut = false) (ht : s.roster.templates[x.template]? = some t) :
    ∃ w y, s.bandSent p b past = State.proceed w ∧ w.comp.held = some y ∧
      y = { x with
        bandsSent := x.bandsSent + 1, captions := captionsDue x t b, band := y.band, reach := y.reach,
        late := y.late, tallies := y.tallies, cells := y.cells } ∧
      w.roster = s.roster ∧ w.lane = { s.lane with inFlight := none, sent := s.lane.sent ++ [p] } ∧
      (x.bandsSent + 1 < x.bandCount → y.band = x.bandsSent + 1 ∧ y.reach = t.reachOf (x.bandsSent + 1) ∧
        w.bandPrepared y t) ∧
      (x.bandCount ≤ x.bandsSent + 1 → w.comp.state = .closing ∧ y.late = x.late) ∧
      ∀ (i : Nat) c, x.cells[i]? = some c → c.endsAbove past = true → c.taken = true →
        (∃ d, y.cells[i]? = some d ∧ d.ref = false) ∧ unreferenced w i := by
  obtain ⟨z, held, same, touches, cells, -, gone⟩ := counted_spec s x p b past
  have due : (s.sentPacket p).dueAfter x b = captionsDue x t b := dueAfter_captions b hc ht
  have template : (counted s p x b past).roster.templates[z.template]? = some t := by
    rw [touches, same]
    exact ht
  obtain ⟨y, heldY, sameY, roster, lane, next, last, released⟩ := begun_spec held template
  have sent : z.bandsSent = x.bandsSent + 1 := by rw [same]
  have count : z.bandCount = x.bandCount := by rw [same]
  rw [sent, count] at next last
  refine ⟨begun (counted s p x b past) z, y, ?_, heldY, ?_, ?_, ?_, next, fun h => ?_, fun i c hi ends taken => ?_⟩
  · rw [bandSent_eq p b past hx, unlessCut_uncut _ (by rw [touches]; exact hc), afterBand_eq held, begun]
  · rw [same, due] at sameY
    exact sameY
  · rw [roster, touches]
  · rw [lane, touches]
  · obtain ⟨unchanged, rfl⟩ := last h
    rw [unchanged]
    refine ⟨?_, by rw [same]⟩
    rw [touches]
    exact if_neg (Nat.not_lt.mpr h)
  · refine released i _ (cells i c hi) ?_ ?_ (gone i c hi ends)
    · rw [if_pos ends]
      exact taken
    · rw [if_pos ends]

end Sent

end Sys2Proof.AfterBand
end

section
/-! PROOFS. The page's geometry, a band's raster, and the captions it brings due (R74, R77, R78, R112). -/

namespace Sys2Proof.BandRaster

open Sys2Proof Sys2Proof.Machine Sys2Proof.Laws Sys2Proof.Opening

/-! ## The lines of a cell and of a band (R71) -/

theorem cellTop_eq (t : Template) (i : Nat) :
    t.cellTop i = t.titleH + t.vGutter + i / t.columns * (t.cellH + t.captionH + t.vGutter) := rfl

theorem cellLast_eq (t : Template) (i : Nat) : t.cellLast i = t.cellTop i + t.cellH - 1 := rfl

theorem bandLast_eq (t : Template) (b : Nat) : t.bandLast b = min (64 * b + 63) (t.pageH - 1) := rfl

theorem neededBy_iff {t : Template} {b i : Nat} (hh : 1 ≤ t.cellH) (hb : 64 * b < t.pageH) :
    t.neededBy b i = true ↔ ∃ line, t.cellTop i ≤ line ∧ line < t.cellTop i + t.cellH ∧ 64 * b ≤ line ∧
      line < 64 * b + 64 ∧ line < t.pageH := by
  have needed : t.neededBy b i = true ↔ t.cellTop i ≤ t.bandLast b ∧ 64 * b ≤ t.cellLast i := by
    rw [Template.neededBy, Bool.and_eq_true, decide_eq_true_eq, decide_eq_true_eq]
    rfl
  rw [needed, bandLast_eq, cellLast_eq]
  constructor
  · rintro ⟨starts, ends⟩
    exact ⟨max (64 * b) (t.cellTop i), by omega⟩
  · rintro ⟨line, h⟩
    omega

/-! ## The cell a pixel lies in (R77) -/

/-- The pixel in column u of line y lies in that cell. -/
def inside (t : Template) (i u y : Nat) : Prop :=
  t.cellLeft i ≤ u ∧ u < t.cellLeft i + t.cellW ∧ t.cellTop i ≤ y ∧ y < t.cellTop i + t.cellH

/-- Spans of one size, each a gutter or more beyond the last, are disjoint. -/
theorem span_unique {a b base size gap u : Nat} (ha : base + a * (size + gap) ≤ u)
    (ha' : u < base + a * (size + gap) + size) (hb : base + b * (size + gap) ≤ u)
    (hb' : u < base + b * (size + gap) + size) : a = b := by
  have apart : ∀ {m n : Nat}, m < n → base + m * (size + gap) + size ≤ base + n * (size + gap) := by
    intro m n h
    calc base + m * (size + gap) + size ≤ base + (m + 1) * (size + gap) := by rw [Nat.succ_mul]; omega
      _ ≤ base + n * (size + gap) := Nat.add_le_add_left (Nat.mul_le_mul_right _ h) _
  rcases Nat.lt_trichotomy a b with h | h | h
  · have := apart h
    omega
  · exact h
  · have := apart h
    omega

theorem inside_unique {t : Template} {i j u y : Nat} (hi : inside t i u y) (hj : inside t j u y) : i = j := by
  obtain ⟨li, ri, ti, bi⟩ := hi
  obtain ⟨lj, rj, tj, bj⟩ := hj
  have column : i % t.columns = j % t.columns := span_unique li ri lj rj
  rw [cellTop_eq, Nat.add_assoc t.cellH] at ti bi tj bj
  have row : i / t.columns = j / t.columns := span_unique ti bi tj bj
  rw [← Nat.div_add_mod i t.columns, ← Nat.div_add_mod j t.columns, column, row]

theorem cellAt_iff (t : Template) (n u y i : Nat) : Template.cellAt t n u y = some i ↔ i < n ∧ inside t i u y := by
  have found : ∀ j, (decide (t.cellLeft j ≤ u) && decide (u < t.cellLeft j + t.cellW) && decide (t.cellTop j ≤ y) &&
      decide (y < t.cellTop j + t.cellH)) = true ↔ inside t j u y := by
    intro j
    simp [inside, and_assoc]
  unfold Template.cellAt
  constructor
  · intro h
    have hit := List.find?_some h
    exact ⟨List.mem_range.mp (List.mem_of_find?_eq_some h), (found i).mp hit⟩
  · rintro ⟨hn, hi⟩
    cases h : (List.range n).find? (fun j => decide (t.cellLeft j ≤ u) && decide (u < t.cellLeft j + t.cellW) &&
        decide (t.cellTop j ≤ y) && decide (y < t.cellTop j + t.cellH)) with
    | none => exact absurd ((found i).mpr hi) (List.find?_eq_none.mp h i (List.mem_range.mpr hn))
    | some j =>
      have hit := List.find?_some h
      rw [inside_unique ((found j).mp hit) hi]

theorem readyFor_only {tl : Tiles} {i n pw ph : Nat} {pid : Id32} {refs : List Ref}
    (hs : tl.slots[n]? = some (.ready pid pw ph refs)) (hr : Ref.composing i ∈ refs)
    (only : ∀ (m : Nat) sl, tl.slots[m]? = some sl → Ref.composing i ∈ sl.refs → m = n) :
    tl.readyFor i = some (n, pw, ph) := by
  have here : refs.contains (Ref.composing i) = true := by simpa using hr
  cases h : tl.readyFor i with
  | none =>
    have missed := List.findSome?_eq_none_iff.mp h n (List.mem_range.mpr (List.getElem?_eq_some_iff.mp hs).1)
    simp [hs, hr] at missed
  | some r =>
    obtain ⟨m, -, found⟩ := List.exists_of_findSome?_eq_some h
    split at found
    · rename_i pid' w k rs hm
      split at found
      · rename_i has
        obtain rfl : m = n := only m _ hm (by simpa [Slot.refs] using has)
        rw [hs] at hm
        cases hm
        exact found.symm
      · cases found
    · cases found

/-! ## A pixel of the page (R74, R77, R78, R97) -/

section Pixel

variable {s : State} {x : Held} {t : Template} {u y : Nat}

theorem pagePixel_placed {i n pw ph : Nat} {c : Cell} {p : Placement} (hc : x.cells[i]? = some c) (hi : inside t i u y)
    (hp : c.place = some p) (hr : s.tiles.readyFor i = some (n, pw, ph)) : s.pagePixel x t u y =
      outputPixel { dram := s.tiles.dram, slot := n, width := pw } p t.cellW t.cellH
        (u - t.cellLeft i) (y - t.cellTop i) := by
  have cell := (cellAt_iff t x.cells.length u y i).mpr ⟨(List.getElem?_eq_some_iff.mp hc).1, hi⟩
  simp only [State.pagePixel, cell, hc, Option.bind_some, hp, hr]

theorem pagePixel_blank (h : ∀ (i : Nat) c, x.cells[i]? = some c → inside t i u y → c.place = none) :
    s.pagePixel x t u y = blankPixel := by
  cases cell : Template.cellAt t x.cells.length u y with
  | none => simp only [State.pagePixel, cell]
  | some i =>
    obtain ⟨lt, hi⟩ := (cellAt_iff t x.cells.length u y i).mp cell
    have hc := List.getElem?_eq_getElem lt
    simp only [State.pagePixel, cell, hc, Option.bind_some, h i _ hc hi]

theorem pagePixel_length (s : State) (x : Held) (t : Template) (u y : Nat) : (s.pagePixel x t u y).length = 3 := by
  unfold State.pagePixel
  split
  · rfl
  · split
    · simp [outputPixel]
    · rfl

end Pixel

theorem blankPixel_get {k : Nat} (hk : k < 3) : blankPixel[k]? = some 255#8 := by
  match k, hk with
  | 0, _ => rfl
  | 1, _ => rfl
  | 2, _ => rfl

theorem outputPixel_get (r : Raster) (p : Placement) (cellW cellH u v : Nat) {k : Nat} (hk : k < 3) :
    (outputPixel r p cellW cellH u v)[k]? = some (BitVec.ofNat 8
      (min 255 (resampled r p.window cellW cellH (if p.mirror then cellW - 1 - u else u) v k * p.gain / 16))) := by
  rw [outputPixel, List.getElem?_map, List.getElem?_range hk]
  rfl

/-! ## The raster of a band (R74, R117) -/

theorem bandRaster_length (s : State) (x : Held) (t : Template) (b : Nat) :
    (s.bandRaster x t b).length = min 64 (t.pageH - 64 * b) * t.pageW * 3 := by
  have line : ∀ v, ((List.range t.pageW).flatMap (fun u => s.pagePixel x t u (64 * b + v))).length = t.pageW * 3 :=
    fun v => flatMap_length (fun u _ => pagePixel_length s x t u (64 * b + v))
  rw [Nat.mul_assoc]
  exact flatMap_length (fun v _ => line v)

theorem bandRaster_get (s : State) (x : Held) (t : Template) (b : Nat) {u v k : Nat} (hu : u < t.pageW)
    (hv : v < min 64 (t.pageH - 64 * b)) (hk : k < 3) :
    (s.bandRaster x t b)[(v * t.pageW + u) * 3 + k]? = (s.pagePixel x t u (64 * b + v))[k]? := by
  have line : ∀ v, ((List.range t.pageW).flatMap (fun u => s.pagePixel x t u (64 * b + v))).length = t.pageW * 3 :=
    fun v => flatMap_length (fun u _ => pagePixel_length s x t u (64 * b + v))
  have place : (v * t.pageW + u) * 3 + k = v * (t.pageW * 3) + (u * 3 + k) := by ring
  have within : u * 3 + k < t.pageW * 3 := by omega
  rw [place]
  exact (flatMap_get (fun v _ => line v) hv within).trans
    (flatMap_get (fun u _ => pagePixel_length s x t u (64 * b + v)) hu hk)

/-! ## The captions due (R112) -/

theorem captioned_iff (c : Cell) : c.captioned = true ↔ c.cls = some .placeholder ∨ c.cls = some .portrait := by
  simp [Cell.captioned]

/-- The cell lies in that row and has a caption. -/
def captionedIn (x : Held) (t : Template) (i r : Nat) : Prop :=
  i / t.columns = r ∧ ∃ c, x.cells[i]? = some c ∧ (c.cls = some .placeholder ∨ c.cls = some .portrait)

theorem mem_captionedCells (x : Held) (t : Template) (i r : Nat) :
    i ∈ captionedCells x t r ↔ captionedIn x t i r := by
  rw [captionedCells, List.mem_filter, Bool.and_eq_true, decide_eq_true_eq, List.mem_range]
  constructor
  · rintro ⟨lt, row, has⟩
    rw [List.getElem?_eq_getElem lt] at has
    exact ⟨row, _, List.getElem?_eq_getElem lt, (captioned_iff _).mp has⟩
  · rintro ⟨row, c, hc, has⟩
    rw [hc]
    exact ⟨(List.getElem?_eq_some_iff.mp hc).1, row, (captioned_iff c).mpr has⟩

theorem captionedCells_ascending (x : Held) (t : Template) (r : Nat) :
    (captionedCells x t r).Pairwise (fun i j => i < j) := List.pairwise_lt_range.filter _

/-- R112: the rows whose first caption line the band reaches. -/
def dueRows (t : Template) (b : Nat) : List Nat := (List.range t.rows).filter (fun r =>
  decide (bandFirst b ≤ t.captionTop r) && decide (t.captionTop r ≤ t.bandLast b))

theorem mem_dueRows (t : Template) (b r : Nat) : r ∈ dueRows t b ↔
    r < t.rows ∧ 64 * b ≤ t.captionTop r ∧ t.captionTop r ≤ min (64 * b + 63) (t.pageH - 1) := by
  rw [dueRows, List.mem_filter, List.mem_range, Bool.and_eq_true, decide_eq_true_eq, decide_eq_true_eq]
  rfl

theorem dueRows_ascending (t : Template) (b : Nat) : (dueRows t b).Pairwise (fun r q => r < q) :=
  List.pairwise_lt_range.filter _

theorem captionsDue_eq (x : Held) (t : Template) (b : Nat) :
    captionsDue x t b = (dueRows t b).flatMap (rowCaptions x t) := rfl

theorem captionsDue_cells {x : Held} {t : Template} (b : Nat) (h : t.caption = 0) :
    captionsDue x t b = ((dueRows t b).flatMap (captionedCells x t)).map .cell := by
  rw [captionsDue_eq, List.map_flatMap]
  exact List.flatMap_congr (fun r _ => if_pos h)

theorem dueCells_ascending (x : Held) (t : Template) (b : Nat) :
    ((dueRows t b).flatMap (captionedCells x t)).Pairwise (fun i j => i < j) := by
  refine List.pairwise_flatMap.mpr ⟨fun r _ => captionedCells_ascending x t r, ?_⟩
  refine (dueRows_ascending t b).imp (fun {r q} lt i hi j hj => ?_)
  obtain ⟨rowI, -⟩ := (mem_captionedCells x t i r).mp hi
  obtain ⟨rowJ, -⟩ := (mem_captionedCells x t j q).mp hj
  by_contra le
  have := Nat.div_le_div_right (c := t.columns) (Nat.not_lt.mp le)
  omega

theorem captionsDue_rows {x : Held} {t : Template} (b : Nat) (h : t.caption ≠ 0) :
    captionsDue x t b = ((dueRows t b).filter (fun r => !(captionedCells x t r).isEmpty)).map .row := by
  rw [captionsDue_eq]
  induction dueRows t b with
  | nil => rfl
  | cons r rest ih =>
    have row : rowCaptions x t r = if (captionedCells x t r).isEmpty then [] else [.row r] := if_neg h
    rw [List.flatMap_cons, row, ih, List.filter_cons]
    cases (captionedCells x t r).isEmpty <;> rfl

theorem captioned_row_iff (x : Held) (t : Template) (r : Nat) :
    (!(captionedCells x t r).isEmpty) = true ↔ ∃ i, captionedIn x t i r := by
  rw [Bool.not_eq_true', List.isEmpty_eq_false_iff_exists_mem]
  exact exists_congr (fun i => mem_captionedCells x t i r)

end Sys2Proof.BandRaster
end

section
/-! PROOFS. Bands and captions go on (R71 to R75, R77, R105, R112, R113). -/

namespace Sys2Proof.BandsGoOn

open Sys2Proof Sys2Proof.Machine Sys2Proof.Laws Sys2Proof.Opening Sys2Proof.AfterBand Sys2Proof.BandRaster

section Lines

variable {s : State} {x : Held} {i : Nat}

theorem lines_eq {y : Subject} (h : s.cellSubject x i = some y) : s.line1Of x i = y.line1 ∧ s.line2Of x i = y.line2 := by
  simp only [State.line1Of, State.line2Of, h, and_self]

end Lines

/-- The caption packet reads the plan and the page's cells alone. -/
theorem captionPacket_congr {w u : State} (y : Held) (l : List CaptionDue) (t : Template) (d : CaptionDue)
    (h : u.roster = w.roster) : u.captionPacket { y with captions := l } t d = w.captionPacket y t d := by
  have subject : ∀ i, u.cellSubject { y with captions := l } i = w.cellSubject y i := by
    intro i
    simp only [State.cellSubject, h]
  have first : u.line1Of { y with captions := l } = w.line1Of y := by
    funext i
    simp only [State.line1Of, subject]
  have second : u.line2Of { y with captions := l } = w.line2Of y := by
    funext i
    simp only [State.line2Of, subject]
  cases d with
  | cell i => rw [State.captionPacket, State.captionPacket, first, second]
  | row r =>
    rw [State.captionPacket, State.captionPacket, first]
    rfl

/-- R105: what the lane carries and the page holds after a band or caption, by what is left. -/
theorem proceed_lane {w : State} {y : Held} {t : Template} (hy : w.comp.held = some y)
    (ht : w.roster.templates[y.template]? = some t) :
    (∀ d rest, y.captions = d :: rest → w.proceed.comp.held = some { y with captions := rest } ∧
      w.proceed.lane = { w.lane with inFlight := some (w.captionPacket y t d) }) ∧
    (y.captions = [] → w.proceed.comp.held = some y) ∧
    (y.bandsSent < y.bandCount → w.bandPrepared y t →
      w.proceed.bandPrepared y t ∧ (y.captions = [] → w.proceed.bandHanded y t w.lane)) ∧
    (y.bandCount ≤ y.bandsSent → w.proceed.comp.state = w.comp.state ∧
      (y.captions = [] → y.late = false → w.proceed.fetch.wants = [] ∧
        w.proceed.lane = { w.lane with inFlight := some (.pageClose false y.bandsSent) }) ∧
      (y.captions = [] → y.late = true → w.proceed.comp.cut = true ∧ w.proceed.lane = w.lane)) := by
  cases captions : y.captions with
  | cons d rest =>
    rw [proceed_caption hy ht captions]
    refine ⟨fun d' rest' h => ?_, nofun, fun _ prepared => ⟨prepared, nofun⟩, fun _ => ⟨rfl, nofun, nofun⟩⟩
    cases h
    exact ⟨rfl, rfl⟩
  | nil =>
    refine ⟨nofun, fun _ => ?_, fun more prepared => ?_, fun last => ?_⟩
    · obtain ⟨-, l, held, same⟩ := proceed_keeps hy ht
      rw [held, same captions]
    · rw [proceed_ready hy ht captions more]
      obtain ⟨-, -, handed⟩ := handReady_spec w y t hy ht prepared
      exact ⟨handed.1, fun _ => handed⟩
    · rcases Bool.eq_false_or_eq_true y.late with late | late
      · rw [proceed_late hy ht captions last late]
        exact ⟨rfl, fun _ h => absurd (late.symm.trans h) nofun, fun _ _ => ⟨rfl, rfl⟩⟩
      · rw [proceed_close hy ht captions last late]
        exact ⟨rfl, fun _ _ => ⟨rfl, rfl⟩, fun _ h => absurd (late.symm.trans h) nofun⟩

end Sys2Proof.BandsGoOn

open Sys2Proof Sys2Proof.Machine Sys2Proof.Laws Sys2Proof.BandSteps Sys2Proof.AfterBand Sys2Proof.BandRaster
  Sys2Proof.BandsGoOn Sys2Proof.Opening

/-- Settles O48: the needed cells are placed in turn, a band begins with the references due, a sent band ends the
references above its last line before the next begins, and captions go before the next band or the close. -/
theorem bandsAndCaptionsGoOn : Obligations.BandsAndCaptionsGoOn := by
  unfold Obligations.BandsAndCaptionsGoOn
  refine ⟨fun s x t hx => ⟨fun ht => placeBand_eq hx ht, rfl, fun i rest c hc =>
      ⟨placeCells_classed rest hx hc, fun p => placeCells_places rest hx hc, placeCells_stops rest hx hc⟩⟩,
    fun s x t hx ht => ⟨fun b => ?_, fun b => beginBand_ready hx ht, resume_spec hx ht, resume_idle⟩,
    fun s x b first n raster hf hx => ?_, fun s x t k hx ht hf hk => ?_,
    fun t i b => ⟨rfl, rfl, rfl, rfl, neededBy_iff⟩, fun s x t b => ⟨bandRaster_length s x t b, fun u v k hu hv hk => ?_⟩,
    fun s x t b => ⟨fun plain => ?_, fun rows => ?_, fun r => ⟨captionedCells_ascending x t r, fun i => mem_captionedCells x t i r⟩,
      fun i c j y hc hj hy => lines_eq ((cellSubject_iff s x i y).mpr ⟨c, j, hc, hj, hy⟩)⟩⟩
  · obtain ⟨y, held, same, handed, touches, cells⟩ := beginBand_spec b hx ht
    refine ⟨_, y, rfl, held, by rw [same], by rw [same]; rfl, by rw [same], by rw [same], by rw [same], by rw [same], cells,
      handed, by rw [touches], by rw [touches], by rw [touches]⟩
  · have next := exec_bandSent hf
    have nextFor := fun ro : Roster => exec_bandSent (s := { s with roster := ro }) hf
    generalize Packet.band b first n raster = p at next nextFor ⊢
    intro lane ends
    by_cases stops : s.comp.cut = true ∨ s.roster.templates[x.template]? = none
    · obtain ⟨z, held, same, touches, cells, slots, gone⟩ := counted_spec s x p b (first + n)
      have stay := bandSent_stops p b (first + n) hx stops
      have due : (s.sentPacket p).dueAfter x b = x.captions := dueAfter_kept b stops
      rw [due] at same
      rw [stay] at next
      refine ⟨_, z, next, held, by rw [same], by rw [same], by rw [same], by rw [touches], by rw [touches],
        by rw [touches], by rw [touches], by rw [touches], fun i c hc he _ => ?_, fun _ => ⟨same, touches, ?_, ?_⟩,
        fun cut ro => ?_, fun t uncut ht => ?_⟩
      · have above := (endsAbove_iff (first + n) c).mpr he
        exact ⟨⟨_, cells i c hc, by rw [if_pos above]⟩, gone i c hc above⟩
      · intro i c hc
        have cell := cells i c hc
        refine ⟨fun he => ?_, fun he => ?_⟩
        · rw [cell, if_pos ((endsAbove_iff _ c).mpr he)]
        · rw [cell, if_neg (fun h => he ((endsAbove_iff _ c).mp h))]
      · intro k sl hk
        obtain ⟨w, hw, refs⟩ := slots k sl hk
        refine ⟨w, hw, fun r => (refs r).trans (and_congr_right' ?_)⟩
        refine forall₄_congr (fun i c _ _ => ?_)
        rw [← Bool.not_eq_true, endsAbove_iff]
      · rw [nextFor ro, bandSent_reads_no_plan s p b (first + n) ro cut, stay]
      · simp [uncut, ht] at stops
    · obtain ⟨uncut, told⟩ := not_or.mp stops
      obtain ⟨t, ht⟩ := Option.ne_none_iff_exists'.mp told
      obtain ⟨w, y, goes, held, same, roster, lanes, more, last, released⟩ :=
        bandSent_goes p b (first + n) hx (by simpa using uncut) ht
      have template : w.roster.templates[y.template]? = some t := by
        rw [roster, same]
        exact ht
      obtain ⟨tiles, l, heldL, kept⟩ := proceed_keeps held template
      obtain ⟨caption, -, band, close⟩ := proceed_lane held template
      obtain ⟨-, -, -, -, rosterU, board, claims, -, -, port, fault, -⟩ := bandSent_frame s p b (first + n)
      rw [goes] at next rosterU board claims port fault
      refine ⟨_, { y with captions := l }, next, heldL, by rw [same], by rw [same], by rw [same], claims, rosterU, board,
        port, fault, fun i c hc he taken => ?_, fun h => absurd h stops, fun h => absurd h uncut, fun t' _ ht' => ?_⟩
      · obtain ⟨cell, free⟩ := released i c hc ((endsAbove_iff _ c).mpr he) taken
        exact ⟨cell, by rw [tiles]; exact free⟩
      · obtain rfl : t = t' := Option.some.inj (ht.symm.trans ht')
        have sent : y.bandsSent = x.bandsSent + 1 := by rw [same]
        have count : y.bandCount = x.bandCount := by rw [same]
        have due : y.captions = captionsDue x t b := by rw [same]
        rw [due] at caption kept band close
        rw [sent, count] at band close
        rw [lanes] at caption band close
        refine ⟨fun h => ?_, fun d rest h => ?_, fun h => ?_⟩
        · obtain ⟨number, reach, prepared⟩ := more h
          obtain ⟨preparedU, handed⟩ := band h prepared
          refine ⟨number, ?_, preparedU, handed⟩
          rw [number]
          exact reach
        · obtain ⟨heldRest, laneU⟩ := caption d rest h
          have rest : l = rest := congrArg Held.captions (Option.some.inj (heldL.symm.trans heldRest))
          refine ⟨rest, ?_⟩
          rw [laneU, ← captionPacket_congr y l t d (proceed_frame w).2.2.2.2.1]
          cases d <;> rfl
        · obtain ⟨closing, late⟩ := last h
          obtain ⟨state, closes, cuts⟩ := close h
          rw [late] at closes cuts
          exact ⟨state.trans closing, closes, cuts⟩
  · intro lane
    have cut := fun h => (exec_captionSent hf hk).trans (congrArg Host.Outcome.next (captionSent_cut k h))
    have uncut := fun h => (exec_captionSent hf hk).trans (congrArg Host.Outcome.next (captionSent_uncut k h))
    have held : (s.sentPacket k).comp.held = some x := hx
    have template : (s.sentPacket k).roster.templates[x.template]? = some t := ht
    refine ⟨cut, fun d rest h due => ?_, fun h none more waits => ?_, fun h none more ready => ?_,
      fun h none last late => ?_, fun h none last late => ?_⟩
    · rw [uncut h, proceed_caption held template due]
      cases d <;> rfl
    · rw [uncut h, proceed_ready held template none more, handReady_waits held template waits]
      rfl
    · rw [uncut h, proceed_ready held template none more, handReady_hands held template ready]
      rfl
    · rw [uncut h, proceed_close held template none last late]
      rfl
    · rw [uncut h, proceed_late held template none last late]
      rfl
  · intro value
    have pixel : value = (s.pagePixel x t u (64 * b + v))[k]? := bandRaster_get s x t b hu hv hk
    rw [pixel]
    refine ⟨fun blank => ?_, fun i n c p pid pw ph refs hc hi hp hs hr only => ?_⟩
    · rw [pagePixel_blank blank]
      exact blankPixel_get hk
    · rw [pagePixel_placed hc hi hp (readyFor_only hs hr only)]
      exact outputPixel_get _ _ _ _ _ _ hk
  · refine ⟨_, captionsDue_cells b plain, dueCells_ascending x t b, fun i => ?_⟩
    simp only [List.mem_flatMap, mem_dueRows, mem_captionedCells]
    rfl
  · refine ⟨_, captionsDue_rows b rows, (dueRows_ascending t b).filter _, fun r => ?_⟩
    rw [List.mem_filter, mem_dueRows, captioned_row_iff]
    rfl
end

section
/-! PROOFS. An ASK is answered by a run (R150, R151). -/

namespace Sys2Proof.Asking

open Sys2Proof Sys2Proof.Machine Sys2Proof.Laws Sys2Proof.Bus Sys2Proof.Hearing Sys2Proof.Afterwards Sys2Proof.JoinLeave

/-! ## The frames of a run (R139, R151) -/

theorem holdAllButLast_frames (l : List Frame) : (holdAllButLast l).map (fun x => x.2) = l := by
  induction l using holdAllButLast.induct with
  | case1 => rfl
  | case2 f => rfl
  | case3 f g fs ih => rw [holdAllButLast, List.map_cons, ih]

theorem holdAllButLast_hold (l : List Frame) (k : Nat) {x : Bool × Frame} (h : (holdAllButLast l)[k]? = some x) :
    x.1 = decide (k + 1 < l.length) := by
  induction l using holdAllButLast.induct generalizing k with
  | case1 => cases h
  | case2 f =>
    cases k with
    | zero =>
      cases h
      rfl
    | succ k => cases h
  | case3 f g fs ih =>
    cases k with
    | zero =>
      cases h
      simp
    | succ k =>
      rw [ih k h]
      simp

theorem runFrames_short {s : State} {r : Replica} (hr : s.board.replica = some r) (requester : Nat) :
    s.runFrames requester false = [(false, s.snapHeadFor requester r)] := by
  simp only [State.runFrames, hr, Bool.false_eq_true, if_false]

/-- R151: the frames of a full run. -/
def fullRun (s : State) (requester : Nat) (r : Replica) : List Frame :=
  s.snapHeadFor requester r :: (snapPagesFrames requester r.entries ++ snapAmendFrames requester s.pool)

theorem runFrames_full {s : State} {r : Replica} (hr : s.board.replica = some r) (requester : Nat) :
    s.runFrames requester true = holdAllButLast (fullRun s requester r) := by
  simp only [State.runFrames, hr, if_true]
  rfl

theorem snapPagesFrames_length (requester : Nat) (es : List Entry) :
    (snapPagesFrames requester es).length = (es.length + 7) / 8 := by
  simp [snapPagesFrames, ceilDiv]

theorem fullRun_length (s : State) (requester : Nat) (r : Replica) :
    (fullRun s requester r).length = 1 + (r.entries.length + 7) / 8 + s.pool.length := by
  rw [fullRun, List.length_cons, List.length_append, snapPagesFrames_length, snapAmendFrames, List.length_mapIdx]
  omega

theorem fullRun_pages (s : State) (requester : Nat) (r : Replica) {k : Nat} (hk : k < (r.entries.length + 7) / 8) :
    (fullRun s requester r)[1 + k]? = some (.snapPages requester k (pageGroup r.entries k)) := by
  have length := snapPagesFrames_length requester r.entries
  rw [fullRun, Nat.add_comm 1 k, List.getElem?_cons_succ, List.getElem?_append_left (by omega), snapPagesFrames,
    List.getElem?_map, List.getElem?_range (by simpa [ceilDiv] using hk)]
  rfl

theorem fullRun_records (s : State) (requester : Nat) (r : Replica) {k : Nat} {a : Amendment} (ha : s.pool[k]? = some a) :
    (fullRun s requester r)[1 + (r.entries.length + 7) / 8 + k]? = some (.snapAmend requester k a.body) := by
  have length := snapPagesFrames_length requester r.entries
  rw [fullRun, show 1 + (r.entries.length + 7) / 8 + k = (snapPagesFrames requester r.entries).length + k + 1 by omega,
    List.getElem?_cons_succ, List.getElem?_append_right (by omega), Nat.add_sub_cancel_left, snapAmendFrames,
    List.getElem?_mapIdx, ha]
  rfl

/-! ## The answer (R150) -/

theorem exec_ask (h : FrameHdr) (identity : Id32) (s : State) : exec (.ask h identity) s =
    .next (s.applyFrame h (.ask identity) (fun t => t.answerAsk h.sender identity)) := rfl

theorem answerAsk_idle {s : State} {sender : Nat} (identity : Id32)
    (h : s.ctl.state ≠ .active ∨ sender = s.straps.station ∨ s.hasRunFor sender = true) :
    s.answerAsk sender identity = s := by
  refine if_neg (fun ⟨active, other, fresh⟩ => ?_)
  rcases h with h | h | h
  · exact h active
  · exact other h
  · rw [fresh] at h
    cases h

theorem answerAsk_answers {s : State} {sender : Nat} (identity : Id32) (ha : s.ctl.state = .active)
    (hn : sender ≠ s.straps.station) (hr : s.hasRunFor sender = false) : s.answerAsk sender identity =
      s.offerCtl (.run sender (decide (s.roster.identity = some identity))) := if_pos ⟨ha, hn, hr⟩

theorem answerAsk_touches (s : State) (sender : Nat) (identity : Id32) :
    ∃ port ctl, s.answerAsk sender identity = { s with port := port, ctl := ctl } := by
  unfold State.answerAsk
  split
  · rw [offerCtl_eq]
    split
    · exact ⟨_, _, rfl⟩
    · exact ⟨_, _, rfl⟩
  · exact ⟨_, _, rfl⟩

theorem runFor_iff (b : TxBody) (requester : Nat) : b.runFor requester = true ↔ ∃ full, b = .run requester full := by
  cases b with
  | run rq full => simp [TxBody.runFor]
  | frame f => simp [TxBody.runFor]

/-- R134: what waits to go to that requester waits on as a frame passes. -/
theorem heard_hasRunFor {s : State} {h : FrameHdr} (f : Frame) (hn : h.sender ≠ s.straps.station) (requester : Nat) :
    (heard s h f).hasRunFor requester = s.hasRunFor requester := by
  have port : passedPort s h f = s.port.otherPassed (runAfter s.port.run h.sender h.hold) :=
    if_neg (fun hi => hn ((isSending_iff _ _ _ _).mp hi).1)
  unfold State.hasRunFor
  rw [show (heard s h f).port = passedPort s h f from rfl, port]
  refine congrArg (_ || ·) ?_
  show (s.port.queue.map TxEntry.wait).any _ = _
  rw [List.any_map]
  rfl

/-- R150: the end of a step queues no run. -/
theorem afterFrame_runs {s : State} {x : TxEntry} (hx : x ∈ s.afterFrame.port.queue) (hr : x.body.isRun = true) :
    x ∈ s.port.queue := by
  obtain ⟨q, eq, mem, -⟩ := tidied_eq s
  obtain ⟨new, added, claims⟩ := evalClaim_adds (tidied s).reviewPending
  rw [afterFrame_eq, added, List.mem_append] at hx
  rcases hx with hx | hx
  · have kept : x ∈ (tidied s).port.queue := by
      unfold State.reviewPending at hx
      split at hx
      · split_ifs at hx
        · exact (List.mem_filter.mp hx).1
        · exact hx
      · exact hx
    rw [eq] at kept
    exact ((mem x).mp kept).1
  · obtain ⟨p, body, -⟩ := claims x hx
    rw [body] at hr
    cases hr

theorem afterFrame_run {s : State} {x : TxEntry} (hx : x ∈ s.port.queue) (hr : x.body.isRun = true) :
    x ∈ s.afterFrame.port.queue := by
  refine afterFrame_keeps hx (.inr (fun hs => ?_)) (.inr ?_)
  · rcases stale_body hs with ⟨p, hb⟩ | ⟨p, holder, mark, hb⟩ <;> rw [hb] at hr <;> cases hr
  · cases hb : x.body with
    | run => rfl
    | frame f =>
      rw [hb] at hr
      cases hr

end Sys2Proof.Asking

open Sys2Proof Sys2Proof.Machine Sys2Proof.Laws Sys2Proof.Bus Sys2Proof.Hearing Sys2Proof.Afterwards Sys2Proof.JoinLeave
  Sys2Proof.Asking Sys2Proof.Claiming

/-- Settles O28: an ASK of another station at an ACTIVE one is answered by one run, whose frames are the board's. -/
theorem askIsAnsweredByARun : Obligations.AskIsAnsweredByARun := by
  unfold Obligations.AskIsAnsweredByARun
  refine ⟨fun s h identity hs => ?_, fun s r requester hr => ⟨runFrames_short hr requester, ?_, ?_, fun k hk => ?_,
    fun k a ha => ?_, fun k x hx => ?_⟩⟩
  · let v := heard s h (.ask identity)
    have next := exec_ask h identity s
    rw [applyFrame_hears hs] at next
    refine ⟨_, next, ?_, fun active other idle unqueued room => ?_, fun quiet => ?_⟩
    · obtain ⟨port, ctl, answered⟩ := answerAsk_touches v h.sender identity
      have touched := afterFrame_touches (v.answerAsk h.sender identity)
      rw [answered] at touched
      show (v.answerAsk h.sender identity).afterFrame = _
      rw [answered]
      refine touched.trans ?_
      rw [afterFrame_ctl]
      rfl
    · have fresh : v.hasRunFor h.sender = false := by
        rw [heard_hasRunFor _ other, State.hasRunFor, idle]
        simp only [List.any_nil, Bool.false_or, List.any_eq_false, runFor_iff]
        rintro x hx ⟨full, hb⟩
        exact unqueued x hx full hb
      have place : v.canQueue = true := heard_canQueue hs h _ room
      have queued : v.answerAsk h.sender identity =
          v.enqueue (.run h.sender (decide (s.roster.identity = some identity))) := by
        rw [answerAsk_answers (s := v) identity active other fresh, offerCtl_eq, if_pos place]
        rfl
      show (v.answerAsk h.sender identity).afterFrame.ctl = _ ∧ ∃ x ∈ (v.answerAsk h.sender identity).afterFrame.port.queue, _
      rw [queued, afterFrame_ctl]
      refine ⟨rfl, v.port.entry (.run h.sender (decide (s.roster.identity = some identity))), ?_, rfl, rfl⟩
      exact afterFrame_run (List.mem_append_right _ (List.mem_singleton.mpr rfl)) rfl
    · have nothing : v.answerAsk h.sender identity = v := by
        refine answerAsk_idle identity ?_
        rcases quiet with quiet | quiet | ⟨x, hx, hb⟩
        · exact .inl quiet
        · exact .inr (.inl quiet)
        · by_cases own : h.sender = s.straps.station
          · exact .inr (.inl own)
          · refine .inr (.inr ?_)
            rw [heard_hasRunFor _ own, State.hasRunFor, Bool.or_eq_true]
            exact .inr (List.any_eq_true.mpr ⟨x, hx, (runFor_iff _ _).mpr hb⟩)
      show (v.answerAsk h.sender identity).afterFrame.ctl = _ ∧ ∀ x ∈ (v.answerAsk h.sender identity).afterFrame.port.queue, _
      rw [nothing, afterFrame_ctl]
      refine ⟨rfl, ?_⟩
      intro x hx run
      obtain ⟨y, hy, body, -⟩ := (passedPort_queue s h _).1 x (afterFrame_runs hx run)
      exact ⟨y, hy, body⟩
  · rw [runFrames_full hr, ← fullRun_length s requester r, ← List.length_map (fun x => x.2), holdAllButLast_frames]
  · rw [runFrames_full hr, holdAllButLast_frames]
    rfl
  · rw [runFrames_full hr, holdAllButLast_frames]
    exact fullRun_pages s requester r hk
  · rw [runFrames_full hr, holdAllButLast_frames]
    exact fullRun_records s requester r ha
  · rw [runFrames_full hr] at hx ⊢
    rw [holdAllButLast_hold _ k hx, ← List.length_map (fun x => x.2) (as := holdAllButLast _), holdAllButLast_frames]
end

section
/-! PROOFS. What an abandoned collection leaves, and what the rest of the step keeps of it (R140, R152, R153). -/

namespace Sys2Proof.GivingUp

open Sys2Proof Sys2Proof.Machine Sys2Proof.Laws Sys2Proof.Bus Sys2Proof.Hearing Sys2Proof.Afterwards Sys2Proof.JoinLeave
  Sys2Proof.Asking

/-! ## The frames as acts -/

/-- What the blocks do with a frame that passed at a station in state `s`. -/
def frameAct (s : State) (h : FrameHdr) : Frame → State → State
  | .claim page claimant, t => t.claimFrame h page claimant
  | .renew page, t => t.renewFrame h page
  | .lapse page holder mark, t => t.lapseFrame h page holder mark
  | .done page edition, t => t.doneFrame h page edition
  | .release page, t => t.releaseFrame h page
  | .fail page cause, t => t.failFrame h page cause
  | .join station identity, t => t.joinFrame h station identity
  | .leave station, t => t.leaveFrame h station
  | .amend body, t => t.amendFrame h body
  | .launch batch, t => t.launchFrame h batch
  | .drop batch, t => t.dropFrame h batch
  | .ask identity, t => t.answerAsk h.sender identity
  | .snapHead requester responder identity pages last present states n, t =>
    if s.inIgnoredRun h.sender then t
    else t.headFrame (!s.inCollection h.sender) h.sender requester responder
      (newCollection h.sender identity pages last present states n)
  | .snapPages requester index es, t => t.pagesFrame requester index es
  | .snapAmend requester index body, t => t.snapAmendFrame requester index body

theorem exec_frameAct {s : State} {c : Instr} {h : FrameHdr} {f : Frame} (hc : frameOf c = some (h, f))
    (hp : s.participation = .full) : exec c s = .next (frameAct s h f (s.passFrame h f)).afterFrame := by
  have applied : exec c s = .next (s.applyFrame h f (frameAct s h f)) := by
    cases c
    case claim | renew | lapse | done | release | fail | join | leave | amend | launch | drop | ask | snapHead |
        snapPages | snapAmend =>
      obtain ⟨rfl, rfl⟩ : _ = h ∧ _ = f := by simpa [frameOf] using hc
      rfl
    all_goals cases hc
  rw [applied, applyFrame_full hp]

theorem passFrame_eq (s : State) (h : FrameHdr) (f : Frame) :
    s.passFrame h f = (s.setPort (passedPort s h f)).meetCollection h.sender f := rfl

/-! ## What a step carries on -/

/-- The plan, the records, the lane and the fault stay, and so does the controller but for what waits in it; an ASK
stays queued or waiting, and a run ignored is still ignored. -/
structure Carries (u t : State) : Prop where
  collection : t.ctl.collection = u.ctl.collection
  count : t.ctl.abandoned = u.ctl.abandoned
  state : t.ctl.state = u.ctl.state
  timer : t.ctl.syncTimer = u.ctl.syncTimer
  setup : t.setup = u.setup
  roster : t.roster = u.roster
  pool : t.pool = u.pool
  lane : t.lane = u.lane
  fault : t.fault = u.fault
  asks : u.hasAsk = true → t.hasAsk = true
  ignores : t.port.ignores = u.port.ignores

theorem Carries.refl (u : State) : Carries u u := ⟨rfl, rfl, rfl, rfl, rfl, rfl, rfl, rfl, rfl, id, rfl⟩

theorem Carries.trans {u t v : State} (a : Carries u t) (b : Carries t v) : Carries u v :=
  ⟨b.collection.trans a.collection, b.count.trans a.count, b.state.trans a.state, b.timer.trans a.timer,
    b.setup.trans a.setup, b.roster.trans a.roster, b.pool.trans a.pool, b.lane.trans a.lane, b.fault.trans a.fault,
    fun h => b.asks (a.asks h), b.ignores.trans a.ignores⟩

theorem afterFrame_carries (u : State) : Carries u u.afterFrame := by
  obtain ⟨asks, ignores⟩ := afterFrame_asks u
  refine ⟨?_, ?_, ?_, ?_, ?_, ?_, ?_, ?_, ?_, fun h => asks.trans h, ignores⟩ <;> simp

theorem reviewComplete_carries (u : State) : Carries u u.reviewComplete := by
  have port : u.reviewComplete.port = u.port := by simp
  refine ⟨?_, ?_, ?_, ?_, ?_, ?_, ?_, ?_, ?_, fun h => ?_, by rw [port]⟩
  case refine_10 =>
    rw [State.hasAsk, port]
    simpa [State.hasAsk] using h
  all_goals simp

theorem boardFrame_carries (u : State) (sender : Nat) (f : Frame) : Carries u (u.boardFrame sender f) := by
  have port : (u.boardFrame sender f).port = u.port := by simp
  refine ⟨?_, ?_, ?_, ?_, ?_, ?_, ?_, ?_, ?_, fun h => ?_, by rw [port]⟩
  case refine_10 =>
    rw [State.hasAsk, port]
    simpa [State.hasAsk] using h
  all_goals simp

theorem renewFrame_carries (u : State) (h : FrameHdr) (page : Nat) : Carries u (u.renewFrame h page) :=
  (boardFrame_carries u _ _).trans (reviewComplete_carries _)

theorem withdrawRun_carries (u : State) (sender requester : Nat) : Carries u (u.withdrawRun sender requester) := by
  have asks := withdrawRun_asks u sender requester
  have ignores : (u.withdrawRun sender requester).port.ignores = u.port.ignores := by
    unfold State.withdrawRun
    split <;> rfl
  refine ⟨?_, ?_, ?_, ?_, ?_, ?_, ?_, ?_, ?_, fun h => asks.trans h, ignores⟩ <;> simp

/-- R149: a JOIN heard restarts the timer that runs from its start already. -/
theorem joinHeard_carries {u : State} (identity : Id32)
    (h : u.ctl.state = .syncing → u.ctl.syncTimer = some (2 * u.leaseMs)) : Carries u (u.joinHeard identity) := by
  unfold State.joinHeard
  split
  next waits =>
    have timer : u.startSync = u := by
      rw [State.startSync, ← h waits.1]
      rfl
    rw [timer]
    obtain ⟨⟨port, waiting, offered⟩, kept, queued, waited⟩ := offerAsk_spec u
    have ignores : u.offerAsk.port.ignores = u.port.ignores := by
      cases asks : u.hasAsk with
      | true => rw [kept asks]
      | false =>
        cases place : u.canQueue with
        | true =>
          rw [queued asks place]
          rfl
        | false =>
          rw [waited asks place]
          rfl
    have ask := offerAsk_hasAsk u
    rw [offered] at ignores ask ⊢
    exact ⟨rfl, rfl, rfl, rfl, rfl, rfl, rfl, rfl, rfl, fun _ => ask, ignores⟩
  · exact Carries.refl u

/-! ## A collection abandoned (R153) -/

/-- What an abandonment leaves of a SYNCING station: it asks again, or at the third it halts. -/
structure GaveUp (s t : State) (case : Nat) : Prop where
  collection : t.ctl.collection = none
  count : t.ctl.abandoned = min (s.ctl.abandoned + 1) 3
  setup : t.setup = s.setup
  roster : t.roster = s.roster
  pool : t.pool = s.pool
  lane : t.lane = s.lane
  again : s.ctl.abandoned < 2 → t.ctl.state = .syncing ∧ t.ctl.syncTimer = some (2 * s.leaseMs) ∧ t.fault = s.fault ∧
    t.hasAsk = true
  halts : 2 ≤ s.ctl.abandoned → t.ctl.state = .halted ∧ t.ctl.syncTimer = none ∧
    (s.fault.phase = .clear → t.fault.record = some (s.fault.first .syncFailed none none none case))

theorem GaveUp.carries {s u t : State} {case : Nat} (g : GaveUp s u case) (c : Carries u t) : GaveUp s t case where
  collection := c.collection.trans g.collection
  count := c.count.trans g.count
  setup := c.setup.trans g.setup
  roster := c.roster.trans g.roster
  pool := c.pool.trans g.pool
  lane := c.lane.trans g.lane
  again h := by
    obtain ⟨state, timer, fault, asks⟩ := g.again h
    exact ⟨c.state.trans state, c.timer.trans timer, c.fault.trans fault, c.asks asks⟩
  halts h := by
    obtain ⟨state, timer, record⟩ := g.halts h
    exact ⟨c.state.trans state, c.timer.trans timer, fun hf => by rw [c.fault]; exact record hf⟩

theorem abandon_gaveUp {s : State} (case : Nat) (hs : s.ctl.state = .syncing) : GaveUp s (s.abandon case) case := by
  obtain ⟨collection, count, lane, again, halts⟩ := abandon_spec s case hs
  exact ⟨collection, count, by simp, by simp, by simp, lane, again, halts⟩

/-- Where the station stood at a frame's end is where it stood at its start, but for the port. -/
theorem abandon_passed {s : State} (p : Port) (case : Nat) (hs : s.ctl.state = .syncing) :
    GaveUp s ((s.setPort p).abandon case) case := by
  have g := abandon_gaveUp (s := s.setPort p) case (by simpa using hs)
  exact ⟨g.collection, g.count, g.setup, g.roster, g.pool, g.lane, g.again, g.halts⟩

theorem ignoring_carries {s u : State} {case : Nat} (g : GaveUp s u case) :
    GaveUp s (u.setPort { u.port with ignores := true }) case :=
  ⟨g.collection, g.count, g.setup, g.roster, g.pool, g.lane, g.again, g.halts⟩

theorem unexpected_gaveUp {s : State} (p : Port) (hs : s.ctl.state = .syncing) : GaveUp s (s.setPort p).unexpected 2 :=
  ignoring_carries (abandon_passed p 2 hs)

theorem GaveUp.timer {s u : State} {case : Nat} (g : GaveUp s u case) (h : u.ctl.state = .syncing) :
    u.ctl.syncTimer = some (2 * u.leaseMs) := by
  have lease : u.leaseMs = s.leaseMs := by simp only [State.leaseMs, g.setup]
  by_cases few : s.ctl.abandoned < 2
  · rw [lease]
    exact (g.again few).2.1
  · have halted := (g.halts (by omega)).1
    rw [h] at halted
    cases halted

theorem GaveUp.not_active {s u : State} {case : Nat} (g : GaveUp s u case) : u.ctl.state ≠ .active := by
  by_cases few : s.ctl.abandoned < 2
  · rw [(g.again few).1]
    decide
  · rw [(g.halts (by omega)).1]
    decide

/-- R32, R138: the station's own LEAVE drops nothing that an abandonment leaves. -/
theorem GaveUp.leaveOwn {s u : State} {case : Nat} (g : GaveUp s u case) (hp : s.pool = [])
    (hf : s.fault.phase = .clear) (hh : s.fault.haltStep = false) (ha : s.fault.awaited = []) :
    GaveUp s u.leaveOwn case where
  collection := by simpa using g.collection
  count := by simpa using g.count
  setup := by simpa using g.setup
  roster := by simpa using g.roster
  pool := by rw [leaveOwn_pool, hp]
  lane := by simpa using g.lane
  again h := by
    obtain ⟨state, timer, fault, asks⟩ := g.again h
    rw [leaveOwn_asks u (by rw [fault]; exact hf), leaveOwn_fault u (by rw [fault]; exact hf) (by rw [fault]; exact hh)
      (by rw [fault]; exact ha)]
    exact ⟨by simpa using state, by simpa using timer, fault, asks⟩
  halts h := by simpa using g.halts h

end Sys2Proof.GivingUp
end

section
/-! PROOFS. The steps that abandon a collection (R140, R152, R153). -/

namespace Sys2Proof.Breaking

open Sys2Proof Sys2Proof.Machine Sys2Proof.Laws Sys2Proof.Bus Sys2Proof.Hearing Sys2Proof.Afterwards Sys2Proof.JoinLeave
  Sys2Proof.Asking Sys2Proof.GivingUp Sys2Proof.Claiming

/-! ## What a frame does once the collection is abandoned (R23, R49, R150, R152) -/

theorem headFrame_elsewhere {t : State} {fresh : Bool} {requester : Nat} (sender responder : Nat) (c : Collection)
    (h : fresh = false ∨ requester ≠ t.straps.station) :
    t.headFrame fresh sender requester responder c = t.withdrawRun sender requester := by
  have unnamed : (fresh && decide (requester = t.straps.station)) = false := by
    rcases h with h | h <;> simp [h]
  rw [State.headFrame, unnamed]
  rfl

theorem pagesFrame_idle {t : State} (requester index : Nat) (es : List Byte) (h : t.ctl.collection = none) :
    t.pagesFrame requester index es = t := by
  rw [State.pagesFrame, h]

theorem snapAmendFrame_idle {t : State} (requester index : Nat) (b : AmendBody) (h : t.ctl.collection = none) :
    t.snapAmendFrame requester index b = t := by
  rw [State.snapAmendFrame, h]

/-- The frames of the board and of the store that do nothing where the replica is ABSENT. -/
def needsReplica : Frame → Bool
  | .claim _ _ | .lapse _ _ _ | .done _ _ | .release _ | .fail _ _ | .amend _ | .launch _ | .drop _ => true
  | _ => false

theorem frameAct_absent {s u : State} {f : Frame} (h : FrameHdr) (hr : u.board.replica = none) (hf : needsReplica f = true) :
    frameAct s h f u = u := by
  obtain ⟨claims, -, lapses, dones, releases, fails, -, -, amends, launches, drops⟩ := frames_absent u h hr
  cases f with
  | claim page claimant => exact claims page claimant
  | lapse page holder mark => exact lapses page holder mark
  | done page edition => exact dones page edition
  | release page => exact releases page
  | fail page cause => exact fails page cause
  | amend b => exact amends b
  | launch b => exact launches b
  | drop b => exact drops b
  | _ => cases hf

/-- The frame does nothing at a station without a replica that has just abandoned its collection, or it is one of those that
do nothing with one either. -/
def Harmless (s : State) (f : Frame) : Prop :=
  s.board.replica = none ∨ (∃ page, f = .renew page) ∨ (∃ rq k es, f = .snapPages rq k es) ∨
    (∃ rq k b, f = .snapAmend rq k b) ∨ ∃ rq rs i p l m b n, f = .snapHead rq rs i p l m b n

theorem frameAct_gaveUp {s u : State} {case : Nat} {h : FrameHdr} {f : Frame} (g : GaveUp s u case)
    (straps : u.straps = s.straps) (board : u.board = s.board) (harmless : Harmless s f)
    (elsewhere : ∀ rs i p l m b n, f = .snapHead s.straps.station rs i p l m b n → s.inCollection h.sender = true)
    (own : h.sender = s.straps.station → ∀ station, f = .leave station →
      s.pool = [] ∧ s.fault.phase = .clear ∧ s.fault.haltStep = false ∧ s.fault.awaited = []) :
    GaveUp s (frameAct s h f u) case ∧
      (h.sender ≠ s.straps.station → (frameAct s h f u).port.ignores = u.port.ignores) := by
  have carry : Carries u (frameAct s h f u) → _ := fun c => And.intro (g.carries c) (fun _ : h.sender ≠ s.straps.station => c.ignores)
  have stay : frameAct s h f u = u → _ := fun e => carry (by rw [e]; exact Carries.refl u)
  have absent : s.board.replica = none → u.board.replica = none := fun hr => by rw [board]; exact hr
  cases f with
  | renew page => exact carry (renewFrame_carries u h page)
  | snapPages requester index es => exact stay (pagesFrame_idle requester index es g.collection)
  | snapAmend requester index b => exact stay (snapAmendFrame_idle requester index b g.collection)
  | snapHead requester responder identity pages last present states n =>
    refine carry ?_
    rw [frameAct]
    split
    · exact Carries.refl u
    · rw [headFrame_elsewhere]
      · exact withdrawRun_carries u h.sender requester
      · rw [straps]
        by_cases names : requester = s.straps.station
        · subst names
          exact .inl (by rw [elsewhere _ _ _ _ _ _ _ rfl]; rfl)
        · exact .inr names
  | ask identity => exact stay (answerAsk_idle identity (.inl g.not_active))
  | join station identity =>
    obtain ⟨-, -, -, -, -, -, joins, -⟩ := frames_absent u h (absent (by simpa [Harmless] using harmless))
    refine carry ?_
    rw [frameAct, joins]
    split
    · exact Carries.refl u
    · exact joinHeard_carries identity g.timer
  | leave station =>
    obtain ⟨-, -, -, -, -, -, -, leaves, -⟩ := frames_absent u h (absent (by simpa [Harmless] using harmless))
    by_cases mine : h.sender = s.straps.station
    · have owns : u.isOwn h = true := by rw [isOwn_iff, straps]; exact mine
      obtain ⟨pool, phase, halt, awaited⟩ := own mine station rfl
      rw [frameAct, leaves, if_pos owns]
      exact ⟨g.leaveOwn pool phase halt awaited, fun other => absurd mine other⟩
    · refine stay ?_
      rw [frameAct, leaves]
      exact if_neg (fun owns => mine (by rw [isOwn_iff, straps] at owns; exact owns))
  | _ => exact stay (frameAct_absent h (absent (by simpa [Harmless] using harmless)) rfl)

/-! ## The collection meets a frame (R140, R152) -/

section Meeting

variable {s : State} {c : Collection} {h : FrameHdr} {f : Frame}

theorem passFrame_ends (hc : s.ctl.collection = some c) (hn : h.sender ≠ c.responder) :
    s.passFrame h f = (s.setPort (passedPort s h f)).abandon 1 := by
  have collects : (s.setPort (passedPort s h f)).ctl.collection = some c := hc
  rw [passFrame_eq, State.meetCollection, collects]
  exact if_pos hn

theorem passFrame_unexpected (hc : s.ctl.collection = some c) (hn : h.sender = c.responder)
    (hf : f.isCollected = false) : s.passFrame h f = (s.setPort (passedPort s h f)).unexpected := by
  have collects : (s.setPort (passedPort s h f)).ctl.collection = some c := hc
  rw [passFrame_eq, State.meetCollection, collects]
  exact (if_neg (not_not.mpr hn)).trans (if_neg (by simp [hf]))

theorem passFrame_collects (hc : s.ctl.collection = some c) (hn : h.sender = c.responder)
    (hf : f.isCollected = true) : s.passFrame h f = s.setPort (passedPort s h f) := by
  have collects : (s.setPort (passedPort s h f)).ctl.collection = some c := hc
  rw [passFrame_eq, State.meetCollection, collects]
  exact (if_neg (not_not.mpr hn)).trans (if_pos hf)

theorem inCollection_iff (hc : s.ctl.collection = some c) (sender : Nat) :
    s.inCollection sender = true ↔ sender = c.responder := by
  rw [State.inCollection, hc]
  exact decide_eq_true_iff

theorem passedPort_run (s : State) (h : FrameHdr) (f : Frame) :
    (passedPort s h f).run = runAfter s.port.run h.sender h.hold := by
  unfold passedPort
  split
  · exact (ownPassed_counts _ _).2.2.2.2
  · rfl

theorem runAfter_ended (run : Option RunHeld) (sender : Nat) {hold : Bool}
    (h : hold = false ∨ ∃ r, run = some r ∧ 255 ≤ r.count) : runAfter run sender hold = none := by
  rcases h with rfl | ⟨r, rfl, full⟩
  · cases run <;> simp [runAfter]
  · simp only [runAfter, Config.runMax]
    exact if_neg (by omega)

theorem runAfter_other {r : RunHeld} {sender : Nat} (hold : Bool) (h : r.holder ≠ sender) :
    runAfter (some r) sender hold = none := if_neg (fun hr => h hr.1)

theorem runAfter_goes {holder k : Nat} (h : k < 255) :
    runAfter (some { holder := holder, count := k }) holder true = some { holder := holder, count := k + 1 } := by
  simp only [runAfter, Config.runMax]
  rw [if_pos ⟨trivial, trivial, by omega⟩]

end Meeting

/-! ## The steps (R140, R153) -/

section Steps

variable {s : State} {c : Collection}

theorem runBroken_collecting (hc : s.ctl.collection = some c) : s.runBroken = s.abandon 1 := if_pos (by rw [hc]; rfl)

theorem veto_gaveUp (x : Heard) (hp : s.participation = .full) (hs : s.ctl.state = .syncing)
    (hc : s.ctl.collection = some c) (ht : s.port.tx < 31) (hr : s.port.rx < 31) :
    ∃ t, exec (.frameVetoed x) s = .next t ∧ GaveUp s t 1 := by
  let p := s.port.vetoed s.port.sending.isSome (readFrame x.bits).isNone
  have collects : (s.setPort p).ctl.collection = some c := hc
  obtain ⟨-, -, -, -, -, -, -, tx, rx, -⟩ := vetoed_spec s.port s.port.sending.isSome (readFrame x.bits).isNone
  have below : ((s.setPort p).abandon 1).port.tx < 32 ∧ ((s.setPort p).abandon 1).port.rx < 32 := by
    simp only [abandon_port_fields, setPort_port, p, tx, rx]
    constructor <;> split <;> omega
  refine ⟨(s.setPort p).abandon 1, ?_, abandon_passed p 1 hs⟩
  rw [exec_frameVetoed, vetoFrame_full hp]
  show Host.Outcome.next ((s.setPort p).runBroken.confine) = _
  rw [runBroken_collecting collects, confine_below below.1 below.2]

theorem idle_gaveUp (hs : s.ctl.state = .syncing) (hc : s.ctl.collection = some c) (hr : s.port.run.isSome = true) :
    ∃ t, exec .runIdleEnd s = .next t ∧ GaveUp s t 1 := by
  refine ⟨_, ?_, abandon_passed { s.port.standBack with run := none } 1 hs⟩
  rw [exec_runIdleEnd, State.endRun, if_neg (by simpa [← Option.ne_none_iff_isSome] using hr)]
  exact congrArg Host.Outcome.next (runBroken_collecting hc)

variable {cmd : Instr} {h : FrameHdr} {f : Frame}

/-- R140: any frame of a sender other than the responder ends the run under collection. -/
theorem other_gaveUp (hcmd : frameOf cmd = some (h, f)) (hp : s.participation = .full) (hs : s.ctl.state = .syncing)
    (hc : s.ctl.collection = some c) (hn : h.sender ≠ c.responder)
    (harmless : s.board.replica = none ∨ ∃ page, f = .renew page)
    (elsewhere : ∀ rs i p l m b n, f ≠ .snapHead s.straps.station rs i p l m b n)
    (own : h.sender = s.straps.station → ∀ station, f = .leave station →
      s.pool = [] ∧ s.fault.phase = .clear ∧ s.fault.haltStep = false ∧ s.fault.awaited = []) :
    ∃ t, exec cmd s = .next t ∧ GaveUp s t 1 := by
  have gave := abandon_passed (passedPort s h f) 1 hs
  rw [← passFrame_ends hc hn] at gave
  have straps : (s.passFrame h f).straps = s.straps := by rw [passFrame_ends hc hn]; simp
  have board : (s.passFrame h f).board = s.board := by rw [passFrame_ends hc hn]; simp
  obtain ⟨acted, -⟩ := frameAct_gaveUp gave straps board (harmless.imp_right .inl)
    (fun rs i p l m b n e => absurd e (elsewhere rs i p l m b n)) own
  exact ⟨_, exec_frameAct hcmd hp, acted.carries (afterFrame_carries _)⟩

/-- R152, R153: an unexpected frame of the responder. -/
theorem unexpected_gaveUp_frame (hcmd : frameOf cmd = some (h, f)) (hp : s.participation = .full)
    (hs : s.ctl.state = .syncing) (hc : s.ctl.collection = some c) (hn : h.sender = c.responder)
    (other : c.responder ≠ s.straps.station) (hu : s.unexpectedAt c f) (harmless : Harmless s f) :
    ∃ t, exec cmd s = .next t ∧ GaveUp s t 2 ∧ t.port.ignores = true := by
  have foreign : h.sender ≠ s.straps.station := by rw [hn]; exact other
  have finish : ∀ u : State, frameAct s h f (s.passFrame h f) = u → GaveUp s u 2 → u.port.ignores = true →
      ∃ t, exec cmd s = .next t ∧ GaveUp s t 2 ∧ t.port.ignores = true := by
    intro u hu gave ignores
    refine ⟨_, exec_frameAct hcmd hp, ?_⟩
    rw [hu]
    exact ⟨gave.carries (afterFrame_carries u), (afterFrame_carries u).ignores.trans ignores⟩
  cases collected : f.isCollected with
  | true =>
    let v := s.setPort (passedPort s h f)
    have passed : s.passFrame h f = v := passFrame_collects hc hn collected
    have collects : v.ctl.collection = some c := hc
    refine finish v.unexpected ?_ (unexpected_gaveUp _ hs) rfl
    rw [passed]
    cases f with
    | snapPages requester k es => exact (pagesFrame_spec v c requester k es collects).1 hu
    | snapAmend requester k b => exact (snapAmendFrame_spec v c requester k b collects).1 hu
    | _ => cases collected
  | false =>
    have passed := passFrame_unexpected (f := f) hc hn collected
    have gave := unexpected_gaveUp (passedPort s h f) hs
    rw [← passed] at gave
    have straps : (s.passFrame h f).straps = s.straps := by rw [passed]; simp
    have board : (s.passFrame h f).board = s.board := by rw [passed]; simp
    have ignores : (s.passFrame h f).port.ignores = true := by rw [passed]; rfl
    obtain ⟨acted, keeps⟩ := frameAct_gaveUp gave straps board harmless
      (fun _ _ _ _ _ _ _ _ => (inCollection_iff hc h.sender).mpr hn) (fun mine => absurd mine foreign)
    exact finish _ rfl acted ((keeps foreign).trans ignores)

/-- R152, R153: the responder's next frame ends the run early. -/
theorem early_gaveUp (hcmd : frameOf cmd = some (h, f)) (hp : s.participation = .full)
    (hs : s.ctl.state = .syncing) (hc : s.ctl.collection = some c) (hn : h.sender = c.responder)
    (hi : s.roster.identity = some c.identity) (hu : ¬ s.unexpectedAt c f) (hl : ¬ c.lastIs f)
    (hr : h.hold = false ∨ ∃ r, s.port.run = some r ∧ 255 ≤ r.count) :
    ∃ t, exec cmd s = .next t ∧ GaveUp s t 1 := by
  let v := s.setPort (passedPort s h f)
  have collects : v.ctl.collection = some c := hc
  have ended : v.port.run = none := (passedPort_run s h f).trans (runAfter_ended _ _ hr)
  have finish : f.isCollected = true → frameAct s h f v = v.abandon 1 → ∃ t, exec cmd s = .next t ∧ GaveUp s t 1 := by
    intro collected acts
    refine ⟨_, exec_frameAct hcmd hp, ?_⟩
    rw [passFrame_collects hc hn collected, show s.setPort (passedPort s h f) = v from rfl, acts]
    exact (abandon_passed _ 1 hs).carries (afterFrame_carries _)
  cases f with
  | snapPages requester k es =>
    exact finish rfl ((pagesFrame_spec v c requester k es collects).2 hu hl hi ended)
  | snapAmend requester k b =>
    exact finish rfl ((snapAmendFrame_spec v c requester k b collects).2 hu hl hi ended)
  | _ => exact absurd trivial hu

end Steps

end Sys2Proof.Breaking
end

section
/-! PROOFS. A run is collected frame by frame (R149, R151, R152). -/

namespace Sys2Proof.Gathering

open Sys2Proof Sys2Proof.Machine Sys2Proof.Laws Sys2Proof.Bus Sys2Proof.Hearing Sys2Proof.Afterwards Sys2Proof.JoinLeave
  Sys2Proof.Asking Sys2Proof.GivingUp Sys2Proof.Claiming Sys2Proof.Breaking Sys2Proof.Wire

/-! ## The entries and records of a frame (R151, R180) -/

theorem readEntries_cons {e : Entry} (h : readEntries e.bytes = some [e]) (rest : List Byte) :
    readEntries (e.bytes ++ rest) = (readEntries rest).map (fun es => e :: es) := by
  obtain ⟨b0, b1, n0, n1, p0, p1, b6, bytes⟩ : ∃ b0 b1 n0 n1 p0 p1 b6, e.bytes = [b0, b1, n0, n1, p0, p1, b6] :=
    ⟨_, _, _, _, _, _, _, rfl⟩
  rw [bytes, readEntries] at h
  rw [bytes]
  show readEntries (b0 :: b1 :: n0 :: n1 :: p0 :: p1 :: b6 :: rest) = _
  rw [readEntries]
  cases first : readEntry b0 b1 n0 n1 p0 p1 b6 with
  | none => simp [first] at h
  | some x =>
    obtain rfl : x = e := by simpa [first, readEntries] using h
    cases readEntries rest <;> rfl

theorem readEntries_group {es : List Entry} (h : ∀ e ∈ es, readEntries e.bytes = some [e]) :
    readEntries (es.flatMap Entry.bytes) = some es := by
  induction es with
  | nil => rfl
  | cons e es ih =>
    rw [List.flatMap_cons, readEntries_cons (h e List.mem_cons_self), ih (fun x hx => h x (List.mem_cons_of_mem e hx))]
    rfl

theorem keepPages_keeps {c : Collection} {own : Nat} {es : List Entry} (he : ∀ e ∈ es, readEntries e.bytes = some [e])
    (hl : es.length = min 8 (c.pages - 8 * c.pageFrames)) (hk : c.pageFrames < (c.pages + 7) / 8) :
    c.keepPages own own c.pageFrames (es.flatMap Entry.bytes) =
      some { c with pageFrames := c.pageFrames + 1, entries := c.entries ++ es } := by
  have length : (es.flatMap Entry.bytes).length = 7 * min 8 (c.pages - 8 * c.pageFrames) := by
    rw [flatMap_length_const entry_bytes_length, hl]
  refine (if_pos ⟨rfl, rfl, hk, length⟩).trans ?_
  rw [readEntries_group he]
  rfl

theorem keepAmend_keeps {c : Collection} {own : Nat} {b : AmendBody} {p : Payload}
    (hp : readPayload b.kind b.payload = some p) (hk : c.pageFrames = (c.pages + 7) / 8) (ha : c.amendFrames < c.records)
    (hb : b.batch < 4) (ho : c.batchStates.testBit b.batch = true)
    (hn : ∀ a ∈ c.kept, ¬ (a.batch = b.batch ∧ a.subject = b.subject ∧ a.payload.kind = p.kind)) :
    c.keepAmend own own c.amendFrames b = some { c with
      amendFrames := c.amendFrames + 1,
      kept := c.kept ++ [{ batch := b.batch, subject := b.subject, payload := p }] } := by
  have fresh : c.kept.any (fun x => x.sameKey { batch := b.batch, subject := b.subject, payload := p }) = false := by
    rw [List.any_eq_false]
    intro a mem same
    refine hn a mem ?_
    simpa [Amendment.sameKey, and_assoc] using same
  rw [Collection.keepAmend, hp]
  exact if_pos ⟨rfl, hk, rfl, ha, hb, ho, fresh⟩

theorem advance_keeps {s : State} {c : Collection} (hi : s.roster.identity = some c.identity)
    (hn : ¬ (c.pageFrames = (c.pages + 7) / 8 ∧ c.amendFrames = c.records)) (hr : s.port.run ≠ none) :
    s.advance c = s.setCtl { s.ctl with collection := some c } := by
  unfold State.advance
  rw [if_neg (by rw [full_iff]; tauto), if_neg (by simpa using hr)]

/-! ## The run begins (R149, R152) -/

/-- R149, R150: the station's ASK and its own run are withdrawn when another answers it. -/
def answered (t : State) (sender : Nat) : State := t.withdrawAsk.withdrawRun sender t.straps.station

/-- A collection may begin where the station is SYNCING with no replica and collects none. -/
def waitsForRun (t : State) : Prop := t.ctl.state = .syncing ∧ t.board.replica = none ∧ t.ctl.collection = none

theorem answered_touches (t : State) (sender : Nat) : ∃ queue waiting, answered t sender = { t with
    port := { t.port with queue := queue }, ctl := { t.ctl with waiting := waiting } } := by
  unfold answered State.withdrawRun
  split <;> exact ⟨_, _, rfl⟩

theorem answered_waits {t : State} (sender : Nat) : waitsForRun (answered t sender) ↔ waitsForRun t := by
  obtain ⟨queue, waiting, same⟩ := answered_touches t sender
  rw [same]
  rfl

theorem headFrame_named (t : State) (sender responder : Nat) (c : Collection) :
    (waitsForRun t → t.headFrame true sender t.straps.station responder c = (answered t sender).startCollection responder c) ∧
    (¬ waitsForRun t → t.headFrame true sender t.straps.station responder c = answered t sender) := by
  have eq : t.headFrame true sender t.straps.station responder c =
      if (answered t sender).mayCollect && (answered t sender).ctl.collection.isNone then
        (answered t sender).startCollection responder c
      else answered t sender := by simp [State.headFrame, answered]
  have waits : ((answered t sender).mayCollect && (answered t sender).ctl.collection.isNone) = true ↔ waitsForRun t := by
    rw [← answered_waits sender]
    simp [State.mayCollect, waitsForRun, and_assoc]
  rw [eq]
  exact ⟨fun h => if_pos (waits.mpr h), fun h => if_neg (fun hw => h (waits.mp hw))⟩

/-- R149: the sync timer is stopped and the volume seen. -/
def collecting (t : State) (c : Collection) : State :=
  t.setCtl { t.ctl with syncTimer := none, volumeSeen := true, collection := some c }

theorem startCollection_eq (t : State) (responder : Nat) (c : Collection) : t.startCollection responder c =
    if responder ≠ c.responder ∨ 16 ≤ c.batchStates ∨ 64 < c.records then (collecting t c).unexpected
    else (collecting t c).advance c := by
  have unexpected : headUnexpected responder c = true ↔ responder ≠ c.responder ∨ 16 ≤ c.batchStates ∨ 64 < c.records := by
    simp [headUnexpected, or_assoc]
  rw [State.startCollection]
  simp only [unexpected]
  rfl

theorem heard_waiting {s : State} {h : FrameHdr} (f : Frame) (hn : h.sender ≠ s.straps.station) :
    ∀ x ∈ (heard s h f).port.queue, x.onBus = false := by
  have port : passedPort s h f = s.port.otherPassed (runAfter s.port.run h.sender h.hold) :=
    if_neg (fun hi => hn ((isSending_iff _ _ _ _).mp hi).1)
  intro x hx
  rw [show (heard s h f).port = passedPort s h f from rfl, port] at hx
  obtain ⟨y, -, rfl⟩ := List.mem_map.mp hx
  rfl

/-- R149: the ASK is withdrawn, queued or waiting, where none is on the bus. -/
theorem answered_unasked {t : State} {sender : Nat} (hn : sender ≠ t.straps.station)
    (hq : ∀ x ∈ t.port.queue, x.onBus = false) :
    (answered t sender).hasAsk = false ∧ (answered t sender).ctl.waiting =
      t.ctl.waiting.filter (fun i => decide (i ≠ .ask) && !i.runFor t.straps.station) := by
  have asks : (answered t sender).hasAsk = t.withdrawAsk.hasAsk := withdrawRun_asks _ _ _
  have waiting : (answered t sender).ctl.waiting =
      (t.ctl.waiting.filter (fun i => decide (i ≠ .ask))).filter (fun i => !i.runFor t.straps.station) := by
    have other : sender ≠ t.withdrawAsk.straps.station := hn
    rw [answered, State.withdrawRun, if_pos other]
    rfl
  refine ⟨?_, ?_⟩
  · have queue : ∀ x ∈ t.withdrawAsk.port.queue, x.body.isAsk = false := by
      intro x hx
      obtain ⟨mem, kept⟩ := List.mem_filter.mp hx
      simpa [hq x mem] using kept
    rw [asks, State.hasAsk, Bool.or_eq_false_iff]
    refine ⟨?_, List.any_eq_false.mpr (fun x hx => by simp [queue x hx])⟩
    simp [State.withdrawAsk]
  · rw [waiting, List.filter_filter]
    exact List.filter_congr (fun i _ => Bool.and_comm _ _)

theorem inIgnoredRun_free {s : State} (sender : Nat) (h : s.port.run = none ∨ s.port.ignores = false) :
    s.inIgnoredRun sender = false := by
  rcases h with h | h <;> simp [State.inIgnoredRun, h]

theorem inCollection_idle {s : State} (sender : Nat) (h : s.ctl.collection = none) : s.inCollection sender = false := by
  simp [State.inCollection, h]

theorem passedPort_ignores (s : State) (h : FrameHdr) (f : Frame) :
    (passedPort s h f).ignores = (s.port.ignores && s.port.run.isSome) := by
  unfold passedPort
  split
  · unfold Port.ownPassed
    dsimp only
    split_ifs <;> rfl
  · rfl

theorem afterFrame_unasked {u : State} (h : u.hasAsk = false) : ∀ x ∈ u.afterFrame.port.queue, x.body.isAsk = false := by
  have asks := (afterFrame_asks u).1
  rw [h, State.hasAsk, Bool.or_eq_false_iff, List.any_eq_false] at asks
  exact fun x hx => by simpa using asks.2 x hx

end Sys2Proof.Gathering
end

section
/-! PROOFS. Collecting a run, and the ways its collection is abandoned (R140, R149, R152, R153). -/

namespace Sys2Proof.RunFrames

open Sys2Proof Sys2Proof.Machine Sys2Proof.Laws Sys2Proof.Bus Sys2Proof.Hearing Sys2Proof.Afterwards Sys2Proof.JoinLeave
  Sys2Proof.Asking Sys2Proof.GivingUp Sys2Proof.Claiming Sys2Proof.Breaking Sys2Proof.Gathering

theorem passFrame_heard {s : State} (h : FrameHdr) (f : Frame) (hc : s.ctl.collection = none) :
    s.passFrame h f = heard s h f := by
  have idle : (s.setPort (passedPort s h f)).ctl.collection = none := hc
  rw [passFrame_eq, State.meetCollection, idle]
  rfl

/-- A frame that touches the port and the controller alone, as its step ends. -/
theorem afterFrame_from {s w : State} (hw : w = { s with port := w.port, ctl := w.ctl }) :
    w.afterFrame = { s with port := w.afterFrame.port, ctl := w.afterFrame.ctl, claims := w.afterFrame.claims } := by
  have touched := afterFrame_touches w
  rw [touched, hw]

section Head

variable {s : State} {h : FrameHdr}

theorem frameAct_head (rq rs : Nat) (identity : Id32) (pages last : Nat) (present : StationSet) (states n : Nat) (t : State)
    (hi : s.inIgnoredRun h.sender = false) (hc : s.inCollection h.sender = false) :
    frameAct s h (.snapHead rq rs identity pages last present states n) t =
      t.headFrame true h.sender rq rs (newCollection h.sender identity pages last present states n) := by
  rw [frameAct, hi, hc]
  rfl

end Head

/-- R149, R152: a good head of this plan begins a collection. -/
theorem startCollection_begins {t : State} {c : Collection} (hu : c.batchStates < 16) (hn : c.records ≤ 64)
    (hi : t.roster.identity = some c.identity)
    (hl : ¬ (c.pageFrames = (c.pages + 7) / 8 ∧ c.amendFrames = c.records)) (hr : t.port.run ≠ none) :
    t.startCollection c.responder c = collecting t c := by
  rw [startCollection_eq, if_neg (by omega), advance_keeps (s := collecting t c) hi hl hr]
  rfl

/-! ## A frame kept (R152) -/

section Kept

variable {s : State} {h : FrameHdr} {c d : Collection} {k : Nat} {f : Frame} {cmd : Instr}

/-- R152: the responder's frame is kept, and more are due. -/
theorem frame_kept (hcmd : frameOf cmd = some (h, f)) (hp : s.participation = .full) (hc : s.ctl.collection = some c)
    (hn : h.sender = c.responder) (hh : h.hold = true) (hr : s.port.run = some { holder := h.sender, count := k })
    (hk : k < 255) (hf : f.isCollected = true)
    (act : ∀ t : State, t.ctl.collection = some c → t.straps = s.straps → frameAct s h f t = t.advance d)
    (hi : s.roster.identity = some d.identity)
    (hd : ¬ (d.pageFrames = (d.pages + 7) / 8 ∧ d.amendFrames = d.records)) :
    ∃ t, exec cmd s = .next t ∧ t.ctl.collection = some d ∧ t.ctl.abandoned = s.ctl.abandoned ∧ t.board = s.board ∧
      t.pool = s.pool ∧ t.fault = s.fault := by
  let v := s.setPort (passedPort s h f)
  have goes : v.port.run ≠ none := by
    show (passedPort s h f).run ≠ none
    rw [passedPort_run, hr, hh, runAfter_goes hk]
    nofun
  have acts : frameAct s h f (s.passFrame h f) = v.setCtl { v.ctl with collection := some d } := by
    rw [passFrame_collects hc hn hf, act (s.setPort (passedPort s h f)) hc rfl]
    exact advance_keeps (s := v) hi hd goes
  refine ⟨_, exec_frameAct hcmd hp, ?_⟩
  rw [acts]
  simp [v]

end Kept

/-! ## A second head ends the run (R140, R153) -/

/-- The collection that another station's head began: the one before it is counted, and nothing else is changed. -/
structure Restarted (s v : State) : Prop where
  state : v.ctl.state = .syncing
  count : v.ctl.abandoned = s.ctl.abandoned + 1
  setup : v.setup = s.setup
  roster : v.roster = s.roster
  pool : v.pool = s.pool
  lane : v.lane = s.lane
  fault : v.fault = s.fault
  run : v.port.run = none

theorem restarted {s u : State} (g : GaveUp s u 1) (few : s.ctl.abandoned < 2) (hr : u.port.run = none) (sender : Nat)
    (c : Collection) : Restarted s (collecting (answered u sender) c) := by
  obtain ⟨queue, waiting, same⟩ := answered_touches u sender
  obtain ⟨state, -, fault, -⟩ := g.again few
  have count := g.count
  rw [same]
  exact ⟨state, by show u.ctl.abandoned = _; omega, g.setup, g.roster, g.pool, g.lane, fault, hr⟩

/-- What a second abandonment in one step comes to. -/
theorem Restarted.gaveUp {s v t : State} {case : Nat} (r : Restarted s v) (g : GaveUp v t case) :
    t.ctl.collection = none ∧ t.roster = s.roster ∧ t.lane = s.lane ∧
    t.ctl.abandoned = min (s.ctl.abandoned + 2) 3 ∧ t.pool = s.pool ∧
    (s.ctl.abandoned = 0 → t.ctl.state = .syncing ∧ t.ctl.syncTimer = some (2 * s.leaseMs) ∧ t.fault = s.fault ∧
      t.hasAsk = true) ∧
    (1 ≤ s.ctl.abandoned → t.ctl.state = .halted ∧ t.ctl.syncTimer = none) ∧
    (s.fault.phase = .clear → s.ctl.abandoned = 1 →
      t.fault.record = some (s.fault.first .syncFailed none none none case)) := by
  have count := g.count
  have lease : v.leaseMs = s.leaseMs := by simp only [State.leaseMs, r.setup]
  rw [r.count] at count
  refine ⟨g.collection, g.roster.trans r.roster, g.lane.trans r.lane, by omega, g.pool.trans r.pool, fun none => ?_,
    fun some => ?_, fun clear one => ?_⟩
  · obtain ⟨state, timer, fault, asks⟩ := g.again (by rw [r.count]; omega)
    exact ⟨state, by rw [timer, lease], fault.trans r.fault, asks⟩
  · obtain ⟨state, timer, -⟩ := g.halts (by rw [r.count]; omega)
    exact ⟨state, timer⟩
  · obtain ⟨-, -, record⟩ := g.halts (by rw [r.count]; omega)
    rw [record (by rw [r.fault]; exact clear), r.fault]

/-- R154: a head of another plan is judged at once. -/
theorem judge_otherPlan {s : State} {c : Collection} (hs : s.ctl.state = .syncing)
    (hi : s.roster.identity ≠ some c.identity) :
    (s.advance c).ctl.collection = none ∧ (s.advance c).roster = s.roster ∧ (s.advance c).lane = s.lane ∧
    (s.advance c).pool = s.pool ∧ (s.advance c).board = s.board ∧ (s.advance c).ctl.abandoned = s.ctl.abandoned ∧
    (s.advance c).ctl.state = .halted ∧
    (s.fault.phase = .clear → (s.advance c).fault.record = some (s.fault.first .planMismatch none none none 1)) := by
  let v := s.setCtl { s.ctl with collection := none }
  have judged : s.advance c = v.raise .planMismatch none none 1 := by
    unfold State.advance
    rw [if_pos ((full_iff _ _).mpr (.inl hi)), if_neg (by simp [hi]), State.judgeCollection]
    exact if_pos hi
  have syncing : v.ctl.state ≠ .halted := by rw [show v.ctl.state = _ from hs]; decide
  obtain ⟨state, -, collection, lane⟩ := raise_halts v .planMismatch none none 1 rfl syncing
  rw [judged]
  refine ⟨collection, by simp [v], by simp [lane, v], by simp [v], by simp [v], by simp [v], state, fun clear => ?_⟩
  rw [(raise_clear v _ _ _ _ clear).1, Sys2Proof.PlanEnd.bandOf_none]
  rfl

end Sys2Proof.RunFrames
end

section
/-! PROOFS. A run is collected, or its collection is abandoned (R140, R149, R152, R153). -/

namespace Sys2Proof.RunFrames

open Sys2Proof Sys2Proof.Machine Sys2Proof.Laws Sys2Proof.Bus Sys2Proof.Hearing Sys2Proof.Afterwards Sys2Proof.JoinLeave
  Sys2Proof.Asking Sys2Proof.GivingUp Sys2Proof.Claiming Sys2Proof.Breaking Sys2Proof.Gathering

theorem pagesFrame_collects {t : State} {c d : Collection} {rq k : Nat} {es : List Byte} (hc : t.ctl.collection = some c)
    (hk : c.keepPages t.straps.station rq k es = some d) : t.pagesFrame rq k es = t.advance d := by
  simp only [State.pagesFrame, hc, hk, State.collect]

theorem snapAmendFrame_collects {t : State} {c d : Collection} {rq k : Nat} {b : AmendBody}
    (hc : t.ctl.collection = some c) (hk : c.keepAmend t.straps.station rq k b = some d) :
    t.snapAmendFrame rq k b = t.advance d := by
  simp only [State.snapAmendFrame, hc, hk, State.collect]

/-- R149, R152: the head of a run of this plan. -/
theorem head_begins {s : State} {h : FrameHdr} {identity : Id32} {pages last : Nat} {present : StationSet} {states n : Nat}
    (hs : s.hears) (hst : s.ctl.state = .syncing) (hr : s.board.replica = none) (hrun : s.port.run = none)
    (hh : h.hold = true) (hi : s.roster.identity = some identity) (hp : 1 ≤ pages)
    (hb : states < 16) (hk : n ≤ 64) :
    exec (.snapHead h s.straps.station h.sender identity pages last present states n) s =
      .next (collecting (answered (heard s h (.snapHead s.straps.station h.sender identity pages last present states n))
        h.sender) (newCollection h.sender identity pages last present states n)).afterFrame := by
  rw [exec_frameAct rfl hs.1, passFrame_heard _ _ hs.2,
    frameAct_head _ _ _ _ _ _ _ _ _ (inIgnoredRun_free _ (.inl hrun)) (inCollection_idle _ hs.2)]
  let u := heard s h (.snapHead s.straps.station h.sender identity pages last present states n)
  let c := newCollection h.sender identity pages last present states n
  obtain ⟨queue, waiting, same⟩ := answered_touches u h.sender
  have run : u.port.run ≠ none := by
    show (passedPort s h _).run ≠ none
    rw [passedPort_run, hrun, hh]
    nofun
  have more : ¬ (0 = (pages + 7) / 8 ∧ 0 = n) := by omega
  have begins : (answered u h.sender).startCollection h.sender c = collecting (answered u h.sender) c :=
    startCollection_begins (c := c) hb hk (by rw [same]; exact hi) more (by rw [same]; exact run)
  have head := (headFrame_named u h.sender h.sender c).1 ⟨hst, hr, hs.2⟩
  exact congrArg (fun t => Host.Outcome.next (State.afterFrame t)) (head.trans begins)

theorem collecting_answered {s : State} {h : FrameHdr} (f : Frame) (c : Collection) (hn : h.sender ≠ s.straps.station) :
    let t := (collecting (answered (heard s h f) h.sender) c).afterFrame
    t = { s with port := t.port, ctl := t.ctl, claims := t.claims } ∧ t.ctl.collection = some c ∧ t.ctl.syncTimer = none ∧
      t.ctl.volumeSeen = true ∧ t.ctl.state = s.ctl.state ∧ t.claims.work = s.claims.work ∧
      t.ctl.waiting = s.ctl.waiting.filter (fun i => decide (i ≠ .ask) && !i.runFor s.straps.station) ∧
      ∀ x ∈ t.port.queue, x.body.isAsk = false := by
  intro t
  obtain ⟨queue, waiting, same⟩ := answered_touches (heard s h f) h.sender
  obtain ⟨unasked, filtered⟩ := answered_unasked (t := heard s h f) (sender := h.sender) hn (heard_waiting f hn)
  have ctl : t.ctl = (collecting (answered (heard s h f) h.sender) c).ctl := afterFrame_ctl _
  have work : t.claims.work = (collecting (answered (heard s h f) h.sender) c).claims.work := (afterFrame_waiting _).2
  refine ⟨afterFrame_from ?_, by rw [ctl]; rfl, by rw [ctl]; rfl, by rw [ctl]; rfl, ?_, ?_, ?_, afterFrame_unasked unasked⟩
  · rw [same]
    rfl
  · rw [ctl, same]
    rfl
  · rw [work, same]
    rfl
  · rw [ctl]
    exact filtered

section Ignored

variable {s : State} {h : FrameHdr} {cmd : Instr} {f : Frame} {k : Nat}

/-- R152: in the rest of a run that is ignored no frame does anything. -/
theorem frame_ignored (hcmd : frameOf cmd = some (h, f)) (hp : s.participation = .full) (hc : s.ctl.collection = none)
    (hg : s.port.ignores = true) (hr : s.port.run = some { holder := h.sender, count := k })
    (hn : h.sender ≠ s.straps.station)
    (hf : (∃ rq rs i p l m b n, f = .snapHead rq rs i p l m b n) ∨ f.isCollected = true) :
    ∃ t, exec cmd s = .next t ∧ t.ctl = s.ctl ∧ t.hasAsk = s.hasAsk ∧ t.board = s.board ∧ t.pool = s.pool ∧
      t.roster = s.roster ∧ t.fault = s.fault ∧ t.lane = s.lane ∧ t.port.ignores = true := by
  let u := heard s h f
  have acts : frameAct s h f u = u := by
    rcases hf with ⟨rq, rs, i, p, l, m, b, n, rfl⟩ | hf
    · exact if_pos (by simp [State.inIgnoredRun, hg, hr])
    · cases f with
      | snapPages rq ix es => exact pagesFrame_idle rq ix es hc
      | snapAmend rq ix b => exact snapAmendFrame_idle rq ix b hc
      | _ => cases hf
  obtain ⟨asks, ignores⟩ := afterFrame_asks u
  refine ⟨u.afterFrame, ?_, afterFrame_ctl u, asks.trans (heard_hasAsk f hn), ?_, ?_, ?_, ?_, ?_, ?_⟩
  · rw [exec_frameAct hcmd hp, passFrame_heard h f hc]
    exact congrArg (fun t => Host.Outcome.next (State.afterFrame t)) acts
  · exact afterFrame_board u
  · exact (afterFrame_carries u).pool
  · exact (afterFrame_carries u).roster
  · exact (afterFrame_carries u).fault
  · exact (afterFrame_carries u).lane
  · rw [ignores]
    show (passedPort s h f).ignores = true
    rw [passedPort_ignores, hg, hr]
    rfl

/-- R152: a run that begins is not ignored. -/
theorem renew_unignored (hs : s.hears) (hr : s.port.run = none) (page : Nat) :
    ∃ t, exec (.renew h page) s = .next t ∧ t.port.ignores = false := by
  refine ⟨_, exec_frameAct rfl hs.1, ?_⟩
  rw [passFrame_heard _ _ hs.2]
  refine ((renewFrame_carries _ h page).trans (afterFrame_carries _)).ignores.trans ?_
  show (passedPort s h (.renew page)).ignores = false
  rw [passedPort_ignores, hr]
  exact Bool.and_false _

end Ignored

/-- R140, R153: what abandons a collection, by its case. -/
theorem breaking_gaveUp {s : State} {c : Collection} {cmd : Instr} {case : Nat} (hp : s.participation = .full)
    (hs : s.ctl.state = .syncing) (hc : s.ctl.collection = some c) (ht : s.port.tx < 31) (hr : s.port.rx < 31)
    (broken : (case = 1 ∧ ((∃ x, cmd = .frameVetoed x) ∨ (cmd = .runIdleEnd ∧ s.port.run.isSome = true) ∨
         (∃ h f, frameOf cmd = some (h, f) ∧ h.sender ≠ c.responder ∧
           (s.board.replica = none ∨ ∃ page, f = .renew page) ∧
           (∀ rs i p l m b n, f ≠ .snapHead s.straps.station rs i p l m b n) ∧
           (h.sender = s.straps.station → ∀ station, f = .leave station →
             s.pool = [] ∧ s.fault.phase = .clear ∧ s.fault.haltStep = false ∧ s.fault.awaited = [])) ∨
         ∃ h f, frameOf cmd = some (h, f) ∧ h.sender = c.responder ∧ c.responder ≠ s.straps.station ∧
           s.roster.identity = some c.identity ∧ ¬ s.unexpectedAt c f ∧ ¬ c.lastIs f ∧
           (h.hold = false ∨ ∃ r, s.port.run = some r ∧ 255 ≤ r.count))) ∨
      (case = 2 ∧ c.responder ≠ s.straps.station ∧ ∃ h f, frameOf cmd = some (h, f) ∧ h.sender = c.responder ∧
         s.unexpectedAt c f ∧ Harmless s f)) :
    ∃ t, exec cmd s = .next t ∧ GaveUp s t case ∧ (case = 2 → t.port.ignores = true) := by
  have first : (∃ t, exec cmd s = .next t ∧ GaveUp s t 1) →
      ∃ t, exec cmd s = .next t ∧ GaveUp s t 1 ∧ (1 = 2 → t.port.ignores = true) :=
    fun ⟨t, next, gave⟩ => ⟨t, next, gave, nofun⟩
  rcases broken with ⟨rfl, veto | idle | other | early⟩ | ⟨rfl, foreign, h, f, hcmd, sender, unexpected, harmless⟩
  · obtain ⟨x, rfl⟩ := veto
    exact first (veto_gaveUp x hp hs hc ht hr)
  · obtain ⟨rfl, run⟩ := idle
    exact first (idle_gaveUp hs hc run)
  · obtain ⟨h, f, hcmd, sender, harmless, elsewhere, own⟩ := other
    exact first (other_gaveUp hcmd hp hs hc sender harmless elsewhere own)
  · obtain ⟨h, f, hcmd, sender, -, identity, expected, more, ended⟩ := early
    exact first (early_gaveUp hcmd hp hs hc sender identity expected more ended)
  · obtain ⟨t, next, gave, ignores⟩ := unexpected_gaveUp_frame hcmd hp hs hc sender foreign unexpected harmless
    exact ⟨t, next, gave, fun _ => ignores⟩

/-! ## Another station's head that names this one (R140, R153, R154) -/

/-- The state in which another station's head is read: the run it ended is abandoned. -/
theorem second_head {s : State} {h : FrameHdr} {c : Collection} {rs : Nat} {identity : Id32} {pages last : Nat}
    {present : StationSet} {states n : Nat} {k : Nat} (hp : s.participation = .full) (hs : s.ctl.state = .syncing)
    (hr : s.board.replica = none) (hc : s.ctl.collection = some c) (hn : h.sender ≠ c.responder)
    (hrun : s.port.run = some { holder := c.responder, count := k }) :
    ∃ u, GaveUp s u 1 ∧ u.port.run = none ∧ (s.ctl.abandoned < 2 → waitsForRun u) ∧
      (2 ≤ s.ctl.abandoned → ¬ waitsForRun u) ∧ u.straps = s.straps ∧
      exec (.snapHead h s.straps.station rs identity pages last present states n) s =
        .next (u.headFrame true h.sender u.straps.station rs
          (newCollection h.sender identity pages last present states n)).afterFrame := by
  let f : Frame := .snapHead s.straps.station rs identity pages last present states n
  have ends := passFrame_ends (f := f) hc hn
  have gave := abandon_passed (passedPort s h f) 1 hs
  have unread : s.inIgnoredRun h.sender = false := by
    simp [State.inIgnoredRun, hrun, Ne.symm hn]
  have another : s.inCollection h.sender = false := by
    rw [← Bool.not_eq_true, inCollection_iff hc]
    exact hn
  have straps : ((s.setPort (passedPort s h f)).abandon 1).straps = s.straps := by simp
  refine ⟨_, gave, ?_, fun few => ⟨(gave.again few).1, ?_, gave.collection⟩, fun third waits => ?_, straps, ?_⟩
  · rw [(abandon_port_fields _ _).2.2.2.1]
    show (passedPort s h f).run = none
    rw [passedPort_run, hrun]
    exact runAfter_other _ (Ne.symm hn)
  · rw [(abandon_frame _ _).2.2.2.2.1]
    exact hr
  · have state := (gave.halts third).1
    rw [waits.1] at state
    cases state
  · rw [exec_frameAct rfl hp, ends, frameAct_head _ _ _ _ _ _ _ _ _ unread another, straps]

/-- R153: a head that begins a collection the station does not take up. -/
theorem answered_gaveUp {s u : State} {case : Nat} (g : GaveUp s u case) (third : 2 ≤ s.ctl.abandoned) (sender : Nat) :
    GaveUp s (answered u sender) case := by
  obtain ⟨queue, waiting, same⟩ := answered_touches u sender
  rw [same]
  exact ⟨g.collection, g.count, g.setup, g.roster, g.pool, g.lane, fun h => absurd h (by omega), g.halts⟩

section Second

variable {s v : State} {c : Collection} {rs : Nat}

/-- What the second collection comes to as its head is read. -/
def headEnds (v : State) (rs : Nat) (c : Collection) : State :=
  if rs ≠ c.responder ∨ 16 ≤ c.batchStates ∨ 64 < c.records then v.unexpected else v.advance c

theorem headEnds_unexpected (r : Restarted s v) (h : rs ≠ c.responder ∨ 16 ≤ c.batchStates ∨ 64 < c.records) :
    GaveUp v (headEnds v rs c) 2 := by
  rw [headEnds, if_pos h]
  exact unexpected_gaveUp v.port r.state

theorem headEnds_early (r : Restarted s v) (h : ¬ (rs ≠ c.responder ∨ 16 ≤ c.batchStates ∨ 64 < c.records))
    (hi : s.roster.identity = some c.identity) (hl : ¬ (c.pageFrames = (c.pages + 7) / 8 ∧ c.amendFrames = c.records)) :
    GaveUp v (headEnds v rs c) 1 := by
  rw [headEnds, if_neg h, advance_early v c (by rw [r.roster]; exact hi) hl r.run]
  exact abandon_gaveUp 1 r.state

/-- R154: judged or abandoned, a collection that begins no run leaves none, the plan and the lane. -/
theorem headEnds_keeps (r : Restarted s v) : (headEnds v rs c).ctl.collection = none ∧
    (headEnds v rs c).roster = s.roster ∧ (headEnds v rs c).lane = s.lane := by
  have gave : ∀ {t case}, GaveUp v t case → t.ctl.collection = none ∧ t.roster = s.roster ∧ t.lane = s.lane :=
    fun g => ⟨g.collection, g.roster.trans r.roster, g.lane.trans r.lane⟩
  by_cases unexpected : rs ≠ c.responder ∨ 16 ≤ c.batchStates ∨ 64 < c.records
  · exact gave (headEnds_unexpected r unexpected)
  · rw [headEnds, if_neg unexpected, State.advance]
    split
    · split
      · exact gave (unexpected_gaveUp v.port r.state)
      · obtain ⟨collection, roster, lane⟩ := judgeCollection_keeps v c r.state
        exact ⟨collection, roster.trans r.roster, lane.trans r.lane⟩
    · rw [if_pos (by rw [r.run]; rfl)]
      exact gave (abandon_gaveUp 1 r.state)

end Second

end Sys2Proof.RunFrames

open Sys2Proof Sys2Proof.Machine Sys2Proof.Laws Sys2Proof.Bus Sys2Proof.Hearing Sys2Proof.Afterwards Sys2Proof.JoinLeave
  Sys2Proof.Asking Sys2Proof.GivingUp Sys2Proof.Claiming Sys2Proof.Breaking Sys2Proof.Gathering Sys2Proof.RunFrames

/-- Settles O29: a head begins a collection, the responder's next frames are kept, and what ends the run first abandons it. -/
theorem runIsCollected : Obligations.RunIsCollected := by
  unfold Obligations.RunIsCollected
  refine ⟨fun s h identity pages last present states n hs hst hr hrun hh hn hi hp hb hk => ?_,
    fun s h c k hp hc hn hh hr hk other hi => ⟨fun es he hl hx more => ?_, fun b p hb hx more hbatch ho fresh => ?_⟩,
    fun s c cmd case hp hs hc ht hr broken => ?_,
    fun s h c k rs identity pages last present states n hp hs hr hc hn hrun => ?_,
    ⟨fun s h k cmd hp hs hc hg hr hn frames => ?_, fun s h page hs hr => renew_unignored hs hr page⟩⟩
  · refine ⟨_, head_begins hs hst hr hrun hh hi hp hb hk, ?_⟩
    obtain ⟨touched, collection, timer, seen, state, rest⟩ := collecting_answered
      (.snapHead s.straps.station h.sender identity pages last present states n)
      (newCollection h.sender identity pages last present states n) hn
    exact ⟨touched, collection, timer, seen, state.trans hst, rest⟩
  · refine frame_kept (f := .snapPages s.straps.station c.pageFrames (es.flatMap Entry.bytes)) rfl hp hc hn hh hr hk rfl
      (fun t collects straps => ?_) hi (by dsimp only; omega)
    exact pagesFrame_collects collects (by rw [straps]; exact keepPages_keeps he hl hx)
  · refine frame_kept (f := .snapAmend s.straps.station c.amendFrames b) rfl hp hc hn hh hr hk rfl
      (fun t collects straps => ?_) hi (by dsimp only; omega)
    exact snapAmendFrame_collects collects (by rw [straps]; exact keepAmend_keeps hb hx (by omega) hbatch ho fresh)
  · obtain ⟨t, next, gave, ignores⟩ := breaking_gaveUp hp hs hc ht hr broken
    exact ⟨t, next, gave.collection, gave.count, gave.roster, gave.pool, gave.lane, gave.again, gave.halts, ignores⟩
  · intro unexpected
    obtain ⟨u, gave, run, waits, idle, -, next⟩ := second_head (rs := rs) (identity := identity) (pages := pages)
      (last := last) (present := present) (states := states) (n := n) hp hs hr hc hn hrun
    let d := newCollection h.sender identity pages last present states n
    obtain ⟨starts, answers⟩ := headFrame_named u h.sender rs d
    refine ⟨_, next, ?_⟩
    by_cases few : s.ctl.abandoned < 2
    · have r := restarted gave few run h.sender d
      have head : u.headFrame true h.sender u.straps.station rs d = headEnds (collecting (answered u h.sender) d) rs d :=
        (starts (waits few)).trans (startCollection_eq _ _ _)
      generalize collecting (answered u h.sender) d = v at r head
      rw [head]
      have carries := afterFrame_carries (headEnds v rs d)
      obtain ⟨collection, roster, lane⟩ := headEnds_keeps (rs := rs) (c := d) r
      refine ⟨carries.collection.trans collection, carries.roster.trans roster, carries.lane.trans lane, fun ends => ?_,
        fun expected otherPlan => ?_⟩
      · obtain ⟨case, g, cases⟩ : ∃ case, GaveUp v (headEnds v rs d) case ∧
            ((unexpected ∧ case = 2) ∨ (¬ unexpected ∧ case = 1)) := by
          by_cases hu : unexpected
          · exact ⟨2, headEnds_unexpected r hu, .inl ⟨hu, rfl⟩⟩
          · obtain ⟨plan, some⟩ := ends.resolve_left hu
            refine ⟨1, headEnds_early r hu plan ?_, .inr ⟨hu, rfl⟩⟩
            show ¬ (0 = (pages + 7) / 8 ∧ 0 = n)
            omega
        obtain ⟨-, -, -, count, pool, again, halts, record⟩ := r.gaveUp (g.carries carries)
        refine ⟨count, pool, again, halts, fun clear => ⟨fun one hu => ?_, fun late => ?_⟩⟩
        · rw [record clear one, (cases.resolve_right (fun h => h.1 hu)).2]
        · obtain ⟨one, hu⟩ := late.resolve_left (by omega)
          rw [record clear one, (cases.resolve_left (fun h => hu h.1)).2]
      · have judged : headEnds v rs d = v.advance d := if_neg expected
        rw [judged] at carries ⊢
        obtain ⟨-, -, -, pool, -, count, state, record⟩ := judge_otherPlan (c := d) r.state (by rw [r.roster]; exact otherPlan)
        refine ⟨?_, carries.pool.trans (pool.trans r.pool), carries.state.trans state,
          fun clear => ⟨fun _ => ?_, fun many => absurd many (by omega)⟩⟩
        · rw [carries.count, count, r.count]
          omega
        · rw [carries.fault, record (by rw [r.fault]; exact clear), r.fault]
    · have third : 2 ≤ s.ctl.abandoned := by omega
      have head : u.headFrame true h.sender u.straps.station rs d = answered u h.sender := answers (idle third)
      rw [head]
      have g := (answered_gaveUp gave third h.sender).carries (afterFrame_carries _)
      obtain ⟨state, timer, record⟩ := g.halts third
      have count := g.count
      exact ⟨g.collection, g.roster, g.lane,
        fun _ => ⟨by omega, g.pool, fun none => absurd none (by omega), fun _ => ⟨state, timer⟩,
          fun clear => ⟨fun one => absurd one (by omega), fun _ => record clear⟩⟩,
        fun _ _ => ⟨count, g.pool, state, fun clear => ⟨fun few => absurd few (by omega), fun _ => record clear⟩⟩⟩
  · rcases frames with ⟨rq, rs, i, p, l, m, b, n, rfl⟩ | ⟨rq, i, es, rfl⟩ | ⟨rq, i, b, rfl⟩
    · exact frame_ignored rfl hp hc hg hr hn (.inl ⟨_, _, _, _, _, _, _, _, rfl⟩)
    · exact frame_ignored rfl hp hc hg hr hn (.inr rfl)
    · exact frame_ignored rfl hp hc hg hr hn (.inr rfl)
end

section
/-! PROOFS. A complete run is judged: installed, or turned down (R152, R154, R155). -/

namespace Sys2Proof.Installing

open Sys2Proof Sys2Proof.Machine Sys2Proof.Laws Sys2Proof.Bus Sys2Proof.Hearing Sys2Proof.Afterwards Sys2Proof.JoinLeave
  Sys2Proof.Asking Sys2Proof.GivingUp Sys2Proof.Claiming Sys2Proof.Breaking Sys2Proof.Gathering Sys2Proof.RunFrames

/-! ## The last frame of a run (R152) -/

section Last

variable {s : State} {h : FrameHdr} {c d : Collection}

theorem unmet_free (records : List Amendment) (h : c.batchStates = 0) : ¬ c.unmet records := by
  rintro ⟨b, -, marked, -⟩
  rw [h, Nat.zero_testBit] at marked
  cases marked

/-- R152: the responder's frame that completes the run is judged. -/
theorem frame_judged {cmd : Instr} {f : Frame} (hcmd : frameOf cmd = some (h, f)) (hp : s.participation = .full)
    (hc : s.ctl.collection = some c) (hn : h.sender = c.responder) (hf : f.isCollected = true)
    (act : ∀ t : State, t.ctl.collection = some c → t.straps = s.straps → frameAct s h f t = t.advance d)
    (hl : d.pageFrames = (d.pages + 7) / 8 ∧ d.amendFrames = d.records) (hu : ¬ d.unmet d.kept) :
    exec cmd s = .next ((s.setPort (passedPort s h f)).judgeCollection d).afterFrame := by
  have acts := act (s.setPort (passedPort s h f)) hc rfl
  rw [exec_frameAct hcmd hp, passFrame_collects hc hn hf, acts, advance_judged _ d hl hu]

theorem pages_judged (hp : s.participation = .full) (hc : s.ctl.collection = some c) (hn : h.sender = c.responder)
    {es : List Entry} (he : ∀ e ∈ es, readEntries e.bytes = some [e]) (hl : es.length = min 8 (c.pages - 8 * c.pageFrames))
    (hk : c.pageFrames + 1 = (c.pages + 7) / 8) (ha : c.amendFrames = c.records) (hb : c.batchStates = 0) :
    exec (.snapPages h s.straps.station c.pageFrames (es.flatMap Entry.bytes)) s =
      .next ((s.setPort (passedPort s h (.snapPages s.straps.station c.pageFrames (es.flatMap Entry.bytes)))).judgeCollection
        { c with pageFrames := c.pageFrames + 1, entries := c.entries ++ es }).afterFrame := by
  refine frame_judged rfl hp hc hn rfl (fun t collects straps => ?_) ⟨hk, ha⟩ (unmet_free _ hb)
  exact pagesFrame_collects collects (by rw [straps]; exact keepPages_keeps he hl (by omega))

theorem amend_judged (hp : s.participation = .full) (hc : s.ctl.collection = some c) (hn : h.sender = c.responder)
    {b : AmendBody} {p : Payload} (hr : readPayload b.kind b.payload = some p) (hk : c.pageFrames = (c.pages + 7) / 8)
    (ha : c.amendFrames + 1 = c.records) (hb : b.batch < 4) (ho : c.batchStates.testBit b.batch = true)
    (fresh : ∀ a ∈ c.kept, ¬ (a.batch = b.batch ∧ a.subject = b.subject ∧ a.payload.kind = p.kind))
    (hu : ¬ c.unmet (c.kept ++ [{ batch := b.batch, subject := b.subject, payload := p }])) :
    exec (.snapAmend h s.straps.station c.amendFrames b) s =
      .next ((s.setPort (passedPort s h (.snapAmend s.straps.station c.amendFrames b))).judgeCollection { c with
        amendFrames := c.amendFrames + 1,
        kept := c.kept ++ [{ batch := b.batch, subject := b.subject, payload := p }] }).afterFrame := by
  refine frame_judged rfl hp hc hn rfl (fun t collects straps => ?_) ⟨hk, ha⟩ hu
  exact snapAmendFrame_collects collects (by rw [straps]; exact keepAmend_keeps hr hk (by omega) hb ho fresh)

end Last

/-! ## Installing (R155) -/

section Install

variable {s : State} {c : Collection}

theorem judgeCollection_installs (hi : s.roster.identity = some c.identity) (hp : c.pages = s.roster.pageCount)
    (he : c.lastLaunched = s.roster.editionRead) :
    s.judgeCollection c = (s.setCtl { s.ctl with collection := none }).install c := by
  unfold State.judgeCollection
  dsimp only
  rw [if_neg (not_not.mpr hi), if_neg (not_not.mpr hp), if_neg (by omega), if_neg (by omega)]

theorem leaseFor_eq (station : Nat) (e : Entry) : leaseFor station e = match e.status with
    | .claimed holder => if holder = station then none else some .running
    | _ => none := by
  unfold leaseFor
  cases e.status <;> rfl

theorem poolOf_eq (kept : List Amendment) :
    poolOf kept = batchOf kept 0 ++ batchOf kept 1 ++ batchOf kept 2 ++ batchOf kept 3 := by
  simp [poolOf, Config.batchCount, List.range_succ]

/-- What holding a replica leaves of the station. -/
theorem holdReplica_holds (s : State) (es : List Entry) (present : StationSet) (last : Nat) (pool : List Amendment) :
    let t := s.holdReplica es present last pool
    (∃ r, t.board.replica = some r ∧ r.entries = es ∧ r.present = present) ∧ t.board.lastLaunched = last ∧
      t.board.leases = leasesOf s.straps.station es ∧ t.pool = pool ∧ t.ctl = s.ctl ∧ t.port = s.port ∧ t.roster = s.roster ∧
      t.straps = s.straps := by
  intro t
  let u := (s.setBoard {
    replica := some { entries := es, present := present, complete := false }
    leases := leasesOf s.straps.station es
    lastLaunched := last
    completions := 0 }).setPool pool
  obtain ⟨replica, leases, launched⟩ := reviewComplete_replica (s := u) rfl
  have held : t = u.reviewComplete := rfl
  refine ⟨⟨_, by rw [held]; exact replica, rfl, rfl⟩, launched, leases, ?_, ?_, ?_, ?_, ?_⟩ <;> simp [held, u]

/-- R155: an installed run, its JOIN queued. -/
theorem install_joins (hs : s.ctl.state = .syncing) (hi : s.roster.identity = some c.identity)
    (hq : s.canQueue = true) :
    let t := (s.install c).afterFrame
    (∃ r, t.board.replica = some r ∧ r.entries = c.entries ∧ r.present = c.present) ∧
      t.board.lastLaunched = c.lastLaunched ∧ t.pool = poolOf c.kept ∧ t.ctl.collection = none ∧ t.ctl.syncTimer = none ∧
      t.ctl.state = .syncing ∧ t.board.leases = leasesOf s.straps.station c.entries ∧
      ∃ x ∈ t.port.queue, x.body = .frame (.join s.straps.station c.identity) := by
  intro t
  obtain ⟨replica, launched, leases, pool, ctl, port, roster, straps⟩ :=
    holdReplica_holds s c.entries c.present c.lastLaunched (poolOf c.kept)
  generalize hu : s.holdReplica c.entries c.present c.lastLaunched (poolOf c.kept) = u at replica launched leases pool ctl port roster straps
  let v := u.setCtl { u.ctl with collection := none, syncTimer := none }
  have place : v.canQueue = true := by
    rw [canQueue_iff, takesOffers_iff] at hq ⊢
    simpa [v, ctl, port] using hq
  have installed : s.install c = v.enqueue (.frame (.join s.straps.station c.identity)) := by
    have offered : s.install c = v.offerCtl .join := by
      rw [State.install, hu]
    have body : v.ctlBody .join = .frame (.join s.straps.station c.identity) := by
      rw [State.ctlBody, show v.roster = s.roster from roster, show v.straps = s.straps from straps, hi]
      rfl
    rw [offered, offerCtl_eq, if_pos place, body]
  have board : t.board = u.board := (afterFrame_board _).trans (by rw [installed]; rfl)
  have after : t.ctl = v.ctl := (afterFrame_ctl _).trans (by rw [installed]; rfl)
  rw [board, after]
  refine ⟨replica, launched, ?_, rfl, rfl, by show u.ctl.state = _; rw [ctl]; exact hs, leases,
    v.port.entry (.frame (.join s.straps.station c.identity)), ?_, rfl⟩
  · rw [(afterFrame_carries _).pool, installed]
    exact pool
  · refine afterFrame_keeps ?_ (.inr (fun stale => ?_)) (.inr rfl)
    · rw [installed]
      exact List.mem_append_right _ (List.mem_singleton.mpr rfl)
    · rcases stale_body stale with ⟨page, e⟩ | ⟨page, holder, mark, e⟩ <;> cases e

end Install

end Sys2Proof.Installing
end

section
/-! PROOFS. A complete run installed or turned down: the obligation (R152, R154, R155). -/

namespace Sys2Proof.Installing

open Sys2Proof Sys2Proof.Machine Sys2Proof.Laws Sys2Proof.Bus Sys2Proof.Hearing Sys2Proof.Afterwards Sys2Proof.JoinLeave
  Sys2Proof.Asking Sys2Proof.GivingUp Sys2Proof.Claiming Sys2Proof.Breaking Sys2Proof.Gathering Sys2Proof.RunFrames

section Judged

variable {s : State} {c : Collection}

/-- R155: a run of this plan, its page count and its edition, judged as a frame has passed. -/
theorem passed_installs (h : FrameHdr) (f : Frame) (hp : s.participation = .full) (hs : s.ctl.state = .syncing)
    (hi : s.roster.identity = some c.identity) (hc : c.pages = s.roster.pageCount)
    (he : c.lastLaunched = s.roster.editionRead) (hq : s.port.queue.length < 16) :
    let t := ((s.setPort (passedPort s h f)).judgeCollection c).afterFrame
    (∃ r, t.board.replica = some r ∧ r.entries = c.entries ∧ r.present = c.present) ∧
      t.board.lastLaunched = c.lastLaunched ∧ t.pool = poolOf c.kept ∧ t.ctl.collection = none ∧ t.ctl.syncTimer = none ∧
      t.ctl.state = .syncing ∧ t.board.leases = leasesOf s.straps.station c.entries ∧
      ∃ x ∈ t.port.queue, x.body = .frame (.join s.straps.station c.identity) := by
  let v := s.setPort (passedPort s h f)
  have place : (v.setCtl { v.ctl with collection := none }).canQueue = true := by
    have takes := (takesOffers_iff s).mp (takesOffers_of_full hp)
    refine (canQueue_iff _).mpr ⟨(takesOffers_iff _).mpr ⟨(passedPort_silent s h f).trans takes.1, takes.2⟩, ?_⟩
    exact lt_of_le_of_lt (passedPort_queue s h f).2 hq
  have judged : v.judgeCollection c = (v.setCtl { v.ctl with collection := none }).install c :=
    judgeCollection_installs (s := v) hi hc he
  have joins := install_joins (s := v.setCtl { v.ctl with collection := none }) hs hi place
  intro t
  rw [show t = _ from congrArg State.afterFrame judged]
  exact joins

/-- R154: a run judged as a frame has passed and not installed. -/
theorem passed_turnsDown (h : FrameHdr) (f : Frame) (hs : s.ctl.state = .syncing)
    (hi : s.roster.identity = some c.identity) (hr : s.board.replica = none) :
    s.turnsDown c ((s.setPort (passedPort s h f)).judgeCollection c).afterFrame := by
  let v := s.setPort (passedPort s h f)
  obtain ⟨collection, roster, refused, asks⟩ := judgeCollection_turnsDown v c hs hi hr
  have carries := afterFrame_carries (v.judgeCollection c)
  have board := afterFrame_board (v.judgeCollection c)
  have ctl := afterFrame_ctl (v.judgeCollection c)
  have launch : (v.judgeCollection c).afterFrame.launch = (v.judgeCollection c).launch := by simp
  have link : (v.judgeCollection c).afterFrame.link = (v.judgeCollection c).link := by simp
  unfold State.turnsDown
  rw [carries.roster, carries.fault, board, ctl, launch, link]
  exact ⟨collection, roster, refused, asks⟩

end Judged

end Sys2Proof.Installing

open Sys2Proof Sys2Proof.Machine Sys2Proof.Laws Sys2Proof.Bus Sys2Proof.Hearing Sys2Proof.Afterwards Sys2Proof.JoinLeave
  Sys2Proof.Asking Sys2Proof.GivingUp Sys2Proof.Claiming Sys2Proof.Breaking Sys2Proof.Gathering Sys2Proof.RunFrames
  Sys2Proof.Installing

/-- Settles O30: the last frame of a run has it judged, and what is judged is installed or turned down. -/
theorem completeRunIsInstalled : Obligations.CompleteRunIsInstalled := by
  unfold Obligations.CompleteRunIsInstalled
  refine ⟨fun s h c es hp hs hc hn other hi hpages hlast hrecords hamend hkept hbatches he hl hk hq _ => ?_,
    fun s h c b p hp hs hc hn other hi hpages hlast hread hk hamend hbatch ho fresh => ?_,
    fun s h identity pages last present states n hs hst hr hn hi hb hk hf hrun => ?_,
    fun s h c es hp hs hr hc hn other hi hrecords hamend hbatches he hl hk => ?_,
    fun s h c b p hp hs hr hc hn other hi hread hk hamend hbatch ho fresh met => ?_⟩
  · refine ⟨_, pages_judged hp hc hn he hl hk (by omega) hbatches, ?_⟩
    obtain ⟨replica, launched, pool, collection, timer, state, leases, joins⟩ := passed_installs
      (c := { c with pageFrames := c.pageFrames + 1, entries := c.entries ++ es }) h _ hp hs hi hpages hlast hq
    refine ⟨replica, launched, ?_, collection, timer, state, ?_, joins⟩
    · rw [pool, hkept]
      rfl
    · rw [leases]
      exact List.map_congr_left (fun e _ => leaseFor_eq _ e)
  · intro kept met hq
    have unmet : ¬ c.unmet kept := by
      rintro ⟨k, lt, marked, none⟩
      obtain ⟨a, mem, same⟩ := met k lt marked
      exact none a mem same
    refine ⟨_, amend_judged hp hc hn hread hk hamend hbatch ho fresh unmet, ?_⟩
    obtain ⟨replica, launched, pool, collection, timer, state, leases, joins⟩ := passed_installs
      (c := { c with amendFrames := c.amendFrames + 1, kept := kept }) h _ hp hs hi hpages hlast hq
    refine ⟨replica, launched, pool.trans (poolOf_eq kept), collection, timer, state, ?_, joins⟩
    rw [leases]
    exact List.map_congr_left (fun e _ => leaseFor_eq _ e)
  · let u := heard s h (.snapHead s.straps.station h.sender identity pages last present states n)
    let d := newCollection h.sender identity pages last present states n
    obtain ⟨queue, waiting, same⟩ := answered_touches u h.sender
    have head : frameAct s h (.snapHead s.straps.station h.sender identity pages last present states n) u =
        (collecting (answered u h.sender) d).advance d := by
      rw [frameAct_head _ _ _ _ _ _ _ _ _ (inIgnoredRun_free _ hrun) (inCollection_idle _ hs.2)]
      refine ((headFrame_named u h.sender h.sender d).1 ⟨hst, hr, hs.2⟩).trans ((startCollection_eq _ _ _).trans (if_neg ?_))
      show ¬ (h.sender ≠ h.sender ∨ 16 ≤ states ∨ 64 < n)
      omega
    have state : (collecting (answered u h.sender) d).ctl.state = .syncing := by rw [same]; exact hst
    have plan : (collecting (answered u h.sender) d).roster.identity ≠ some d.identity := by rw [same]; exact hi
    have fault : (collecting (answered u h.sender) d).fault = s.fault := by rw [same]; rfl
    have board : (collecting (answered u h.sender) d).board = s.board := by rw [same]; rfl
    obtain ⟨collection, -, -, -, boardKept, -, halted, record⟩ := judge_otherPlan state plan
    have carries := afterFrame_carries ((collecting (answered u h.sender) d).advance d)
    refine ⟨_, ?_, carries.collection.trans collection, carries.state.trans halted, ?_, ?_⟩
    · rw [exec_frameAct rfl hs.1, passFrame_heard _ _ hs.2]
      exact congrArg (fun t => Host.Outcome.next (State.afterFrame t)) head
    · rw [afterFrame_board, boardKept, board, hr]
    · rw [carries.fault, record (by rw [fault]; exact hf), fault]
  · exact ⟨_, pages_judged hp hc hn he hl hk (by omega) hbatches,
      passed_turnsDown (c := { c with pageFrames := c.pageFrames + 1, entries := c.entries ++ es }) h _ hs hi hr⟩
  · exact ⟨_, amend_judged hp hc hn hread hk hamend hbatch ho fresh met, passed_turnsDown (c := { c with
      amendFrames := c.amendFrames + 1,
      kept := c.kept ++ [{ batch := b.batch, subject := b.subject, payload := p }] }) h _ hs hi hr⟩
end
